-- ==== Sys2Proof/Word.lean ====
section
/-! DEFINITION. The word types of the SLZ-7200 and their plainest arithmetic (R8, R10, R14, R15).
Bit 0 is the least significant bit of every word. -/

namespace Sys2Proof

/-- A byte (R9, R10). -/
abbrev Byte := BitVec 8

/-- One 32-bit word of a code section, of a syllable or of an extension word (R43, R55). -/
abbrev Word32 := BitVec 32

/-- A scalar, address or CSR word of 64 bits (R16). -/
abbrev Word := BitVec 64

/-- A capability or a lane mask, 128 bits (R16, R165). -/
abbrev Word128 := BitVec 128

/-- A vector register of 1,024 bits (R16); also one 128-byte line. -/
abbrev VWord := BitVec 1024

/-- The quotient `a div b` rounded up (R15, ceil_div), for `b > 0`. -/
def ceilDiv (a b : Nat) : Nat := (a + b - 1) / b

/-- `x` with `n` bits kept, the lowest ones (R15, trunc), as a number. -/
def truncN (x n : Nat) : Nat := x % 2 ^ n

/-- The field of `len` bits of the number `x` that begins at bit `lo` (R8). -/
def bitsN (x lo len : Nat) : Nat := (x / 2 ^ lo) % 2 ^ len

/-- The two's complement reading of the low `n` bits of `x`, for `n ≥ 1` (R15, sext). -/
def signedN (x n : Nat) : Int :=
  let y := x % 2 ^ n
  if y < 2 ^ (n - 1) then (y : Int) else (y : Int) - (2 : Int) ^ n

/-- The number of 1 bits of the low `n` bits of `x` (R15, popcount). -/
def popcountN : Nat → Nat → Nat
  | 0, _ => 0
  | n + 1, x => x % 2 + popcountN n (x / 2)

/-- The smallest `k` below `fuel` with `2 ^ k ≥ x` (R15, clog2); `fuel` when there is none. -/
def clog2N : Nat → Nat → Nat
  | 0, _ => 0
  | fuel + 1, x => if x ≤ 1 then 0 else 1 + clog2N fuel ((x + 1) / 2)

/-- floor of the base-2 logarithm of `x > 0`, at most `fuel`. -/
def log2N : Nat → Nat → Nat
  | 0, _ => 0
  | fuel + 1, x => if x < 2 then 0 else 1 + log2N fuel (x / 2)

/-- An integer reduced modulo `2 ^ n` to a word of `n` bits (R14: a value narrows only explicitly). -/
def ofIntN (n : Nat) (x : Int) : BitVec n := BitVec.ofInt n x

end Sys2Proof
end

