-- ==== Sys2Proof/Config.lean ====
section
/-! DEFINITION. What the SLZ-7200's manual leaves open or to an implementation: constants without a body, so that nothing can
be proved of their value. -/

namespace Sys2Proof.Config

/-- A free 64-bit value: what the spec leaves open, one value for each count (log entry 20). -/
opaque freeWord : Nat → Word

/-- The pool's seal over capability bits [79:0] (R165, R498): issued by the pool, never computed by the module; left open by
the spec (log entry 12). -/
opaque poolSeal : BitVec 80 → BitVec 48

/-- AMAX bits [30:0] of a magnitude m · 2^e that no FP32 code holds exactly (R157, R360): the spec names no rounding, so the code is open,
but it is one function of the magnitude (log entry 62). -/
opaque amaxCode : Nat → Int → BitVec 31

/-- The pool node that serves an object, which the spec leaves to the rack (R497, log entry 84): by OBJID, or 2^40 + ASID for commits. -/
opaque poolNode : Nat → Nat

/-- The stream offset where a DATA message begins and its bytes, by membership epoch, key of its sender and stream, and a stream offset of the
message: the sender's to choose, and in no field of a flit (R292, R479, log entry 52). -/
opaque dataMessage : Nat → Nat → Nat → Nat × Nat

/-- The verdict of the ML-DSA-87 check of an image, its bytes as a little-endian number and their count (R451, R474): the spec names
the check and does not compute it (log entry 21). -/
opaque signatureOk : Nat → Nat → Bool

/-- The SHA3-512 digest of the running firmware image, by image count (R451, R462, R464; log entry 21). -/
opaque firmwareDigest : Nat → BitVec 512

/-- The keys of Odvan's root and product CA, and the device identity key (R464, log entry 21). -/
opaque rootKey : BitVec 512
/-- The product CA's key. -/
opaque productCaKey : BitVec 512
/-- The device identity key, made at manufacture. -/
opaque identityKey : BitVec 512
/-- The alias key of a firmware digest under the identity key (R464). -/
opaque aliasKey : BitVec 512 → BitVec 512
/-- Digest of the ROM loader (R464). -/
opaque romDigest : BitVec 512
/-- Digest of the firmware security version, by image count (R464). -/
opaque versionDigest : Nat → BitVec 512
/-- Digest of the fused hardware configuration (R464). -/
opaque fusedDigest : BitVec 512

/-- The VF's MSI-X message control word (R462; log entry 22), by virtual function. -/
opaque msixControl : Nat → BitVec 16

/-- First 4 KiB page of a VF's BAR0 (R462): fixed by the host's enumeration (log entry 22). -/
opaque bar0Page : Nat → Word

/-- Stepping field of DEVID (R453), left to the part (log entry 22). -/
opaque stepping : BitVec 8

end Sys2Proof.Config
end

