-- ==== Sys2Proof/Machine/Numerics.lean ====
section
/-! DEFINITION. Number formats, exact values, the rounding procedure, the stochastic bits and the special functions of
spec/03_number_formats.md (R78 to R101) and R150. -/

namespace Sys2Proof.Machine

/-! ## Flags (R23), by their place in FPSTAT -/

/-- NV. -/
def flagNV : Nat := 1
/-- DZ. -/
def flagDZ : Nat := 2
/-- OF. -/
def flagOF : Nat := 4
/-- UF. -/
def flagUF : Nat := 8
/-- NX. -/
def flagNX : Nat := 16
/-- ONAN. -/
def flagONAN : Nat := 32
/-- SAT. -/
def flagSAT : Nat := 64

/-! ## Formats -/

/-- The kinds of format: the float-like ones (NF, FP32, FP16, BF16, UE4M3), two's complement, unsigned binary, E8M0. -/
inductive FKind where
  | flt | sint | uint | e8m0
deriving DecidableEq, Repr

/-- A number format (R79, R84, R85). -/
structure Fmt where
  /-- Its kind. -/
  kind : FKind
  /-- Width in bits. -/
  w : Nat
  /-- Has a sign bit. -/
  s : Bool
  /-- Exponent bits. -/
  e : Nat
  /-- Mantissa bits. -/
  m : Nat
  /-- Bias. -/
  bias : Int
  /-- SPECIAL of R82: 0 finite, 1 ieee-like, 2 none. -/
  special : Nat
deriving DecidableEq, Repr

/-- FP32 (R84). -/
def fp32 : Fmt := { kind := .flt, w := 32, s := true, e := 8, m := 23, bias := 127, special := 1 }
/-- FP16 (R84). -/
def fp16 : Fmt := { kind := .flt, w := 16, s := true, e := 5, m := 10, bias := 15, special := 1 }
/-- BF16 (R84). -/
def bf16 : Fmt := { kind := .flt, w := 16, s := true, e := 8, m := 7, bias := 127, special := 1 }
/-- E8M0 (R84). -/
def e8m0 : Fmt := { kind := .e8m0, w := 8, s := false, e := 8, m := 0, bias := 127, special := 0 }
/-- UE4M3 (R84). -/
def ue4m3 : Fmt := { kind := .flt, w := 8, s := false, e := 4, m := 3, bias := 7, special := 0 }
/-- A two's complement format (R85). -/
def sintFmt (w : Nat) : Fmt := { kind := .sint, w := w, s := true, e := 0, m := 0, bias := 0, special := 2 }
/-- An unsigned binary format (R85). -/
def uintFmt (w : Nat) : Fmt := { kind := .uint, w := w, s := false, e := 0, m := 0, bias := 0, special := 2 }

/-- The format a format register's value stands for, none for an invalid value (R79, R80). -/
def nfFmt (r : Word32) : Option Fmt :=
  let w := (r.extractLsb' 0 4).toNat
  let s := r.getLsbD 4
  let e := (r.extractLsb' 8 4).toNat
  let bias := (r.extractLsb' 16 8).toInt
  let special := (r.extractLsb' 24 2).toNat
  let ws := w - s.toNat
  let reserved := r.extractLsb' 26 6 ≠ 0 ∨ r.extractLsb' 12 4 ≠ 0 ∨ r.extractLsb' 5 3 ≠ 0
  if reserved ∨ w < 4 ∨ 8 < w ∨ ws < e ∨ special = 3 ∨ (special = 1 ∧ (e < 2 ∨ ws - e < 1)) then none
  else some { kind := .flt, w := w, s := s, e := e, m := ws - e, bias := bias, special := special }

/-- Is a format code assigned (R78)? -/
def fmtAssigned (c : Nat) : Bool := c ≤ 11 || (16 ≤ c && c ≤ 23)

/-- Is a format code one of fmt0 to fmt7 (R78)? -/
def fmtIsNf (c : Nat) : Bool := 16 ≤ c && c ≤ 23

/-- The format of a code of R78; `reg` gives the format registers. None: unassigned, or an invalid register (R80). -/
def fmtOf (reg : Nat → Word32) (c : Nat) : Option Fmt :=
  match c with
  | 0 => some fp32
  | 1 => some fp16
  | 2 => some bf16
  | 3 => some (sintFmt 8)
  | 4 => some (uintFmt 8)
  | 5 => some (sintFmt 4)
  | 6 => some (sintFmt 16)
  | 7 => some (uintFmt 16)
  | 8 => some (sintFmt 32)
  | 9 => some (uintFmt 32)
  | 10 => some e8m0
  | 11 => some ue4m3
  | _ => if fmtIsNf c then nfFmt (reg (c - 16)) else none

/-- The width of a code of R78: an NF code has its register's W field, valid or not (R151, log entry 42). -/
def fmtWidth (reg : Nat → Word32) (c : Nat) : Nat :=
  match c with
  | 0 => 32
  | 1 | 2 | 6 | 7 => 16
  | 3 | 4 | 10 | 11 => 8
  | 5 => 4
  | 8 | 9 => 32
  | _ => ((reg (c - 16)).extractLsb' 0 4).toNat

/-! ## Exact values -/

/-- An exact value: not a number, an infinity, or (-1)^neg · m · 2^e (m = 0: a signed zero). -/
inductive FVal where
  | nan
  | inf (neg : Bool)
  | fin (neg : Bool) (m : Nat) (e : Int)
deriving DecidableEq, Repr

/-- Is it a NaN? -/
def FVal.isNan : FVal → Bool
  | .nan => true
  | _ => false

/-- Is it an infinity? -/
def FVal.isInf : FVal → Bool
  | .inf _ => true
  | _ => false

/-- Is it a zero of either sign? -/
def FVal.isZero : FVal → Bool
  | .fin _ 0 _ => true
  | _ => false

/-- Its sign bit. -/
def FVal.neg : FVal → Bool
  | .nan => false
  | .inf n => n
  | .fin n _ _ => n

/-- Its sign inverted. -/
def FVal.negate : FVal → FVal
  | .nan => .nan
  | .inf n => .inf (!n)
  | .fin n m e => .fin (!n) m e

/-- Its magnitude. -/
def FVal.abs : FVal → FVal
  | .nan => .nan
  | .inf _ => .inf false
  | .fin _ m e => .fin false m e

/-- The value of an integer. -/
def FVal.ofInt (x : Int) : FVal := .fin (decide (x < 0)) x.natAbs 0

/-- The value of code `c` of format `f` (R81, R82, R84, R85). -/
def decodeVal (f : Fmt) (c : Nat) : FVal :=
  match f.kind with
  | .sint => FVal.ofInt (signedN c f.w)
  | .uint => .fin false (c % 2 ^ f.w) 0
  | .e8m0 => if c % 256 = 255 then .nan else .fin false 1 ((c % 256 : Nat) - 127)
  | .flt =>
    let c := c % 2 ^ f.w
    let mag := c % 2 ^ (f.e + f.m)
    let top := decide (2 ^ (f.e + f.m) ≤ c)
    let neg := f.s && top
    let x := mag / 2 ^ f.m
    let y := mag % 2 ^ f.m
    if !f.s && top then .nan
    else if f.special = 0 ∧ mag = 2 ^ (f.e + f.m) - 1 then .nan
    else if f.special = 1 ∧ x = 2 ^ f.e - 1 then (if y = 0 then .inf neg else .nan)
    else if f.e = 0 then .fin neg y (-f.bias)
    else if x = 0 then .fin neg y (1 - f.bias - f.m)
    else .fin neg (2 ^ f.m + y) (x - f.bias - f.m)

/-- Has the format NaNs? -/
def Fmt.hasNan (f : Fmt) : Bool :=
  match f.kind with
  | .flt => f.special != 2
  | .e8m0 => true
  | _ => false

/-- Has the format infinities? -/
def Fmt.hasInf (f : Fmt) : Bool := f.kind == .flt && f.special == 1

/-- canon_nan (R82, R84); 0 where the format has no NaN. -/
def Fmt.canonNan (f : Fmt) : Nat :=
  match f.kind with
  | .e8m0 => 255
  | .flt =>
    if f.special = 0 then 2 ^ (f.e + f.m) - 1
    else if f.special = 1 then (2 ^ f.e - 1) * 2 ^ f.m + 2 ^ (f.m - 1)
    else 0
  | _ => 0

/-- maxmag(F), the largest finite magnitude of either sign (R88, R91), as a magnitude code (float-like) or a number (integers): one
value per format; 127 for INT8, as its emax of 6 in R96 has it (log entry 8). -/
def Fmt.maxCode (f : Fmt) : Nat :=
  match f.kind with
  | .sint => 2 ^ (f.w - 1) - 1
  | .uint => 2 ^ f.w - 1
  | .e8m0 => 254
  | .flt =>
    if f.special = 0 then 2 ^ (f.e + f.m) - 2
    else if f.special = 1 then (2 ^ f.e - 1) * 2 ^ f.m - 1
    else 2 ^ (f.e + f.m) - 1

/-- The code of a magnitude code under a sign. -/
def Fmt.signCode (f : Fmt) (neg : Bool) (mag : Nat) : Nat :=
  match f.kind with
  | .sint => if neg then (2 ^ f.w - mag) % 2 ^ f.w else mag
  | .flt => if neg && f.s then 2 ^ (f.e + f.m) + mag else mag
  | _ => mag

/-- emax(F), floor(log2 maxmag(F)) (R91). -/
def Fmt.emax (f : Fmt) : Int :=
  match f.kind with
  | .sint => (f.w : Int) - 2
  | .uint => (f.w : Int) - 1
  | .e8m0 => 127
  | .flt =>
    match decodeVal f f.maxCode with
    | .fin _ m e => (log2N 64 m : Int) + e
    | _ => 0

/-- The result of a rounding: code, flags, overflow indication (R88). -/
structure Rounded where
  bits : Nat
  flags : Nat
  ovf : Bool
deriving DecidableEq, Repr

/-- The smallest integer of a signed integer format, -2^(w-1), which lies below -maxmag (R85, R91). -/
def Fmt.isLeast (f : Fmt) (v : FVal) : Bool :=
  f.kind == .sint &&
  match v with
  | .fin true m e => if 0 ≤ e then m * 2 ^ e.toNat == 2 ^ (f.w - 1) else m == 2 ^ (f.w - 1) * 2 ^ (-e).toNat
  | _ => false

/-- The overflow table of R90; an integer format gives its largest or its smallest integer. -/
def overflowTo (f : Fmt) (neg away satf : Bool) (fl : Nat) : Rounded :=
  let base := fl ||| flagOF ||| flagNX
  let mx := f.signCode neg f.maxCode
  match f.kind with
  | .sint => { bits := if neg then 2 ^ (f.w - 1) else mx, flags := base ||| flagSAT, ovf := true }
  | .uint => { bits := mx, flags := base ||| flagSAT, ovf := true }
  | .e8m0 =>
    if satf then { bits := 254, flags := base ||| flagSAT, ovf := true }
    else { bits := if away then 255 else 254, flags := base, ovf := true }
  | .flt =>
    if satf then { bits := mx, flags := base ||| flagSAT, ovf := true }
    else if away then
      if f.special = 1 then { bits := f.signCode neg ((2 ^ f.e - 1) * 2 ^ f.m), flags := base, ovf := true }
      else if f.special = 0 then { bits := f.canonNan, flags := base, ovf := true }
      else { bits := mx, flags := base, ovf := true }
    else { bits := mx, flags := base, ovf := true }

/-- The rounding of a non-zero real (-1)^neg · m · 2^e (R88, R89); `r` is the draw of srbits. R88 names no smallest normal for an NF
format with E = 0, whose values are equally spaced: an inexact result there raises NX and no UF (log entry 68). -/
def roundReal (f : Fmt) (neg : Bool) (m : Nat) (e : Int) (mode : Nat) (satf : Bool) (r : Nat) : Rounded :=
  let lg : Int := (log2N 4096 m : Int) + e
  if f.kind = .e8m0 ∧ lg < -127 then { bits := 0, flags := flagUF ||| flagNX, ovf := false }
  else
    let emin : Int := 1 - f.bias
    let qe : Int :=
      match f.kind with
      | .flt => if f.e = 0 then -f.bias else (if lg < emin then emin else lg) - f.m
      | .e8m0 => lg
      | _ => 0
    let sh : Nat := (qe - e).toNat
    let t : Nat := if e < qe then m / 2 ^ sh else m * 2 ^ (e - qe).toNat
    let rem : Nat := if e < qe then m % 2 ^ sh else 0
    let code : Nat :=
      match f.kind with
      | .flt => if f.e = 0 then t else (qe + f.m - emin).toNat * 2 ^ f.m + t
      | .e8m0 => (lg + 127).toNat
      | _ => t
    let up : Bool :=
      match mode with
      | 0 => decide (2 ^ sh < 2 * rem) || (decide (2 * rem = 2 ^ sh) && decide (0 < rem) && code % 2 == 1)
      | 1 => false
      | 2 => decide (0 < rem) && !neg
      | 3 => decide (0 < rem) && neg
      | _ => decide (0 < rem) && decide (2 ^ 32 ≤ rem * 2 ^ 32 / 2 ^ sh + r)
    let away : Bool :=
      match mode with
      | 0 => true
      | 1 => false
      | 2 => !neg
      | 3 => neg
      | _ => up
    let fl0 := if rem = 0 then 0 else flagNX
    let fl := if rem ≠ 0 ∧ f.kind = .flt ∧ f.e ≠ 0 ∧ lg < emin then fl0 ||| flagUF else fl0
    let y := if up then code + 1 else code
    if f.maxCode < y then overflowTo f neg away satf fl
    else { bits := f.signCode neg y, flags := fl, ovf := false }

/-- round_to (R88): `r` is the draw of srbits where mode is SRND. -/
def roundTo (f : Fmt) (v : FVal) (mode : Nat) (satf : Bool) (r : Nat) : Rounded :=
  let unsigned : Bool := !f.s
  match v with
  | .nan =>
    if f.hasNan then { bits := f.canonNan, flags := 0, ovf := false } else { bits := 0, flags := flagNV, ovf := false }
  | .fin neg 0 _ =>
    if f.kind = .e8m0 then { bits := 0, flags := flagUF ||| flagNX, ovf := false }
    else { bits := if f.kind = .flt then f.signCode neg 0 else 0, flags := 0, ovf := false }
  | .inf neg =>
    if unsigned && neg then
      if f.kind = .e8m0 then { bits := 255, flags := flagNV, ovf := false }
      else { bits := 0, flags := flagSAT ||| flagNX, ovf := false }
    else if f.hasInf && !satf then { bits := f.signCode neg ((2 ^ f.e - 1) * 2 ^ f.m), flags := 0, ovf := false }
    else if f.hasNan && !f.hasInf && !satf then { bits := f.canonNan, flags := flagNV, ovf := false }
    else { bits := f.signCode neg f.maxCode, flags := flagSAT, ovf := false }
  | .fin neg (m + 1) e =>
    if unsigned && neg then
      if f.kind = .e8m0 then { bits := 255, flags := flagNV, ovf := false }
      else { bits := 0, flags := flagSAT ||| flagNX, ovf := false }
    else roundReal f neg (m + 1) e mode satf r

/-! ## Exact arithmetic; the second component is NV of R92 -/

/-- Exact product. -/
def FVal.mul : FVal → FVal → FVal × Bool
  | .nan, _ => (.nan, false)
  | _, .nan => (.nan, false)
  | .inf a, y => if y.isZero then (.nan, true) else (.inf (a != y.neg), false)
  | x, .inf b => if x.isZero then (.nan, true) else (.inf (x.neg != b), false)
  | .fin a m e, .fin b n k => (.fin (a != b) (m * n) (e + k), false)

/-- Exact sum of two finite values, its zero signed by the mode (R93). -/
def finSum (mode : Nat) (a : Bool) (m : Nat) (e : Int) (b : Bool) (n : Nat) (k : Int) : FVal :=
  if m = 0 ∧ n = 0 then .fin (if a = b then a else decide (mode = 3)) 0 0
  else
    let lo := if e < k then e else k
    let x : Int := (m : Int) * (2 : Int) ^ (e - lo).toNat
    let y : Int := (n : Int) * (2 : Int) ^ (k - lo).toNat
    let z : Int := (if a then -x else x) + (if b then -y else y)
    if z = 0 then .fin (decide (mode = 3)) 0 0 else .fin (decide (z < 0)) z.natAbs lo

/-- Exact sum (R92, R93). -/
def FVal.add (mode : Nat) : FVal → FVal → FVal × Bool
  | .nan, _ => (.nan, false)
  | _, .nan => (.nan, false)
  | .inf a, .inf b => if a = b then (.inf a, false) else (.nan, true)
  | .inf a, .fin _ _ _ => (.inf a, false)
  | .fin _ _ _, .inf b => (.inf b, false)
  | .fin a m e, .fin b n k => (finSum mode a m e b n k, false)

/-- Exact x · y + z; NV only where no operand is a NaN (R92). -/
def FVal.fma (mode : Nat) (x y z : FVal) : FVal × Bool :=
  if x.isNan || y.isNan || z.isNan then (.nan, false)
  else
    let p := FVal.mul x y
    if p.2 then (.nan, true) else FVal.add mode p.1 z

/-- Three-way comparison of two values that are no NaN: -1, 0, 1. Zeros of both signs are equal. -/
def FVal.cmp (x y : FVal) : Int :=
  let key : FVal → FVal → Int := fun u v =>
    match u, v with
    | .fin a m e, .fin b n k =>
      let lo := if e < k then e else k
      let p : Int := (m : Int) * (2 : Int) ^ (e - lo).toNat
      let q : Int := (n : Int) * (2 : Int) ^ (k - lo).toNat
      (if a then -p else p) - (if b then -q else q)
    | .inf a, .inf b => if a = b then 0 else if a then -1 else 1
    | .inf a, _ => if a then -1 else 1
    | _, .inf b => if b then 1 else -1
    | _, _ => 0
  (key x y).sign

/-- sat(v, F) of R91: v clamped to [-maxmag(F), maxmag(F)], or to [0, maxmag(F)] for an unsigned F. -/
def Fmt.sat (f : Fmt) (v : FVal) : FVal :=
  match v with
  | .nan => .nan
  | v =>
    if !f.s && v.neg then .fin false 0 0
    else
      let top := decodeVal f (f.signCode v.neg f.maxCode)
      if FVal.cmp v.abs top.abs = 1 then top else v

/-- A value of at least `m` bits that lies between two neighbours: its last bit records that it is inexact. -/
def sticky (neg : Bool) (q : Nat) (e : Int) (inexact : Bool) : FVal := .fin neg (2 * q + inexact.toNat) (e - 1)

/-- The quotient of two finite values, y not zero: exact, or rounded to odd with 160 bits and more. -/
def finDiv (a : Bool) (m : Nat) (e : Int) (b : Bool) (n : Nat) (k : Int) : FVal :=
  if m = 0 then .fin (a != b) 0 0
  else
    let sh := 160 + log2N 4096 n
    let p := m * 2 ^ sh
    sticky (a != b) (p / n) (e - k - sh) (decide (p % n ≠ 0))

/-- The integer square root, `bits` digits. -/
def isqrtN : Nat → Nat → Nat → Nat
  | 0, _, r => r
  | k + 1, n, r => let r' := r + 2 ^ k; if r' * r' ≤ n then isqrtN k n r' else isqrtN k n r

/-- The square root of m · 2^e, m not zero: exact, or rounded to odd with 100 bits and more. -/
def finSqrt (m : Nat) (e : Int) : FVal :=
  let odd := e % 2 = 1
  let m' := if odd then 2 * m else m
  let e' := if odd then e - 1 else e
  let n := m' * 2 ^ 200
  let r := isqrtN 260 n 0
  sticky false r (e' / 2 - 100) (decide (r * r ≠ n))

/-- The reciprocal square root of m · 2^e, m not zero. -/
def finRsqrt (m : Nat) (e : Int) : FVal :=
  let odd := e % 2 = 1
  let m' := if odd then 2 * m else m
  let e' := if odd then e - 1 else e
  let n := 2 ^ 400
  let r := isqrtN 202 (n / m') 0
  sticky false r (-(e' / 2) - 200) (decide (r * r * m' ≠ n))

/-- The product of 2^(2^-i) over the 1 bits of the fraction f of `k` bits, in fixed point with 240 fraction bits; `c` is 2^(2^-i)
at the current bit's predecessor. -/
def exp2Frac : Nat → Nat → Nat → Nat → Nat
  | 0, _, _, acc => acc
  | k + 1, f, c, acc =>
    let c' := isqrtN 242 (c * 2 ^ 240) 0
    let acc' := if 2 ^ k ≤ f then acc * c' / 2 ^ 240 else acc
    exp2Frac k (f % 2 ^ k) c' acc'

/-- 2^x for a finite x (R150, log entry 7). -/
def finExp2 (neg : Bool) (m : Nat) (e : Int) : FVal :=
  if m = 0 then .fin false 1 0
  else if 11 ≤ (log2N 4096 m : Int) + e then sticky false 1 (if neg then -5000 else 5000) true
  else
    let k : Nat := (-e).toNat
    let x : Int := if e < 0 then (m : Int) else (m : Int) * (2 : Int) ^ e.toNat
    let v : Int := if neg then -x else x
    let n : Int := v / (2 : Int) ^ k
    let f : Nat := (v % (2 : Int) ^ k).toNat
    if f = 0 then .fin false 1 n else sticky false (exp2Frac k f (2 ^ 241) (2 ^ 240)) (n - 240) true

/-- `d` binary digits of log2 of y in [1, 2), y in fixed point with 400 fraction bits. -/
def log2Digits : Nat → Nat → Nat → Nat
  | 0, _, acc => acc
  | d + 1, y, acc =>
    let y' := y * y / 2 ^ 400
    if 2 ^ 401 ≤ y' then log2Digits d (y' / 2) (2 * acc + 1) else log2Digits d y' (2 * acc)

/-- log2 x for a finite x > 0 (R150, log entry 7). -/
def finLog2 (m : Nat) (e : Int) : FVal :=
  let l := log2N 4096 m
  let k : Int := (l : Int) + e
  if m = 2 ^ l then FVal.ofInt k
  else
    let y := m * 2 ^ 400 / 2 ^ l
    let t : Int := 2 * (k * (2 : Int) ^ 140 + log2Digits 140 y 0) + 1
    .fin (decide (t < 0)) t.natAbs (-141)

/-! ## Rounded operations -/

/-- Round an exact result, adding NV where it was produced. -/
def roundNV (f : Fmt) (v : FVal × Bool) (mode : Nat) (satf : Bool) : Rounded :=
  let r := roundTo f v.1 mode satf 0
  if v.2 then { r with flags := r.flags ||| flagNV } else r

/-- rnd of R242: to FP32 under RNE. -/
def rnd (v : FVal × Bool) : Rounded := roundNV fp32 v 0 false

/-- vfmin and vfmax of R148 on codes of a format: canonical NaN if either is one; -0 below +0. -/
def fminmax (f : Fmt) (max : Bool) (a b : Nat) : Nat :=
  let x := decodeVal f a
  let y := decodeVal f b
  if x.isNan || y.isNan then f.canonNan
  else
    let c := FVal.cmp x y
    let less : Bool := decide (c < 0) || (decide (c = 0) && x.neg && !y.neg)
    if less != max then a else b

/-- FP32 sum of two codes under RNE, with its flags (R99 to R101, R186). -/
def faddCode (a b : Nat) : Rounded := rnd (FVal.add 0 (decodeVal fp32 a) (decodeVal fp32 b))

/-- The FP32 code of a value of a narrower format, exactly widened (R101); rounded where the format exceeds FP32. -/
def widen (f : Fmt) (c : Nat) : Nat := (roundTo fp32 (decodeVal f c) 0 false 0).bits

/-! ## Special functions (R150) -/

/-- The exact value of vrcp (0), vrsq (1), vsqrt (2), vexp2 (3) or vlog2 (4), with the flags of the table of R150. -/
def specialFn (op : Nat) (x : FVal) : FVal × Nat :=
  match op, x with
  | _, .nan => (.nan, 0)
  | 0, .inf n => (.fin n 0 0, 0)
  | 0, .fin n 0 _ => (.inf n, flagDZ)
  | 0, .fin n m e => (finDiv false 1 0 n m e, 0)
  | 1, .inf false => (.fin false 0 0, 0)
  | 1, .inf true => (.nan, flagNV)
  | 1, .fin n 0 _ => (.inf n, flagDZ)
  | 1, .fin true _ _ => (.nan, flagNV)
  | 1, .fin false m e => (finRsqrt m e, 0)
  | 2, .inf false => (.inf false, 0)
  | 2, .inf true => (.nan, flagNV)
  | 2, .fin n 0 _ => (.fin n 0 0, 0)
  | 2, .fin true _ _ => (.nan, flagNV)
  | 2, .fin false m e => (finSqrt m e, 0)
  | 3, .inf false => (.inf false, 0)
  | 3, .inf true => (.fin false 0 0, 0)
  | 3, .fin n m e => (finExp2 n m e, 0)
  | _, .inf false => (.inf false, 0)
  | _, .inf true => (.nan, flagNV)
  | _, .fin _ 0 _ => (.inf true, flagDZ)
  | _, .fin true _ _ => (.nan, flagNV)
  | _, .fin false m e => (finLog2 m e, 0)

/-! ## Stochastic rounding (R94) -/

/-- mix64. -/
def mix64 (z : Word) : Word :=
  let z := z ^^^ (z >>> 32)
  let z := z * 0xB7E151628AED2A6B#64
  let z := z ^^^ (z >>> 29)
  let z := z * 0x6A09E667F3BCC909#64
  z ^^^ (z >>> 32)

/-- srbits. -/
def srbits (seed : Word) (tid : Word32) (idx step : Word) : Nat :=
  let h := mix64 (seed ^^^ 0x9E3779B97F4A7C15#64)
  let h := mix64 (h ^^^ step)
  let h := mix64 (h ^^^ tid.setWidth 64)
  let h := mix64 (h ^^^ idx)
  (h >>> 32).toNat

/-! ## Scales (R96, R97) -/

/-- scale_from: the FP32 code of the per-tensor scale. -/
def scaleFrom (amax : Nat) (f : Fmt) (margin : Nat) : Nat :=
  let c : Int :=
    match decodeVal fp32 (amax % 2 ^ 31) with
    | .fin _ (m + 1) e => (clog2N 64 (m + 1) : Int) + e
    | _ => 0
  let k := f.emax - c - margin
  let k := if k < -126 then -126 else if 127 < k then 127 else k
  ((k + 127).toNat) * 2 ^ 23

/-- An element under its block scale (R97): a NaN scale gives NaN, a zero scale times infinity NaN. -/
def scaledVal (x s : FVal) : FVal := (FVal.mul x s).1

/-- Histogram bin of a non-zero finite value m · 2^e (R157). -/
def statBin (m : Nat) (e : Int) : Nat :=
  let b := (log2N 4096 m : Int) + e + 20
  if b < 0 then 0 else if 27 < b then 27 else b.toNat

end Sys2Proof.Machine
end

