-- ==== Sys2Proof/Syntax.lean ====
section
/-! DEFINITION. The instructions of Flalvo and the events of the SLZ-7200: one constructor of `Instr` for each row of
spec/opcode_table.json, and the operand formats of R58 as records of named fields.

A syllable's constructor carries ONE record of its operand format: its guard field G, its operand fields in the order of R58
(high to low), and its extension word where it has one (R55, R57). A field named z is one that R58 gives as zero: it is kept, so
that a word whose zero field is not zero is a term too, which the legality check refuses (R59). The formats of the shared slot
tables say which of the two slots the syllable stands in: l1 for L1, v1 for V1 (R55). -/

namespace Sys2Proof

/-- Format NO (R58): no operand. -/
structure NO where
  g : BitVec 3
  z : BitVec 20
  ext : Option Word32
deriving DecidableEq, Repr

/-- Format BO (R58): branch offset. -/
structure BO where
  g : BitVec 3
  off : BitVec 20
  ext : Option Word32
deriving DecidableEq, Repr

/-- Format BP (R58): branch on predicate. -/
structure BP where
  g : BitVec 3
  p : BitVec 3
  sense : BitVec 1
  off : BitVec 16
  ext : Option Word32
deriving DecidableEq, Repr

/-- Format RG (R58): register target. -/
structure RG where
  g : BitVec 3
  s : BitVec 5
  z : BitVec 15
  ext : Option Word32
deriving DecidableEq, Repr

/-- Format LP (R58): loop dimension. -/
structure LP where
  g : BitVec 3
  lc : BitVec 3
  s : BitVec 5
  imm : BitVec 12
  ext : Option Word32
deriving DecidableEq, Repr

/-- Format CS (R58): control and status register. -/
structure CS where
  g : BitVec 3
  num : BitVec 12
  s : BitVec 5
  z : BitVec 3
  ext : Option Word32
deriving DecidableEq, Repr

/-- Format FW (R58): format write. -/
structure FW where
  g : BitVec 3
  fmt : BitVec 3
  s : BitVec 5
  z : BitVec 12
  ext : Option Word32
deriving DecidableEq, Repr

/-- Format PL (R58): predicate logic. -/
structure PL where
  g : BitVec 3
  pd : BitVec 3
  pa : BitVec 3
  pb : BitVec 3
  z : BitVec 11
  ext : Option Word32
deriving DecidableEq, Repr

/-- Format TC (R58): trap code. -/
structure TC where
  g : BitVec 3
  code : BitVec 20
  ext : Option Word32
deriving DecidableEq, Repr

/-- Format SR (R58): scalar registers. -/
structure SR where
  g : BitVec 3
  d : BitVec 5
  a : BitVec 5
  b : BitVec 5
  c : BitVec 5
  ext : Option Word32
deriving DecidableEq, Repr

/-- Format SI (R58): scalar immediate. -/
structure SI where
  g : BitVec 3
  d : BitVec 5
  a : BitVec 5
  imm : BitVec 10
  ext : Option Word32
deriving DecidableEq, Repr

/-- Format SC (R58): scalar compare immediate. -/
structure SC where
  g : BitVec 3
  pd : BitVec 3
  z : BitVec 2
  a : BitVec 5
  cond : BitVec 5
  imm : BitVec 5
  ext : Option Word32
deriving DecidableEq, Repr

/-- Format MV (R58): move immediate. -/
structure MV where
  g : BitVec 3
  d : BitVec 5
  imm : BitVec 15
  ext : Option Word32
deriving DecidableEq, Repr

/-- Format XV (R58): crossing move. -/
structure XV where
  g : BitVec 3
  d : BitVec 6
  a : BitVec 6
  port : BitVec 3
  sel : BitVec 5
  ext : Option Word32
deriving DecidableEq, Repr

/-- Format LA (R58): address arithmetic. -/
structure LA where
  g : BitVec 3
  d : BitVec 4
  a : BitVec 4
  b : BitVec 4
  imm : BitVec 8
  ext : Option Word32
  l1 : Bool
deriving DecidableEq, Repr

/-- Format LM (R58): load from memory. -/
structure LM where
  g : BitVec 3
  d : BitVec 6
  base : BitVec 4
  off : BitVec 10
  ext : Option Word32
  l1 : Bool
deriving DecidableEq, Repr

/-- Format LT (R58): load from a tile. -/
structure LT where
  g : BitVec 3
  d : BitVec 6
  h : BitVec 6
  row : BitVec 4
  col : BitVec 4
  ext : Option Word32
  l1 : Bool
deriving DecidableEq, Repr

/-- Format LH (R58): handles and capabilities. -/
structure LH where
  g : BitVec 3
  d : BitVec 6
  h : BitVec 6
  a : BitVec 4
  sub : BitVec 4
  ext : Option Word32
  l1 : Bool
deriving DecidableEq, Repr

/-- Format SM (R58): store. -/
structure SM where
  g : BitVec 3
  data : BitVec 6
  base : BitVec 5
  port : BitVec 3
  off : BitVec 6
  ext : Option Word32
deriving DecidableEq, Repr

/-- Format AT (R58): atomic. -/
structure AT where
  g : BitVec 3
  d : BitVec 5
  data : BitVec 5
  base : BitVec 5
  ord : BitVec 2
  z : BitVec 3
  ext : Option Word32
deriving DecidableEq, Repr

/-- Format FB (R58): fence and binding. -/
structure FB where
  g : BitVec 3
  base : BitVec 5
  len : BitVec 5
  obj : BitVec 5
  kind : BitVec 3
  z : BitVec 2
  ext : Option Word32
deriving DecidableEq, Repr

/-- Format VA (R58): vector. -/
structure VA where
  g : BitVec 3
  vd : BitVec 6
  va : BitVec 6
  pa : BitVec 3
  ty : BitVec 5
  ext : Option Word32
  v1 : Bool
deriving DecidableEq, Repr

/-- Format MX (R58): outer product. -/
structure MX where
  g : BitVec 3
  acc : BitVec 4
  hA : BitVec 6
  hB : BitVec 6
  order : BitVec 2
  z : BitVec 2
  ext : Option Word32
deriving DecidableEq, Repr

/-- Format MC (R58): matrix control. -/
structure MC where
  g : BitVec 3
  acc : BitVec 4
  imm : BitVec 16
  ext : Option Word32
deriving DecidableEq, Repr

/-- Format DR (R58): drain and fill. -/
structure DR where
  g : BitVec 3
  acc : BitVec 4
  t : BitVec 6
  port : BitVec 3
  fmt : BitVec 3
  row : BitVec 4
  ext : Option Word32
deriving DecidableEq, Repr

/-- Format OP (R58): optimiser. -/
structure OP where
  g : BitVec 3
  acc : BitVec 4
  hW : BitVec 6
  hM : BitVec 6
  z : BitVec 4
  ext : Option Word32
deriving DecidableEq, Repr

/-- Format EJ (R58): engine job. -/
structure EJ where
  g : BitVec 3
  hJ : BitVec 6
  hW : BitVec 6
  k : BitVec 4
  sub : BitVec 4
  ext : Option Word32
deriving DecidableEq, Repr

/-- Format WT (R58): wait. -/
structure WT where
  g : BitVec 3
  h : BitVec 6
  s : BitVec 5
  imm : BitVec 9
  ext : Option Word32
deriving DecidableEq, Repr

/-- Format SP (R58): scope. -/
structure SP where
  g : BitVec 3
  scope : BitVec 3
  z : BitVec 17
  ext : Option Word32
deriving DecidableEq, Repr

/-- The guard, operand field and extension word of a syllable before its format is known (R55). -/
structure RawSyl where
  g : BitVec 3
  f : BitVec 20
  ext : Option Word32
  second : Bool
deriving DecidableEq, Repr

/-- vb of the VA extension word, [31:26] (R140); 0 without one. -/
def VA.vb (o : VA) : BitVec 6 := match o.ext with | some e => e.extractLsb' 26 6 | none => 0
/-- pb of the VA extension word, [25:23] (R140). -/
def VA.pb (o : VA) : BitVec 3 := match o.ext with | some e => e.extractLsb' 23 3 | none => 0
/-- vc of the VA extension word, [22:17] (R140). -/
def VA.vc (o : VA) : BitVec 6 := match o.ext with | some e => e.extractLsb' 17 6 | none => 0
/-- pc of the VA extension word, [16:14] (R140). -/
def VA.pc (o : VA) : BitVec 3 := match o.ext with | some e => e.extractLsb' 14 3 | none => 0
/-- mod of the VA extension word, [13:0] (R140). -/
def VA.mod (o : VA) : BitVec 14 := match o.ext with | some e => e.extractLsb' 0 14 | none => 0

/-- fmtA of the MX extension word, [31:29] (R58, R219). -/
def MX.fmtA (o : MX) : BitVec 3 := match o.ext with | some e => e.extractLsb' 29 3 | none => 0
/-- fmtB of the MX extension word, [28:26] (R58, R219). -/
def MX.fmtB (o : MX) : BitVec 3 := match o.ext with | some e => e.extractLsb' 26 3 | none => 0
/-- The block-scale bit of the MX extension word, [25] (R58, R219). -/
def MX.bs (o : MX) : Bool := match o.ext with | some e => e.getLsbD 25 | none => false
/-- The depth K of an outer product, 1 to 128: [24:18] of the extension word plus one (R219). -/
def MX.depth (o : MX) : Nat := match o.ext with | some e => (e.extractLsb' 18 7).toNat + 1 | none => 1

/-- The header of a command packet as the task machine keeps it (R439): its queue, its place in the ring, its tag, the address of
its completion record and the address space of its queue (R440), and of an UNMAP or PROTECT the address space that its own ASID field names (R455,
R459). -/
structure PktHdr where
  queue : Nat
  entry : Nat
  opc : Nat
  tag : Nat
  cmpl : Nat
  asid : Nat
  named : Nat := 0
deriving DecidableEq, Repr

/-- A flit as a port sends or receives it (R479): its header fields, and its payload as a little-endian number. -/
structure Flit where
  stamp : Nat
  ofs : Nat
  src : Nat
  dst : Nat
  tag : Nat
  cls : Nat
  rsv : Nat := 0
  fwd : Bool
  tstate : Nat
  len : Nat
  payload : BitVec 1920
deriving DecidableEq, Repr

/-- The instructions of the SLZ-7200: one constructor for each row of spec/opcode_table.json. The first 291 are the syllables a
bundle is made of; the others are the module's own indivisible events (95_what_each_step_holds.md) and the front end's packets
(R440), each with what the event names. -/
inductive Instr where
  /-- NOP (R120): C-slot no-operation; with rep n waits exactly n ticks. -/
  | nop (o : NO)
  /-- BR (R102): Unconditional branch to base plus 16 times the signed offset. -/
  | br (o : BO)
  /-- BRP (R104): Branch when predicate pN equals sense, read at issue. -/
  | brp (o : BP)
  /-- BRL (R102): Branch and link, lk := next aligned address after one tick. -/
  | brl (o : BO)
  /-- RET (R102): Transfer to the address held in lk. -/
  | ret (o : NO)
  /-- JMP (R105): Register jump to sN[31:0] with target checks before any slot takes effect. -/
  | jmp (o : RG)
  /-- JMP_L (R102): Register jump and link. -/
  | jmpL (o : RG)
  /-- LOOP (R108): Declares a dimension, loads the counters and opens the loop nest, skipping the body when a trip count is zero. -/
  | loop (o : LP)
  /-- LOOPN (R107): Declares one loop dimension with its trip count without opening the nest. -/
  | loopn (o : LP)
  /-- FMTW (R116): Writes a format register, landing after 4 ticks. -/
  | fmtw (o : FW)
  /-- CSRR (R117): Reads a CSR into a scalar register through the landing queue under class 0. -/
  | csrr (o : CS)
  /-- CSRW (R117): Writes a scalar register to a CSR under its access code, effective for the next bundle. -/
  | csrw (o : CS)
  /-- CSRW_I (R117): Writes a sign-extended 32-bit immediate to a CSR. -/
  | csrwI (o : CS)
  /-- PAND (R119): Predicate AND, landing after 1 tick. -/
  | pand (o : PL)
  /-- POR (R119): Predicate OR. -/
  | por (o : PL)
  /-- PXOR (R119): Predicate exclusive OR. -/
  | pxor (o : PL)
  /-- PNOT (R119): Predicate NOT. -/
  | pnot (o : PL)
  /-- TRAP (R120): User-class software trap taken after its bundle commits. -/
  | trapC (o : TC)
  /-- SYSC (R120): System-class supervisor call that freezes the context and posts a fault record. -/
  | sysc (o : TC)
  /-- RFT (R121): Returns from a user handler, landing handler entries, restoring the nest and replaying the snapshot. -/
  | rft (o : NO)
  /-- RETIRE (R122): Ends the tile; the context enters RETIRING and discards pending landings. -/
  | retire (o : NO)
  /-- YIELD (R123): Cedes issue for 64 cycles while another context of the core is ready. -/
  | yield (o : NO)
  /-- WAIT (R133): Gates its bundle until a waymark generation reaches a threshold, then acquires it. -/
  | wait (o : WT)
  /-- WAITC (R134): Gates its bundle on a task counter or cluster barrier phase. -/
  | waitc (o : WT)
  /-- WAITB (R135): Gates its bundle until the busy-bit and outstanding-operation conditions of its mask hold. -/
  | waitb (o : WT)
  /-- WAITT (R133): Gates its bundle until CYCLES reaches a deadline. -/
  | waitt (o : WT)
  /-- SCOPE (R139): X-slot prefix setting the scope of every memory operation and W-slot acquire of its bundle. -/
  | scope (o : SP)
  /-- ADD (R124): 64-bit integer add. -/
  | add (o : SR)
  /-- SUB (R124): 64-bit integer subtract. -/
  | sub (o : SR)
  /-- MUL (R124): Low 64 bits of a product, class 1. -/
  | mul (o : SR)
  /-- MULH (R124): High 64 bits of a signed product. -/
  | mulh (o : SR)
  /-- MULHU (R124): High 64 bits of an unsigned product. -/
  | mulhu (o : SR)
  /-- DIV (R125): Signed hidden-latency division. -/
  | div_ (o : SR)
  /-- DIVU (R125): Unsigned hidden-latency division. -/
  | divu (o : SR)
  /-- REM (R125): Signed hidden-latency remainder. -/
  | rem (o : SR)
  /-- REMU (R125): Unsigned hidden-latency remainder. -/
  | remu (o : SR)
  /-- AND (R124): Bitwise AND. -/
  | and_ (o : SR)
  /-- OR (R124): Bitwise OR. -/
  | or_ (o : SR)
  /-- XOR (R124): Bitwise exclusive OR. -/
  | xor_ (o : SR)
  /-- ANDN (R124): a AND NOT b. -/
  | andn (o : SR)
  /-- SHL (R124): Logical shift left by b[5:0]. -/
  | shl (o : SR)
  /-- SHR (R124): Logical shift right. -/
  | shr (o : SR)
  /-- SRA (R124): Arithmetic shift right. -/
  | sra (o : SR)
  /-- ROL (R124): Rotate left. -/
  | rol (o : SR)
  /-- CLZ (R124): Count leading zeros. -/
  | clz (o : SR)
  /-- CTZ (R124): Count trailing zeros. -/
  | ctz (o : SR)
  /-- POPC (R124): Population count. -/
  | popc (o : SR)
  /-- MIN (R124): Signed minimum. -/
  | min_ (o : SR)
  /-- MAX (R124): Signed maximum. -/
  | max_ (o : SR)
  /-- MINU (R124): Unsigned minimum. -/
  | minu (o : SR)
  /-- MAXU (R124): Unsigned maximum. -/
  | maxu (o : SR)
  /-- SEL (R124): Selects a or b by predicate pN. -/
  | sel (o : SR)
  /-- CMP (R128): Integer compare writing a predicate under class 0. -/
  | cmp (o : SR)
  /-- ADD_W (R126): 32-bit add, sign-extended. -/
  | addW (o : SR)
  /-- SUB_W (R126): 32-bit subtract, sign-extended. -/
  | subW (o : SR)
  /-- MUL_W (R126): 32-bit multiply, sign-extended. -/
  | mulW (o : SR)
  /-- DIV_W (R126): 32-bit signed hidden-latency division. -/
  | divW (o : SR)
  /-- DIVU_W (R126): 32-bit unsigned hidden-latency division. -/
  | divuW (o : SR)
  /-- REM_W (R126): 32-bit signed remainder. -/
  | remW (o : SR)
  /-- REMU_W (R126): 32-bit unsigned remainder. -/
  | remuW (o : SR)
  /-- SHL_W (R126): 32-bit shift left. -/
  | shlW (o : SR)
  /-- SHR_W (R126): 32-bit logical shift right. -/
  | shrW (o : SR)
  /-- SRA_W (R126): 32-bit arithmetic shift right. -/
  | sraW (o : SR)
  /-- ADDI (R127): Add sign-extended immediate. -/
  | addi (o : SI)
  /-- AND_I (R127): AND with immediate. -/
  | andI (o : SI)
  /-- OR_I (R127): OR with immediate. -/
  | orI (o : SI)
  /-- XOR_I (R127): XOR with immediate. -/
  | xorI (o : SI)
  /-- SHL_I (R127): Shift left by immediate. -/
  | shlI (o : SI)
  /-- SHR_I (R127): Logical shift right by immediate. -/
  | shrI (o : SI)
  /-- SRA_I (R127): Arithmetic shift right by immediate. -/
  | sraI (o : SI)
  /-- ROL_I (R127): Rotate left by immediate. -/
  | rolI (o : SI)
  /-- CMP_I (R128): Compare with immediate writing a predicate. -/
  | cmpI (o : SC)
  /-- MOVI (R129): Loads a sign-extended immediate. -/
  | movi (o : MV)
  /-- MOVHI (R129): Replaces the upper 32 bits of sd with an immediate. -/
  | movhi (o : MV)
  /-- XMOV_SL (R130): Moves a scalar register to an address register in 2 ticks. -/
  | xmovSl (o : XV)
  /-- XMOV_LS (R130): Moves an address register to a scalar register in 2 ticks. -/
  | xmovLs (o : XV)
  /-- XMOV_SV (R130): Broadcasts a scalar into every element of a vector register. -/
  | xmovSv (o : XV)
  /-- XMOV_VS (R130): Moves a 64-bit vector lane to a scalar register. -/
  | xmovVs (o : XV)
  /-- FADD (R131): Scalar FP32 add under a rounding mode. -/
  | fadd (o : SR)
  /-- FMUL (R131): Scalar FP32 multiply. -/
  | fmul (o : SR)
  /-- FCMP (R132): Scalar FP32 compare writing a predicate. -/
  | fcmp (o : SR)
  /-- FMA (R131): Scalar FP32 fused multiply-add rounded once under RNE. -/
  | fma (o : SR)
  /-- AADD (R171): Address add of two registers and an immediate. -/
  | aadd (o : LA)
  /-- AADDI (R171): Address add immediate. -/
  | aaddi (o : LA)
  /-- XMOVA (R171): Address register copy within a file. -/
  | xmova (o : LA)
  /-- LDS_8 (R172): Scratch load of 1 byte through a handle. -/
  | lds8 (o : LT)
  /-- LDS_16 (R172): Scratch load of 2 bytes through a handle. -/
  | lds16 (o : LT)
  /-- LDS_32 (R172): Scratch load of 4 bytes through a handle. -/
  | lds32 (o : LT)
  /-- LDS_64 (R172): Scratch load of 8 bytes through a handle. -/
  | lds64 (o : LT)
  /-- LDV (R172): Row fetch of 8 bank words into a vector register. -/
  | ldv (o : LT)
  /-- LDVT (R210): Column fetch of one bank word from 8 rows into a vector register. -/
  | ldvt (o : LT)
  /-- LDG_8 (R175): Hidden-latency 1-byte load from a VA or CRA. -/
  | ldg8 (o : LM)
  /-- LDG_16 (R175): Hidden-latency 2-byte load. -/
  | ldg16 (o : LM)
  /-- LDG_32 (R175): Hidden-latency 4-byte load. -/
  | ldg32 (o : LM)
  /-- LDG_64 (R175): Hidden-latency 8-byte load. -/
  | ldg64 (o : LM)
  /-- LDG_V (R175): Hidden-latency 128-byte vector load through the fill path. -/
  | ldgV (o : LM)
  /-- LDK_32 (R175): 4-byte load through a capability with constant offset. -/
  | ldk32 (o : LM)
  /-- LDK_64 (R175): 8-byte load through a capability. -/
  | ldk64 (o : LM)
  /-- LDACQ_32 (R179): 4-byte acquire load of a sync word at the bundle's scope. -/
  | ldacq32 (o : LM)
  /-- LDACQ_64 (R179): 8-byte acquire load of a sync word. -/
  | ldacq64 (o : LM)
  /-- LDSC (R177): Reserves a scale-queue entry and loads 128 block scales. -/
  | ldsc (o : LM)
  /-- HALLOC (R194): Requests scratch storage for a handle, which becomes PENDING. -/
  | halloc (o : LH)
  /-- HFREE (R194): Unbinds an A, B or G handle for later bundles. -/
  | hfree (o : LH)
  /-- HINFO (R193): Returns a handle word into a scalar register. -/
  | hinfo (o : LH)
  /-- KDERIVE_LD (R195): Loads 16 bytes from memory into a capability register. -/
  | kderiveLd (o : LH)
  /-- KDERIVE_RS (R195): Asks the pool for a resealed capability with reduced rights and length. -/
  | kderiveRs (o : LH)
  /-- KDERIVE_ST (R195): Stores a capability register to memory. -/
  | kderiveSt (o : LH)
  /-- KCHK (R196): Returns the pool's verdict on a capability without faulting. -/
  | kchk (o : LH)
  /-- PF (R178): Prefetches a line into the cluster cache, LLC or HBM pool cache; never faults. -/
  | pf (o : LM)
  /-- STS_8 (R174): 1-byte scratch store. -/
  | sts8 (o : SM)
  /-- STS_16 (R174): 2-byte scratch store. -/
  | sts16 (o : SM)
  /-- STS_32 (R174): 4-byte scratch store. -/
  | sts32 (o : SM)
  /-- STS_64 (R174): 8-byte scratch store. -/
  | sts64 (o : SM)
  /-- STV (R174): 128-byte vector store to scratch. -/
  | stv (o : SM)
  /-- STVT (R210): Transposed vector store of one bank word to each of 8 rows. -/
  | stvt (o : SM)
  /-- STG_8 (R180): 1-byte plain store to a VA or CRA through the store queue. -/
  | stg8 (o : SM)
  /-- STG_16 (R180): 2-byte plain store. -/
  | stg16 (o : SM)
  /-- STG_32 (R180): 4-byte plain store. -/
  | stg32 (o : SM)
  /-- STG_64 (R180): 8-byte plain store. -/
  | stg64 (o : SM)
  /-- STK_32 (R180): 4-byte provisional pool store through a capability. -/
  | stk32 (o : SM)
  /-- STK_64 (R180): 8-byte provisional pool store through a capability. -/
  | stk64 (o : SM)
  /-- STREL_32 (R180): 4-byte release store of a sync word. -/
  | strel32 (o : SM)
  /-- STREL_64 (R180): 8-byte release store of a sync word. -/
  | strel64 (o : SM)
  /-- AMO_ADD_32 (R184): 32-bit atomic add returning the old value. -/
  | amoAdd32 (o : AT)
  /-- AMO_ADD_64 (R184): 64-bit atomic add. -/
  | amoAdd64 (o : AT)
  /-- AMO_AND_32 (R184): 32-bit atomic AND. -/
  | amoAnd32 (o : AT)
  /-- AMO_AND_64 (R184): 64-bit atomic AND. -/
  | amoAnd64 (o : AT)
  /-- AMO_OR_32 (R184): 32-bit atomic OR. -/
  | amoOr32 (o : AT)
  /-- AMO_OR_64 (R184): 64-bit atomic OR. -/
  | amoOr64 (o : AT)
  /-- AMO_XOR_32 (R184): 32-bit atomic XOR. -/
  | amoXor32 (o : AT)
  /-- AMO_XOR_64 (R184): 64-bit atomic XOR. -/
  | amoXor64 (o : AT)
  /-- AMO_MIN_32 (R184): 32-bit atomic signed minimum. -/
  | amoMin32 (o : AT)
  /-- AMO_MIN_64 (R184): 64-bit atomic signed minimum. -/
  | amoMin64 (o : AT)
  /-- AMO_MAX_32 (R184): 32-bit atomic signed maximum. -/
  | amoMax32 (o : AT)
  /-- AMO_MAX_64 (R184): 64-bit atomic signed maximum. -/
  | amoMax64 (o : AT)
  /-- AMO_MINU_32 (R184): 32-bit atomic unsigned minimum. -/
  | amoMinu32 (o : AT)
  /-- AMO_MINU_64 (R184): 64-bit atomic unsigned minimum. -/
  | amoMinu64 (o : AT)
  /-- AMO_MAXU_32 (R184): 32-bit atomic unsigned maximum. -/
  | amoMaxu32 (o : AT)
  /-- AMO_MAXU_64 (R184): 64-bit atomic unsigned maximum. -/
  | amoMaxu64 (o : AT)
  /-- AMO_SWAP_32 (R184): 32-bit atomic swap. -/
  | amoSwap32 (o : AT)
  /-- AMO_SWAP_64 (R184): 64-bit atomic swap. -/
  | amoSwap64 (o : AT)
  /-- CAS_32 (R185): 32-bit compare-and-swap. -/
  | cas32 (o : AT)
  /-- CAS_64 (R185): 64-bit compare-and-swap. -/
  | cas64 (o : AT)
  /-- CAS_128 (R185): 128-bit compare-and-swap on register pairs. -/
  | cas128 (o : AT)
  /-- RED_ADD_32 (R186): 32-bit reduction add with no return. -/
  | redAdd32 (o : AT)
  /-- RED_ADD_64 (R186): 64-bit reduction add. -/
  | redAdd64 (o : AT)
  /-- RED_AND_32 (R186): 32-bit reduction AND. -/
  | redAnd32 (o : AT)
  /-- RED_AND_64 (R186): 64-bit reduction AND. -/
  | redAnd64 (o : AT)
  /-- RED_OR_32 (R186): 32-bit reduction OR. -/
  | redOr32 (o : AT)
  /-- RED_OR_64 (R186): 64-bit reduction OR. -/
  | redOr64 (o : AT)
  /-- RED_XOR_32 (R186): 32-bit reduction XOR. -/
  | redXor32 (o : AT)
  /-- RED_XOR_64 (R186): 64-bit reduction XOR. -/
  | redXor64 (o : AT)
  /-- RED_MIN_32 (R186): 32-bit reduction signed minimum. -/
  | redMin32 (o : AT)
  /-- RED_MIN_64 (R186): 64-bit reduction signed minimum. -/
  | redMin64 (o : AT)
  /-- RED_MAX_32 (R186): 32-bit reduction signed maximum. -/
  | redMax32 (o : AT)
  /-- RED_MAX_64 (R186): 64-bit reduction signed maximum. -/
  | redMax64 (o : AT)
  /-- RED_MINU_32 (R186): 32-bit reduction unsigned minimum. -/
  | redMinu32 (o : AT)
  /-- RED_MINU_64 (R186): 64-bit reduction unsigned minimum. -/
  | redMinu64 (o : AT)
  /-- RED_MAXU_32 (R186): 32-bit reduction unsigned maximum. -/
  | redMaxu32 (o : AT)
  /-- RED_MAXU_64 (R186): 64-bit reduction unsigned maximum. -/
  | redMaxu64 (o : AT)
  /-- RED_FADD_32 (R186): FP32 reduction add rounded under RNE at the location. -/
  | redFadd32 (o : AT)
  /-- FENCE (R406): Full fence at the bundle's scope. -/
  | fence (o : FB)
  /-- FENCE_REL (R406): Release-only fence. -/
  | fenceRel (o : FB)
  /-- FENCE_ACQ (R406): Acquire-only fence. -/
  | fenceAcq (o : FB)
  /-- BIND (R192): Binds a region to a synchronisation object in the binding table. -/
  | bind (o : FB)
  /-- UNBIND (R190): Removes a binding with the given region base and object. -/
  | unbind (o : FB)
  /-- VADD (R145): Vector integer add. -/
  | vadd (o : VA)
  /-- VSUB (R145): Vector integer subtract. -/
  | vsub (o : VA)
  /-- VMUL (R145): Vector integer multiply, low half. -/
  | vmul (o : VA)
  /-- VMULH (R145): Vector integer multiply, high half. -/
  | vmulh (o : VA)
  /-- VAND (R145): Vector AND. -/
  | vand (o : VA)
  /-- VOR (R145): Vector OR. -/
  | vor (o : VA)
  /-- VXOR (R145): Vector XOR. -/
  | vxor (o : VA)
  /-- VANDN (R145): Vector a AND NOT b. -/
  | vandn (o : VA)
  /-- VSHL (R145): Vector shift left. -/
  | vshl (o : VA)
  /-- VSHR (R145): Vector logical shift right. -/
  | vshr (o : VA)
  /-- VSRA (R145): Vector arithmetic shift right. -/
  | vsra (o : VA)
  /-- VMIN (R145): Vector signed minimum. -/
  | vmin (o : VA)
  /-- VMAX (R145): Vector signed maximum. -/
  | vmax (o : VA)
  /-- VMINU (R145): Vector unsigned minimum. -/
  | vminu (o : VA)
  /-- VMAXU (R145): Vector unsigned maximum. -/
  | vmaxu (o : VA)
  /-- VABS (R145): Vector absolute value of signed elements. -/
  | vabs (o : VA)
  /-- VNEG (R145): Vector integer negate. -/
  | vneg (o : VA)
  /-- VCMP (R146): Vector integer compare writing a lane mask. -/
  | vcmp (o : VA)
  /-- VADD_SAT (R145): Vector saturating add raising SAT. -/
  | vaddSat (o : VA)
  /-- VSUB_SAT (R145): Vector saturating subtract. -/
  | vsubSat (o : VA)
  /-- VFADD (R147): FP32 vector add rounded once. -/
  | vfadd (o : VA)
  /-- VFSUB (R147): FP32 vector subtract. -/
  | vfsub (o : VA)
  /-- VFMUL (R147): FP32 vector multiply. -/
  | vfmul (o : VA)
  /-- VFMA (R147): FP32 vector fused multiply-add. -/
  | vfma (o : VA)
  /-- VFMS (R147): FP32 vector fused multiply-subtract. -/
  | vfms (o : VA)
  /-- VFMIN (R148): FP32 vector minimum with NaN giving canonical NaN. -/
  | vfmin (o : VA)
  /-- VFMAX (R148): FP32 vector maximum. -/
  | vfmax (o : VA)
  /-- VFABS (R148): FP32 vector absolute value. -/
  | vfabs (o : VA)
  /-- VFNEG (R148): FP32 vector negate. -/
  | vfneg (o : VA)
  /-- VFCMP (R149): FP32 vector compare writing a lane mask. -/
  | vfcmp (o : VA)
  /-- VRCP (R150): Correctly rounded FP32 reciprocal. -/
  | vrcp (o : VA)
  /-- VRSQ (R150): Correctly rounded FP32 reciprocal square root. -/
  | vrsq (o : VA)
  /-- VSQRT (R150): Correctly rounded FP32 square root. -/
  | vsqrt (o : VA)
  /-- VEXP2 (R150): Correctly rounded FP32 power of two. -/
  | vexp2 (o : VA)
  /-- VLOG2 (R150): Correctly rounded FP32 base-2 logarithm. -/
  | vlog2 (o : VA)
  /-- VFADD_H (R147): FP16 or BF16 vector add. -/
  | vfaddH (o : VA)
  /-- VFSUB_H (R147): FP16 or BF16 vector subtract. -/
  | vfsubH (o : VA)
  /-- VFMUL_H (R147): FP16 or BF16 vector multiply. -/
  | vfmulH (o : VA)
  /-- VFMA_H (R147): FP16 or BF16 vector fused multiply-add. -/
  | vfmaH (o : VA)
  /-- VFMS_H (R147): FP16 or BF16 vector fused multiply-subtract. -/
  | vfmsH (o : VA)
  /-- VFMIN_H (R148): FP16 or BF16 vector minimum. -/
  | vfminH (o : VA)
  /-- VFMAX_H (R148): FP16 or BF16 vector maximum. -/
  | vfmaxH (o : VA)
  /-- VFABS_H (R148): FP16 or BF16 vector absolute value. -/
  | vfabsH (o : VA)
  /-- VFNEG_H (R148): FP16 or BF16 vector negate. -/
  | vfnegH (o : VA)
  /-- VFCMP_H (R149): FP16 or BF16 vector compare to a lane mask. -/
  | vfcmpH (o : VA)
  /-- VCVT (R151): Converts elements between formats with a rounding mode and part placement. -/
  | vcvt (o : VA)
  /-- VCVT_RS (R152): Converts elements under stochastic rounding from SRSEED and an index vector. -/
  | vcvtRs (o : VA)
  /-- VQNT (R154): Quantises with a record scale word, counting overflows and possibly raising the rescale trap. -/
  | vqnt (o : VA)
  /-- VDQNT (R156): Dequantises by a record scale. -/
  | vdqnt (o : VA)
  /-- VRSUM (R159): Integer tree sum into the low 32 bits. -/
  | vrsum (o : VA)
  /-- VRMAX (R159): Integer tree maximum. -/
  | vrmax (o : VA)
  /-- VRMIN (R159): Integer tree minimum. -/
  | vrmin (o : VA)
  /-- VSCAN (R160): Inclusive sequential integer scan. -/
  | vscan (o : VA)
  /-- VRSUM_F (R159): Floating-point tree sum in FP32. -/
  | vrsumF (o : VA)
  /-- VRMAX_F (R159): Floating-point tree maximum. -/
  | vrmaxF (o : VA)
  /-- VRMIN_F (R159): Floating-point tree minimum. -/
  | vrminF (o : VA)
  /-- VSCAN_F (R160): Inclusive sequential FP32 scan. -/
  | vscanF (o : VA)
  /-- VPERM (R161): Permutes elements by index vector. -/
  | vperm (o : VA)
  /-- VBCAST (R161): Broadcasts one element. -/
  | vbcast (o : VA)
  /-- VSLIDE (R161): Slides elements across two registers up or down. -/
  | vslide (o : VA)
  /-- VSEL (R161): Selects per element by a lane mask. -/
  | vsel (o : VA)
  /-- VMOV (R161): Copies elements of a vector register. -/
  | vmov (o : VA)
  /-- VSPLAT (R161): Fills elements with an extended immediate. -/
  | vsplat (o : VA)
  /-- VLANE (R161): Writes element index plus an immediate. -/
  | vlane (o : VA)
  /-- VSTAT (R157): Sends a statistics delta of enabled elements to a record. -/
  | vstat (o : VA)
  /-- MOPA_NF (R223): Outer-product accumulate of NF operands. -/
  | mopaNf (o : MX)
  /-- MOPA_INT4 (R223): Outer-product accumulate of INT4 operands. -/
  | mopaInt4 (o : MX)
  /-- MOPA_INT8 (R223): Outer-product accumulate of INT8 operands. -/
  | mopaInt8 (o : MX)
  /-- MOPA_UINT8 (R223): Outer-product accumulate of UINT8 operands. -/
  | mopaUint8 (o : MX)
  /-- MOPA_F16 (R223): Outer-product accumulate of FP16 operands. -/
  | mopaF16 (o : MX)
  /-- MOPA_BF16 (R223): Outer-product accumulate of BF16 operands. -/
  | mopaBf16 (o : MX)
  /-- MOPA_F32 (R223): Outer-product accumulate of FP32 operands. -/
  | mopaF32 (o : MX)
  /-- MOPS_NF (R223): Outer-product subtract of NF operands. -/
  | mopsNf (o : MX)
  /-- MOPS_INT4 (R223): Outer-product subtract of INT4 operands. -/
  | mopsInt4 (o : MX)
  /-- MOPS_INT8 (R223): Outer-product subtract of INT8 operands. -/
  | mopsInt8 (o : MX)
  /-- MOPS_UINT8 (R223): Outer-product subtract of UINT8 operands. -/
  | mopsUint8 (o : MX)
  /-- MOPS_F16 (R223): Outer-product subtract of FP16 operands. -/
  | mopsF16 (o : MX)
  /-- MOPS_BF16 (R223): Outer-product subtract of BF16 operands. -/
  | mopsBf16 (o : MX)
  /-- MOPS_F32 (R223): Outer-product subtract of FP32 operands. -/
  | mopsF32 (o : MX)
  /-- MZERO (R225): Clears the selected row groups of an accumulator. -/
  | mzero (o : MC)
  /-- MCFG (R217): Writes one item of the matrix configuration for later bundles. -/
  | mcfg (o : MC)
  /-- MFENCE (R226): Orders later M, D, O and E operations after earlier M, D and O operations. -/
  | mfence (o : MC)
  /-- DRAIN (R235): Converts a row group of an accumulator into handle rows. -/
  | drain (o : DR)
  /-- DRAIN_M (R238): Converts a row group of an accumulator into memory rows. -/
  | drainM (o : DR)
  /-- DRAINV (R235): Converts a piece of an accumulator row into a vector register. -/
  | drainv (o : DR)
  /-- FILL (R236): Loads a row group of an accumulator from handle rows. -/
  | fill (o : DR)
  /-- FILL_M (R236): Loads a row group of an accumulator from memory. -/
  | fillM (o : DR)
  /-- FILLV (R236): Loads a piece of an accumulator row from a vector register. -/
  | fillv (o : DR)
  /-- DZERO (R236): Writes +0 to a row group of an accumulator. -/
  | dzero (o : DR)
  /-- OADAM_F32 (R242): Adam update of FP32 weights from an accumulator row group. -/
  | oadamF32 (o : OP)
  /-- OADAM_BF16 (R242): Adam update of BF16 weights. -/
  | oadamBf16 (o : OP)
  /-- OADAMW_F32 (R242): AdamW update of FP32 weights. -/
  | oadamwF32 (o : OP)
  /-- OADAMW_BF16 (R242): AdamW update of BF16 weights. -/
  | oadamwBf16 (o : OP)
  /-- OLION_F32 (R242): Lion update of FP32 weights. -/
  | olionF32 (o : OP)
  /-- OLION_BF16 (R242): Lion update of BF16 weights. -/
  | olionBf16 (o : OP)
  /-- OSGDM_F32 (R242): SGD with momentum update of FP32 weights. -/
  | osgdmF32 (o : OP)
  /-- OSGDM_BF16 (R242): SGD with momentum update of BF16 weights. -/
  | osgdmBf16 (o : OP)
  /-- OCLIP (R245): Clips every accumulator element to plus or minus CLIPV. -/
  | oclip (o : OP)
  /-- OSCALE (R245): Multiplies every accumulator element by GSCALE. -/
  | oscale (o : OP)
  /-- CPY (R282): Copies LEN bytes per nest visit, optionally sending a record delta. -/
  | cpy (o : EJ)
  /-- CPYQ (R283): Quantising copy using a record's closed-half scale. -/
  | cpyq (o : EJ)
  /-- GATH (R284): Gathers indexed elements. -/
  | gath (o : EJ)
  /-- SCAT (R284): Scatters elements to indexed places. -/
  | scat (o : EJ)
  /-- GATH_K (R284): Gathers indexed elements from a capability object. -/
  | gathK (o : EJ)
  /-- SCAT_K (R284): Scatters elements into a capability object. -/
  | scatK (o : EJ)
  /-- BGET (R285): Bulk get of object bytes to local memory. -/
  | bget (o : EJ)
  /-- BWR (R285): Bulk provisional write of local bytes to an object. -/
  | bwr (o : EJ)
  /-- BRED (R286): Sends held reduction contributions folded at the milestone. -/
  | bred (o : EJ)
  /-- GRED (R288): Contributes to the current phase of a pool group. -/
  | gred (o : EJ)
  /-- GMLD (R289): Loads a completed group phase's FP32 results. -/
  | gmld (o : EJ)
  /-- GRPSET (R287): Registers this module as a member of a pool group. -/
  | grpset (o : EJ)
  /-- MSEND (R292): Sends DATA bytes to a peer's inbound window inside a slack window. -/
  | msend (o : EJ)
  /-- ENQ (R293): Sends an ENQ that readies or creates a task at a peer. -/
  | enq (o : EJ)
  /-- ARRIVE (R294): Sends an ARRIVE lowering a peer task's counter. -/
  | arrive (o : EJ)
  /-- TDEC (R296): Lowers a local task counter as a release. -/
  | tdec (o : EJ)
  /-- TSPAWN (R297): Creates a task record from a launch record. -/
  | tspawn (o : EJ)
  /-- SCLOSE (R298): Swaps the halves of listed statistics records. -/
  | sclose (o : EJ)
  /-- SREAD (R299): Reads a record's closed half as a scale word or raw. -/
  | sread (o : EJ)
  /-- SREAD_O (R299): Reads a record's open half. -/
  | sreadO (o : EJ)
  /-- SALLOC (R300): Allocates a statistics record. -/
  | salloc (o : EJ)
  /-- SFREE (R300): Frees listed statistics records. -/
  | sfree (o : EJ)
  /-- LACQ (R301): Requests a read or write lease. -/
  | lacq (o : EJ)
  /-- LREL (R301): Releases leases naming the range exactly. -/
  | lrel (o : EJ)
  /-- REALIGN (R488): Exchanges counter samples with peers and trims the slot timing. -/
  | realign (o : EJ)
  /-- MSTONE (R303): Asks for the milestone of the current step. -/
  | mstone (o : EJ)
  /-- WMARM (R214): Arms a waymark with a target and clears its count and error. -/
  | wmarm (o : EJ)
  /-- LANDING (R28): A landing-queue entry's remaining count reaches zero and its value is written. -/
  | landing (c : Nat)
  /-- LOOP_END_MARK (R110): After the marked bundle's last repetition the nest counters step and the body replays or the nest closes. -/
  | loopEndMark (c : Nat)
  /-- SEGMENT_BOUNDARY_MARK (R53): A marked bundle asks for a background copy of the successor segment. -/
  | segmentBoundaryMark (c : Nat)
  /-- SEGMENT_MISS (R273): A context needs a non-resident segment, stalls, and a copy is started or the segment fault raised. -/
  | segmentMiss (c : Nat)
  /-- SEGMENT_COPY_COMPLETE (R271): A 64 KiB segment copy completes and the frame becomes resident. -/
  | segmentCopyComplete (core frame : Nat)
  /-- JUNCTION_CYCLE (R248): Each cycle the issue stage chooses a primary and a mergeable secondary. -/
  | junctionCycle (core : Nat)
  /-- ROTATION_REBASE (R249): At CYCLES mod 64 = 0 the rotation pointer is re-based. -/
  | rotationRebase (core : Nat)
  /-- HIDDEN_RESULT_WRITE (R32): A hidden-latency result returns, is written and clears the busy bit. -/
  | hiddenResultWrite (c id : Nat)
  /-- HALLOC_COMPLETE (R194): A pending halloc completes bound with zeroed storage or unbound with FAILED. -/
  | hallocComplete (c h : Nat)
  /-- HANDLE_STORAGE_RELEASE (R194): Storage of an hfreed handle returns when its engine operations finish. -/
  | handleStorageRelease (c h : Nat)
  /-- MATRIX_OP_COMPLETE (R223): A mopa or mops finishes its accumulation and ORs its flags. -/
  | matrixOpComplete (c id : Nat)
  /-- DRAIN_OP_COMPLETE (R237): A drain or fill completes and a drain with REC sends its delta. -/
  | drainOpComplete (c id : Nat)
  /-- OPTIMISER_OP_COMPLETE (R244): An optimiser form completes, sending its delta and possibly making a trap pending. -/
  | optimiserOpComplete (c id : Nat)
  /-- OPTIMISER_TRAP_TAKEN (R246): A pending optimiser arithmetic trap is taken at the next bundle boundary. -/
  | optimiserTrapTaken (c : Nat)
  /-- ENGINE_JOB_COMPLETE (R276): An E-slot job makes its last report and writes its result with a completion status. -/
  | engineJobComplete (c id : Nat)
  /-- WAYMARK_REPORT (R213): An engine report adds bytes to a waymark and may advance its generation. -/
  | waymarkReport (core addr bytes status : Nat)
  /-- PAGE_FAULT (R169): An after-issue page or memory-side fault is reported and the context freezes. -/
  | pageFault (c id : Nat)
  /-- TILE_RETIRED (R122): A RETIRING context becomes FREE once none of its operations remains. -/
  | tileRetired (c : Nat)
  /-- CONTEXT_SWITCH_START (R256): A walker holding a higher-priority tile stops a victim context at a bundle boundary. -/
  | contextSwitchStart (w core : Nat)
  /-- SPILL_SAVE (R257): Once the victim's operations drain, its state is saved to a spill area and the partition freed. -/
  | spillSave (c : Nat)
  /-- REFILL (R323): A spilled context is restored into its partition and made RUNNING. -/
  | refill (c : Nat)
  /-- WALKER_ASSIGN (R345): The front end gives a newly dispatched task a free walker. -/
  | walkerAssign (task : Nat)
  /-- WALKER_UPDATE (R346): Each cycle a walker issues its next tile to an eligible context. -/
  | walkerUpdate (w : Nat)
  /-- FORK_REQUEST (R349): A core with an unoffered eligible context requests a fork from a qualifying walker. -/
  | forkRequest (die : Nat)
  /-- WALKER_SAVE (R351): A walker is saved into its task record for a higher-priority task. -/
  | walkerSave (w : Nat)
  /-- WALKER_RESTORE (R352): A saved walker entry is restored into a free walker. -/
  | walkerRestore (task : Nat)
  /-- TASK_DONE (R443): A finished task decrements its successors and writes its completion. -/
  | taskDone (task : Nat)
  /-- DISPATCH (R445): A free walker receives the head task of the ready queue with ageing. -/
  | dispatch
  /-- CLUSTER_CACHE_WRITEBACK (R328): A cluster cache writes back the dirty bytes of a line. -/
  | clusterCacheWriteback (cl line : Nat)
  /-- CLUSTER_CACHE_ECC_ERROR (R330): A soft error in the cluster cache is corrected or poisons dirty bytes. -/
  | clusterCacheEccError (cl line chunk : Nat) (correctable : Bool)
  /-- BARRIER_UPDATE (R336): Once per cycle a barrier applies CONFIG, arrivals and drops and may complete a phase. -/
  | barrierUpdate (cl b : Nat)
  /-- ATOMIC_PLACEMENT_NEAR (R385): Eight consecutive atomics from one cluster lend line ownership near. -/
  | atomicPlacementNear (line cl : Nat)
  /-- OWNERSHIP_RECALL (R385): An access from another cluster recalls a lent line, possibly returning it to FAR. -/
  | ownershipRecall (line : Nat)
  /-- LLC_ECC_ERROR (R383): A soft error in an LLC chunk is corrected, refetched or poisons bytes. -/
  | llcEccError (line chunk : Nat) (correctable : Bool)
  /-- TRANSLATION_INVALIDATE_ACK (R388): A slice acknowledges a page-table invalidation after its old translations complete. -/
  | translationInvalidateAck (slice : Nat)
  /-- MIGRATION_COPY_COMPLETE (R390): A MIGRATE copy finishes, the leaf is rewritten and held writes apply to the new page. -/
  | migrationCopyComplete (ia : Nat)
  /-- HINT_WINDOW_CHECK (R392): A 4,096-lookup window closes and a contradicting hint posts a report. -/
  | hintWindowCheck (slice task entry misses : Nat)
  /-- DELTA_MERGE (R368): A statistics delta merges as a unit into a record's open half. -/
  | deltaMerge (n : Nat)
  /-- LEASE_GRANT (R422): The pool grants a requested lease. -/
  | leaseGrant (lease : Nat) (granted : Bool)
  /-- LEASE_RENEWAL (R423): The hardware renews a lease 1 ms after grant or renewal. -/
  | leaseRenewal (lease : Nat) (accepted : Bool)
  /-- LEASE_END (R423): A lease is treated as ended and its frames are evicted. -/
  | leaseEnd (lease : Nat)
  /-- LEASE_RECALL (R424): A CTRL recall evicts frames, waits for acknowledgements and releases the lease. -/
  | leaseRecall (objid lo len : Nat)
  /-- ROUTE_SHEET_ENTRY (R427): The prefetch engine processes one route-sheet entry. -/
  | routeSheetEntry (asid step entry : Nat)
  /-- ROUTE_RECORD_RETRY (R428): When a step becomes oldest, its failed record entries are retried once. -/
  | routeRecordRetry (asid step : Nat)
  /-- QUEUE_FETCH (R436): A firmware circuit stop fetches packets whose phase matches. -/
  | queueFetch (q : Nat)
  /-- QUEUE_HINT_WRITE (R437): A HINT write is ignored, accepted, or puts the queue in RING_OVERRUN. -/
  | queueHintWrite (q : Nat) (v : Word32)
  /-- QUEUE_RESET (R438): A RESET write returns the queue to DISABLED with counts cleared. -/
  | queueReset (q : Nat)
  /-- QUEUE_EN_WRITE (R435): An EN write enables or disables a queue. -/
  | queueEnWrite (q : Nat) (en : Bool)
  /-- REGISTER_WRITE (R11): A write to a register field with no behaviour of its own sets the field. -/
  | registerWrite (func off : Nat) (v : Word)
  /-- LAUNCH (R442): Creates a task record from a launch record. -/
  | launch (h : PktHdr) (lrec id : Nat) (any : Bool) (step : Word)
  /-- READY (R440): Sets a task counter to zero. -/
  | ready (h : PktHdr) (id : Nat)
  /-- DEC (R443): Lowers a task counter by N. -/
  | dec (h : PktHdr) (id n : Nat)
  /-- TEMPLATE (R443): Installs a template for ENQ mode 1. -/
  | template (h : PktHdr) (tid lrec tcmpl : Nat)
  /-- ROUTE (R426): Publishes a route sheet. -/
  | route (h : PktHdr) (sheet : Nat)
  /-- ASPACE (R444): Installs or tears down an address space. -/
  | aspace (h : PktHdr) (asid cls : Nat) (teardown : Bool) (recQuota desc : Nat)
  /-- QUOTA (R416): Writes the limits of a quota class. -/
  | quota (h : PktHdr) (cls : Nat) (w0 w1 : Word)
  /-- CONFIG (R414): Resizes the pool cache and the spill pool. -/
  | config (h : PktHdr) (size spillBase areas : Nat)
  /-- MAP (R417): Maps a page and charges its quota. -/
  | map (h : PktHdr) (ia pa size tier : Nat) (r w : Bool) (asid : Nat)
  /-- UNMAP (R516): Removes leaves from a range after writeback. -/
  | unmap (h : PktHdr) (ia size : Nat)
  /-- PROTECT (R516): Changes the rights of leaves in a range. -/
  | protect (h : PktHdr) (ia size : Nat) (r w : Bool)
  /-- MIGRATE (R390): Starts moving a page between device tiers. -/
  | migrate (h : PktHdr) (ia pa size tier : Nat) (asid : Nat)
  /-- SEGTAB (R446): Installs a segment table for a code object. -/
  | segtab (h : PktHdr) (code table count : Nat)
  /-- REC_ALLOC (R364): Allocates a statistics record. -/
  | recAlloc (h : PktHdr) (recid : Nat) (any : Bool) (policy : BitVec 8)
  /-- REC_FREE (R364): Frees a statistics record. -/
  | recFree (h : PktHdr) (recid : Nat)
  /-- RESUME (R317): Resumes a frozen context after reissuing its suspended units. -/
  | resume (h : PktHdr) (ctx : Nat) (setPc : Bool) (pc : Nat) (regs : List (Nat × Word))
  /-- ABANDON (R318): Abandons a frozen context. -/
  | abandon (h : PktHdr) (ctx : Nat)
  /-- SWITCH (R256): Requests a full context switch of a running context. -/
  | switch (h : PktHdr) (ctx : Nat)
  /-- WSAVE (R351): Requests the save of a walker. -/
  | wsave (h : PktHdr) (walker : Nat)
  /-- FENCE_PACKET (R440): Completes when every earlier packet of the queue has completed. -/
  | fencePacket (h : PktHdr)
  /-- NOP_PACKET (R440): Completes at once. -/
  | nopPacket (h : PktHdr)
  /-- FWUPDATE (R451): Checks and stores a signed firmware image as pending. -/
  | fwupdate (h : PktHdr) (image bytes : Nat)
  /-- EVENT_RING_CONFIG_WRITE (R519): A write to EVBASE or EVLOG2N resets the ring counts. -/
  | eventRingConfigWrite (log2n : Bool) (v : Word)
  /-- HELD_FAULT_RECORD_WRITE (R448): A held fault record is written once the ring has room. -/
  | heldFaultRecordWrite
  /-- WATCHDOG_EXPIRY (R450): A firmware lap over 100 µs stops fetching and posts error 0xFFFF. -/
  | watchdogExpiry (stop : Nat)
  /-- PARITY_ERROR (R450): A firmware memory parity error stops fetching and posts error 0xFFFF. -/
  | parityError (stop : Nat)
  /-- QOWNER_WRITE (R454): A write assigns a queue to a function unless ignored or frozen. -/
  | qownerWrite (q : Nat) (v : Word)
  /-- LOCK_INTERFACE_REQUEST (R458): Moves a device interface to CONFIG_LOCKED. -/
  | lockInterfaceRequest (vf : Nat)
  /-- START_INTERFACE_REQUEST (R458): Moves a locked interface to RUN. -/
  | startInterfaceRequest (vf : Nat) (nonce : Word)
  /-- STOP_INTERFACE_REQUEST (R461): Scrubs and unlocks a device interface. -/
  | stopInterfaceRequest (vf : Nat)
  /-- GET_DEVICE_INTERFACE_REPORT (R462): Returns the device interface report. -/
  | getDeviceInterfaceReport (vf : Nat)
  /-- IDE_INTEGRITY_FAILURE (R458): An IDE integrity failure moves the interface to ERROR. -/
  | ideIntegrityFailure (vf : Nat)
  /-- FUNCTION_LEVEL_RESET (R458): Resets a VF, moving a locked interface to ERROR. -/
  | functionLevelReset (vf : Nat)
  /-- SPDM_ALGORITHM_NEGOTIATION (R463): The SPDM responder accepts only its listed algorithms. -/
  | spdmAlgorithmNegotiation (sig hash kex aead : Nat)
  /-- SNPINV (R456): A host invalidating snoop returns dirty data and invalidates the granule. -/
  | snpinv (granule : Nat)
  /-- SNPDATA (R456): A host data snoop returns dirty data and leaves the granule shared. -/
  | snpdata (granule : Nat)
  /-- CXL_CAPACITY_EVICTION (R456): The host-coherence agent evicts a granule. -/
  | cxlCapacityEviction (granule : Nat)
  /-- HOST_HDM_ACCESS (R457): A host CXL.mem access is performed at the LLC. -/
  | hostHdmAccess (write : Bool) (ia n : Nat) (data : VWord)
  /-- COLD_START (R469): Power-on runs the full start sequence with training and calibration. -/
  | coldStart (ok : Bool)
  /-- WARM_START (R469): A warm start uses stored values and may run a pending image. -/
  | warmStart (ok : Bool)
  /-- WARM (R473): A DVSEC WARM write requests a warm start. -/
  | warm
  /-- GO (R474): In recovery mode reads and checks a pushed image. -/
  | go
  /-- START_TIMEOUT (R472): A cold start not at full service within 30 s fails and counts. -/
  | startTimeout
  /-- TOL_WRITE (R475): A latency tolerance write may wake the module and reselect the power state. -/
  | tolWrite (v : Word32)
  /-- POWER_STATE_ENTRY (R475): The module enters the deepest allowed power state. -/
  | powerStateEntry
  /-- POWER_STATE_WAKE (R475): A wake event returns the module to PS0. -/
  | powerStateWake (bar0 fabric : Bool)
  /-- THROTTLE_STEP (R476): Every 1 ms the core clock steps down or up by temperature. -/
  | throttleStep (temp : BitVec 8)
  /-- THERMAL_TRIP (R476): At 110 °C the module abandons every context and removes power. -/
  | thermalTrip (temp : BitVec 8)
  /-- SLOT_BOUNDARY (R477): The slot counter advances and the slot's flits are sent. -/
  | slotBoundary
  /-- FLIT_RECEIVE (R487): A received flit is accepted or refused by the elastic buffer and acknowledged. -/
  | flitReceive (port : Nat) (f : Flit)
  /-- FLIT_FORWARD (R482): An intermediate forwards first-hop flits to their destination. -/
  | flitForward
  /-- FRAME_PULSE (R484): A frame pulse and time code update port health and lock. -/
  | framePulse (port : Nat) (valid : Bool) (frame : Nat)
  /-- RELOCK (R486): A healthy port ends holdover and the counter slews or is set. -/
  | relock (port frame : Nat) (inGuard : Bool)
  /-- PHASE2_ENTRY (R485): After 250 ms of holdover the module enters phase 2. -/
  | phase2Entry
  /-- NOSYNC_ENTRY (R485): After 2.25 s of holdover the module enters NOSYNC. -/
  | nosyncEntry
  /-- HOLDOVER_EXCHANGE (R485): Every 64 frames in phase 2 the module exchanges samples and trims. -/
  | holdoverExchange (offs : List Int)
  /-- PORT_PAUSE (R493): A port that loses optical lock pauses. -/
  | portPause (p : Nat)
  /-- PORT_RETRAIN (R493): A paused port retrains and resends its flits. -/
  | portRetrain (p : Nat)
  /-- PORT_FENCE (R494): A pause over its limit fences the port and its flits are resent elsewhere. -/
  | portFence (p : Nat)
  /-- PORT_REJOIN (R493): A fenced port rejoins after 64 error-free frames. -/
  | portRejoin (p : Nat)
  /-- DATA_RECEIVE (R489): A DATA flit is written into the window and PREFIX advances. -/
  | dataReceive (f : Flit)
  /-- ENQ_RECEIVE (R293): An ENQ arrives and is held or acted on. -/
  | enqReceive (f : Flit)
  /-- ARRIVE_RECEIVE (R294): An ARRIVE arrives and is held or acted on. -/
  | arriveReceive (f : Flit)
  /-- HELD_MESSAGE_RELEASE (R489): A held ENQ or ARRIVE is acted on once PREFIX reaches its count. -/
  | heldMessageRelease (src stream : Nat)
  /-- STREAM_ABORT (R489): A STREAM_ABORT raises PREFIX and rejects held messages. -/
  | streamAbort (src stream count : Nat)
  /-- MEMBERSHIP_ADD (R490): A membership ADD resets stream state for a peer or this module. -/
  | membershipAdd (epoch id : Nat)
  /-- MEMBERSHIP_REMOVE (R506): A membership REMOVE rejects jobs to a peer or isolates this module. -/
  | membershipRemove (epoch id : Nat)
  /-- GROUP_PHASE_COMPLETE (R288): The pool completes a group phase and answers gred and gmld. -/
  | groupPhaseComplete (asid gid phase : Nat) (lost : Bool)
  /-- POOL_REJECT (R498): The pool rejects a message's seal, object or token. -/
  | poolReject (c id : Nat)
  /-- COMMIT_ANSWER (R503): The pool answers COMMIT and the milestone releases leases and posts its record. -/
  | commitAnswer (asid : Nat) (step : Word) (ok : Bool)
  /-- FROZEN_ITEM_WRITE (R459): A configuration or MMIO write to an item frozen for a locked or running VF is dropped and the interface enters ERROR. -/
  | frozenItemWrite (vf : Nat)
  /-- POOL_WRITE_ACKNOWLEDGEMENT (R421): The pool acknowledges a pool write, completing the store and letting releases, waits and the milestone proceed. -/
  | poolWriteAcknowledgement (c id : Nat)
  /-- CARRIER_MEMORY_ECC_ERROR (R415): A soft error in a carrier-memory chunk is corrected, refetched or poisons bytes under R383. -/
  | carrierMemoryEccError (ia : Nat) (correctable : Bool)
deriving DecidableEq, Repr

end Sys2Proof
end

