-- ==== Sys2Proof/Machine/Legal.lean ====
section
/-! DEFINITION. Which syllables are illegal by themselves: codes 5, 6 and 7 of R64, from R57 to R59 and from the description of each
instruction. -/

namespace Sys2Proof
open Sys2Proof.Machine

/-- What a form does with an extension word (R57). -/
inductive ExtRule where
  | forbid | permit | require
deriving DecidableEq, Repr

/-- Codes 5, 6 and 7 of R64 in this order. -/
def legalWith (rule : ExtRule) (ext : Option Word32) (six seven : Bool) : Option Nat :=
  let five : Bool :=
    match rule with
    | .forbid => ext.isSome
    | .permit => false
    | .require => ext.isNone
  if five then some 5 else if six then some 6 else if seven then some 7 else none

/-- Is a bit at or above `n` set in the extension word? -/
def extHigh (ext : Option Word32) (n : Nat) : Bool :=
  match ext with
  | some e => decide (2 ^ n ≤ e.toNat)
  | none => false

/-- The extension word as a number, 0 without one. -/
def extNat (ext : Option Word32) : Nat :=
  match ext with
  | some e => e.toNat
  | none => 0

/-- The PITCH of drain.m and fill.m (R234). -/
def DR.pitch (o : DR) : Nat := extNat o.ext

/-- The new-value register of a cas, [4:0] of the extension word (R185). -/
def AT.newReg (o : AT) : Nat := extNat o.ext % 32

/-- The CSR numbers assigned in R21. -/
def csrAssigned (n : Nat) : Bool :=
  n ≤ 4 || n == 8 || (16 ≤ n && n ≤ 19) || (24 ≤ n && n ≤ 28) || (32 ≤ n && n ≤ 35) || (256 ≤ n && n ≤ 319)

/-- The CSR numbers with write access (R21, R308). -/
def csrWritable (n : Nat) : Bool :=
  n == 16 || n == 17 || n == 18 || (24 ≤ n && n ≤ 28) || n == 33 || n == 35

/-- The condition codes of R132. -/
def fcondOk (c : Nat) : Bool := c ≤ 3 || c == 6 || c == 7 || c == 10 || c == 11

/-- Integer element types (R141). -/
def intTy (t : BitVec 5) : Bool := t == 3 || t == 4 || (6 ≤ t.toNat && t.toNat ≤ 9)
/-- Unsigned integer element types. -/
def uTy (t : BitVec 5) : Bool := t == 4 || t == 7 || t == 9
/-- FP32. -/
def f32Ty (t : BitVec 5) : Bool := t == 0
/-- FP16 and BF16. -/
def hTy (t : BitVec 5) : Bool := t == 1 || t == 2
/-- FP32, FP16 and BF16. -/
def fsrcTy (t : BitVec 5) : Bool := t.toNat ≤ 2
/-- Types of width 8, 16 or 32 of the integer and FP32 rows (R141). -/
def moveTy (t : BitVec 5) : Bool := intTy t || t.toNat == 0
/-- The sources of vstat (R141). -/
def statTy (t : BitVec 5) : Bool := t.toNat ≤ 2 || fmtIsNf t.toNat
/-- The quantised formats INT8, UINT8, INT4 and 0x10 to 0x17. -/
def quantFmt (c : Nat) : Bool := c == 3 || c == 4 || c == 5 || fmtIsNf c

/-- Element width of a type of fixed width (R141). -/
def tyWidth (t : BitVec 5) : Nat := fmtWidth (fun _ => 0) t.toNat
/-- Element count of a type of fixed width (R141). -/
def tyCount (t : BitVec 5) : Nat := 1024 / tyWidth t

/-- DFMT of a conversion's mod field (R151). -/
def cvtFmt (o : VA) : Nat := o.mod.toNat % 32
/-- MODE of a conversion's mod field. -/
def cvtMode (o : VA) : Nat := o.mod.toNat / 32 % 8
/-- SATF of a conversion's mod field. -/
def cvtSat (o : VA) : Bool := o.mod.getLsbD 8
/-- PART of a conversion's mod field. -/
def cvtPart (o : VA) : Nat := o.mod.toNat / 512 % 4

/-- vc and pc are zero (R59). -/
def vbOnly (o : VA) : Bool := o.vc == 0 && o.pc == 0
/-- vb, pb, vc and pc are zero (R59). -/
def noB (o : VA) : Bool := o.vb == 0 && o.pb == 0 && vbOnly o

/-! ## One check per format (R58) -/

/-- NO. -/
def noLegal (o : NO) : Option Nat := legalWith .forbid o.ext (o.z != 0) false
/-- BO. -/
def boLegal (o : BO) : Option Nat := legalWith .permit o.ext (o.ext.isSome && o.off != 0) false
/-- BP. -/
def bpLegal (o : BP) : Option Nat := legalWith .permit o.ext (o.ext.isSome && o.off != 0) false
/-- RG. -/
def rgLegal (o : RG) : Option Nat := legalWith .forbid o.ext (o.z != 0) false
/-- LP: lc index 6 or 7 is code 7 (R107). -/
def lpLegal (o : LP) : Option Nat := legalWith .permit o.ext (o.ext.isSome && o.imm != 0) (5 < o.lc.toNat)
/-- CS of csrr and csrw (R21, R117). -/
def csLegal (o : CS) (write : Bool) : Option Nat :=
  legalWith .forbid o.ext (o.z != 0) (!(if write then csrWritable o.num.toNat else csrAssigned o.num.toNat))
/-- CS of csrw.i. -/
def csiLegal (o : CS) : Option Nat := legalWith .require o.ext (o.z != 0 || o.s != 0) (!csrWritable o.num.toNat)
/-- FW. -/
def fwLegal (o : FW) : Option Nat := legalWith .permit o.ext (o.z != 0 || (o.ext.isSome && o.s != 0)) false
/-- PL; pnot leaves pb zero (R119). -/
def plLegal (o : PL) (one : Bool) : Option Nat := legalWith .forbid o.ext (o.z != 0 || (one && o.pb != 0)) false
/-- TC. -/
def tcLegal (o : TC) : Option Nat := legalWith .forbid o.ext false false
/-- WT, with the fields its form leaves zero (R133). -/
def wtLegal (o : WT) (six : Bool) : Option Nat := legalWith .permit o.ext six false
/-- SP (R138). -/
def spLegal (o : SP) : Option Nat := legalWith .forbid o.ext (o.z != 0 || o.g != 0) (4 < o.scope.toNat)
/-- SR. -/
def srLegal (o : SR) (six seven : Bool) : Option Nat := legalWith .forbid o.ext six seven
/-- SI; a shift amount outside 0 to 63 is code 7 (R127). -/
def siLegal (o : SI) (shift : Bool) : Option Nat :=
  let out : Bool :=
    match o.ext with
    | some e => decide (63 < e.toNat)
    | none => decide (63 < o.imm.toNat)
  legalWith .permit o.ext (o.ext.isSome && o.imm != 0) (shift && out)
/-- SC (R128). -/
def scLegal (o : SC) : Option Nat :=
  legalWith .permit o.ext (o.z != 0 || (o.ext.isSome && o.imm != 0)) (9 < o.cond.toNat)
/-- MV. -/
def mvLegal (o : MV) : Option Nat := legalWith .permit o.ext (o.ext.isSome && o.imm != 0) false
/-- XV (R130). -/
def xvLegal (o : XV) (six seven : Bool) : Option Nat := legalWith .forbid o.ext six seven
/-- LA (R171). -/
def laLegal (o : LA) (six : Bool) : Option Nat := legalWith .permit o.ext (six || (o.ext.isSome && o.imm != 0)) false
/-- LT (R172). -/
def ltLegal (o : LT) (six : Bool) : Option Nat := legalWith .permit o.ext (six || (o.ext.isSome && o.col != 0)) false
/-- LM (R175). -/
def lmLegal (o : LM) (six seven : Bool) : Option Nat := legalWith .permit o.ext (six || (o.ext.isSome && o.off != 0)) seven
/-- LH (R193, R195). -/
def lhLegal (o : LH) (six seven : Bool) : Option Nat := legalWith .permit o.ext six seven
/-- SM (R174, R180). -/
def smLegal (o : SM) (six seven : Bool) : Option Nat := legalWith .permit o.ext (six || (o.ext.isSome && o.off != 0)) seven
/-- AT of amo and red (R183, R186). -/
def atLegal (o : AT) (seven : Bool) : Option Nat := legalWith .permit o.ext (o.z != 0 || extNat o.ext % 256 != 0) seven
/-- AT of cas (R185). -/
def casLegal (o : AT) (seven : Bool) : Option Nat := legalWith .require o.ext (o.z != 0 || extNat o.ext / 32 % 8 != 0) seven
/-- FB (R190). -/
def fbLegal (o : FB) (six seven : Bool) : Option Nat := legalWith .forbid o.ext (six || o.z != 0) seven
/-- VA (R140). -/
def vaLegal (o : VA) (rule : ExtRule) (six seven : Bool) : Option Nat := legalWith rule o.ext six seven
/-- MX (R219). -/
def mxLegal (o : MX) (fixed noScale : Bool) : Option Nat :=
  legalWith .require o.ext (o.z != 0 || extNat o.ext % 2 ^ 18 != 0 || (fixed && (o.fmtA != 0 || o.fmtB != 0)))
    (noScale && o.bs)
/-- mzero (R225). -/
def mzeroLegal (o : MC) : Option Nat :=
  legalWith .permit o.ext (256 ≤ o.imm.toNat || (o.ext.isSome && o.imm != 0) || extHigh o.ext 8) false
/-- Item of mcfg (R217). -/
def mcfgItem (o : MC) : Nat := match o.ext with | some e => e.toNat / 2 ^ 28 | none => o.imm.toNat / 2 ^ 12
/-- Value of mcfg (R217). -/
def mcfgValue (o : MC) : Nat := match o.ext with | some e => e.toNat % 2 ^ 28 | none => o.imm.toNat % 2 ^ 12
/-- mcfg (R217). -/
def mcfgLegal (o : MC) : Option Nat :=
  legalWith .permit o.ext (o.acc != 0 || (o.ext.isSome && o.imm != 0))
    (4 < mcfgItem o || (if mcfgItem o = 4 then 2 ^ 6 ≤ mcfgValue o else 2 ^ 16 ≤ mcfgValue o))
/-- mfence (R226): an extension word is code 6. -/
def mfenceLegal (o : MC) : Option Nat := legalWith .permit o.ext (o.acc != 0 || o.imm != 0 || o.ext.isSome) false
/-- DR (R234). -/
def drLegal (o : DR) (rule : ExtRule) (six seven : Bool) : Option Nat := legalWith rule o.ext six seven
/-- OP (R240). -/
def opLegal (o : OP) (six : Bool) : Option Nat := legalWith .permit o.ext (six || o.z != 0 || extNat o.ext % 2 ^ 26 != 0) false
/-- EJ (R274). -/
def ejLegal (o : EJ) (rule : ExtRule) (six seven : Bool) : Option Nat := legalWith rule o.ext six seven

/-- The lowest of codes 5, 6 and 7 of R64 that a syllable meets by itself; none for a legal one, and for an event. What depends on
the context (R109, R121, R151 with a format register) is checked as the bundle issues. -/
def Instr.illegal : Instr → Option Nat
  | .nop o => noLegal o
  | .br o => boLegal o
  | .brp o => bpLegal o
  | .brl o => boLegal o
  | .ret o => noLegal o
  | .jmp o => rgLegal o
  | .jmpL o => rgLegal o
  | .loop o => lpLegal o
  | .loopn o => lpLegal o
  | .fmtw o => fwLegal o
  | .csrr o => csLegal o false
  | .csrw o => csLegal o true
  | .csrwI o => csiLegal o
  | .pand o => plLegal o false
  | .por o => plLegal o false
  | .pxor o => plLegal o false
  | .pnot o => plLegal o true
  | .trapC o => tcLegal o
  | .sysc o => tcLegal o
  | .rft o => noLegal o
  | .retire o => noLegal o
  | .yield o => noLegal o
  | .wait o => wtLegal o (o.ext.isSome && o.imm != 0)
  | .waitc o => wtLegal o (o.h != 0 || (o.ext.isSome && o.imm != 0))
  | .waitb o => wtLegal o (o.h != 0 || o.s != 0 || (o.ext.isSome && o.imm != 0) || extHigh o.ext 9)
  | .waitt o => wtLegal o (o.h != 0 || (o.ext.isSome && o.imm != 0))
  | .scope o => spLegal o
  | .add o => srLegal o (o.c != 0) false
  | .sub o => srLegal o (o.c != 0) false
  | .mul o => srLegal o (o.c != 0) false
  | .mulh o => srLegal o (o.c != 0) false
  | .mulhu o => srLegal o (o.c != 0) false
  | .div_ o => srLegal o (o.c != 0) false
  | .divu o => srLegal o (o.c != 0) false
  | .rem o => srLegal o (o.c != 0) false
  | .remu o => srLegal o (o.c != 0) false
  | .and_ o => srLegal o (o.c != 0) false
  | .or_ o => srLegal o (o.c != 0) false
  | .xor_ o => srLegal o (o.c != 0) false
  | .andn o => srLegal o (o.c != 0) false
  | .shl o => srLegal o (o.c != 0) false
  | .shr o => srLegal o (o.c != 0) false
  | .sra o => srLegal o (o.c != 0) false
  | .rol o => srLegal o (o.c != 0) false
  | .clz o => srLegal o (o.c != 0 || o.b != 0) false
  | .ctz o => srLegal o (o.c != 0 || o.b != 0) false
  | .popc o => srLegal o (o.c != 0 || o.b != 0) false
  | .min_ o => srLegal o (o.c != 0) false
  | .max_ o => srLegal o (o.c != 0) false
  | .minu o => srLegal o (o.c != 0) false
  | .maxu o => srLegal o (o.c != 0) false
  | .sel o => srLegal o (8 ≤ o.c.toNat) false
  | .cmp o => srLegal o (8 ≤ o.d.toNat) (9 < o.c.toNat)
  | .addW o => srLegal o (o.c != 0) false
  | .subW o => srLegal o (o.c != 0) false
  | .mulW o => srLegal o (o.c != 0) false
  | .divW o => srLegal o (o.c != 0) false
  | .divuW o => srLegal o (o.c != 0) false
  | .remW o => srLegal o (o.c != 0) false
  | .remuW o => srLegal o (o.c != 0) false
  | .shlW o => srLegal o (o.c != 0) false
  | .shrW o => srLegal o (o.c != 0) false
  | .sraW o => srLegal o (o.c != 0) false
  | .addi o => siLegal o false
  | .andI o => siLegal o false
  | .orI o => siLegal o false
  | .xorI o => siLegal o false
  | .shlI o => siLegal o true
  | .shrI o => siLegal o true
  | .sraI o => siLegal o true
  | .rolI o => siLegal o true
  | .cmpI o => scLegal o
  | .movi o => mvLegal o
  | .movhi o => mvLegal o
  | .xmovSl o => xvLegal o (o.port != 0 || o.sel != 0) (31 < o.d.toNat || 31 < o.a.toNat)
  | .xmovLs o => xvLegal o (o.port != 0 || o.sel != 0) (31 < o.d.toNat || 31 < o.a.toNat)
  | .xmovSv o => xvLegal o (o.port != 0) (31 < o.a.toNat || 3 < o.sel.toNat)
  | .xmovVs o => xvLegal o false (31 < o.d.toNat || 15 < o.sel.toNat)
  | .fadd o => srLegal o (8 ≤ o.c.toNat) (3 < o.c.toNat % 8)
  | .fmul o => srLegal o (8 ≤ o.c.toNat) (3 < o.c.toNat % 8)
  | .fcmp o => srLegal o (8 ≤ o.d.toNat) (!fcondOk o.c.toNat)
  | .fma o => srLegal o false false
  | .aadd o => laLegal o false
  | .aaddi o => laLegal o (o.b != 0)
  | .xmova o => laLegal o (o.b != 0 || o.imm != 0 || extHigh o.ext 0)
  | .lds8 o => ltLegal o (15 < o.d.toNat)
  | .lds16 o => ltLegal o (15 < o.d.toNat)
  | .lds32 o => ltLegal o (15 < o.d.toNat)
  | .lds64 o => ltLegal o (15 < o.d.toNat)
  | .ldv o => ltLegal o false
  | .ldvt o => ltLegal o false
  | .ldg8 o => lmLegal o false (48 ≤ o.d.toNat)
  | .ldg16 o => lmLegal o false (48 ≤ o.d.toNat)
  | .ldg32 o => lmLegal o false (48 ≤ o.d.toNat)
  | .ldg64 o => lmLegal o false (48 ≤ o.d.toNat)
  | .ldgV o => lmLegal o false false
  | .ldk32 o => lmLegal o false (48 ≤ o.d.toNat)
  | .ldk64 o => lmLegal o false (48 ≤ o.d.toNat)
  | .ldacq32 o => lmLegal o false (48 ≤ o.d.toNat)
  | .ldacq64 o => lmLegal o false (48 ≤ o.d.toNat)
  | .ldsc o => lmLegal o (3 < o.d.toNat) false
  | .halloc o => lhLegal o (o.h != 0 || (o.ext.isSome && o.a != 0)) (2 < o.sub.toNat)
  | .hfree o => lhLegal o (o.h != 0 || o.a != 0 || o.sub != 0 || extHigh o.ext 0) false
  | .hinfo o => lhLegal o (o.a != 0 || o.sub != 0 || extHigh o.ext 0) (31 < o.d.toNat)
  | .kderiveLd o => lhLegal o (o.h != 0 || 15 < o.d.toNat || extHigh o.ext 0) (o.sub != 0)
  | .kderiveRs o => lhLegal o (15 < o.h.toNat || 15 < o.d.toNat || extHigh o.ext 0) (o.sub != 1)
  | .kderiveSt o => lhLegal o (15 < o.h.toNat || o.d != 0 || extHigh o.ext 0) (o.sub != 2)
  | .kchk o => lhLegal o (15 < o.h.toNat || o.a != 0 || extHigh o.ext 0) (31 < o.d.toNat || o.sub != 0)
  | .pf o => lmLegal o false (2 < o.d.toNat)
  | .sts8 o => smLegal o (o.port != 0) false
  | .sts16 o => smLegal o (o.port != 0) false
  | .sts32 o => smLegal o (o.port != 0) false
  | .sts64 o => smLegal o (o.port != 0) false
  | .stv o => smLegal o false false
  | .stvt o => smLegal o false false
  | .stg8 o => smLegal o (o.port != 0) false
  | .stg16 o => smLegal o (o.port != 0) false
  | .stg32 o => smLegal o (o.port != 0) false
  | .stg64 o => smLegal o (o.port != 0) false
  | .stk32 o => smLegal o (o.port != 0) (15 < o.base.toNat)
  | .stk64 o => smLegal o (o.port != 0) (15 < o.base.toNat)
  | .strel32 o => smLegal o (o.port != 0) false
  | .strel64 o => smLegal o (o.port != 0) false
  | .amoAdd32 o => atLegal o false
  | .amoAdd64 o => atLegal o false
  | .amoAnd32 o => atLegal o false
  | .amoAnd64 o => atLegal o false
  | .amoOr32 o => atLegal o false
  | .amoOr64 o => atLegal o false
  | .amoXor32 o => atLegal o false
  | .amoXor64 o => atLegal o false
  | .amoMin32 o => atLegal o false
  | .amoMin64 o => atLegal o false
  | .amoMax32 o => atLegal o false
  | .amoMax64 o => atLegal o false
  | .amoMinu32 o => atLegal o false
  | .amoMinu64 o => atLegal o false
  | .amoMaxu32 o => atLegal o false
  | .amoMaxu64 o => atLegal o false
  | .amoSwap32 o => atLegal o false
  | .amoSwap64 o => atLegal o false
  | .cas32 o => casLegal o false
  | .cas64 o => casLegal o false
  | .cas128 o => casLegal o (o.d.toNat % 2 == 1 || o.data.toNat % 2 == 1 || AT.newReg o % 2 == 1)
  | .redAdd32 o => atLegal o (o.d != 0 || o.ord.toNat % 2 == 1)
  | .redAdd64 o => atLegal o (o.d != 0 || o.ord.toNat % 2 == 1)
  | .redAnd32 o => atLegal o (o.d != 0 || o.ord.toNat % 2 == 1)
  | .redAnd64 o => atLegal o (o.d != 0 || o.ord.toNat % 2 == 1)
  | .redOr32 o => atLegal o (o.d != 0 || o.ord.toNat % 2 == 1)
  | .redOr64 o => atLegal o (o.d != 0 || o.ord.toNat % 2 == 1)
  | .redXor32 o => atLegal o (o.d != 0 || o.ord.toNat % 2 == 1)
  | .redXor64 o => atLegal o (o.d != 0 || o.ord.toNat % 2 == 1)
  | .redMin32 o => atLegal o (o.d != 0 || o.ord.toNat % 2 == 1)
  | .redMin64 o => atLegal o (o.d != 0 || o.ord.toNat % 2 == 1)
  | .redMax32 o => atLegal o (o.d != 0 || o.ord.toNat % 2 == 1)
  | .redMax64 o => atLegal o (o.d != 0 || o.ord.toNat % 2 == 1)
  | .redMinu32 o => atLegal o (o.d != 0 || o.ord.toNat % 2 == 1)
  | .redMinu64 o => atLegal o (o.d != 0 || o.ord.toNat % 2 == 1)
  | .redMaxu32 o => atLegal o (o.d != 0 || o.ord.toNat % 2 == 1)
  | .redMaxu64 o => atLegal o (o.d != 0 || o.ord.toNat % 2 == 1)
  | .redFadd32 o => atLegal o (o.d != 0 || o.ord.toNat % 2 == 1)
  | .fence o => fbLegal o (o.base != 0 || o.len != 0 || o.obj != 0) (o.kind != 0)
  | .fenceRel o => fbLegal o (o.base != 0 || o.len != 0 || o.obj != 0) (o.kind != 1)
  | .fenceAcq o => fbLegal o (o.base != 0 || o.len != 0 || o.obj != 0) (o.kind != 2)
  | .bind o => fbLegal o false (4 < o.kind.toNat)
  | .unbind o => fbLegal o (o.len != 0) (4 < o.kind.toNat)
  | .vadd o => vaLegal o .require (!vbOnly o || o.mod != 0) (!intTy o.ty)
  | .vsub o => vaLegal o .require (!vbOnly o || o.mod != 0) (!intTy o.ty)
  | .vmul o => vaLegal o .require (!vbOnly o || o.mod != 0) (!intTy o.ty)
  | .vmulh o => vaLegal o .require (!vbOnly o || o.mod != 0) (!intTy o.ty)
  | .vand o => vaLegal o .require (!vbOnly o || o.mod != 0) (!intTy o.ty)
  | .vor o => vaLegal o .require (!vbOnly o || o.mod != 0) (!intTy o.ty)
  | .vxor o => vaLegal o .require (!vbOnly o || o.mod != 0) (!intTy o.ty)
  | .vandn o => vaLegal o .require (!vbOnly o || o.mod != 0) (!intTy o.ty)
  | .vshl o => vaLegal o .require (!vbOnly o || o.mod != 0) (!intTy o.ty)
  | .vshr o => vaLegal o .require (!vbOnly o || o.mod != 0) (!intTy o.ty)
  | .vsra o => vaLegal o .require (!vbOnly o || o.mod != 0) (!intTy o.ty)
  | .vmin o => vaLegal o .require (!vbOnly o || o.mod != 0) (!intTy o.ty)
  | .vmax o => vaLegal o .require (!vbOnly o || o.mod != 0) (!intTy o.ty)
  | .vminu o => vaLegal o .require (!vbOnly o || o.mod != 0) (!intTy o.ty)
  | .vmaxu o => vaLegal o .require (!vbOnly o || o.mod != 0) (!intTy o.ty)
  | .vabs o => vaLegal o .forbid false (!intTy o.ty || uTy o.ty)
  | .vneg o => vaLegal o .forbid false (!intTy o.ty)
  | .vcmp o => vaLegal o .require (!vbOnly o || 32 ≤ o.mod.toNat || 8 ≤ o.vd.toNat) (!intTy o.ty || 9 < o.mod.toNat % 32)
  | .vaddSat o => vaLegal o .require (!vbOnly o || o.mod != 0) (!intTy o.ty)
  | .vsubSat o => vaLegal o .require (!vbOnly o || o.mod != 0) (!intTy o.ty)
  | .vfadd o => vaLegal o .require (!vbOnly o || 8 ≤ o.mod.toNat) (!f32Ty o.ty || 3 < o.mod.toNat % 8)
  | .vfsub o => vaLegal o .require (!vbOnly o || 8 ≤ o.mod.toNat) (!f32Ty o.ty || 3 < o.mod.toNat % 8)
  | .vfmul o => vaLegal o .require (!vbOnly o || 8 ≤ o.mod.toNat) (!f32Ty o.ty || 3 < o.mod.toNat % 8)
  | .vfma o => vaLegal o .require (8 ≤ o.mod.toNat) (!f32Ty o.ty || 3 < o.mod.toNat % 8)
  | .vfms o => vaLegal o .require (8 ≤ o.mod.toNat) (!f32Ty o.ty || 3 < o.mod.toNat % 8)
  | .vfmin o => vaLegal o .require (!vbOnly o || o.mod != 0) (!f32Ty o.ty)
  | .vfmax o => vaLegal o .require (!vbOnly o || o.mod != 0) (!f32Ty o.ty)
  | .vfabs o => vaLegal o .forbid false (!f32Ty o.ty)
  | .vfneg o => vaLegal o .forbid false (!f32Ty o.ty)
  | .vfcmp o => vaLegal o .require (!vbOnly o || 32 ≤ o.mod.toNat || 8 ≤ o.vd.toNat) (!f32Ty o.ty || !fcondOk (o.mod.toNat % 32))
  | .vrcp o => vaLegal o .require (!noB o || 8 ≤ o.mod.toNat) (!f32Ty o.ty || 3 < o.mod.toNat % 8)
  | .vrsq o => vaLegal o .require (!noB o || 8 ≤ o.mod.toNat) (!f32Ty o.ty || 3 < o.mod.toNat % 8)
  | .vsqrt o => vaLegal o .require (!noB o || 8 ≤ o.mod.toNat) (!f32Ty o.ty || 3 < o.mod.toNat % 8)
  | .vexp2 o => vaLegal o .require (!noB o || 8 ≤ o.mod.toNat) (!f32Ty o.ty || 3 < o.mod.toNat % 8)
  | .vlog2 o => vaLegal o .require (!noB o || 8 ≤ o.mod.toNat) (!f32Ty o.ty || 3 < o.mod.toNat % 8)
  | .vfaddH o => vaLegal o .require (!vbOnly o || 8 ≤ o.mod.toNat) (!hTy o.ty || 3 < o.mod.toNat % 8)
  | .vfsubH o => vaLegal o .require (!vbOnly o || 8 ≤ o.mod.toNat) (!hTy o.ty || 3 < o.mod.toNat % 8)
  | .vfmulH o => vaLegal o .require (!vbOnly o || 8 ≤ o.mod.toNat) (!hTy o.ty || 3 < o.mod.toNat % 8)
  | .vfmaH o => vaLegal o .require (8 ≤ o.mod.toNat) (!hTy o.ty || 3 < o.mod.toNat % 8)
  | .vfmsH o => vaLegal o .require (8 ≤ o.mod.toNat) (!hTy o.ty || 3 < o.mod.toNat % 8)
  | .vfminH o => vaLegal o .require (!vbOnly o || o.mod != 0) (!hTy o.ty)
  | .vfmaxH o => vaLegal o .require (!vbOnly o || o.mod != 0) (!hTy o.ty)
  | .vfabsH o => vaLegal o .forbid false (!hTy o.ty)
  | .vfnegH o => vaLegal o .forbid false (!hTy o.ty)
  | .vfcmpH o => vaLegal o .require (!vbOnly o || 32 ≤ o.mod.toNat || 8 ≤ o.vd.toNat) (!hTy o.ty || !fcondOk (o.mod.toNat % 32))
  | .vcvt o => vaLegal o .require (!noB o || 2048 ≤ o.mod.toNat) (!fmtAssigned o.ty.toNat || !fmtAssigned (cvtFmt o) || 3 < cvtMode o)
  | .vcvtRs o => vaLegal o .require (!vbOnly o || 2048 ≤ o.mod.toNat || cvtMode o != 0) (!fmtAssigned o.ty.toNat || !fmtAssigned (cvtFmt o))
  | .vqnt o => vaLegal o .require (!vbOnly o || 2048 ≤ o.mod.toNat || cvtSat o) (!fsrcTy o.ty || !quantFmt (cvtFmt o) || 3 < cvtMode o)
  | .vdqnt o => vaLegal o .require (!vbOnly o || 2048 ≤ o.mod.toNat || cvtSat o) (!quantFmt o.ty.toNat || !fsrcTy (BitVec.ofNat 5 (cvtFmt o)) || 3 < cvtMode o)
  | .vrsum o => vaLegal o .forbid false (!intTy o.ty)
  | .vrmax o => vaLegal o .forbid false (!intTy o.ty)
  | .vrmin o => vaLegal o .forbid false (!intTy o.ty)
  | .vscan o => vaLegal o .require (!noB o) (!intTy o.ty || 2 < o.mod.toNat)
  | .vrsumF o => vaLegal o .forbid false (!fsrcTy o.ty)
  | .vrmaxF o => vaLegal o .forbid false (!fsrcTy o.ty)
  | .vrminF o => vaLegal o .forbid false (!fsrcTy o.ty)
  | .vscanF o => vaLegal o .require (!noB o) (!f32Ty o.ty || 2 < o.mod.toNat)
  | .vperm o => vaLegal o .require (!vbOnly o || o.mod != 0) (!moveTy o.ty)
  | .vbcast o => vaLegal o .require (!noB o || 128 ≤ o.mod.toNat) (!moveTy o.ty || tyCount o.ty ≤ o.mod.toNat % 128)
  | .vslide o => vaLegal o .require (!vbOnly o || 256 ≤ o.mod.toNat) (!moveTy o.ty || tyCount o.ty ≤ o.mod.toNat % 128)
  | .vsel o => vaLegal o .require (!vbOnly o || 8 ≤ o.mod.toNat) (!moveTy o.ty)
  | .vmov o => vaLegal o .forbid false (!moveTy o.ty)
  | .vsplat o => vaLegal o .require (!noB o || o.va != 0 || o.pa != 0) (!intTy o.ty)
  | .vlane o => vaLegal o .require (!noB o || o.va != 0 || o.pa != 0) (!intTy o.ty)
  | .vstat o => vaLegal o .require (!vbOnly o || o.vd != 0 || o.mod != 0) (!statTy o.ty)
  | .mopaNf o => mxLegal o false false
  | .mopaInt4 o => mxLegal o true false
  | .mopaInt8 o => mxLegal o true false
  | .mopaUint8 o => mxLegal o true false
  | .mopaF16 o => mxLegal o true true
  | .mopaBf16 o => mxLegal o true true
  | .mopaF32 o => mxLegal o true true
  | .mopsNf o => mxLegal o false false
  | .mopsInt4 o => mxLegal o true false
  | .mopsInt8 o => mxLegal o true false
  | .mopsUint8 o => mxLegal o true false
  | .mopsF16 o => mxLegal o true true
  | .mopsBf16 o => mxLegal o true true
  | .mopsF32 o => mxLegal o true true
  | .mzero o => mzeroLegal o
  | .mcfg o => mcfgLegal o
  | .mfence o => mfenceLegal o
  | .drain o => drLegal o .permit (o.port != 0 || extHigh o.ext 0) (7 < o.row.toNat)
  | .drainM o => drLegal o .require (o.port != 0) (7 < o.row.toNat || 31 < o.t.toNat || DR.pitch o % 16 != 0)
  | .drainv o => drLegal o .permit (o.port != 0 || extHigh o.ext 7) false
  | .fill o => drLegal o .permit (o.port != 0 || extHigh o.ext 0) (7 < o.row.toNat)
  | .fillM o => drLegal o .require (o.port != 0) (7 < o.row.toNat || 31 < o.t.toNat || DR.pitch o % 16 != 0)
  | .fillv o => drLegal o .permit (extHigh o.ext 7) false
  | .dzero o => drLegal o .permit (o.t != 0 || o.port != 0 || o.fmt != 0 || extHigh o.ext 0) (7 < o.row.toNat)
  | .oadamF32 o => opLegal o false
  | .oadamBf16 o => opLegal o false
  | .oadamwF32 o => opLegal o false
  | .oadamwBf16 o => opLegal o false
  | .olionF32 o => opLegal o false
  | .olionBf16 o => opLegal o false
  | .osgdmF32 o => opLegal o false
  | .osgdmBf16 o => opLegal o false
  | .oclip o => opLegal o (o.hW != 0 || o.hM != 0)
  | .oscale o => opLegal o (o.hW != 0 || o.hM != 0)
  | .cpy o => ejLegal o .forbid ((o.k != 0) || false) (0 < o.sub.toNat)
  | .cpyq o => ejLegal o .forbid ((o.k != 0) || false) (0 < o.sub.toNat)
  | .gath o => ejLegal o .forbid ((o.k != 0) || false) (0 < o.sub.toNat)
  | .scat o => ejLegal o .forbid ((o.k != 0) || false) (0 < o.sub.toNat)
  | .gathK o => ejLegal o .forbid (false || false) (0 < o.sub.toNat)
  | .scatK o => ejLegal o .forbid (false || false) (0 < o.sub.toNat)
  | .bget o => ejLegal o .forbid (false || false) (0 < o.sub.toNat)
  | .bwr o => ejLegal o .forbid (false || false) (0 < o.sub.toNat)
  | .bred o => ejLegal o .forbid (false || false) (0 < o.sub.toNat)
  | .gred o => ejLegal o .forbid (false || false) (0 < o.sub.toNat)
  | .gmld o => ejLegal o .forbid (false || false) (0 < o.sub.toNat)
  | .grpset o => ejLegal o .forbid (false || false) (0 < o.sub.toNat)
  | .msend o => ejLegal o .forbid ((o.k != 0) || false) (0 < o.sub.toNat)
  | .enq o => ejLegal o .forbid ((o.k != 0) || false) (1 < o.sub.toNat)
  | .arrive o => ejLegal o .forbid ((o.k != 0) || false) (1 < o.sub.toNat)
  | .tdec o => ejLegal o .forbid ((o.k != 0) || false) (0 < o.sub.toNat)
  | .tspawn o => ejLegal o .require ((o.k != 0) || extHigh o.ext 5) (0 < o.sub.toNat)
  | .sclose o => ejLegal o .forbid ((o.k != 0) || false) (0 < o.sub.toNat)
  | .sread o => ejLegal o .require ((o.k != 0) || extHigh o.ext 6) (1 < o.sub.toNat)
  | .sreadO o => ejLegal o .require ((o.k != 0) || extHigh o.ext 6) (1 < o.sub.toNat)
  | .salloc o => ejLegal o .require ((o.k != 0) || extHigh o.ext 5) (0 < o.sub.toNat)
  | .sfree o => ejLegal o .forbid ((o.k != 0) || false) (0 < o.sub.toNat)
  | .lacq o => ejLegal o .forbid (false || false) (1 < o.sub.toNat)
  | .lrel o => ejLegal o .forbid (false || false) (0 < o.sub.toNat)
  | .realign o => ejLegal o .forbid ((o.k != 0) || false) (0 < o.sub.toNat)
  | .mstone o => ejLegal o .forbid ((o.k != 0) || false) (0 < o.sub.toNat)
  | .wmarm o => ejLegal o .permit (o.k != 0 || o.hJ != 0) (0 < o.sub.toNat)
  | .landing _ => none
  | .loopEndMark _ => none
  | .segmentBoundaryMark _ => none
  | .segmentMiss _ => none
  | .segmentCopyComplete _ _ => none
  | .junctionCycle _ => none
  | .rotationRebase _ => none
  | .hiddenResultWrite _ _ => none
  | .hallocComplete _ _ => none
  | .handleStorageRelease _ _ => none
  | .matrixOpComplete _ _ => none
  | .drainOpComplete _ _ => none
  | .optimiserOpComplete _ _ => none
  | .optimiserTrapTaken _ => none
  | .engineJobComplete _ _ => none
  | .waymarkReport _ _ _ _ => none
  | .pageFault _ _ => none
  | .tileRetired _ => none
  | .contextSwitchStart _ _ => none
  | .spillSave _ => none
  | .refill _ => none
  | .walkerAssign _ => none
  | .walkerUpdate _ => none
  | .forkRequest _ => none
  | .walkerSave _ => none
  | .walkerRestore _ => none
  | .taskDone _ => none
  | .dispatch => none
  | .clusterCacheWriteback _ _ => none
  | .clusterCacheEccError _ _ _ _ => none
  | .barrierUpdate _ _ => none
  | .atomicPlacementNear _ _ => none
  | .ownershipRecall _ => none
  | .llcEccError _ _ _ => none
  | .translationInvalidateAck _ => none
  | .migrationCopyComplete _ => none
  | .hintWindowCheck _ _ _ _ => none
  | .deltaMerge _ => none
  | .leaseGrant _ _ => none
  | .leaseRenewal _ _ => none
  | .leaseEnd _ => none
  | .leaseRecall _ _ _ => none
  | .routeSheetEntry _ _ _ => none
  | .routeRecordRetry _ _ => none
  | .queueFetch _ => none
  | .queueHintWrite _ _ => none
  | .queueReset _ => none
  | .queueEnWrite _ _ => none
  | .registerWrite _ _ _ => none
  | .launch _ _ _ _ _ => none
  | .ready _ _ => none
  | .dec _ _ _ => none
  | .template _ _ _ _ => none
  | .route _ _ => none
  | .aspace _ _ _ _ _ _ => none
  | .quota _ _ _ _ => none
  | .config _ _ _ _ => none
  | .map _ _ _ _ _ _ _ _ => none
  | .unmap _ _ _ => none
  | .protect _ _ _ _ _ => none
  | .migrate _ _ _ _ _ _ => none
  | .segtab _ _ _ _ => none
  | .recAlloc _ _ _ _ => none
  | .recFree _ _ => none
  | .resume _ _ _ _ _ => none
  | .abandon _ _ => none
  | .switch _ _ => none
  | .wsave _ _ => none
  | .fencePacket _ => none
  | .nopPacket _ => none
  | .fwupdate _ _ _ => none
  | .eventRingConfigWrite _ _ => none
  | .heldFaultRecordWrite => none
  | .watchdogExpiry _ => none
  | .parityError _ => none
  | .qownerWrite _ _ => none
  | .lockInterfaceRequest _ => none
  | .startInterfaceRequest _ _ => none
  | .stopInterfaceRequest _ => none
  | .getDeviceInterfaceReport _ => none
  | .ideIntegrityFailure _ => none
  | .functionLevelReset _ => none
  | .spdmAlgorithmNegotiation _ _ _ _ => none
  | .snpinv _ => none
  | .snpdata _ => none
  | .cxlCapacityEviction _ => none
  | .hostHdmAccess _ _ _ _ => none
  | .coldStart _ => none
  | .warmStart _ => none
  | .warm => none
  | .go => none
  | .startTimeout => none
  | .tolWrite _ => none
  | .powerStateEntry => none
  | .powerStateWake _ _ => none
  | .throttleStep _ => none
  | .thermalTrip _ => none
  | .slotBoundary => none
  | .flitReceive _ _ => none
  | .flitForward => none
  | .framePulse _ _ _ => none
  | .relock _ _ _ => none
  | .phase2Entry => none
  | .nosyncEntry => none
  | .holdoverExchange _ => none
  | .portPause _ => none
  | .portRetrain _ => none
  | .portFence _ => none
  | .portRejoin _ => none
  | .dataReceive _ => none
  | .enqReceive _ => none
  | .arriveReceive _ => none
  | .heldMessageRelease _ _ => none
  | .streamAbort _ _ _ => none
  | .membershipAdd _ _ => none
  | .membershipRemove _ _ => none
  | .groupPhaseComplete _ _ _ _ => none
  | .poolReject _ _ => none
  | .commitAnswer _ _ _ => none
  | .frozenItemWrite _ => none
  | .poolWriteAcknowledgement _ _ => none
  | .carrierMemoryEccError _ _ => none

end Sys2Proof
end

