-- ==== Sys2Proof/WellFormed.lean ====
section
/-! DEFINITION. Well-formed instructions: the syllables that no case of R64 refuses by themselves, and every event. -/

namespace Sys2Proof

/-- Is the instruction well-formed: no code of R64 applies to its syllable (Machine/Legal.lean)? -/
def Instr.wellFormed (i : Instr) : Bool := i.illegal.isNone

end Sys2Proof
end

