-- ==== Sys2Proof/Decode.lean ====
section
/-! DEFINITION. Decoding and encoding: syllables (R43, R55, R57, R58, R75, R76), bundle headers (R44, R45), command packets
(R439, R440). -/

namespace Sys2Proof

/-! ## Operand formats (R58) -/

/-- NO: no operand. -/
def NO.unpack (r : RawSyl) : NO :=
  { g := r.g, z := r.f.extractLsb' 0 20, ext := r.ext }
/-- NO, packed. -/
def NO.pack (o : NO) : RawSyl :=
  { g := o.g, f := (o.z : BitVec 20), ext := o.ext, second := false }

/-- BO: branch offset. -/
def BO.unpack (r : RawSyl) : BO :=
  { g := r.g, off := r.f.extractLsb' 0 20, ext := r.ext }
/-- BO, packed. -/
def BO.pack (o : BO) : RawSyl :=
  { g := o.g, f := (o.off : BitVec 20), ext := o.ext, second := false }

/-- BP: branch on predicate. -/
def BP.unpack (r : RawSyl) : BP :=
  { g := r.g, p := r.f.extractLsb' 17 3, sense := r.f.extractLsb' 16 1, off := r.f.extractLsb' 0 16, ext := r.ext }
/-- BP, packed. -/
def BP.pack (o : BP) : RawSyl :=
  { g := o.g, f := (o.p ++ o.sense ++ o.off : BitVec 20), ext := o.ext, second := false }

/-- RG: register target. -/
def RG.unpack (r : RawSyl) : RG :=
  { g := r.g, s := r.f.extractLsb' 15 5, z := r.f.extractLsb' 0 15, ext := r.ext }
/-- RG, packed. -/
def RG.pack (o : RG) : RawSyl :=
  { g := o.g, f := (o.s ++ o.z : BitVec 20), ext := o.ext, second := false }

/-- LP: loop dimension. -/
def LP.unpack (r : RawSyl) : LP :=
  { g := r.g, lc := r.f.extractLsb' 17 3, s := r.f.extractLsb' 12 5, imm := r.f.extractLsb' 0 12, ext := r.ext }
/-- LP, packed. -/
def LP.pack (o : LP) : RawSyl :=
  { g := o.g, f := (o.lc ++ o.s ++ o.imm : BitVec 20), ext := o.ext, second := false }

/-- CS: control and status register. -/
def CS.unpack (r : RawSyl) : CS :=
  { g := r.g, num := r.f.extractLsb' 8 12, s := r.f.extractLsb' 3 5, z := r.f.extractLsb' 0 3, ext := r.ext }
/-- CS, packed. -/
def CS.pack (o : CS) : RawSyl :=
  { g := o.g, f := (o.num ++ o.s ++ o.z : BitVec 20), ext := o.ext, second := false }

/-- FW: format write. -/
def FW.unpack (r : RawSyl) : FW :=
  { g := r.g, fmt := r.f.extractLsb' 17 3, s := r.f.extractLsb' 12 5, z := r.f.extractLsb' 0 12, ext := r.ext }
/-- FW, packed. -/
def FW.pack (o : FW) : RawSyl :=
  { g := o.g, f := (o.fmt ++ o.s ++ o.z : BitVec 20), ext := o.ext, second := false }

/-- PL: predicate logic. -/
def PL.unpack (r : RawSyl) : PL :=
  { g := r.g, pd := r.f.extractLsb' 17 3, pa := r.f.extractLsb' 14 3, pb := r.f.extractLsb' 11 3, z := r.f.extractLsb' 0 11, ext := r.ext }
/-- PL, packed. -/
def PL.pack (o : PL) : RawSyl :=
  { g := o.g, f := (o.pd ++ o.pa ++ o.pb ++ o.z : BitVec 20), ext := o.ext, second := false }

/-- TC: trap code. -/
def TC.unpack (r : RawSyl) : TC :=
  { g := r.g, code := r.f.extractLsb' 0 20, ext := r.ext }
/-- TC, packed. -/
def TC.pack (o : TC) : RawSyl :=
  { g := o.g, f := (o.code : BitVec 20), ext := o.ext, second := false }

/-- SR: scalar registers. -/
def SR.unpack (r : RawSyl) : SR :=
  { g := r.g, d := r.f.extractLsb' 15 5, a := r.f.extractLsb' 10 5, b := r.f.extractLsb' 5 5, c := r.f.extractLsb' 0 5, ext := r.ext }
/-- SR, packed. -/
def SR.pack (o : SR) : RawSyl :=
  { g := o.g, f := (o.d ++ o.a ++ o.b ++ o.c : BitVec 20), ext := o.ext, second := false }

/-- SI: scalar immediate. -/
def SI.unpack (r : RawSyl) : SI :=
  { g := r.g, d := r.f.extractLsb' 15 5, a := r.f.extractLsb' 10 5, imm := r.f.extractLsb' 0 10, ext := r.ext }
/-- SI, packed. -/
def SI.pack (o : SI) : RawSyl :=
  { g := o.g, f := (o.d ++ o.a ++ o.imm : BitVec 20), ext := o.ext, second := false }

/-- SC: scalar compare immediate. -/
def SC.unpack (r : RawSyl) : SC :=
  { g := r.g, pd := r.f.extractLsb' 17 3, z := r.f.extractLsb' 15 2, a := r.f.extractLsb' 10 5, cond := r.f.extractLsb' 5 5, imm := r.f.extractLsb' 0 5, ext := r.ext }
/-- SC, packed. -/
def SC.pack (o : SC) : RawSyl :=
  { g := o.g, f := (o.pd ++ o.z ++ o.a ++ o.cond ++ o.imm : BitVec 20), ext := o.ext, second := false }

/-- MV: move immediate. -/
def MV.unpack (r : RawSyl) : MV :=
  { g := r.g, d := r.f.extractLsb' 15 5, imm := r.f.extractLsb' 0 15, ext := r.ext }
/-- MV, packed. -/
def MV.pack (o : MV) : RawSyl :=
  { g := o.g, f := (o.d ++ o.imm : BitVec 20), ext := o.ext, second := false }

/-- XV: crossing move. -/
def XV.unpack (r : RawSyl) : XV :=
  { g := r.g, d := r.f.extractLsb' 14 6, a := r.f.extractLsb' 8 6, port := r.f.extractLsb' 5 3, sel := r.f.extractLsb' 0 5, ext := r.ext }
/-- XV, packed. -/
def XV.pack (o : XV) : RawSyl :=
  { g := o.g, f := (o.d ++ o.a ++ o.port ++ o.sel : BitVec 20), ext := o.ext, second := false }

/-- LA: address arithmetic. -/
def LA.unpack (r : RawSyl) : LA :=
  { g := r.g, d := r.f.extractLsb' 16 4, a := r.f.extractLsb' 12 4, b := r.f.extractLsb' 8 4, imm := r.f.extractLsb' 0 8, ext := r.ext, l1 := r.second }
/-- LA, packed. -/
def LA.pack (o : LA) : RawSyl :=
  { g := o.g, f := (o.d ++ o.a ++ o.b ++ o.imm : BitVec 20), ext := o.ext, second := o.l1 }

/-- LM: load from memory. -/
def LM.unpack (r : RawSyl) : LM :=
  { g := r.g, d := r.f.extractLsb' 14 6, base := r.f.extractLsb' 10 4, off := r.f.extractLsb' 0 10, ext := r.ext, l1 := r.second }
/-- LM, packed. -/
def LM.pack (o : LM) : RawSyl :=
  { g := o.g, f := (o.d ++ o.base ++ o.off : BitVec 20), ext := o.ext, second := o.l1 }

/-- LT: load from a tile. -/
def LT.unpack (r : RawSyl) : LT :=
  { g := r.g, d := r.f.extractLsb' 14 6, h := r.f.extractLsb' 8 6, row := r.f.extractLsb' 4 4, col := r.f.extractLsb' 0 4, ext := r.ext, l1 := r.second }
/-- LT, packed. -/
def LT.pack (o : LT) : RawSyl :=
  { g := o.g, f := (o.d ++ o.h ++ o.row ++ o.col : BitVec 20), ext := o.ext, second := o.l1 }

/-- LH: handles and capabilities. -/
def LH.unpack (r : RawSyl) : LH :=
  { g := r.g, d := r.f.extractLsb' 14 6, h := r.f.extractLsb' 8 6, a := r.f.extractLsb' 4 4, sub := r.f.extractLsb' 0 4, ext := r.ext, l1 := r.second }
/-- LH, packed. -/
def LH.pack (o : LH) : RawSyl :=
  { g := o.g, f := (o.d ++ o.h ++ o.a ++ o.sub : BitVec 20), ext := o.ext, second := o.l1 }

/-- SM: store. -/
def SM.unpack (r : RawSyl) : SM :=
  { g := r.g, data := r.f.extractLsb' 14 6, base := r.f.extractLsb' 9 5, port := r.f.extractLsb' 6 3, off := r.f.extractLsb' 0 6, ext := r.ext }
/-- SM, packed. -/
def SM.pack (o : SM) : RawSyl :=
  { g := o.g, f := (o.data ++ o.base ++ o.port ++ o.off : BitVec 20), ext := o.ext, second := false }

/-- AT: atomic. -/
def AT.unpack (r : RawSyl) : AT :=
  { g := r.g, d := r.f.extractLsb' 15 5, data := r.f.extractLsb' 10 5, base := r.f.extractLsb' 5 5, ord := r.f.extractLsb' 3 2, z := r.f.extractLsb' 0 3, ext := r.ext }
/-- AT, packed. -/
def AT.pack (o : AT) : RawSyl :=
  { g := o.g, f := (o.d ++ o.data ++ o.base ++ o.ord ++ o.z : BitVec 20), ext := o.ext, second := false }

/-- FB: fence and binding. -/
def FB.unpack (r : RawSyl) : FB :=
  { g := r.g, base := r.f.extractLsb' 15 5, len := r.f.extractLsb' 10 5, obj := r.f.extractLsb' 5 5, kind := r.f.extractLsb' 2 3, z := r.f.extractLsb' 0 2, ext := r.ext }
/-- FB, packed. -/
def FB.pack (o : FB) : RawSyl :=
  { g := o.g, f := (o.base ++ o.len ++ o.obj ++ o.kind ++ o.z : BitVec 20), ext := o.ext, second := false }

/-- VA: vector. -/
def VA.unpack (r : RawSyl) : VA :=
  { g := r.g, vd := r.f.extractLsb' 14 6, va := r.f.extractLsb' 8 6, pa := r.f.extractLsb' 5 3, ty := r.f.extractLsb' 0 5, ext := r.ext, v1 := r.second }
/-- VA, packed. -/
def VA.pack (o : VA) : RawSyl :=
  { g := o.g, f := (o.vd ++ o.va ++ o.pa ++ o.ty : BitVec 20), ext := o.ext, second := o.v1 }

/-- MX: outer product. -/
def MX.unpack (r : RawSyl) : MX :=
  { g := r.g, acc := r.f.extractLsb' 16 4, hA := r.f.extractLsb' 10 6, hB := r.f.extractLsb' 4 6, order := r.f.extractLsb' 2 2, z := r.f.extractLsb' 0 2, ext := r.ext }
/-- MX, packed. -/
def MX.pack (o : MX) : RawSyl :=
  { g := o.g, f := (o.acc ++ o.hA ++ o.hB ++ o.order ++ o.z : BitVec 20), ext := o.ext, second := false }

/-- MC: matrix control. -/
def MC.unpack (r : RawSyl) : MC :=
  { g := r.g, acc := r.f.extractLsb' 16 4, imm := r.f.extractLsb' 0 16, ext := r.ext }
/-- MC, packed. -/
def MC.pack (o : MC) : RawSyl :=
  { g := o.g, f := (o.acc ++ o.imm : BitVec 20), ext := o.ext, second := false }

/-- DR: drain and fill. -/
def DR.unpack (r : RawSyl) : DR :=
  { g := r.g, acc := r.f.extractLsb' 16 4, t := r.f.extractLsb' 10 6, port := r.f.extractLsb' 7 3, fmt := r.f.extractLsb' 4 3, row := r.f.extractLsb' 0 4, ext := r.ext }
/-- DR, packed. -/
def DR.pack (o : DR) : RawSyl :=
  { g := o.g, f := (o.acc ++ o.t ++ o.port ++ o.fmt ++ o.row : BitVec 20), ext := o.ext, second := false }

/-- OP: optimiser. -/
def OP.unpack (r : RawSyl) : OP :=
  { g := r.g, acc := r.f.extractLsb' 16 4, hW := r.f.extractLsb' 10 6, hM := r.f.extractLsb' 4 6, z := r.f.extractLsb' 0 4, ext := r.ext }
/-- OP, packed. -/
def OP.pack (o : OP) : RawSyl :=
  { g := o.g, f := (o.acc ++ o.hW ++ o.hM ++ o.z : BitVec 20), ext := o.ext, second := false }

/-- EJ: engine job. -/
def EJ.unpack (r : RawSyl) : EJ :=
  { g := r.g, hJ := r.f.extractLsb' 14 6, hW := r.f.extractLsb' 8 6, k := r.f.extractLsb' 4 4, sub := r.f.extractLsb' 0 4, ext := r.ext }
/-- EJ, packed. -/
def EJ.pack (o : EJ) : RawSyl :=
  { g := o.g, f := (o.hJ ++ o.hW ++ o.k ++ o.sub : BitVec 20), ext := o.ext, second := false }

/-- WT: wait. -/
def WT.unpack (r : RawSyl) : WT :=
  { g := r.g, h := r.f.extractLsb' 14 6, s := r.f.extractLsb' 9 5, imm := r.f.extractLsb' 0 9, ext := r.ext }
/-- WT, packed. -/
def WT.pack (o : WT) : RawSyl :=
  { g := o.g, f := (o.h ++ o.s ++ o.imm : BitVec 20), ext := o.ext, second := false }

/-- SP: scope. -/
def SP.unpack (r : RawSyl) : SP :=
  { g := r.g, scope := r.f.extractLsb' 17 3, z := r.f.extractLsb' 0 17, ext := r.ext }
/-- SP, packed. -/
def SP.pack (o : SP) : RawSyl :=
  { g := o.g, f := (o.scope ++ o.z : BitVec 20), ext := o.ext, second := false }

/-! ## The opcode map (R75): the instruction of an opcode in its slot's table, none for an unassigned one (R76) -/

/-- The table of slot C. -/
def tableC (opc : Nat) (r : RawSyl) : Option Instr :=
  match opc with
  | 0x00 => some (.nop (NO.unpack r))
  | 0x01 => some (.br (BO.unpack r))
  | 0x02 => some (.brp (BP.unpack r))
  | 0x03 => some (.brl (BO.unpack r))
  | 0x04 => some (.ret (NO.unpack r))
  | 0x05 => some (.jmp (RG.unpack r))
  | 0x06 => some (.jmpL (RG.unpack r))
  | 0x07 => some (.loop (LP.unpack r))
  | 0x08 => some (.loopn (LP.unpack r))
  | 0x09 => some (.fmtw (FW.unpack r))
  | 0x0A => some (.csrr (CS.unpack r))
  | 0x0B => some (.csrw (CS.unpack r))
  | 0x0C => some (.csrwI (CS.unpack r))
  | 0x0D => some (.pand (PL.unpack r))
  | 0x0E => some (.por (PL.unpack r))
  | 0x0F => some (.pxor (PL.unpack r))
  | 0x10 => some (.pnot (PL.unpack r))
  | 0x11 => some (.trapC (TC.unpack r))
  | 0x12 => some (.sysc (TC.unpack r))
  | 0x13 => some (.rft (NO.unpack r))
  | 0x14 => some (.retire (NO.unpack r))
  | 0x15 => some (.yield (NO.unpack r))
  | _ => none

/-- The table of slot S. -/
def tableS (opc : Nat) (r : RawSyl) : Option Instr :=
  match opc with
  | 0x01 => some (.add (SR.unpack r))
  | 0x02 => some (.sub (SR.unpack r))
  | 0x03 => some (.mul (SR.unpack r))
  | 0x04 => some (.mulh (SR.unpack r))
  | 0x05 => some (.mulhu (SR.unpack r))
  | 0x06 => some (.div_ (SR.unpack r))
  | 0x07 => some (.divu (SR.unpack r))
  | 0x08 => some (.rem (SR.unpack r))
  | 0x09 => some (.remu (SR.unpack r))
  | 0x0A => some (.and_ (SR.unpack r))
  | 0x0B => some (.or_ (SR.unpack r))
  | 0x0C => some (.xor_ (SR.unpack r))
  | 0x0D => some (.andn (SR.unpack r))
  | 0x0E => some (.shl (SR.unpack r))
  | 0x0F => some (.shr (SR.unpack r))
  | 0x10 => some (.sra (SR.unpack r))
  | 0x11 => some (.rol (SR.unpack r))
  | 0x12 => some (.clz (SR.unpack r))
  | 0x13 => some (.ctz (SR.unpack r))
  | 0x14 => some (.popc (SR.unpack r))
  | 0x15 => some (.min_ (SR.unpack r))
  | 0x16 => some (.max_ (SR.unpack r))
  | 0x17 => some (.minu (SR.unpack r))
  | 0x18 => some (.maxu (SR.unpack r))
  | 0x19 => some (.sel (SR.unpack r))
  | 0x1A => some (.cmp (SR.unpack r))
  | 0x20 => some (.addW (SR.unpack r))
  | 0x21 => some (.subW (SR.unpack r))
  | 0x22 => some (.mulW (SR.unpack r))
  | 0x23 => some (.divW (SR.unpack r))
  | 0x24 => some (.divuW (SR.unpack r))
  | 0x25 => some (.remW (SR.unpack r))
  | 0x26 => some (.remuW (SR.unpack r))
  | 0x27 => some (.shlW (SR.unpack r))
  | 0x28 => some (.shrW (SR.unpack r))
  | 0x29 => some (.sraW (SR.unpack r))
  | 0x30 => some (.addi (SI.unpack r))
  | 0x31 => some (.andI (SI.unpack r))
  | 0x32 => some (.orI (SI.unpack r))
  | 0x33 => some (.xorI (SI.unpack r))
  | 0x34 => some (.shlI (SI.unpack r))
  | 0x35 => some (.shrI (SI.unpack r))
  | 0x36 => some (.sraI (SI.unpack r))
  | 0x37 => some (.rolI (SI.unpack r))
  | 0x38 => some (.cmpI (SC.unpack r))
  | 0x40 => some (.movi (MV.unpack r))
  | 0x41 => some (.movhi (MV.unpack r))
  | 0x48 => some (.xmovSl (XV.unpack r))
  | 0x49 => some (.xmovLs (XV.unpack r))
  | 0x4A => some (.xmovSv (XV.unpack r))
  | 0x4B => some (.xmovVs (XV.unpack r))
  | 0x50 => some (.fadd (SR.unpack r))
  | 0x51 => some (.fmul (SR.unpack r))
  | 0x52 => some (.fcmp (SR.unpack r))
  | 0x53 => some (.fma (SR.unpack r))
  | _ => none

/-- The table of slot L0 and L1. A kderive with sub 2 and above is read as kderive.ld, which has no k-index field: with sub 3 to 15, which is code 7,
and that field not zero, its code is 6, the lower one (log entry 98). -/
def tableL (opc : Nat) (r : RawSyl) : Option Instr :=
  match opc with
  | 0x01 => some (.aadd (LA.unpack r))
  | 0x02 => some (.aaddi (LA.unpack r))
  | 0x03 => some (.xmova (LA.unpack r))
  | 0x08 => some (.lds8 (LT.unpack r))
  | 0x09 => some (.lds16 (LT.unpack r))
  | 0x0A => some (.lds32 (LT.unpack r))
  | 0x0B => some (.lds64 (LT.unpack r))
  | 0x0C => some (.ldv (LT.unpack r))
  | 0x0D => some (.ldvt (LT.unpack r))
  | 0x10 => some (.ldg8 (LM.unpack r))
  | 0x11 => some (.ldg16 (LM.unpack r))
  | 0x12 => some (.ldg32 (LM.unpack r))
  | 0x13 => some (.ldg64 (LM.unpack r))
  | 0x14 => some (.ldgV (LM.unpack r))
  | 0x18 => some (.ldk32 (LM.unpack r))
  | 0x19 => some (.ldk64 (LM.unpack r))
  | 0x1A => some (.ldacq32 (LM.unpack r))
  | 0x1B => some (.ldacq64 (LM.unpack r))
  | 0x1C => some (.ldsc (LM.unpack r))
  | 0x20 => some (.halloc (LH.unpack r))
  | 0x21 => some (.hfree (LH.unpack r))
  | 0x22 => some (.hinfo (LH.unpack r))
  | 0x23 =>
    let o := LH.unpack r
    some (if o.sub = 1 then .kderiveRs o else if o.sub = 2 then .kderiveSt o else .kderiveLd o)
  | 0x24 => some (.kchk (LH.unpack r))
  | 0x28 => some (.pf (LM.unpack r))
  | _ => none

/-- The table of slot ST. -/
def tableST (opc : Nat) (r : RawSyl) : Option Instr :=
  match opc with
  | 0x01 => some (.sts8 (SM.unpack r))
  | 0x02 => some (.sts16 (SM.unpack r))
  | 0x03 => some (.sts32 (SM.unpack r))
  | 0x04 => some (.sts64 (SM.unpack r))
  | 0x05 => some (.stv (SM.unpack r))
  | 0x06 => some (.stvt (SM.unpack r))
  | 0x08 => some (.stg8 (SM.unpack r))
  | 0x09 => some (.stg16 (SM.unpack r))
  | 0x0A => some (.stg32 (SM.unpack r))
  | 0x0B => some (.stg64 (SM.unpack r))
  | 0x0C => some (.stk32 (SM.unpack r))
  | 0x0D => some (.stk64 (SM.unpack r))
  | 0x0E => some (.strel32 (SM.unpack r))
  | 0x0F => some (.strel64 (SM.unpack r))
  | 0x10 => some (.amoAdd32 (AT.unpack r))
  | 0x11 => some (.amoAdd64 (AT.unpack r))
  | 0x12 => some (.amoAnd32 (AT.unpack r))
  | 0x13 => some (.amoAnd64 (AT.unpack r))
  | 0x14 => some (.amoOr32 (AT.unpack r))
  | 0x15 => some (.amoOr64 (AT.unpack r))
  | 0x16 => some (.amoXor32 (AT.unpack r))
  | 0x17 => some (.amoXor64 (AT.unpack r))
  | 0x18 => some (.amoMin32 (AT.unpack r))
  | 0x19 => some (.amoMin64 (AT.unpack r))
  | 0x1A => some (.amoMax32 (AT.unpack r))
  | 0x1B => some (.amoMax64 (AT.unpack r))
  | 0x1C => some (.amoMinu32 (AT.unpack r))
  | 0x1D => some (.amoMinu64 (AT.unpack r))
  | 0x1E => some (.amoMaxu32 (AT.unpack r))
  | 0x1F => some (.amoMaxu64 (AT.unpack r))
  | 0x20 => some (.amoSwap32 (AT.unpack r))
  | 0x21 => some (.amoSwap64 (AT.unpack r))
  | 0x24 => some (.cas32 (AT.unpack r))
  | 0x25 => some (.cas64 (AT.unpack r))
  | 0x26 => some (.cas128 (AT.unpack r))
  | 0x30 => some (.redAdd32 (AT.unpack r))
  | 0x31 => some (.redAdd64 (AT.unpack r))
  | 0x32 => some (.redAnd32 (AT.unpack r))
  | 0x33 => some (.redAnd64 (AT.unpack r))
  | 0x34 => some (.redOr32 (AT.unpack r))
  | 0x35 => some (.redOr64 (AT.unpack r))
  | 0x36 => some (.redXor32 (AT.unpack r))
  | 0x37 => some (.redXor64 (AT.unpack r))
  | 0x38 => some (.redMin32 (AT.unpack r))
  | 0x39 => some (.redMin64 (AT.unpack r))
  | 0x3A => some (.redMax32 (AT.unpack r))
  | 0x3B => some (.redMax64 (AT.unpack r))
  | 0x3C => some (.redMinu32 (AT.unpack r))
  | 0x3D => some (.redMinu64 (AT.unpack r))
  | 0x3E => some (.redMaxu32 (AT.unpack r))
  | 0x3F => some (.redMaxu64 (AT.unpack r))
  | 0x40 => some (.redFadd32 (AT.unpack r))
  | 0x48 =>
    let o := FB.unpack r
    some (if o.kind = 1 then .fenceRel o else if o.kind = 2 then .fenceAcq o else .fence o)
  | 0x49 => some (.bind (FB.unpack r))
  | 0x4A => some (.unbind (FB.unpack r))
  | _ => none

/-- The table of slot V0 and V1. -/
def tableV (opc : Nat) (r : RawSyl) : Option Instr :=
  match opc with
  | 0x01 => some (.vadd (VA.unpack r))
  | 0x02 => some (.vsub (VA.unpack r))
  | 0x03 => some (.vmul (VA.unpack r))
  | 0x04 => some (.vmulh (VA.unpack r))
  | 0x05 => some (.vand (VA.unpack r))
  | 0x06 => some (.vor (VA.unpack r))
  | 0x07 => some (.vxor (VA.unpack r))
  | 0x08 => some (.vandn (VA.unpack r))
  | 0x09 => some (.vshl (VA.unpack r))
  | 0x0A => some (.vshr (VA.unpack r))
  | 0x0B => some (.vsra (VA.unpack r))
  | 0x0C => some (.vmin (VA.unpack r))
  | 0x0D => some (.vmax (VA.unpack r))
  | 0x0E => some (.vminu (VA.unpack r))
  | 0x0F => some (.vmaxu (VA.unpack r))
  | 0x10 => some (.vabs (VA.unpack r))
  | 0x11 => some (.vneg (VA.unpack r))
  | 0x12 => some (.vcmp (VA.unpack r))
  | 0x13 => some (.vaddSat (VA.unpack r))
  | 0x14 => some (.vsubSat (VA.unpack r))
  | 0x20 => some (.vfadd (VA.unpack r))
  | 0x21 => some (.vfsub (VA.unpack r))
  | 0x22 => some (.vfmul (VA.unpack r))
  | 0x23 => some (.vfma (VA.unpack r))
  | 0x24 => some (.vfms (VA.unpack r))
  | 0x25 => some (.vfmin (VA.unpack r))
  | 0x26 => some (.vfmax (VA.unpack r))
  | 0x27 => some (.vfabs (VA.unpack r))
  | 0x28 => some (.vfneg (VA.unpack r))
  | 0x29 => some (.vfcmp (VA.unpack r))
  | 0x2A => some (.vrcp (VA.unpack r))
  | 0x2B => some (.vrsq (VA.unpack r))
  | 0x2C => some (.vsqrt (VA.unpack r))
  | 0x2D => some (.vexp2 (VA.unpack r))
  | 0x2E => some (.vlog2 (VA.unpack r))
  | 0x30 => some (.vfaddH (VA.unpack r))
  | 0x31 => some (.vfsubH (VA.unpack r))
  | 0x32 => some (.vfmulH (VA.unpack r))
  | 0x33 => some (.vfmaH (VA.unpack r))
  | 0x34 => some (.vfmsH (VA.unpack r))
  | 0x35 => some (.vfminH (VA.unpack r))
  | 0x36 => some (.vfmaxH (VA.unpack r))
  | 0x37 => some (.vfabsH (VA.unpack r))
  | 0x38 => some (.vfnegH (VA.unpack r))
  | 0x39 => some (.vfcmpH (VA.unpack r))
  | 0x40 => some (.vcvt (VA.unpack r))
  | 0x41 => some (.vcvtRs (VA.unpack r))
  | 0x42 => some (.vqnt (VA.unpack r))
  | 0x43 => some (.vdqnt (VA.unpack r))
  | 0x48 => some (.vrsum (VA.unpack r))
  | 0x49 => some (.vrmax (VA.unpack r))
  | 0x4A => some (.vrmin (VA.unpack r))
  | 0x4B => some (.vscan (VA.unpack r))
  | 0x4C => some (.vrsumF (VA.unpack r))
  | 0x4D => some (.vrmaxF (VA.unpack r))
  | 0x4E => some (.vrminF (VA.unpack r))
  | 0x4F => some (.vscanF (VA.unpack r))
  | 0x50 => some (.vperm (VA.unpack r))
  | 0x51 => some (.vbcast (VA.unpack r))
  | 0x52 => some (.vslide (VA.unpack r))
  | 0x53 => some (.vsel (VA.unpack r))
  | 0x54 => some (.vmov (VA.unpack r))
  | 0x55 => some (.vsplat (VA.unpack r))
  | 0x56 => some (.vlane (VA.unpack r))
  | 0x58 => some (.vstat (VA.unpack r))
  | _ => none

/-- The table of slot M. -/
noncomputable def tableM (opc : Nat) (r : RawSyl) : Option Instr :=
  match opc with
  | 0x01 => some (.mopaNf (MX.unpack r))
  | 0x02 => some (.mopaInt4 (MX.unpack r))
  | 0x03 => some (.mopaInt8 (MX.unpack r))
  | 0x04 => some (.mopaUint8 (MX.unpack r))
  | 0x05 => some (.mopaF16 (MX.unpack r))
  | 0x06 => some (.mopaBf16 (MX.unpack r))
  | 0x07 => some (.mopaF32 (MX.unpack r))
  | 0x09 => some (.mopsNf (MX.unpack r))
  | 0x0A => some (.mopsInt4 (MX.unpack r))
  | 0x0B => some (.mopsInt8 (MX.unpack r))
  | 0x0C => some (.mopsUint8 (MX.unpack r))
  | 0x0D => some (.mopsF16 (MX.unpack r))
  | 0x0E => some (.mopsBf16 (MX.unpack r))
  | 0x0F => some (.mopsF32 (MX.unpack r))
  | 0x10 => some (.mzero (MC.unpack r))
  | 0x11 => some (.mcfg (MC.unpack r))
  | 0x12 => some (.mfence (MC.unpack r))
  | _ => none

/-- The table of slot D. -/
noncomputable def tableD (opc : Nat) (r : RawSyl) : Option Instr :=
  match opc with
  | 0x01 => some (.drain (DR.unpack r))
  | 0x02 => some (.drainM (DR.unpack r))
  | 0x03 => some (.drainv (DR.unpack r))
  | 0x04 => some (.fill (DR.unpack r))
  | 0x05 => some (.fillM (DR.unpack r))
  | 0x06 => some (.fillv (DR.unpack r))
  | 0x07 => some (.dzero (DR.unpack r))
  | _ => none

/-- The table of slot O. -/
noncomputable def tableO (opc : Nat) (r : RawSyl) : Option Instr :=
  match opc with
  | 0x01 => some (.oadamF32 (OP.unpack r))
  | 0x02 => some (.oadamBf16 (OP.unpack r))
  | 0x03 => some (.oadamwF32 (OP.unpack r))
  | 0x04 => some (.oadamwBf16 (OP.unpack r))
  | 0x05 => some (.olionF32 (OP.unpack r))
  | 0x06 => some (.olionBf16 (OP.unpack r))
  | 0x07 => some (.osgdmF32 (OP.unpack r))
  | 0x08 => some (.osgdmBf16 (OP.unpack r))
  | 0x09 => some (.oclip (OP.unpack r))
  | 0x0A => some (.oscale (OP.unpack r))
  | _ => none

/-- The table of slot E. -/
noncomputable def tableE (opc : Nat) (r : RawSyl) : Option Instr :=
  match opc with
  | 0x01 => some (.cpy (EJ.unpack r))
  | 0x02 => some (.cpyq (EJ.unpack r))
  | 0x03 => some (.gath (EJ.unpack r))
  | 0x04 => some (.scat (EJ.unpack r))
  | 0x05 => some (.gathK (EJ.unpack r))
  | 0x06 => some (.scatK (EJ.unpack r))
  | 0x08 => some (.bget (EJ.unpack r))
  | 0x09 => some (.bwr (EJ.unpack r))
  | 0x0A => some (.bred (EJ.unpack r))
  | 0x0B => some (.gred (EJ.unpack r))
  | 0x0C => some (.gmld (EJ.unpack r))
  | 0x0D => some (.grpset (EJ.unpack r))
  | 0x10 => some (.msend (EJ.unpack r))
  | 0x11 => some (.enq (EJ.unpack r))
  | 0x12 => some (.arrive (EJ.unpack r))
  | 0x13 => some (.tdec (EJ.unpack r))
  | 0x14 => some (.tspawn (EJ.unpack r))
  | 0x18 => some (.sclose (EJ.unpack r))
  | 0x19 => some (.sread (EJ.unpack r))
  | 0x1A => some (.sreadO (EJ.unpack r))
  | 0x1B => some (.salloc (EJ.unpack r))
  | 0x1C => some (.sfree (EJ.unpack r))
  | 0x20 => some (.lacq (EJ.unpack r))
  | 0x21 => some (.lrel (EJ.unpack r))
  | 0x22 => some (.realign (EJ.unpack r))
  | 0x23 => some (.mstone (EJ.unpack r))
  | 0x28 => some (.wmarm (EJ.unpack r))
  | _ => none

/-- The table of slot W. -/
def tableW (opc : Nat) (r : RawSyl) : Option Instr :=
  match opc with
  | 0x01 => some (.wait (WT.unpack r))
  | 0x02 => some (.waitc (WT.unpack r))
  | 0x03 => some (.waitb (WT.unpack r))
  | 0x04 => some (.waitt (WT.unpack r))
  | _ => none

/-- The table of slot X. -/
def tableX (opc : Nat) (r : RawSyl) : Option Instr :=
  match opc with
  | 0x01 => some (.scope (SP.unpack r))
  | _ => none

/-- The instruction of an opcode in a slot (PRES numbering, 12 for X). -/
noncomputable def tableOf (slot opc : Nat) (r : RawSyl) : Option Instr :=
  match slot with
  | 0 => tableC opc r
  | 1 => tableS opc r
  | 2 | 3 => tableL opc r
  | 4 => tableST opc r
  | 5 | 6 => tableV opc r
  | 7 => tableM opc r
  | 8 => tableD opc r
  | 9 => tableO opc r
  | 10 => tableE opc r
  | 11 => tableW opc r
  | 12 => tableX opc r
  | _ => none

/-- The guard, operand field and extension word of a syllable (R55). -/
def rawOf (slot : Nat) (w : Word32) (ext : Option Word32) : RawSyl :=
  { g := w.extractLsb' 20 3, f := w.extractLsb' 0 20, ext := ext, second := slot == 3 || slot == 6 }

/-- OPC of a syllable (R55). -/
def opcOf (w : Word32) : Nat := (w.extractLsb' 24 8).toNat

/-- EXT of a syllable (R55). -/
def hasExt (w : Word32) : Bool := w.getLsbD 23

/-- Decode a syllable in its slot, with the extension word that follows it where EXT is 1: the instruction, or the code of R64 that
refuses it, 4 to 7. -/
noncomputable def decodeSyl (slot : Nat) (w : Word32) (ext : Option Word32) : Except Nat Instr :=
  match tableOf slot (opcOf w) (rawOf slot w ext) with
  | none => .error 4
  | some i =>
    match i.illegal with
    | some c => .error c
    | none => .ok i

/-- An encoded syllable: slot, syllable word, extension word. -/
structure Enc where
  slot : Nat
  word : Word32
  ext : Option Word32
deriving DecidableEq, Repr

/-- Build a syllable word (R55). -/
def encWord (opc : BitVec 8) (r : RawSyl) : Word32 := opc ++ (BitVec.ofBool r.ext.isSome ++ (r.g ++ r.f))

/-- Encode in a slot with one table of its own. -/
def enc (slot : Nat) (opc : BitVec 8) (r : RawSyl) : Option Enc :=
  some { slot := slot + r.second.toNat, word := encWord opc r, ext := r.ext }

/-- The syllable of an instruction (R55, R58, R75); none for an event, which has no encoding. -/
def encode : Instr → Option Enc
  | .nop o => enc 0 0x00 o.pack
  | .br o => enc 0 0x01 o.pack
  | .brp o => enc 0 0x02 o.pack
  | .brl o => enc 0 0x03 o.pack
  | .ret o => enc 0 0x04 o.pack
  | .jmp o => enc 0 0x05 o.pack
  | .jmpL o => enc 0 0x06 o.pack
  | .loop o => enc 0 0x07 o.pack
  | .loopn o => enc 0 0x08 o.pack
  | .fmtw o => enc 0 0x09 o.pack
  | .csrr o => enc 0 0x0A o.pack
  | .csrw o => enc 0 0x0B o.pack
  | .csrwI o => enc 0 0x0C o.pack
  | .pand o => enc 0 0x0D o.pack
  | .por o => enc 0 0x0E o.pack
  | .pxor o => enc 0 0x0F o.pack
  | .pnot o => enc 0 0x10 o.pack
  | .trapC o => enc 0 0x11 o.pack
  | .sysc o => enc 0 0x12 o.pack
  | .rft o => enc 0 0x13 o.pack
  | .retire o => enc 0 0x14 o.pack
  | .yield o => enc 0 0x15 o.pack
  | .wait o => enc 11 0x01 o.pack
  | .waitc o => enc 11 0x02 o.pack
  | .waitb o => enc 11 0x03 o.pack
  | .waitt o => enc 11 0x04 o.pack
  | .scope o => enc 12 0x01 o.pack
  | .add o => enc 1 0x01 o.pack
  | .sub o => enc 1 0x02 o.pack
  | .mul o => enc 1 0x03 o.pack
  | .mulh o => enc 1 0x04 o.pack
  | .mulhu o => enc 1 0x05 o.pack
  | .div_ o => enc 1 0x06 o.pack
  | .divu o => enc 1 0x07 o.pack
  | .rem o => enc 1 0x08 o.pack
  | .remu o => enc 1 0x09 o.pack
  | .and_ o => enc 1 0x0A o.pack
  | .or_ o => enc 1 0x0B o.pack
  | .xor_ o => enc 1 0x0C o.pack
  | .andn o => enc 1 0x0D o.pack
  | .shl o => enc 1 0x0E o.pack
  | .shr o => enc 1 0x0F o.pack
  | .sra o => enc 1 0x10 o.pack
  | .rol o => enc 1 0x11 o.pack
  | .clz o => enc 1 0x12 o.pack
  | .ctz o => enc 1 0x13 o.pack
  | .popc o => enc 1 0x14 o.pack
  | .min_ o => enc 1 0x15 o.pack
  | .max_ o => enc 1 0x16 o.pack
  | .minu o => enc 1 0x17 o.pack
  | .maxu o => enc 1 0x18 o.pack
  | .sel o => enc 1 0x19 o.pack
  | .cmp o => enc 1 0x1A o.pack
  | .addW o => enc 1 0x20 o.pack
  | .subW o => enc 1 0x21 o.pack
  | .mulW o => enc 1 0x22 o.pack
  | .divW o => enc 1 0x23 o.pack
  | .divuW o => enc 1 0x24 o.pack
  | .remW o => enc 1 0x25 o.pack
  | .remuW o => enc 1 0x26 o.pack
  | .shlW o => enc 1 0x27 o.pack
  | .shrW o => enc 1 0x28 o.pack
  | .sraW o => enc 1 0x29 o.pack
  | .addi o => enc 1 0x30 o.pack
  | .andI o => enc 1 0x31 o.pack
  | .orI o => enc 1 0x32 o.pack
  | .xorI o => enc 1 0x33 o.pack
  | .shlI o => enc 1 0x34 o.pack
  | .shrI o => enc 1 0x35 o.pack
  | .sraI o => enc 1 0x36 o.pack
  | .rolI o => enc 1 0x37 o.pack
  | .cmpI o => enc 1 0x38 o.pack
  | .movi o => enc 1 0x40 o.pack
  | .movhi o => enc 1 0x41 o.pack
  | .xmovSl o => enc 1 0x48 o.pack
  | .xmovLs o => enc 1 0x49 o.pack
  | .xmovSv o => enc 1 0x4A o.pack
  | .xmovVs o => enc 1 0x4B o.pack
  | .fadd o => enc 1 0x50 o.pack
  | .fmul o => enc 1 0x51 o.pack
  | .fcmp o => enc 1 0x52 o.pack
  | .fma o => enc 1 0x53 o.pack
  | .aadd o => enc 2 0x01 o.pack
  | .aaddi o => enc 2 0x02 o.pack
  | .xmova o => enc 2 0x03 o.pack
  | .lds8 o => enc 2 0x08 o.pack
  | .lds16 o => enc 2 0x09 o.pack
  | .lds32 o => enc 2 0x0A o.pack
  | .lds64 o => enc 2 0x0B o.pack
  | .ldv o => enc 2 0x0C o.pack
  | .ldvt o => enc 2 0x0D o.pack
  | .ldg8 o => enc 2 0x10 o.pack
  | .ldg16 o => enc 2 0x11 o.pack
  | .ldg32 o => enc 2 0x12 o.pack
  | .ldg64 o => enc 2 0x13 o.pack
  | .ldgV o => enc 2 0x14 o.pack
  | .ldk32 o => enc 2 0x18 o.pack
  | .ldk64 o => enc 2 0x19 o.pack
  | .ldacq32 o => enc 2 0x1A o.pack
  | .ldacq64 o => enc 2 0x1B o.pack
  | .ldsc o => enc 2 0x1C o.pack
  | .halloc o => enc 2 0x20 o.pack
  | .hfree o => enc 2 0x21 o.pack
  | .hinfo o => enc 2 0x22 o.pack
  | .kderiveLd o => enc 2 0x23 o.pack
  | .kderiveRs o => enc 2 0x23 o.pack
  | .kderiveSt o => enc 2 0x23 o.pack
  | .kchk o => enc 2 0x24 o.pack
  | .pf o => enc 2 0x28 o.pack
  | .sts8 o => enc 4 0x01 o.pack
  | .sts16 o => enc 4 0x02 o.pack
  | .sts32 o => enc 4 0x03 o.pack
  | .sts64 o => enc 4 0x04 o.pack
  | .stv o => enc 4 0x05 o.pack
  | .stvt o => enc 4 0x06 o.pack
  | .stg8 o => enc 4 0x08 o.pack
  | .stg16 o => enc 4 0x09 o.pack
  | .stg32 o => enc 4 0x0A o.pack
  | .stg64 o => enc 4 0x0B o.pack
  | .stk32 o => enc 4 0x0C o.pack
  | .stk64 o => enc 4 0x0D o.pack
  | .strel32 o => enc 4 0x0E o.pack
  | .strel64 o => enc 4 0x0F o.pack
  | .amoAdd32 o => enc 4 0x10 o.pack
  | .amoAdd64 o => enc 4 0x11 o.pack
  | .amoAnd32 o => enc 4 0x12 o.pack
  | .amoAnd64 o => enc 4 0x13 o.pack
  | .amoOr32 o => enc 4 0x14 o.pack
  | .amoOr64 o => enc 4 0x15 o.pack
  | .amoXor32 o => enc 4 0x16 o.pack
  | .amoXor64 o => enc 4 0x17 o.pack
  | .amoMin32 o => enc 4 0x18 o.pack
  | .amoMin64 o => enc 4 0x19 o.pack
  | .amoMax32 o => enc 4 0x1A o.pack
  | .amoMax64 o => enc 4 0x1B o.pack
  | .amoMinu32 o => enc 4 0x1C o.pack
  | .amoMinu64 o => enc 4 0x1D o.pack
  | .amoMaxu32 o => enc 4 0x1E o.pack
  | .amoMaxu64 o => enc 4 0x1F o.pack
  | .amoSwap32 o => enc 4 0x20 o.pack
  | .amoSwap64 o => enc 4 0x21 o.pack
  | .cas32 o => enc 4 0x24 o.pack
  | .cas64 o => enc 4 0x25 o.pack
  | .cas128 o => enc 4 0x26 o.pack
  | .redAdd32 o => enc 4 0x30 o.pack
  | .redAdd64 o => enc 4 0x31 o.pack
  | .redAnd32 o => enc 4 0x32 o.pack
  | .redAnd64 o => enc 4 0x33 o.pack
  | .redOr32 o => enc 4 0x34 o.pack
  | .redOr64 o => enc 4 0x35 o.pack
  | .redXor32 o => enc 4 0x36 o.pack
  | .redXor64 o => enc 4 0x37 o.pack
  | .redMin32 o => enc 4 0x38 o.pack
  | .redMin64 o => enc 4 0x39 o.pack
  | .redMax32 o => enc 4 0x3A o.pack
  | .redMax64 o => enc 4 0x3B o.pack
  | .redMinu32 o => enc 4 0x3C o.pack
  | .redMinu64 o => enc 4 0x3D o.pack
  | .redMaxu32 o => enc 4 0x3E o.pack
  | .redMaxu64 o => enc 4 0x3F o.pack
  | .redFadd32 o => enc 4 0x40 o.pack
  | .fence o => enc 4 0x48 o.pack
  | .fenceRel o => enc 4 0x48 o.pack
  | .fenceAcq o => enc 4 0x48 o.pack
  | .bind o => enc 4 0x49 o.pack
  | .unbind o => enc 4 0x4A o.pack
  | .vadd o => enc 5 0x01 o.pack
  | .vsub o => enc 5 0x02 o.pack
  | .vmul o => enc 5 0x03 o.pack
  | .vmulh o => enc 5 0x04 o.pack
  | .vand o => enc 5 0x05 o.pack
  | .vor o => enc 5 0x06 o.pack
  | .vxor o => enc 5 0x07 o.pack
  | .vandn o => enc 5 0x08 o.pack
  | .vshl o => enc 5 0x09 o.pack
  | .vshr o => enc 5 0x0A o.pack
  | .vsra o => enc 5 0x0B o.pack
  | .vmin o => enc 5 0x0C o.pack
  | .vmax o => enc 5 0x0D o.pack
  | .vminu o => enc 5 0x0E o.pack
  | .vmaxu o => enc 5 0x0F o.pack
  | .vabs o => enc 5 0x10 o.pack
  | .vneg o => enc 5 0x11 o.pack
  | .vcmp o => enc 5 0x12 o.pack
  | .vaddSat o => enc 5 0x13 o.pack
  | .vsubSat o => enc 5 0x14 o.pack
  | .vfadd o => enc 5 0x20 o.pack
  | .vfsub o => enc 5 0x21 o.pack
  | .vfmul o => enc 5 0x22 o.pack
  | .vfma o => enc 5 0x23 o.pack
  | .vfms o => enc 5 0x24 o.pack
  | .vfmin o => enc 5 0x25 o.pack
  | .vfmax o => enc 5 0x26 o.pack
  | .vfabs o => enc 5 0x27 o.pack
  | .vfneg o => enc 5 0x28 o.pack
  | .vfcmp o => enc 5 0x29 o.pack
  | .vrcp o => enc 5 0x2A o.pack
  | .vrsq o => enc 5 0x2B o.pack
  | .vsqrt o => enc 5 0x2C o.pack
  | .vexp2 o => enc 5 0x2D o.pack
  | .vlog2 o => enc 5 0x2E o.pack
  | .vfaddH o => enc 5 0x30 o.pack
  | .vfsubH o => enc 5 0x31 o.pack
  | .vfmulH o => enc 5 0x32 o.pack
  | .vfmaH o => enc 5 0x33 o.pack
  | .vfmsH o => enc 5 0x34 o.pack
  | .vfminH o => enc 5 0x35 o.pack
  | .vfmaxH o => enc 5 0x36 o.pack
  | .vfabsH o => enc 5 0x37 o.pack
  | .vfnegH o => enc 5 0x38 o.pack
  | .vfcmpH o => enc 5 0x39 o.pack
  | .vcvt o => enc 5 0x40 o.pack
  | .vcvtRs o => enc 5 0x41 o.pack
  | .vqnt o => enc 5 0x42 o.pack
  | .vdqnt o => enc 5 0x43 o.pack
  | .vrsum o => enc 5 0x48 o.pack
  | .vrmax o => enc 5 0x49 o.pack
  | .vrmin o => enc 5 0x4A o.pack
  | .vscan o => enc 5 0x4B o.pack
  | .vrsumF o => enc 5 0x4C o.pack
  | .vrmaxF o => enc 5 0x4D o.pack
  | .vrminF o => enc 5 0x4E o.pack
  | .vscanF o => enc 5 0x4F o.pack
  | .vperm o => enc 5 0x50 o.pack
  | .vbcast o => enc 5 0x51 o.pack
  | .vslide o => enc 5 0x52 o.pack
  | .vsel o => enc 5 0x53 o.pack
  | .vmov o => enc 5 0x54 o.pack
  | .vsplat o => enc 5 0x55 o.pack
  | .vlane o => enc 5 0x56 o.pack
  | .vstat o => enc 5 0x58 o.pack
  | .mopaNf o => enc 7 0x01 o.pack
  | .mopaInt4 o => enc 7 0x02 o.pack
  | .mopaInt8 o => enc 7 0x03 o.pack
  | .mopaUint8 o => enc 7 0x04 o.pack
  | .mopaF16 o => enc 7 0x05 o.pack
  | .mopaBf16 o => enc 7 0x06 o.pack
  | .mopaF32 o => enc 7 0x07 o.pack
  | .mopsNf o => enc 7 0x09 o.pack
  | .mopsInt4 o => enc 7 0x0A o.pack
  | .mopsInt8 o => enc 7 0x0B o.pack
  | .mopsUint8 o => enc 7 0x0C o.pack
  | .mopsF16 o => enc 7 0x0D o.pack
  | .mopsBf16 o => enc 7 0x0E o.pack
  | .mopsF32 o => enc 7 0x0F o.pack
  | .mzero o => enc 7 0x10 o.pack
  | .mcfg o => enc 7 0x11 o.pack
  | .mfence o => enc 7 0x12 o.pack
  | .drain o => enc 8 0x01 o.pack
  | .drainM o => enc 8 0x02 o.pack
  | .drainv o => enc 8 0x03 o.pack
  | .fill o => enc 8 0x04 o.pack
  | .fillM o => enc 8 0x05 o.pack
  | .fillv o => enc 8 0x06 o.pack
  | .dzero o => enc 8 0x07 o.pack
  | .oadamF32 o => enc 9 0x01 o.pack
  | .oadamBf16 o => enc 9 0x02 o.pack
  | .oadamwF32 o => enc 9 0x03 o.pack
  | .oadamwBf16 o => enc 9 0x04 o.pack
  | .olionF32 o => enc 9 0x05 o.pack
  | .olionBf16 o => enc 9 0x06 o.pack
  | .osgdmF32 o => enc 9 0x07 o.pack
  | .osgdmBf16 o => enc 9 0x08 o.pack
  | .oclip o => enc 9 0x09 o.pack
  | .oscale o => enc 9 0x0A o.pack
  | .cpy o => enc 10 0x01 o.pack
  | .cpyq o => enc 10 0x02 o.pack
  | .gath o => enc 10 0x03 o.pack
  | .scat o => enc 10 0x04 o.pack
  | .gathK o => enc 10 0x05 o.pack
  | .scatK o => enc 10 0x06 o.pack
  | .bget o => enc 10 0x08 o.pack
  | .bwr o => enc 10 0x09 o.pack
  | .bred o => enc 10 0x0A o.pack
  | .gred o => enc 10 0x0B o.pack
  | .gmld o => enc 10 0x0C o.pack
  | .grpset o => enc 10 0x0D o.pack
  | .msend o => enc 10 0x10 o.pack
  | .enq o => enc 10 0x11 o.pack
  | .arrive o => enc 10 0x12 o.pack
  | .tdec o => enc 10 0x13 o.pack
  | .tspawn o => enc 10 0x14 o.pack
  | .sclose o => enc 10 0x18 o.pack
  | .sread o => enc 10 0x19 o.pack
  | .sreadO o => enc 10 0x1A o.pack
  | .salloc o => enc 10 0x1B o.pack
  | .sfree o => enc 10 0x1C o.pack
  | .lacq o => enc 10 0x20 o.pack
  | .lrel o => enc 10 0x21 o.pack
  | .realign o => enc 10 0x22 o.pack
  | .mstone o => enc 10 0x23 o.pack
  | .wmarm o => enc 10 0x28 o.pack
  | .landing _ => none
  | .loopEndMark _ => none
  | .segmentBoundaryMark _ => none
  | .segmentMiss _ => none
  | .segmentCopyComplete _ _ => none
  | .junctionCycle _ => none
  | .rotationRebase _ => none
  | .hiddenResultWrite _ _ => none
  | .hallocComplete _ _ => none
  | .handleStorageRelease _ _ => none
  | .matrixOpComplete _ _ => none
  | .drainOpComplete _ _ => none
  | .optimiserOpComplete _ _ => none
  | .optimiserTrapTaken _ => none
  | .engineJobComplete _ _ => none
  | .waymarkReport _ _ _ _ => none
  | .pageFault _ _ => none
  | .tileRetired _ => none
  | .contextSwitchStart _ _ => none
  | .spillSave _ => none
  | .refill _ => none
  | .walkerAssign _ => none
  | .walkerUpdate _ => none
  | .forkRequest _ => none
  | .walkerSave _ => none
  | .walkerRestore _ => none
  | .taskDone _ => none
  | .dispatch => none
  | .clusterCacheWriteback _ _ => none
  | .clusterCacheEccError _ _ _ _ => none
  | .barrierUpdate _ _ => none
  | .atomicPlacementNear _ _ => none
  | .ownershipRecall _ => none
  | .llcEccError _ _ _ => none
  | .translationInvalidateAck _ => none
  | .migrationCopyComplete _ => none
  | .hintWindowCheck _ _ _ _ => none
  | .deltaMerge _ => none
  | .leaseGrant _ _ => none
  | .leaseRenewal _ _ => none
  | .leaseEnd _ => none
  | .leaseRecall _ _ _ => none
  | .routeSheetEntry _ _ _ => none
  | .routeRecordRetry _ _ => none
  | .queueFetch _ => none
  | .queueHintWrite _ _ => none
  | .queueReset _ => none
  | .queueEnWrite _ _ => none
  | .registerWrite _ _ _ => none
  | .launch _ _ _ _ _ => none
  | .ready _ _ => none
  | .dec _ _ _ => none
  | .template _ _ _ _ => none
  | .route _ _ => none
  | .aspace _ _ _ _ _ _ => none
  | .quota _ _ _ _ => none
  | .config _ _ _ _ => none
  | .map _ _ _ _ _ _ _ _ => none
  | .unmap _ _ _ => none
  | .protect _ _ _ _ _ => none
  | .migrate _ _ _ _ _ _ => none
  | .segtab _ _ _ _ => none
  | .recAlloc _ _ _ _ => none
  | .recFree _ _ => none
  | .resume _ _ _ _ _ => none
  | .abandon _ _ => none
  | .switch _ _ => none
  | .wsave _ _ => none
  | .fencePacket _ => none
  | .nopPacket _ => none
  | .fwupdate _ _ _ => none
  | .eventRingConfigWrite _ _ => none
  | .heldFaultRecordWrite => none
  | .watchdogExpiry _ => none
  | .parityError _ => none
  | .qownerWrite _ _ => none
  | .lockInterfaceRequest _ => none
  | .startInterfaceRequest _ _ => none
  | .stopInterfaceRequest _ => none
  | .getDeviceInterfaceReport _ => none
  | .ideIntegrityFailure _ => none
  | .functionLevelReset _ => none
  | .spdmAlgorithmNegotiation _ _ _ _ => none
  | .snpinv _ => none
  | .snpdata _ => none
  | .cxlCapacityEviction _ => none
  | .hostHdmAccess _ _ _ _ => none
  | .coldStart _ => none
  | .warmStart _ => none
  | .warm => none
  | .go => none
  | .startTimeout => none
  | .tolWrite _ => none
  | .powerStateEntry => none
  | .powerStateWake _ _ => none
  | .throttleStep _ => none
  | .thermalTrip _ => none
  | .slotBoundary => none
  | .flitReceive _ _ => none
  | .flitForward => none
  | .framePulse _ _ _ => none
  | .relock _ _ _ => none
  | .phase2Entry => none
  | .nosyncEntry => none
  | .holdoverExchange _ => none
  | .portPause _ => none
  | .portRetrain _ => none
  | .portFence _ => none
  | .portRejoin _ => none
  | .dataReceive _ => none
  | .enqReceive _ => none
  | .arriveReceive _ => none
  | .heldMessageRelease _ _ => none
  | .streamAbort _ _ _ => none
  | .membershipAdd _ _ => none
  | .membershipRemove _ _ => none
  | .groupPhaseComplete _ _ _ _ => none
  | .poolReject _ _ => none
  | .commitAnswer _ _ _ => none
  | .frozenItemWrite _ => none
  | .poolWriteAcknowledgement _ _ => none
  | .carrierMemoryEccError _ _ => none

/-! ## Bundle headers (R44, R45) -/

/-- A bundle header. -/
structure Header where
  /-- Loop-end mark. -/
  lend : Bool
  /-- Segment boundary mark. -/
  segb : Bool
  /-- Repeat count minus one. -/
  rep : BitVec 4
  /-- One bit per streaming slot: L0, L1, ST, M, D. -/
  sticky : BitVec 5
  /-- A scope-prefix syllable is present. -/
  xp : Bool
  /-- Slots present, C to W. -/
  pres : BitVec 12
deriving DecidableEq, Repr

/-- The header with no slot, no mark and no repetition. -/
def Header.empty : Header := { lend := false, segb := false, rep := 0, sticky := 0, xp := false, pres := 0 }

/-- The three readings of a word that stands where a header may stand (R45). -/
inductive HeadWord where
  | padding
  | header (h : Header)
  | bad (code : Nat)
deriving DecidableEq, Repr

/-- Read a word that stands where a header may stand: padding, a header, or the code of R64 that refuses it (1 or 2). -/
def decodeHead (w : Word32) : HeadWord :=
  let kind := w.extractLsb' 28 4
  if kind = 0xF then (if w = 0xF0000000 then .padding else .bad 1)
  else if kind ≠ 0 then .bad 1
  else if w.getLsbD 26 || w.extractLsb' 13 3 != 0 then .bad 2
  else
    .header { lend := w.getLsbD 27, segb := w.getLsbD 25, rep := w.extractLsb' 21 4, sticky := w.extractLsb' 16 5,
              xp := w.getLsbD 12, pres := w.extractLsb' 0 12 }

/-- The word of a header. -/
def encodeHead (h : Header) : Word32 :=
  (0#4 ++ (BitVec.ofBool h.lend ++ (0#1 ++ (BitVec.ofBool h.segb ++ (h.rep ++ (h.sticky ++ (0#3 ++ (BitVec.ofBool h.xp ++
    h.pres))))))) : BitVec 32)

/-- The slots whose syllables stand in a bundle, in order (R43). -/
def Header.slots (h : Header) : List Nat :=
  ((List.range 12).filter fun i => h.pres.getLsbD i) ++ (if h.xp then [12] else [])

/-- The streaming slots with their STICKY bits (R44). -/
def stickyBit (slot : Nat) : Option Nat :=
  match slot with
  | 2 => some 0
  | 3 => some 1
  | 4 => some 2
  | 7 => some 3
  | 8 => some 4
  | _ => none

/-- Is the slot's sticky bit set? -/
def Header.isSticky (h : Header) (slot : Nat) : Bool :=
  match stickyBit slot with
  | some b => h.sticky.getLsbD b
  | none => false

/-- Is the slot present? -/
def Header.isPresent (h : Header) (slot : Nat) : Bool := if slot = 12 then h.xp else h.pres.getLsbD slot

/-- The slots a bundle uses: present ones, and absent ones whose sticky bit is set (R46). -/
def Header.uses (h : Header) (slot : Nat) : Bool := h.isPresent slot || h.isSticky slot

/-- The words of the syllables of a bundle, their extension words among them: the (slot, syllable, extension) triples, and how many
words they take. None where the words run out. -/
def splitWords : List Nat → List Word32 → Option (List (Nat × Word32 × Option Word32) × Nat)
  | [], _ => some ([], 0)
  | _ :: _, [] => none
  | s :: ss, w :: ws =>
    if hasExt w then
      match ws with
      | [] => none
      | e :: ws' =>
        match splitWords ss ws' with
        | none => none
        | some (l, n) => some ((s, w, some e) :: l, n + 2)
    else
      match splitWords ss ws with
      | none => none
      | some (l, n) => some ((s, w, none) :: l, n + 1)

/-! ## Command packets (R439, R440) -/

/-- The outcome of reading a packet (R439). -/
inductive Packet where
  /-- A packet that is to be performed. -/
  | ok (i : Instr)
  /-- BAD_PACKET. -/
  | bad (h : PktHdr)
  /-- PRIVILEGE: a supervisor packet on a queue without SUPER. -/
  | denied (h : PktHdr)
deriving DecidableEq, Repr

/-- The field [hi:lo] of a packet, bits counted from its first byte (R9). -/
def pkt (b : VWord) (lo len : Nat) : Nat := (b.toNat / 2 ^ lo) % 2 ^ len

/-- Is every bit of a packet outside the header and the listed fields zero (R439)? `used` lists (first bit, length). -/
def pktClean (b : VWord) (used : List (Nat × Nat)) : Bool :=
  let mask := used.foldl (fun m f => m ||| ((2 ^ f.2 - 1) * 2 ^ f.1)) 0
  decide (b.toNat / 2 ^ 128 * 2 ^ 128 = b.toNat &&& mask)

/-- The register writes of a RESUME (R447). -/
def pktRegs (b : VWord) : Nat → Nat → List (Nat × Word)
  | _, 0 => []
  | i, n + 1 => (pkt b (256 + 128 * i) 5, BitVec.ofNat 64 (pkt b (256 + 128 * i + 64) 64)) :: pktRegs b (i + 1) n

/-- The supervisor packets (R440). -/
def pktSuper (opc : Nat) : Bool := (6 ≤ opc && opc ≤ 13) || (16 ≤ opc && opc ≤ 19) || opc == 22

/-- The body of a packet: the instruction, with whether its fields are inside their limits (R440); an intermediate address has 52 bits (R12, R386). -/
noncomputable def pktBody (h : PktHdr) (b : VWord) (opc : Nat) : Option (Instr × Bool) :=
  let w (byte : Nat) : Nat := pkt b (8 * byte) 64
  let word (byte : Nat) : Word := BitVec.ofNat 64 (w byte)
  let isIa (byte : Nat) : Bool := decide (w byte < 2 ^ 52)
  let pageOk := isIa 0x10 && decide (w 0x10 % 2 ^ 16 = 0) && decide (w 0x18 % 2 ^ 12 = 0)
  let size := pkt b 0x100 2
  let tier := pkt b 0x104 3
  let r := decide (pkt b 0x108 1 = 1)
  let wr := decide (pkt b 0x109 1 = 1)
  let asid := pkt b 0x110 13
  match opc with
  | 1 => some (.launch h (w 0x10) (pkt b 0xC0 14) (decide (pkt b 0xCF 1 = 1)) (word 0x20),
      pktClean b [(0x80, 64), (0xC0, 14), (0xCF, 1), (0x100, 64)] && isIa 0x10 && decide (w 0x10 % 128 = 0))
  | 2 => some (.ready h (pkt b 0x80 14), pktClean b [(0x80, 14)])
  | 3 => some (.dec h (pkt b 0x80 14) (pkt b 0xA0 32), pktClean b [(0x80, 14), (0xA0, 32)] && decide (0 < pkt b 0xA0 32))
  | 4 => some (.template h (pkt b 0x80 10) (w 0x18) (w 0x20),
      pktClean b [(0x80, 10), (0xC0, 64), (0x100, 64)] && isIa 0x18 && isIa 0x20 && decide (w 0x18 % 128 = 0) && decide (w 0x20 % 16 = 0))
  | 5 => some (.route h (w 0x10), pktClean b [(0x80, 64)] && isIa 0x10)
  | 6 => some (.aspace h (pkt b 0x80 13) (pkt b 0x90 8) (decide (pkt b 0x98 1 = 1)) (pkt b 0xA0 16) (w 0x18),
      pktClean b [(0x80, 13), (0x90, 8), (0x98, 1), (0xA0, 16), (0xC0, 64)] && isIa 0x18)
  | 7 => some (.quota h (pkt b 0x80 8) (word 0x18) (word 0x20), pktClean b [(0x80, 8), (0xC0, 64), (0x100, 64)])
  | 8 => some (.config h (pkt b 0x80 18) (w 0x18) (pkt b 0x100 16),
      pktClean b [(0x80, 18), (0xC0, 64), (0x100, 16)] && isIa 0x18 && decide (pkt b 0x80 18 ≤ 131072))
  | 9 => some (.map h (w 0x10) (w 0x18) size tier r wr asid,
      pktClean b [(0x80, 64), (0xC0, 64), (0x100, 2), (0x104, 3), (0x108, 2), (0x110, 13)] && pageOk)
  | 10 => some (.unmap { h with named := asid } (w 0x10) size, pktClean b [(0x80, 64), (0x100, 2), (0x110, 13)] && pageOk)
  | 11 => some (.protect { h with named := asid } (w 0x10) size r wr, pktClean b [(0x80, 64), (0x100, 2), (0x108, 2), (0x110, 13)] && pageOk)
  | 12 => some (.migrate h (w 0x10) (w 0x18) size tier asid,
      pktClean b [(0x80, 64), (0xC0, 64), (0x100, 2), (0x104, 3), (0x108, 2), (0x110, 13)] && pageOk)
  | 13 => some (.segtab h (w 0x10) (w 0x18) (pkt b 0x100 13),
      pktClean b [(0x80, 64), (0xC0, 64), (0x100, 13)] && isIa 0x10 && isIa 0x18 && decide (0 < pkt b 0x100 13) && decide (pkt b 0x100 13 ≤ 4096))
  | 14 => some (.recAlloc h (pkt b 0x80 16) (decide (pkt b 0x90 1 = 1)) (BitVec.ofNat 8 (pkt b 0x98 8)),
      pktClean b [(0x80, 16), (0x90, 1), (0x98, 8)])
  | 15 => some (.recFree h (pkt b 0x80 16), pktClean b [(0x80, 16)])
  | 16 =>
    let n := pkt b 0x94 4
    some (.resume h (pkt b 0x80 10) (decide (pkt b 0x90 1 = 1)) (w 0x18) (pktRegs b 0 n),
      pktClean b ([(0x80, 10), (0x90, 1), (0x94, 4), (0xC0, 64)] ++
        ((List.range n).flatMap fun i => [(256 + 128 * i, 5), (256 + 128 * i + 64, 64)])) &&
      decide (n ≤ 6) && decide (w 0x18 % 16 = 0) && decide (w 0x18 < 2 ^ 32) &&
      (pktRegs b 0 n).all fun e => decide (0 < e.1))
  | 17 => some (.abandon h (pkt b 0x80 10), pktClean b [(0x80, 10)])
  | 18 => some (.switch h (pkt b 0x80 10), pktClean b [(0x80, 10)])
  | 19 => some (.wsave h (pkt b 0x80 6), pktClean b [(0x80, 6)])
  | 20 => some (.fencePacket h, pktClean b [])
  | 21 => some (.nopPacket h, pktClean b [])
  | 22 => some (.fwupdate h (w 0x10) (pkt b 0xC0 32), pktClean b [(0x80, 64), (0xC0, 32)] && isIa 0x10)
  | _ => none

/-- Read the 128 bytes of a packet fetched from a queue's ring entry, for a queue of an address space, with its SUPER bit
(R439). -/
noncomputable def decodePacket (queue entry asid : Nat) (super : Bool) (b : VWord) : Packet :=
  let opc := pkt b 0 7
  let h : PktHdr := { queue := queue, entry := entry, opc := opc, tag := pkt b 16 16, cmpl := pkt b 64 64, asid := asid }
  let headOk := decide (pkt b 8 8 = 0) && decide (pkt b 32 32 = 0) && decide (pkt b 64 64 % 16 = 0) && decide (pkt b 64 64 < 2 ^ 52)
  match pktBody h b opc with
  | none => .bad h
  | some (i, ok) => if !headOk || !ok then .bad h else if pktSuper opc && !super then .denied h else .ok i

/-! ## The opcode table's words -/

/-- The slots tried for a word of spec/opcode_table.json, which names no slot (log entry 2). -/
def tableSlots : List Nat := [0, 1, 2, 4, 5, 7, 8, 9, 10, 11, 12]

/-- The first slot of a list in which a word decodes. -/
noncomputable def firstDecode (w : Word32) (ext : Option Word32) : List Nat → Option Instr
  | [] => none
  | s :: ss =>
    match decodeSyl s w ext with
    | .ok i => some i
    | .error _ => firstDecode w ext ss

/-- The first slot of a list in which a word decodes, as its slot number. -/
noncomputable def firstSlot (w : Word32) (ext : Option Word32) : List Nat → Nat
  | [] => 0
  | s :: ss =>
    match decodeSyl s w ext with
    | .ok _ => s
    | .error _ => firstSlot w ext ss

/-- The syllable word of a table word: its low 32 bits. -/
def tableWord (w : Nat) : Word32 := BitVec.ofNat 32 w

/-- The extension word of a table word: the next 32 bits, where EXT is 1. -/
def tableExt (w : Nat) : Option Word32 := if hasExt (tableWord w) then some (BitVec.ofNat 32 (w / 2 ^ 32)) else none

/-- The instruction the decoder reads from a syllable word of spec/opcode_table.json and, above it, the extension word; bits above
`nbits` are 0. The slot is the first of C, S, L0, ST, V0, M, D, O, E, W, X in which the word decodes (log entry 2). -/
noncomputable def decodeTableWord (nbits w : Nat) : Option Instr :=
  let w := w % 2 ^ nbits
  firstDecode (tableWord w) (tableExt w) tableSlots

end Sys2Proof
end

