-- ==== Sys2Proof/Machine/Store.lean ====
section
/-! DEFINITION. Sparse maps from numbers to values, as plain lists of pairs with rising keys: the one shape in which this
model holds memories, register files and tables. -/

namespace Sys2Proof

/-- A sparse map from numbers: a list of (key, value) pairs. A key that is not listed has the map's default. -/
abbrev Store (α : Type) := List (Nat × α)

/-- The value at key `i`, `d` where no entry has that key. -/
def Store.get {α : Type} (d : α) : Store α → Nat → α
  | [], _ => d
  | (k, v) :: t, i => if i = k then v else Store.get d t i

/-- Give key `i` the value `v`, in its place in the rising order. -/
def Store.put {α : Type} : Store α → Nat → α → Store α
  | [], i, v => [(i, v)]
  | (k, w) :: t, i, v =>
    if i < k then (i, v) :: (k, w) :: t
    else if i = k then (i, v) :: t
    else (k, w) :: Store.put t i v

/-- Remove every entry with key `i`. -/
def Store.del {α : Type} : Store α → Nat → Store α
  | [], _ => []
  | (k, w) :: t, i => if i = k then Store.del t i else (k, w) :: Store.del t i

/-- Give key `i` the value `v`, keeping the canonical form: no entry equals the default `d`. -/
def Store.set {α : Type} [DecidableEq α] (d : α) (m : Store α) (i : Nat) (v : α) : Store α :=
  if v = d then Store.del m i else Store.put m i v

/-- Remove every entry whose key lies in `[lo, lo + len)`. -/
def Store.clear {α : Type} (m : Store α) (lo len : Nat) : Store α :=
  m.filter fun e => !(decide (lo ≤ e.1) && decide (e.1 < lo + len))

/-- The entries whose key lies in `[lo, lo + len)`, their keys counted from `lo`. -/
def Store.slice {α : Type} (m : Store α) (lo len : Nat) : Store α :=
  (m.filter fun e => decide (lo ≤ e.1) && decide (e.1 < lo + len)).map fun e => (e.1 - lo, e.2)

/-- Is there an entry with key `i`? -/
def Store.has {α : Type} (m : Store α) (i : Nat) : Bool := m.any fun e => e.1 == i

/-- The keys strictly rise. -/
def Store.rising {α : Type} : Store α → Bool
  | [] => true
  | (k, _) :: t => (t.all fun e => decide (k < e.1)) && Store.rising t

/-- The canonical form: keys strictly rise and no entry equals the default. -/
def Store.wf {α : Type} [DecidableEq α] (d : α) (m : Store α) : Bool :=
  Store.rising m && m.all fun e => decide (e.2 ≠ d)

/-- The lowest of `fuel` numbers from `i` on that is no key of the map. -/
def Store.lowestFree {α : Type} (m : Store α) : Nat → Nat → Option Nat
  | 0, _ => none
  | fuel + 1, i => if Store.has m i then Store.lowestFree m fuel (i + 1) else some i

/-- A memory of bytes: what an unlisted address reads as is 0 (log entry 4). -/
abbrev Memory := List Host.Cell

/-- One byte of a memory. -/
def Memory.read (m : Memory) (a : Nat) : Byte := Store.get 0#8 m a

/-- Write one byte, keeping the canonical form. -/
def Memory.write (m : Memory) (a : Nat) (b : Byte) : Memory := Store.set 0#8 m a b

/-- The canonical form of a memory: addresses strictly rise, no entry reads as an unlisted address does. -/
def Memory.wf (m : Memory) : Bool := Store.wf 0#8 m

/-- The little-endian number of the `n` bytes from `a` on (R9). -/
def Memory.readLE (m : Memory) (a : Nat) : Nat → Nat
  | 0 => 0
  | n + 1 => (Memory.read m a).toNat + 256 * Memory.readLE m (a + 1) n

/-- Store the low `n` bytes of `x` from `a` on, lowest byte first (R9). -/
def Memory.writeLE (m : Memory) (a : Nat) : Nat → Nat → Memory
  | 0, _ => m
  | n + 1, x => Memory.writeLE (Memory.write m a (BitVec.ofNat 8 x)) (a + 1) n (x / 256)

end Sys2Proof
end

