-- ==== Sys2Proof/Machine/State.lean ====
section
/-! DEFINITION. The state of the SLZ-7200, all of it plain data, the two ways a step can stop, and the state after reset.
The bracket that ends a field's docstring gives the rule of spec/ that names it, its width, and its value at reset. -/

namespace Sys2Proof.Machine

/-- Why the machine stops with a fault. -/
inductive Fault where
  /-- Raised by the meaning of an event that names a unit the module does not have (a context of 1,024 or more, a core of 256
  or more, a walker of 64 or more, a port of 16 or more ...): R6 gives their numbers. Safe: the model stops. -/
  | noSuchUnit
deriving DecidableEq, Repr

/-- Why the machine refuses a step. -/
inductive Refusal where
  /-- Raised by exec's arm of an instruction without a meaning, by its mnemonic. Safe: the model stops. -/
  | notModelled (mnemonic : String)
deriving DecidableEq, Repr

/-! ## The context (R16) -/

/-- The states of a context (R40). -/
inductive CtxState where
  | free | running | handler | retiring | frozen | spilled
deriving DecidableEq, Repr

/-- A register file that results are written into (R16, R321 FILE). -/
inductive RegFile where
  | s | a | v | q | p | lc | lk | fmt | k
deriving DecidableEq, Repr

/-- One register of one context. -/
structure Dest where
  /-- Its file. -/
  file : RegFile
  /-- Its index in the file. -/
  idx : Nat
deriving DecidableEq, Repr

/-- One entry of a landing queue (R28, R321). -/
structure Landing where
  /-- Register written. -/
  dest : Dest
  /-- Value, low-aligned. -/
  value : VWord
  /-- The bits it writes: all of the register but for the lanes a mask leaves alone (R142). -/
  mask : VWord
  /-- Ticks still to go. -/
  left : Nat
  /-- Slot order within its tick. -/
  order : Nat
deriving DecidableEq, Repr

/-- An entry of the tile table (R204, R193). kind: 0 A, 1 B, 2 G, 3 accumulator, 4 waymark, 7 none. -/
structure Handle where
  /-- BOUND. -/
  bound : Bool
  /-- PENDING: a halloc to it has not completed. -/
  pending : Bool
  /-- FAILED: the last halloc to it was refused. -/
  failed : Bool
  /-- KIND. -/
  kind : Nat
  /-- ROWW, bank words per row. -/
  roww : Nat
  /-- ROWS. -/
  rows : Nat
  /-- BASE, a scratch address; the accumulator or waymark number of KIND 3 and 4 in the partition. -/
  base : Nat
deriving DecidableEq, Repr

/-- The nest state of a context (R108) and its loop buffer (R270). -/
structure Nest where
  /-- The declared set D, with the trip count of each dimension. -/
  dims : Store Word32
  /-- Is the nest open? -/
  isOpen : Bool
  /-- Start address of the body. -/
  body : Nat
  /-- Bundles of the body issued in this pass. -/
  pos : Nat
  /-- The loop buffer: address and words of the body bundles copied as they issued, by position (R270). -/
  buffer : Store (Nat × List Word32)
  /-- Is the first pass over, so that the body issues from the buffer (R113)? -/
  replay : Bool
deriving DecidableEq, Repr

/-- What a memory or hidden-latency unit does when it is performed (R175 to R186, R195, R125). -/
inductive UnitOp where
  /-- Load of `size` bytes into the destination; with acq, of a sync word. -/
  | load (acq : Bool)
  /-- ldsc: the reserved scale-queue entry receives 128 bytes. -/
  | scale (entry : Nat)
  /-- Store of `size` bytes; with rel, of a sync word. -/
  | store (rel : Bool)
  /-- Atomic: 0 add, 1 and, 2 or, 3 xor, 4 min, 5 max, 6 minu, 7 maxu, 8 swap, 9 FP32 add; ret: returns the old value. -/
  | atomic (op : Nat) (ret : Bool)
  /-- Compare and swap. -/
  | cas
  /-- A value computed at issue that arrives later (division, R125). -/
  | value
  /-- kderive.rs: the pool reseals a capability with the RIGHTS and LENCLASS limits of data (R195). -/
  | reseal
  /-- kchk: the pool's verdict (R196). -/
  | check
  /-- An acquire or full fence of its bundle, which later accesses wait for (R406). -/
  | fence
deriving DecidableEq, Repr

/-- Where an access goes (R162, R331). -/
inductive Target where
  /-- A byte of memory by intermediate address. -/
  | ia (a : Nat)
  /-- A byte offset of the object of a capability. -/
  | pool (cap : Word128) (off : Nat)
  /-- No address. -/
  | none
deriving DecidableEq, Repr

/-- An access or hidden result in flight (R32, R168). -/
structure MemUnit where
  /-- Number within the context, rising in program order. -/
  id : Nat
  /-- Slot that issued it (R306). -/
  slot : Nat
  /-- What it does. -/
  op : UnitOp
  /-- Where. -/
  target : Target
  /-- Bytes. -/
  size : Nat
  /-- Store data, operand or comparand. -/
  data : Nat
  /-- Second operand: the new value of a cas. -/
  data2 : Nat
  /-- The register that receives its result. -/
  dest : Option Dest
  /-- A second register of a pair (cas.128). -/
  dest2 : Option Dest
  /-- Order: 0 none, 1 acquire, 2 release, 3 both (R187). -/
  order : Nat
  /-- Scope of its bundle (R138). -/
  scope : Nat
  /-- Step tag of a pool access (R497). -/
  stepTag : Word
  /-- Suspended by a fault (R168), or held behind one that is (R169). -/
  suspended : Bool
  /-- A pool store whose bytes stand in the frames that hold them (R421). -/
  framed : Bool
  /-- The value of a window load of the own core's scratch that was read as it issued (R182). -/
  taken : Option Nat
deriving DecidableEq, Repr

/-- A footprint entry of an engine operation (R263, R266, R280): which bytes it reads or writes. -/
structure Foot where
  /-- 0 scratch, 1 intermediate address, 2 pool object and offset, 3 accumulator, 4 statistics record. -/
  space : Nat
  /-- OBJID of a pool region, 0 otherwise. -/
  obj : Nat
  /-- First byte, or accumulator or record number. -/
  base : Nat
  /-- Bytes. -/
  len : Nat
  /-- Read intent. -/
  rd : Bool
  /-- Write intent. -/
  wr : Bool
deriving DecidableEq, Repr

/-- The four engine queues of a context (R224, R227, R268). -/
inductive Engine where
  | m | d | o | e
deriving DecidableEq, Repr

/-- One half of a statistics record (R360). -/
structure Half where
  /-- DEFER. -/
  defer : Bool
  /-- AMAX, FP32 bits [30:0]. -/
  amax : Nat
  /-- COUNT. -/
  count : Nat
  /-- NANS. -/
  nans : Nat
  /-- INFS. -/
  infs : Nat
  /-- EPOCH. -/
  epoch : Nat
  /-- OVFS. -/
  ovfs : Nat
  /-- BIN0 to BIN27. -/
  bins : Store Nat
deriving DecidableEq, Repr

/-- An M, D, O or E operation that has issued and not completed, with all that it read at issue (R227, R261). -/
structure EngOp where
  /-- Number within the context, rising in program order. -/
  id : Nat
  /-- Its engine. -/
  engine : Engine
  /-- The syllable, as it issued. -/
  instr : Instr
  /-- Scope of its bundle. -/
  scope : Nat
  /-- Handles it names (R194). -/
  handles : List Nat
  /-- Its footprint. -/
  foot : List Foot
  /-- Earlier operations it must follow (R267, R280, R226). -/
  edges : List Nat
  /-- The job card or parameter entry, a little-endian number. -/
  card : Nat
  /-- The capability of kN. -/
  cap : Word128
  /-- The k registers its CRA operands name. -/
  caps : Store Word128
  /-- Format registers read, fmtA or the drain's (R219). -/
  fmtA : Word32
  /-- fmtB. -/
  fmtB : Word32
  /-- OFFA (R217). -/
  offA : Nat
  /-- OFFB. -/
  offB : Nat
  /-- Scale-queue entries taken, A and B in turn: number, and UE4M3 rather than E8M0 (R221). -/
  scales : List (Nat × Bool)
  /-- BASE and ROWW of the handles its operands lie in, as they stood at issue. -/
  tiles : List (Nat × Nat)
  /-- A register value read at issue (fillv, drain.m's address). -/
  vec : VWord
  /-- Physical accumulator. -/
  acc : Nat
  /-- STEPID at issue. -/
  step : Word
  /-- SRSEED at issue. -/
  seed : Word
  /-- Step tag of its pool accesses (R497). -/
  stepTag : Word
  /-- Elements done (R278). -/
  pos : Nat
  /-- A job's declared byte total (R274, R276). -/
  total : Nat
  /-- Scratch address of the waymark word a job reports to (R206, R213). -/
  waymark : Nat
  /-- Statistics of what a job has written so far (R282, R283). -/
  fields : Half
  /-- Failing status met so far, 0 for none (R277). -/
  status : Nat
  /-- Begun: placed with the outside agent it waits on (R258). -/
  begun : Bool
  /-- Suspended by a page fault (R278). -/
  suspended : Bool
  /-- The answer of the outside agent: a status (R277), once it has come. -/
  answer : Option Nat
deriving DecidableEq, Repr

/-- An entry of the binding table, or a launch binding (R191, R192, R341). -/
structure Binding where
  /-- aR, region base. -/
  base : Word
  /-- aL, length in bytes. -/
  len : Word
  /-- aO, the object operand. -/
  obj : Word
  /-- Object kind 0 to 4. -/
  kind : Nat
deriving DecidableEq, Repr

/-- A remembered syllable (R50). -/
structure Kept where
  /-- The syllable with its extension word. -/
  instr : Instr
deriving DecidableEq, Repr

/-- What a trap or freeze saves beside the registers (R311, R314): landing queue, repetitions, nest. -/
structure Snapshot where
  /-- The saved landing-queue entries. -/
  queue : List Landing
  /-- Repetitions still to issue, 0 to 16. -/
  reps : Nat
  /-- The interrupted nest. -/
  nest : Nest
  /-- lc0 to lc5, part of the nest state (R108). -/
  lc : Store Word32
deriving DecidableEq, Repr

/-- One range register (R380). -/
structure Range where
  /-- VABASE in 64 KiB units. -/
  va : Nat
  /-- LEN in 64 KiB units; 0: unused. -/
  len : Nat
  /-- IABASE in 64 KiB units. -/
  ia : Nat
  /-- ASID. -/
  asid : Nat
  /-- W. -/
  w : Bool
  /-- R. -/
  r : Bool
deriving DecidableEq, Repr

/-- The matrix configuration (R217) and OPB (R240). -/
structure MatCfg where
  /-- OFFA. -/
  offA : BitVec 16
  /-- OFFB. -/
  offB : BitVec 16
  /-- ADVA. -/
  advA : BitVec 16
  /-- ADVB. -/
  advB : BitVec 16
  /-- DPB, a handle. -/
  dpb : BitVec 6
  /-- OPB, the optimiser parameter block's handle, where one was named. -/
  opb : Option (BitVec 6)
deriving DecidableEq, Repr

/-- An entry of the scale queue (R177). -/
structure ScaleEntry where
  /-- Number within the context. -/
  id : Nat
  /-- .b rather than .a. -/
  isB : Bool
  /-- UE4M3 rather than E8M0. -/
  ue4m3 : Bool
deriving DecidableEq, Repr

/-- The control and status registers a context holds (R21, R23, R24, R307, R308). -/
structure Csrs where
  /-- TICKS [R21; 64 bits; reset 0] -/
  ticks : Word
  /-- STALLS [R21; 64 bits; reset 0] -/
  stalls : Word
  /-- SEGSTALLS [R21; 64 bits; reset 0] -/
  segStalls : Word
  /-- PRIO, 0 to 7 [R21; 64 bits; reset DESIGN CHOICE 0 (log 3)] -/
  prio : Word
  /-- FPSTAT: SAT ONAN NX UF OF DZ NV [R23; 64 bits; reset 0] -/
  fpstat : Word
  /-- FPCTL [R24; 64 bits; reset 0] -/
  fpctl : Word
  /-- SRSEED [R21; 64 bits; reset DESIGN CHOICE 0 (log 3)] -/
  srseed : Word
  /-- STEPID [R21; 64 bits; reset DESIGN CHOICE 0 (log 3)] -/
  stepid : Word
  /-- STEP_L0 [R21; 64 bits; reset 0] -/
  stepL0 : Word
  /-- STEP_L1 [R21; 64 bits; reset 0] -/
  stepL1 : Word
  /-- STEP_ST [R21; 64 bits; reset 0] -/
  stepSt : Word
  /-- STEP_M [R21; 64 bits; reset 0] -/
  stepM : Word
  /-- STEP_D [R21; 64 bits; reset 0] -/
  stepD : Word
  /-- TRAP_CAUSE [R307; 64 bits; reset 0] -/
  trapCause : Word
  /-- TRAP_PC [R308; 64 bits; reset 0] -/
  trapPc : Word
  /-- TRAP_VAL [R308; 64 bits; reset 0] -/
  trapVal : Word
  /-- TRAP_HANDLER [R308; 64 bits; reset DESIGN CHOICE 0 (log 3)] -/
  trapHandler : Word
deriving DecidableEq, Repr

/-- A system-class cause that waits for the next boundary of its context (R304, R309). -/
structure PendCause where
  /-- Cause code of R305. -/
  cause : Nat
  /-- SUB. -/
  sub : Nat
  /-- TRAP_VAL. -/
  val : Word
  /-- FADDR of the fault record (R315). -/
  faddr : Nat
  /-- UADDR. -/
  uaddr : Nat
  /-- OBJID. -/
  objid : Nat
deriving DecidableEq, Repr

/-- A hardware context (R16). -/
structure Ctx where
  /-- Where the context stands in R40 [R40; 3 bits; reset FREE (R471)] -/
  state : CtxState
  /-- For a FROZEN context, the state it froze from [R317; 3 bits; reset FREE] -/
  from_ : CtxState
  /-- s0 to s31; s0 reads as zero [R16; 32 x 64 bits; reset DESIGN CHOICE 0 (log 3)] -/
  s : Store Word
  /-- a0 to a31 [R16; 32 x 64 bits; reset DESIGN CHOICE 0 (log 3)] -/
  a : Store Word
  /-- v0 to v63 [R16; 64 x 1024 bits; reset DESIGN CHOICE 0 (log 3)] -/
  v : Store VWord
  /-- q0 to q7; q0 reads as all ones [R16; 8 x 128 bits; reset DESIGN CHOICE 0 (log 3)] -/
  q : Store Word128
  /-- p0 to p7; p0 reads as 1 [R16; 8 x 1 bit; reset DESIGN CHOICE 0 (log 3)] -/
  p : Store Bool
  /-- lc0 to lc5 [R16; 6 x 32 bits; reset DESIGN CHOICE 0 (log 3)] -/
  lc : Store Word32
  /-- lk [R16; 32 bits; reset DESIGN CHOICE 0 (log 3)] -/
  lk : Word32
  /-- fmt0 to fmt7 [R16; 8 x 32 bits; reset DESIGN CHOICE 0 (log 3)] -/
  fmt : Store Word32
  /-- k0 to k15 [R16; 16 x 128 bits; reset DESIGN CHOICE 0 (log 3)] -/
  k : Store Word128
  /-- h0 to h63, entries 64p to 64p+63 of the core's tile table [R204; 64 entries; reset unbound, KIND 7 (R205)] -/
  handles : Store Handle
  /-- The 16 range registers [R380; 16 x 256 bits; reset DESIGN CHOICE unused (log 3)] -/
  ranges : Store Range
  /-- The CSRs [R21; 17 x 64 bits; reset as each CSR] -/
  csr : Csrs
  /-- Address of the next bundle in the code section [R65; 32 bits; reset DESIGN CHOICE 0 (log 3)] -/
  pc : Nat
  /-- Repetitions of the bundle at pc still to issue, 0: its header's own count [R320; 5 bits; reset 0] -/
  repLeft : Nat
  /-- Has a csrw or SETPC replaced the TRAP_PC that the device saved [R121; 1 bit; reset 0]? -/
  pcReplaced : Bool
  /-- The landing queue, in issue order [R28; up to 192 entries; reset empty] -/
  queue : List Landing
  /-- The registers whose busy bit is set [R32; 31+32+64+16 bits; reset none] -/
  busy : List Dest
  /-- Remembered syllables of L0, L1, ST, M and D, by slot number [R50; 5 entries; reset none (R52)] -/
  keep : Store Kept
  /-- The nest state [R108; 6 dimensions; reset closed, D empty] -/
  nest : Nest
  /-- The snapshot buffer of a user trap [R311; one; reset none] -/
  snapshot : Option Snapshot
  /-- What a freeze saved [R314; one; reset none] -/
  frozen : Option Snapshot
  /-- TRAP_CAUSE, TRAP_PC and TRAP_VAL held while a handler is frozen [R515; 3 x 64 bits; reset none] -/
  held : Option (Word × Word × Word)
  /-- The scale queue, oldest first [R177; 16 entries; reset empty] -/
  scaleQ : List ScaleEntry
  /-- Block scales that have arrived, by entry number [R177; 16 x 1024 bits; reset empty] -/
  scaleData : Store VWord
  /-- The binding table [R192; 16 entries; reset empty] -/
  binds : List Binding
  /-- The bindings of the launch's footprint list [R341; 16 entries; reset empty] -/
  launchBinds : List Binding
  /-- The matrix configuration and OPB [R217; 70 bits; reset 0, none] -/
  mat : MatCfg
  /-- Names of accumulators mapped to the partition's four [R207; 4 entries; reset none] -/
  accMap : List Nat
  /-- Accesses and hidden results in flight, in program order: the store queue among them [R180; 32 stores; reset empty] -/
  units : List MemUnit
  /-- The next number of a unit, a scale-queue entry or an engine operation (the model's own) [R32; unbounded; reset 0] -/
  nextUnit : Nat
  /-- The M, D, O and E queues, in program order [R224; 8, 8, 2 and 16 operations; reset empty] -/
  eng : List EngOp
  /-- Operations before this number must be complete before a later one begins: the last mfence [R226; unbounded; reset 0] -/
  mfence : Nat
  /-- Pending hallocs: handle, KIND, ROWS, ROWW [R194; 64 entries; reset empty] -/
  hallocs : List (Nat × Nat × Nat × Nat)
  /-- Storage of hfreed handles that waits for engine operations: base, size and the operations awaited [R194; reset empty] -/
  releasing : List (Nat × Nat × List Nat)
  /-- A pending optimiser arithmetic trap, with its TRAP_VAL [R310; 65 bits; reset none] -/
  optTrap : Option Word
  /-- Reported after-issue faults, oldest first, and a passed-over sysc [R309; reset empty] -/
  pending : List PendCause
  /-- Failed-stream marks: peer and stream [R322; 32 x 24 bits; reset empty] -/
  failedStreams : List (Nat × Nat)
  /-- ALLFAILED [R322; 1 bit; reset 0] -/
  allFailed : Bool
  /-- Of each group, the phase count after the context's latest gred that has left its queue [R289; 32 bits each; reset none] -/
  greds : Store Nat
  /-- Starvation count [R250; 11 bits; reset 0] -/
  starve : Nat
  /-- CYCLES until which the context is yielded [R123; 64 bits; reset 0] -/
  yieldUntil : Nat
  /-- Stopped for a switch, with the SWITCH packets that asked and the walker that asked [R257; reset none] -/
  switching : Option (List PktHdr × Option Nat)
  /-- Task record of the tile [R315; 14 bits; reset DESIGN CHOICE 0 (log 3)] -/
  task : Nat
  /-- Walker that issued the tile [R315; 6 bits; reset DESIGN CHOICE 0 (log 3)] -/
  walker : Nat
  /-- Tile number [R320; 32 bits; reset DESIGN CHOICE 0 (log 3)] -/
  tile : Nat
  /-- Address space of the tile [R315; 13 bits; reset DESIGN CHOICE 0 (log 3)] -/
  asid : Nat
  /-- Code object of the tile: IA of its header [R339; 52 bits; reset DESIGN CHOICE 0 (log 3)] -/
  code : Nat
  /-- Code object and segment that its latest bundle lay in (the model's own, for R272) [R272; reset none] -/
  seg : Option (Nat × Nat)
deriving DecidableEq, Repr

/-! ## The core (R197 to R208, R247 to R273) -/

/-- A segment frame of instruction memory (R271). -/
structure SegFrame where
  /-- Code object (IA of its header) and segment number; none: empty. -/
  seg : Option (Nat × Nat)
  /-- A copy into it is in progress. -/
  copying : Bool
  /-- SRC of the copy, read from the segment table when it began (R446). -/
  src : Nat
  /-- The context that needs the segment waits for the copy: no boundary mark asked for it (R273, R393). -/
  needed : Bool
  /-- Its 64 KiB, by byte offset in the segment. -/
  bytes : Memory
deriving DecidableEq, Repr

/-- A core (R6, R20). -/
structure Core where
  /-- Rotation pointer [R249; 2 bits; reset DESIGN CHOICE 0 (log 3)] -/
  rp : Nat
  /-- The four segment frames of instruction memory [R271; 4 x 64 KiB; reset empty] -/
  frames : Store SegFrame
  /-- CYCLES when a context of the core last entered each segment: code object and number (R272) [R272; 64 bits each; reset none] -/
  entries : List ((Nat × Nat) × Nat)
  /-- Scratchpad: groups A, B, G and the waymark words [R197; 384 KiB; reset DESIGN CHOICE 0 (log 4)] -/
  scratch : Memory
  /-- The scratch ranges that slots have written in this cycle: address, bytes and what they held before (the model's own, for R199) [R199; reset none] -/
  slotted : List (Nat × Nat × Nat)
  /-- Allocated scratch ranges: base and size [R201; reset none (R471)] -/
  alloc : List (Nat × Nat)
  /-- Accumulator elements, FP32 codes, by 16384 x physical accumulator + 128 x row + column [R208; 1 MiB; reset DESIGN CHOICE 0
  (log 4)] -/
  acc : Store Word32
deriving DecidableEq, Repr

/-! ## The cluster (R327 to R338) -/

/-- A line of a cluster cache (R327, R328, R330). -/
structure CacheLine where
  /-- Its 128 bytes. -/
  data : VWord
  /-- The bytes it holds: all of them once it was filled, the stored ones in a line that a store made. -/
  valid : Word128
  /-- Dirty mask, one bit per byte. -/
  dirty : Word128
  /-- Poisoned bytes. -/
  poison : Word128
deriving DecidableEq, Repr

/-- A barrier object (R335). -/
structure Barrier where
  /-- ERR. -/
  err : Bool
  /-- EXPECT. -/
  expect : Nat
  /-- DROPS. -/
  drops : Nat
  /-- PENDING. -/
  pend : Nat
  /-- PHASE. -/
  phase : Nat
  /-- A CONFIG value that reached the barrier in this cycle (R336). -/
  config : Option Nat
  /-- Arrivals of this cycle. -/
  arrivals : Nat
  /-- Drops of this cycle. -/
  dropsNow : Nat
deriving DecidableEq, Repr

/-- A cluster (R327). -/
structure Cluster where
  /-- The cluster cache, by line number (IA div 128) [R327; 8 MiB; reset empty] -/
  cache : Store CacheLine
  /-- The 16 barrier objects [R334; 16 x 64 bits; reset 0 (R335)] -/
  barriers : Store Barrier
  /-- Corrected soft errors, read by the front end [R330; width not given; reset 0] -/
  corrected : Nat
deriving DecidableEq, Repr

/-! ## The die and the memory side (R380 to R393) -/

/-- What the LLC keeps of a line beside its data (R383, R385, R418). -/
structure LlcLine where
  /-- The line is held in its home slice. -/
  present : Bool
  /-- Bytes that the slice holds and memory does not (log entry 5). -/
  dirty : Word128
  /-- Poisoned bytes. -/
  poison : Word128
  /-- Placement mode NEAR; FAR otherwise. -/
  mode : Bool
  /-- In mode NEAR, the cluster that ownership is lent to. -/
  near : Option Nat
  /-- The cluster of the latest atomics and how many came in a row (R385). -/
  run : Nat × Nat
  /-- CYCLES of the last recall. -/
  recalledAt : Option Nat
  /-- Class charged for its fill (R418). -/
  cls : Nat
deriving DecidableEq, Repr

/-- A write that a page under migration holds (R390). -/
structure HeldWrite where
  /-- Who wrote: cluster 0 to 31, or the front end 32. -/
  agent : Nat
  /-- First byte. -/
  ia : Nat
  /-- Bytes. -/
  len : Nat
  /-- Value. -/
  value : Nat
deriving DecidableEq, Repr

/-- A page being migrated (R390). -/
structure Migration where
  /-- IA of the page. -/
  ia : Nat
  /-- New PA. -/
  pa : Nat
  /-- Size code. -/
  size : Nat
  /-- New TIER. -/
  tier : Nat
  /-- Writes held until the copy is done, in arrival order. -/
  held : List HeldWrite
  /-- The copy is done and the leaf is rewritten. -/
  copied : Bool
  /-- The packet that asked. -/
  hdr : PktHdr
deriving DecidableEq, Repr

/-- An invalidation that waits for its slices (R388). -/
structure Inval where
  /-- Slices that have not acknowledged. -/
  waiting : Word128
  /-- The packet that completes afterwards; none for a step of a migration. -/
  hdr : Option PktHdr
  /-- VALUE of its completion. -/
  value : Nat
  /-- First IA of the page or range. -/
  ia : Nat
  /-- The entries whose lines were written: level and index. -/
  lines : List (Nat × Nat)
deriving DecidableEq, Repr

/-! ## Statistics records (R359 to R375) -/

/-- The path that allocated a statistics record (R364). -/
inductive RecOrigin where
  /-- salloc. -/
  | salloc
  /-- SRECA of a task of a step, freed at the commit of its milestone. -/
  | launch (step : Word)
  /-- A REC_ALLOC packet. -/
  | packet
  /-- A route-sheet record entry: capability and offset of its pool location (R374). -/
  | route (cap : Word128) (off : Nat)
deriving DecidableEq, Repr

/-- An allocated statistics record (R359, R364). -/
structure Rec where
  /-- Half at bytes 0 to 127. -/
  half0 : Half
  /-- Half at bytes 128 to 255. -/
  half1 : Half
  /-- OPEN: is half1 the open one? -/
  open1 : Bool
  /-- POLICY, the same in both halves. -/
  policy : BitVec 8
  /-- Address space that owns it. -/
  asid : Nat
  /-- The path that allocated it. -/
  origin : RecOrigin
  /-- The pool discarded the step that it served: the next sheet entry that names it loads the committed copy (R375, R504). -/
  reload : Bool
deriving DecidableEq, Repr

/-- A statistics delta on its way to its record (R367, R368). -/
structure Delta where
  /-- Record id. -/
  recid : Nat
  /-- Address space of the sender. -/
  asid : Nat
  /-- Fields folded in, as a half. -/
  fields : Half
deriving DecidableEq, Repr

/-! ## Walkers and tasks (R339 to R352, R442 to R445) -/

/-- A busy walker (R345). -/
structure Walker where
  /-- Its task. -/
  task : Nat
  /-- CUR. -/
  cur : Nat
  /-- END. -/
  end_ : Nat
  /-- FORKS. -/
  forks : Nat
  /-- CYCLES at which it last considered a fork request, or was made by one, and END as it stood before (R349). -/
  asked : Option (Nat × Nat)
  /-- The context whose partition a switch it caused has freed, first offered to it (R260). -/
  offer : Option Nat
  /-- CYCLES at which it last issued a tile: a fork request of that cycle is made by CUR as it stood before (R349). -/
  issued : Option Nat
deriving DecidableEq, Repr

/-- States of a task record (R442). -/
inductive TaskState where
  | waiting | ready | active | draining | done
deriving DecidableEq, Repr

/-- How a task's completion is reported (R441, R443). -/
inductive Report where
  /-- By the LAUNCH packet that made it. -/
  | packet (h : PktHdr)
  /-- To a template's completion address, with the TAG of its packet. -/
  | template (cmpl tag : Nat)
  /-- Not at all: a task of tspawn. -/
  | none
deriving DecidableEq, Repr

/-- A live task record (R442). -/
structure Task where
  /-- Its state. -/
  state : TaskState
  /-- Its copy of the launch record, 128 bytes. -/
  record : VWord
  /-- Dependence counter. -/
  counter : Nat
  /-- PRIO. -/
  prio : Nat
  /-- Address space. -/
  asid : Nat
  /-- Step id (STEPID). -/
  step : Word
  /-- Where its completion goes. -/
  report : Report
  /-- Saved walker entries (R351): WID, FORKS, END, CUR. -/
  saved : List (Nat × Nat × Nat × Nat)
  /-- Has the launch been checked (R340)? -/
  checked : Bool
  /-- N, the tile count. -/
  tiles : Nat
  /-- Extents of the ragged table, as read (R342), by entry. -/
  ragged : Store Word32
  /-- Tiles that have retired. -/
  retired : Nat
  /-- Tiles that were abandoned. -/
  aborted : Nat
  /-- First failing status, 0 for none. -/
  status : Nat
  /-- SRSEED as read (R342). -/
  seed : Word
  /-- Footprint list as read (R341). -/
  binds : List Binding
  /-- The entries of its hint list as read: base, length, REUSE (R391). -/
  hints : List (Nat × Nat × Nat)
  /-- No completion or event record is written for it (R460). -/
  silent : Bool
deriving DecidableEq, Repr

/-- A code object as the front end installed it (R65, R514). -/
structure CodeObj where
  /-- CODESIZE. -/
  codeSize : Nat
  /-- CODEOFF. -/
  codeOff : Nat
  /-- SEGCOUNT. -/
  segCount : Nat
  /-- Declared latencies of classes 0 to 7, 4 bits each. -/
  latency : Word32
  /-- FMT0 to FMT7. -/
  fmts : List Word32
  /-- Handle declarations (R204). -/
  decls : List Word
deriving DecidableEq, Repr

/-- An entry of a segment table (R446). -/
structure SegEntry where
  /-- SRC, IA of the segment. -/
  src : Nat
  /-- NEXT. -/
  next : Nat
  /-- VALID. -/
  valid : Bool
deriving DecidableEq, Repr

/-- An installed address space (R444, R497). -/
structure Aspace where
  /-- Its 16 range descriptors. -/
  ranges : Store Range
  /-- Record quota, RECQUOTA. -/
  recQuota : Nat
  /-- CURSTEP. -/
  curStep : Word
  /-- Open step (R497). -/
  openStep : Word
deriving DecidableEq, Repr

/-- A template for ENQ mode 1 (R443). -/
structure Template where
  /-- LREC, IA of its launch record, read when a task is created from it (R442). -/
  lrec : Nat
  /-- Completion address for created tasks. -/
  cmpl : Nat
  /-- TAG of the TEMPLATE packet. -/
  tag : Nat
deriving DecidableEq, Repr

/-- A quota class (R416). -/
structure QuotaClass where
  /-- QLLC. -/
  qllc : Nat
  /-- QHBMR. -/
  qhbmr : Nat
  /-- QHBMP. -/
  qhbmp : Nat
  /-- QCAR. -/
  qcar : Nat
  /-- ULLC. -/
  ullc : Nat
  /-- UHBMR. -/
  uhbmr : Nat
  /-- UHBMP. -/
  uhbmp : Nat
  /-- UCAR. -/
  ucar : Nat
deriving DecidableEq, Repr

/-- A frame of the pool cache (R419). -/
structure PoolFrame where
  /-- ASID. -/
  asid : Nat
  /-- OBJID. -/
  obj : Nat
  /-- X, the object offset of its first byte. -/
  off : Nat
  /-- TOKEN. -/
  token : Nat
  /-- Lease that covers it. -/
  lease : Nat
  /-- Class that it is charged to (R416). -/
  cls : Nat
  /-- VALID. -/
  valid : Bool
  /-- Its bytes. -/
  bytes : Memory
  /-- Order of its fill, for the eviction of the oldest (R420). -/
  filled : Nat
deriving DecidableEq, Repr

/-- Where a lease stands (R422 to R424). -/
inductive LeaseState where
  | asked | held | recalled
deriving DecidableEq, Repr

/-- An entry of the lease table (R422). -/
structure Lease where
  /-- Its state. -/
  state : LeaseState
  /-- Address space. -/
  asid : Nat
  /-- The capability it was asked with. -/
  cap : Word128
  /-- OFF. -/
  off : Nat
  /-- LEN. -/
  len : Nat
  /-- Write lease. -/
  write : Bool
  /-- Slot counter when the request or renewal that was answered last was sent. -/
  sent : Nat
  /-- Slot counter when the flit of the latest request or renewal went out. -/
  out : Nat
  /-- Slot counter at the grant or the latest renewal. -/
  granted : Nat
  /-- The context and job of the lacq that took it. -/
  job : Option (Nat × Nat)
  /-- The step and entry of the route sheet that took it. -/
  sheet : Option (Word × Nat)
deriving DecidableEq, Repr

/-- A published route sheet (R426, R427). -/
structure Sheet where
  /-- IA of the sheet. -/
  ia : Nat
  /-- COUNT. -/
  count : Nat
  /-- State of each entry: 0 pending, 1 done, 2 failed with its cause; by index. -/
  states : Store (Nat × Nat)
  /-- Failed record entries that were retried, by index (R428). -/
  retried : List Nat
  /-- Its header breaks the rules of R426. -/
  bad : Bool
  /-- A record entry still failed: no task of the step is dispatched (R428). -/
  blocked : Bool
deriving DecidableEq, Repr

/-- A milestone in progress (R503). -/
structure Milestone where
  /-- Step. -/
  step : Word
  /-- Sequence step reached: 1 draining writes, 4 COMMIT sent. -/
  stage : Nat
  /-- The count of writes that COMMIT carries. -/
  count : Nat
  /-- Deferred records found by the close: first id and count. -/
  deferred : Option Nat × Nat
  /-- mstone jobs that wait: context and job. -/
  jobs : List (Nat × Nat)
deriving DecidableEq, Repr

/-! ## Command queues and the front end (R435 to R451) -/

/-- A command queue's register block (R435). -/
structure Queue where
  /-- BASE [R435; 45 bits; reset 0] -/
  base : Nat
  /-- SUPER [R435; 1 bit; reset 0] -/
  super : Bool
  /-- ASID [R435; 13 bits; reset 0] -/
  asid : Nat
  /-- LOG2N [R435; 4 bits; reset 0] -/
  log2n : Nat
  /-- LASTHINT [R435; 32 bits; reset 0] -/
  lastHint : Nat
  /-- FETCHED [R435; 32 bits; reset 0] -/
  fetched : Nat
  /-- ERRCODE [R435; 8 bits; reset 0] -/
  errcode : Nat
  /-- STATE [R435; 2 bits; reset 0] -/
  state : Nat
  /-- PHASE expected at the head [R435; 1 bit; reset 1] -/
  phase : Bool
  /-- Packets taken since the start, whatever resets the queue (the model's own) [R436; unbounded; reset 0] -/
  taken : Nat
  /-- Packets fetched and not yet completed, by 65536 x number taken + ring entry, for FENCE [R440; reset none] -/
  open_ : List Nat
  /-- FENCE packets that wait [R440; reset none] -/
  fences : List (Nat × PktHdr)
deriving DecidableEq, Repr

/-- The device interface of a virtual function (R458). -/
structure Vf where
  /-- TDISTATE: 0 CONFIG_UNLOCKED, 1 CONFIG_LOCKED, 2 RUN, 3 ERROR [R453; 2 bits; reset 0] -/
  state : Nat
  /-- Its IDE stream is keyed and active [R458; 1 bit; reset 0] -/
  ide : Bool
  /-- Nonce of the lock, while one is held [R458; 256 bits in TDISP; reset none] -/
  nonce : Option Word
  /-- A STOP_INTERFACE_REQUEST is scrubbing it [R461; 1 bit; reset 0] -/
  stopping : Bool
deriving DecidableEq, Repr

/-- MESI states of a host granule (R456). -/
inductive Mesi where
  | m | e | s
deriving DecidableEq, Repr

/-- A granule of the host-coherence agent (R456). -/
structure Granule where
  /-- Its MESI state (an absent granule is I). -/
  mesi : Mesi
  /-- Its 64 bytes. -/
  data : BitVec 512
deriving DecidableEq, Repr

/-- An event record: its eight 64-bit words but for SEQ (R448). -/
structure EvRecord where
  /-- Words 0 to 6, lowest first. -/
  words : List Word
  /-- Context of a fault record. -/
  ctx : Nat
deriving DecidableEq, Repr

/-- The event ring and its registers (R448, R519). -/
structure EvRing where
  /-- EVBASE, bits [51:6] [R519; 46 bits; reset 0] -/
  base : Nat
  /-- EVLOG2N [R519; 4 bits; reset 0] -/
  log2n : Nat
  /-- EVHEAD [R519; 32 bits; reset 0] -/
  head : Nat
  /-- EVTAIL [R519; 32 bits; reset 0] -/
  tail : Nat
  /-- EVDROP [R519; 32 bits; reset 0] -/
  drop : Nat
  /-- SEQ, the count of records written [R448; 64 bits; reset 0] -/
  seq : Nat
  /-- Fault records held until the ring has room [R448; reset none] -/
  heldFaults : List EvRecord
deriving DecidableEq, Repr

/-- The front end, the firmware core and the task machine (R435 to R451). -/
structure FrontEnd where
  /-- The 128 queues [R435; 128 blocks; reset as each register] -/
  queues : Store Queue
  /-- QOWNER: function and LOCAL, by queue [R454; 12 bits; reset 0] -/
  owner : Store (Nat × Nat)
  /-- ASIDOWN, by ASID [R453; 5 bits; reset DESIGN CHOICE 0 (log 16)] -/
  asidOwn : Store Nat
  /-- The event ring [R519; five registers; reset 0] -/
  ring : EvRing
  /-- The hint reports posted to the driver's report queue (R391, R392), oldest first: their four words [R392; reset none] -/
  hintReports : List (List Word)
  /-- Task and hint entry of the reports posted for a contradicted hint [R392; reset none] -/
  hinted : List (Nat × Nat)
  /-- Task records [R442; 16384; reset none live (R471)] -/
  tasks : Store Task
  /-- The ready queue: eight FIFOs of task ids [R445; reset empty] -/
  ready : Store (List Nat)
  /-- Ageing counts of the levels [R445; 7 bits; reset 0] -/
  aged : Store Nat
  /-- Templates, by 1024 x ASID + TID [R443; reset none] -/
  templates : Store Template
  /-- Installed code objects, by IA [R514; reset none] -/
  codes : Store CodeObj
  /-- Segment tables set by SEGTAB, by IA of the code object [R446; reset none] -/
  segtabs : Store (List SegEntry)
  /-- Address spaces [R444; 8192; reset none live (R471)] -/
  aspaces : Store Aspace
  /-- Records named by SRECV of the tasks of a step: address space, step and id, until its milestone (R342, R374) [R374; reset
  none] -/
  stepRecs : List ((Nat × Word) × Nat)
  /-- TEARDOWN packets that wait for the last task of their address space [R444; reset none] -/
  teardowns : List (Nat × PktHdr)
  /-- Teardowns whose last task has ended, which come next [R444; reset none] -/
  teardownsDue : List (Nat × PktHdr)
  /-- What each mapped page is charged: by IA div 65536 of its first byte, its address space, class, tier and size code [R417; reset
  none] -/
  charges : Store (Nat × Nat × Nat × Nat)
  /-- CLASSMAP [R416; 8192 x 8 bits; reset class 0] -/
  classMap : Store Nat
  /-- Quota classes [R416; 256 x 256 bits; reset 0] -/
  classes : Store QuotaClass
  /-- Pool-cache size in 2 MiB units [R414; 18 bits; reset DESIGN CHOICE 0 (log 16)] -/
  poolSize : Nat
  /-- The size that the last CONFIG set, which the partition has once the frames beyond it are evicted, in 2 MiB units [R414; 18 bits; reset
  0] -/
  poolGoal : Nat
  /-- Spill pool: IA and number of areas [R440; 52 + 16 bits; reset DESIGN CHOICE 0 (log 16)] -/
  spill : Nat × Nat
  /-- Spill images held: area address, context, and what of the context the image has no room for (log 13) [R259; reset none] -/
  images : Store (Nat × Ctx)
  /-- CONFIG packets that wait for areas or acknowledgements, each with its spill pool [R440; reset none] -/
  configWait : List (PktHdr × Nat × Nat)
  /-- Fetching stopped by a watchdog expiry, a parity error or a thermal trip [R450; 1 bit; reset 0] -/
  stopped : Bool
  /-- An FWUPDATE image is pending in the non-volatile store: its image count [R451; 1 bit; reset DESIGN CHOICE none (log 16)] -/
  pendingImage : Option Nat
  /-- Number of the running image [R451; reset DESIGN CHOICE 0 (log 16)] -/
  image : Nat
  /-- Number of the image whose digest is stored [R469; 512 bits; reset DESIGN CHOICE 0 (log 16)] -/
  storedImage : Nat
  /-- Images written so far (the model's own numbering of images) [R451; reset 0] -/
  images_ : Nat
  /-- The FWUPDATE packets whose images are being written, in turn [R451; reset none] -/
  imageWrite : List PktHdr
  /-- A write of the image was interrupted: the store holds no valid image [R451; 1 bit, kept across starts; reset DESIGN CHOICE 0 (log 16)] -/
  imageBad : Bool
  /-- Walkers that a WSAVE or a higher task asks to be saved this cycle, with the WSAVE packet [R351; reset none] -/
  saves : List (Nat × Option PktHdr)
  /-- Prefetch-drop counters, by die [R170; width not given; reset 0] -/
  pfDrops : Store Nat
  /-- Group table: 2^32 x ASID + GID to LEN, RFMT, ROP, ROFF, NMEM [R518; 64 entries; reset empty] -/
  groups : Store (Nat × Nat × Nat × Nat × Nat)
  /-- Lease table [R422; 4096 entries; reset empty (R471)] -/
  leases : Store Lease
  /-- Pool-cache frames [R419; reset none VALID (R471)] -/
  frames : Store PoolFrame
  /-- Frames filled so far (order of fill) [R420; reset 0] -/
  fills : Nat
  /-- Published route sheets, by ASID and step [R426; reset none] -/
  sheets : List ((Nat × Word) × Sheet)
  /-- Milestones in progress, by 2^64 x ASID + step [R503; reset none] -/
  milestones : Store Milestone
  /-- Steps already committed, by ASID [R303; reset none] -/
  committed : Store (List Word)
  /-- Steps whose milestone ended with STALE_TOKEN and that were not launched again: ASID and step [R303; reset none] -/
  stale : List (Nat × Word)
  /-- Write messages that the pool has acknowledged as held, by the step tag that they carried: what COMMIT counts [R503; 64 bits each; reset 0] -/
  tagged : Store Nat
deriving DecidableEq, Repr

/-! ## The host interface and the package (R452 to R476) -/

/-- The host interface (R453 to R464). -/
structure HostIf where
  /-- The 16 device interfaces [R458; 16; reset CONFIG_UNLOCKED] -/
  vfs : Store Vf
  /-- The host-coherence agent, by granule number (host address div 64) [R456; 4 MiB; reset empty] -/
  agent : Store Granule
  /-- HDM lines that the host caches, oldest first [R457; 65536 entries; reset empty] -/
  filter : List Nat
  /-- Host physical base, IA base and size of the HDM window [R457; reset DESIGN CHOICE the whole of IA (log 16)] -/
  hdm : Nat × Nat × Nat
  /-- The last answer to a TDISP or SPDM request, or to a host access: 0 none, 1 accepted, 2 error or poisoned, 3 to be made again, with its
  bytes [R458, R462, R463; reset none] -/
  answer : Nat × List Byte
  /-- Certificate slots: identity chain and alias key, as the image each was derived for [R464; reset DESIGN CHOICE 0 (log 16)] -/
  alias_ : Nat
deriving DecidableEq, Repr

/-- The DVSEC registers, power and thermal state (R469 to R476). -/
structure Power where
  /-- TOL [R473; 32 bits; reset 0] -/
  tol : Word32
  /-- TEMP [R473; 8 bits; reset DESIGN CHOICE 0 (log 16)] -/
  temp : BitVec 8
  /-- STAGE [R473; 4 bits; reset 1] -/
  stage : Nat
  /-- FAILCNT, kept across starts [R473; 2 bits; reset DESIGN CHOICE 0 (log 16)] -/
  failcnt : Nat
  /-- RECOVERY [R473; 1 bit; reset 0] -/
  recovery : Bool
  /-- THROTTLE [R473; 1 bit; reset 0] -/
  throttle : Bool
  /-- PS [R473; 3 bits; reset 0] -/
  ps : Nat
  /-- IMGLO and IMGHI [R473; 64 bits; reset 0] -/
  img : Word
  /-- IMGLEN [R473; 32 bits; reset 0] -/
  imgLen : Word32
  /-- RESULT [R473; 2 bits; reset 0] -/
  result : Nat
  /-- Core clock in MHz [R476; reset 2000 (R6)] -/
  clock : Nat
  /-- Power is on but for the host link [R476; 1 bit; reset 1] -/
  on : Bool
  /-- The start under way: warm or cold, or none [R469; reset none] -/
  start : Option Bool
  /-- A warm start is requested [R469; 1 bit; reset 0] -/
  warmAsked : Bool
  /-- A cold start is to follow: after power-on, after an accepted GO image [R469; 1 bit; reset 1] -/
  coldAsked : Bool
  /-- Training, calibration and repair values are stored [R469; 1 bit; reset DESIGN CHOICE 1 (log 16)] -/
  stored : Bool
deriving DecidableEq, Repr

/-! ## The fabric (R477 to R496) -/

/-- Timing states (R485). -/
inductive Timing where
  | locked | phase1 | phase2 | nosync
deriving DecidableEq, Repr

/-- A flit that waits for its slot (R480, R481). -/
structure Placed where
  /-- Slot it is placed in. -/
  slot : Nat
  /-- Port. -/
  port : Nat
  /-- The flit. -/
  flit : Flit
  /-- The context and job it serves. -/
  job : Option (Nat × Nat)
  /-- The third module of a detour. -/
  via : Option Nat
deriving DecidableEq, Repr

/-- A port (R484, R492, R493). -/
structure Port where
  /-- Healthy timing pulses. -/
  healthy : Bool
  /-- Consecutive valid pulses, and missing ones. -/
  good : Nat
  /-- Consecutive missing or invalid pulses. -/
  bad : Nat
  /-- Frame number of the latest valid pulse. -/
  frame : Nat
  /-- Slots that had passed when it paused. -/
  pausedAt : Option Nat
  /-- Retrained after a pause or fence. -/
  retrained : Bool
  /-- Fenced. -/
  fenced : Bool
  /-- Slots that had passed when it retrained; it has run without a link error since. -/
  cleanSince : Option Nat
  /-- Retry buffer: flits sent and not acknowledged, oldest first. -/
  retry : List Placed
  /-- Frame in which it last posted an elastic-buffer error record. -/
  lastRefusal : Option Nat
deriving DecidableEq, Repr

/-- An ENQ or ARRIVE that waits for its DATA (R489). -/
structure HeldMsg where
  /-- The flit. -/
  flit : Flit
  /-- The count it waits for. -/
  count : Nat
  /-- Second copies of it that came meanwhile. -/
  copies : Nat
deriving DecidableEq, Repr

/-- The fabric interface (R477 to R496, R505 to R507). -/
structure Fabric where
  /-- Slot counter [R477; 32 bits; reset DESIGN CHOICE 0 (log 15)] -/
  slot : Word32
  /-- Time since the present slot began, in 1/210 ns, of which every core clock of R476 takes whole numbers a cycle; below 0 while a trim has moved the
  slot's start to come (R488) [R477; 53760 a slot; reset DESIGN CHOICE 0 (log 15)] -/
  phase : Int
  /-- Slots that have passed, whatever the counter was set to: what pauses and clean frames are timed by [R493; the model's own; reset 0] -/
  elapsed : Nat
  /-- The counter has been set from a code since the start [R484; 1 bit; reset 0] -/
  timeSet : Bool
  /-- Timing state [R485; 2 bits; reset DESIGN CHOICE NOSYNC (log 15)] -/
  timing : Timing
  /-- Slots of holdover so far [R485; reset 0] -/
  holdover : Nat
  /-- Port the module is locked to [R484; 4 bits; reset none] -/
  lockPort : Option Nat
  /-- A relock that is to come: its port, and how far, in 1/210 ns, local time stands ahead of the pulse that the counter slews to at the next frame
  boundary; none where the counter is set at the port's next pulse [R486; reset none] -/
  relock : Option (Nat × Option Int)
  /-- The exchange of phase 2 is under way [R485; 1 bit; reset 0] -/
  exchange : Bool
  /-- Samples that exchanges under way have kept: the realign job, or (1028, 0) for phase 2; port; offset in ns [R488; reset none] -/
  samples : List ((Nat × Nat) × Nat × Int)
  /-- Trims that wait for the next frame boundary, in ns [R488; reset 0] -/
  trimNext : Int
  /-- The 16 ports [R484; 16; reset DESIGN CHOICE no pulse seen (log 15)] -/
  ports : Store Port
  /-- Flits placed and not yet sent [R481; reset none] -/
  placed : List Placed
  /-- Flits without a window that wait for a direct slot with room [R480; reset none] -/
  owed : List Placed
  /-- Accesses, jobs and acts of the front end whose message has been made, by agent and number [R480; the model's own; reset none] -/
  sent : List (Nat × Nat)
  /-- DATA flits whose bytes wait for a page under migration [R390, R489; reset none] -/
  arrived : List Flit
  /-- Flits to forward as an intermediate [R482; reset none] -/
  forward : List Flit
  /-- This module's id [R478; 16 bits; reset DESIGN CHOICE 0 (log 15)] -/
  selfId : Nat
  /-- Live members, other modules [R490; reset none] -/
  members : List Nat
  /-- TSTATE last seen of each module [R481; 2 bits; reset DESIGN CHOICE NOSYNC (log 15)] -/
  tstates : Store Nat
  /-- Removed from membership until an ADD names it [R507; 1 bit; reset 1 (R490)] -/
  removed : Bool
  /-- Membership epoch last applied [R505; 32 bits; reset 0] -/
  epoch : Nat
  /-- DATA counts, by 256 x peer + stream [R292; 64 bits; reset 0 (R490)] -/
  counts : Store Nat
  /-- PREFIX, by 256 x sender + stream [R489; 64 bits; reset 0 (R490)] -/
  prefixes : Store Nat
  /-- Stream bytes written beyond PREFIX: first and length, by 256 x sender + stream [R489; reset none] -/
  beyond : Store (List (Nat × Nat))
  /-- Held ENQ and ARRIVE messages [R489; reset none] -/
  held : List HeldMsg
  /-- DATA messages of which a flit has come: key of sender and stream, first stream offset and end [R292; the model's own, log 52; reset none] -/
  messages : List (Nat × Nat × Nat)
  /-- Sender and message number of ENQ and ARRIVE already acted on [R489; reset none] -/
  seen : List (Nat × Nat)
  /-- Message numbers, by peer [R479; 16 bits; reset 0] -/
  msgNo : Store Nat
  /-- Inbound windows, by stream, as the driver mapped them: IA base, length and address space [R292; reset DESIGN CHOICE none
  (log 15)] -/
  windows : Store (Nat × Nat × Nat)
  /-- Answers the module owes or has sent, newest first: destination, message number, status [R491; reset none] -/
  acks : List (Nat × Nat × Nat)
deriving DecidableEq, Repr

/-! ## The pool, as far as the module sees it (R497 to R503; log 11) -/

/-- A provisional write that the pool has applied (R501). -/
structure Prov where
  /-- Writer: a module. -/
  writer : Nat
  /-- Step tag. -/
  step : Word
  /-- Offset and byte. -/
  at_ : Nat
  /-- The byte written. -/
  byte : Byte
deriving DecidableEq, Repr

/-- A held reduction contribution (R286). -/
structure Contribution where
  /-- OBJID. -/
  obj : Nat
  /-- Offset of the location. -/
  off : Nat
  /-- CIDX. -/
  cidx : Nat
  /-- Format code of RFMT. -/
  rfmt : Nat
  /-- Reduction operation. -/
  rop : Nat
  /-- The contribution. -/
  value : Nat
  /-- Step tag. -/
  step : Word
  /-- Address space that sent it. -/
  asid : Nat
  /-- Record that receives the folded values' statistics (DRECV). -/
  drec : Option Nat
deriving DecidableEq, Repr

/-- A pool object (R501). -/
structure PoolObj where
  /-- Current token [R499; 32 bits] -/
  token : Nat
  /-- Current value, provisional writes applied. -/
  cur : Memory
  /-- Committed value. -/
  com : Memory
  /-- Provisional writes in coherence order. -/
  provs : List Prov
  /-- The parties, module and step tag, that wrote it under its current token in a step that has not committed (R501). -/
  writers : List (Nat × Word)
  /-- The parties that read it so. -/
  readers : List (Nat × Word)
deriving DecidableEq, Repr

/-- A pool group as this module sees it (R287 to R290). -/
structure Group where
  /-- All members have registered. -/
  armed : Bool
  /-- The capability of this member's grpset. -/
  cap : Word128
  /-- This module's member index. -/
  myIdx : Nat
  /-- Module ids of the members. -/
  mlist : List Nat
  /-- This member's phase count. -/
  phase : Nat
  /-- The phase that was current when a member was removed. -/
  lost : Option Nat
  /-- Indexes of members removed before that phase completed. -/
  gone : List Nat
  /-- This member's contributions to phases that have not completed. -/
  contribs : Store Nat
  /-- Statuses of completed phases. -/
  done : Store Nat
  /-- Results of completed phases. -/
  results : Store Nat
deriving DecidableEq, Repr

/-- The pool (R497 to R502). -/
structure Pool where
  /-- Objects by OBJID [R498; outside the module; reset DESIGN CHOICE none (log 11)] -/
  objs : Store PoolObj
  /-- Held reduction contributions [R286; reset none] -/
  held : List Contribution
  /-- Groups by 2^32 x ASID + GID [R287; reset none] -/
  groups : Store Group
  /-- Leases that the module treats as ended and has not released: slots until they lapse on the pool's clock [R502; reset none] -/
  lapses : List Nat
  /-- Leases that the module has released in a message on its way: its key, and the slot in which the lease lapses if it does not come [R502; reset none] -/
  ending : List (Nat × Nat)
  /-- Address spaces and step tags whose commit is to be answered with STALE_TOKEN: the pool has discarded the party [R502; reset none] -/
  discarded : List (Nat × Word)
  /-- Step tags of the module's parties that have committed [R502; reset none] -/
  committed : List Word
  /-- Writes that the pool holds, by the step tag that they carry: what COMMIT's count is held against [R503; 64 bits each; reset 0] -/
  counts : Store Nat
deriving DecidableEq, Repr

/-! ## The bundle being issued (the model's own) -/

/-- What the slots of the bundle being issued have recorded so far (R28, R64, R309). -/
structure Issue where
  /-- A bundle is being issued: its slots run one after another. -/
  active : Bool
  /-- Its context as it stood before the bundle: what every slot reads. -/
  pre : Ctx
  /-- Scope of its prefix (R139). -/
  scope : Nat
  /-- First failing issue check: cause, SUB, TRAP_VAL, FADDR (R309). -/
  raised : Option PendCause
  /-- Flags raised (R23). -/
  flags : Nat
  /-- csrw to FPSTAT: the mask cleared after the flags (R118). -/
  clear : Word
  /-- Address just past the bundle. -/
  after : Nat
  /-- Target of a taken transfer (R103). -/
  target : Option Nat
  /-- The loop skip is to be made (R111). -/
  skip : Bool
  /-- User causes raised: RESCALE value, SOFTWARE code (R309). -/
  rescale : Option Word
  /-- Code of a trap instruction. -/
  software : Option Word
  /-- Code of a sysc. -/
  sysc : Option Word
  /-- An rft, retire or yield commits. -/
  ending : Nat
deriving DecidableEq, Repr

/-! ## The module -/

/-- The state of the SLZ-7200. -/
structure State where
  /-- CYCLES [R21; 64 bits; reset 0] -/
  cycles : Word
  /-- The 1,024 contexts, by CTXID[9:0] (R22) [R6; 1024; reset FREE (R471)] -/
  ctxs : Store Ctx
  /-- The 256 cores [R6; 256; reset as each field] -/
  cores : Store Core
  /-- The 32 clusters [R6; 32; reset as each field] -/
  clusters : Store Cluster
  /-- HBM and carrier memory, by physical address [R413; 1.5 TiB; reset DESIGN CHOICE 0 (R471: any values; log 4)] -/
  mem : Memory
  /-- Host memory, by host physical address [R383; outside the module; reset DESIGN CHOICE 0 (log 14)] -/
  hostMem : Memory
  /-- What the LLC keeps of its lines, by line number (R383, R385, R418) [R383; 3072 MiB; reset none] -/
  llc : Store LlcLine
  /-- Lookups and misses of the open hint windows, by 2^20 x slice + 64 x task + entry [R392; 13 bits each; reset none] -/
  windows : Store (Nat × Nat)
  /-- Hint windows that have closed and wait for their check: slice, task, entry, misses [R392; reset none] -/
  closed : List (Nat × Nat × Nat × Nat)
  /-- PTBASE: where the root of the page table lies in `mem` [R386; 52 bits; reset DESIGN CHOICE 2^51 (log 6)] -/
  ptbase : Word
  /-- Tables below the root that the commands have made (the model's own, log 6) [R386; unbounded; reset DESIGN CHOICE 0] -/
  ptMade : Nat
  /-- The leaves that slices cache, by 2^42 x slice + 2^40 x level + index [R386; size not given; reset none] -/
  tlb : Store Word
  /-- Directory: sharers of each page-table line, by its address div 128 [R388; 128 bits each; reset none] -/
  sharers : Store Word128
  /-- Invalidations that wait for acknowledgements [R388; reset none] -/
  invals : List Inval
  /-- Migrations in progress [R390; reset none] -/
  migrations : List Migration
  /-- Allocated statistics records [R359; 65536 x 2049 bits; reset none allocated (R471)] -/
  records : Store Rec
  /-- Deltas on their way [R368; reset none] -/
  deltas : List Delta
  /-- Busy walkers [R345; 64; reset none busy (R471)] -/
  walkers : Store Walker
  /-- The front end [R435; see its fields] -/
  fe : FrontEnd
  /-- The host interface [R453; see its fields] -/
  host : HostIf
  /-- The DVSEC, power and thermal state [R473; see its fields] -/
  pow : Power
  /-- The fabric interface [R477; see its fields] -/
  fab : Fabric
  /-- The pool, as far as this module sees it [R497; see its fields] -/
  pool : Pool
  /-- The events that are to happen next: the model's schedule (log 1) [model's own; reset DESIGN CHOICE none] -/
  agenda : List Instr
  /-- The events of this cycle that come after the issue stage's (log 1) [model's own; reset DESIGN CHOICE none] -/
  late : List Instr
  /-- Contexts that issue a bundle in this cycle, the primary first (log 1) [model's own; reset DESIGN CHOICE none] -/
  issueQ : List Nat
  /-- Cores that have not made their junction choice in this cycle (log 1) [model's own; reset DESIGN CHOICE none] -/
  round : List Nat
  /-- The context whose bundle is being issued [model's own; reset DESIGN CHOICE 0] -/
  cur : Nat
  /-- The bundle being issued [model's own; reset DESIGN CHOICE none] -/
  issue : Issue
  /-- Free values taken so far (log 20) [model's own; reset DESIGN CHOICE 0] -/
  freeCtr : Nat
deriving DecidableEq, Repr

/-! ## Reset (R471) -/

/-- A handle with no storage, KIND 7 (R205). -/
def Handle.reset : Handle :=
  { bound := false, pending := false, failed := false, kind := 7, roww := 0, rows := 0, base := 0 }

/-- A closed nest with D empty. -/
def Nest.reset : Nest :=
  { dims := [], isOpen := false, body := 0, pos := 0, buffer := [], replay := false }

/-- An unused range register. -/
def Range.reset : Range := { va := 0, len := 0, ia := 0, asid := 0, w := false, r := false }

/-- The matrix configuration at tile entry (R217). -/
def MatCfg.reset : MatCfg := { offA := 0, offB := 0, advA := 0, advB := 0, dpb := 0, opb := none }

/-- The CSRs at tile entry, before the launch's values (R21). -/
def Csrs.reset : Csrs :=
  { ticks := 0, stalls := 0, segStalls := 0, prio := 0, fpstat := 0, fpctl := 0, srseed := 0, stepid := 0,
    stepL0 := 0, stepL1 := 0, stepSt := 0, stepM := 0, stepD := 0, trapCause := 0, trapPc := 0, trapVal := 0,
    trapHandler := 0 }

/-- A FREE context (R471). -/
def Ctx.reset : Ctx :=
  { state := .free, from_ := .free, s := [], a := [], v := [], q := [], p := [], lc := [], lk := 0, fmt := [], k := [],
    handles := [], ranges := [], csr := Csrs.reset, pc := 0, repLeft := 0, pcReplaced := false, queue := [], busy := [],
    keep := [], nest := Nest.reset, snapshot := none, frozen := none, held := none, scaleQ := [], scaleData := [],
    binds := [], launchBinds := [], mat := MatCfg.reset, accMap := [], units := [], nextUnit := 0, eng := [],
    mfence := 0, hallocs := [], releasing := [], optTrap := none, pending := [], failedStreams := [],
    allFailed := false, greds := [], starve := 0, yieldUntil := 0, switching := none, task := 0, walker := 0,
    tile := 0, asid := 0, code := 0, seg := none }

/-- An empty segment frame. -/
def SegFrame.reset : SegFrame := { seg := none, copying := false, src := 0, needed := false, bytes := [] }

/-- A core with nothing resident. -/
def Core.reset : Core := { rp := 0, frames := [], entries := [], scratch := [], slotted := [], alloc := [], acc := [] }

/-- A disarmed barrier (R335). -/
def Barrier.reset : Barrier :=
  { err := false, expect := 0, drops := 0, pend := 0, phase := 0, config := none, arrivals := 0, dropsNow := 0 }

/-- A cluster with an empty cache. -/
def Cluster.reset : Cluster := { cache := [], barriers := [], corrected := 0 }

/-- A line the LLC knows nothing special of: FAR, no poison (R385). -/
def LlcLine.reset : LlcLine := 
  { present := false, dirty := 0, poison := 0, mode := false, near := none, run := (0, 0), recalledAt := none, cls := 0 }

/-- A half of a record with every field zero (R364). -/
def Half.reset : Half :=
  { defer := false, amax := 0, count := 0, nans := 0, infs := 0, epoch := 0, ovfs := 0, bins := [] }

/-- A quota class at reset (R416). -/
def QuotaClass.reset : QuotaClass :=
  { qllc := 0, qhbmr := 0, qhbmp := 0, qcar := 0, ullc := 0, uhbmr := 0, uhbmp := 0, ucar := 0 }

/-- A queue at reset (R435). -/
def Queue.reset : Queue :=
  { base := 0, super := false, asid := 0, log2n := 0, lastHint := 0, fetched := 0, errcode := 0, state := 0,
    phase := true, taken := 0, open_ := [], fences := [] }

/-- The event ring at reset (R519). -/
def EvRing.reset : EvRing := { base := 0, log2n := 0, head := 0, tail := 0, drop := 0, seq := 0, heldFaults := [] }

/-- A device interface at reset (R458). -/
def Vf.reset : Vf := { state := 0, ide := false, nonce := none, stopping := false }

/-- The front end at reset (R471). -/
def FrontEnd.reset : FrontEnd :=
  { queues := [], owner := [], asidOwn := [], ring := EvRing.reset, hintReports := [], hinted := [], tasks := [],
    ready := [], aged := [], templates := [], codes := [], segtabs := [], aspaces := [], stepRecs := [], teardowns := [], teardownsDue := [], charges := [], classMap := [],
    classes := [], poolSize := 0, poolGoal := 0, spill := (0, 0), images := [], configWait := [], stopped := false,
    pendingImage := none, image := 0, storedImage := 0, images_ := 0, imageWrite := [], imageBad := false, saves := [], pfDrops := [], groups := [],
    leases := [], frames := [], fills := 0, sheets := [], milestones := [], committed := [], stale := [], tagged := [] }

/-- The host interface at reset. -/
def HostIf.reset : HostIf :=
  { vfs := [], agent := [], filter := [], hdm := (0, 0, 2 ^ 52), answer := (0, []), alias_ := 0 }

/-- The DVSEC, power and thermal state at reset (R473): a cold start follows power-on (R469). -/
def Power.reset : Power :=
  { tol := 0, temp := 0, stage := 1, failcnt := 0, recovery := false, throttle := false, ps := 0, img := 0, imgLen := 0,
    result := 0, clock := 2000, on := true, start := none, warmAsked := false, coldAsked := true, stored := true }

/-- A port that has seen no pulse. -/
def Port.reset : Port :=
  { healthy := false, good := 0, bad := 0, frame := 0, pausedAt := none, retrained := false, fenced := false,
    cleanSince := none, retry := [], lastRefusal := none }

/-- The fabric interface at reset (R490). -/
def Fabric.reset : Fabric :=
  { slot := 0, phase := 0, elapsed := 0, timeSet := false, timing := .nosync, holdover := 0, lockPort := none, relock := none, exchange := false, samples := [],
    trimNext := 0, ports := [], placed := [], owed := [],
    sent := [], arrived := [], forward := [], selfId := 0, members := [], tstates := [], removed := true, epoch := 0, counts := [], prefixes := [],
    beyond := [], held := [], messages := [], seen := [], msgNo := [], windows := [], acks := [] }

/-- The pool before anything is known of it. -/
def Pool.reset : Pool := { objs := [], held := [], groups := [], lapses := [], ending := [], discarded := [], committed := [], counts := [] }

/-- No bundle being issued. -/
def Issue.reset : Issue :=
  { active := false, pre := Ctx.reset, scope := 0, raised := none, flags := 0,
    clear := 0, after := 0, target := none, skip := false, rescale := none, software := none, sysc := none, ending := 0 }

/-- The machine right after reset: power-on, before the start sequence (R469, R471), every value the spec gives none of at the
one the log names (entries 3, 4, 6, 11, 14, 15, 16). -/
def State.reset : State :=
  { cycles := 0, ctxs := [], cores := [], clusters := [], mem := [], hostMem := [], llc := [], windows := [], closed := [],
    ptbase := 0x8000000000000#64, ptMade := 0, tlb := [], sharers := [], invals := [], migrations := [], records := [], deltas := [], walkers := [],
    fe := FrontEnd.reset, host := HostIf.reset, pow := Power.reset, fab := Fabric.reset, pool := Pool.reset,
    agenda := [], late := [], issueQ := [], round := [], cur := 0, issue := Issue.reset, freeCtr := 0 }

end Sys2Proof.Machine
end

