-- ==== Sys2Proof/Machine/Operands.lean ====
section
/-! DEFINITION. What a syllable uses (R56, R58, R75): its slot, its guard, the registers it reads and writes and when they land, its
vector ports, its accumulator, its handles; and the operand values of the short and extended forms. -/

namespace Sys2Proof.Machine

/-- When a result lands: under a latency class of R36, or at a fixed latency (R37). -/
inductive Lat where
  | cls (c : Nat)
  | fixed (n : Nat)
deriving DecidableEq, Repr

/-- What a syllable uses. -/
structure Info where
  /-- Slot in PRES numbering, 12 for X, 13 for no slot. -/
  slot : Nat
  /-- Guard predicate; 0 in the vector and X slots. -/
  guard : Nat
  /-- Registers read. -/
  reads : List Dest
  /-- Exposed results, with their latency. -/
  lands : List (Dest × Lat)
  /-- Hidden-latency results. -/
  hid : List Dest
  /-- Vector read ports with their registers (R60). -/
  ports : List (Nat × Nat)
  /-- Accumulator named (R62). -/
  acc : Option Nat
  /-- Handles named. -/
  hands : List Nat
deriving DecidableEq, Repr

/-- A scalar register. -/
def rS (i : BitVec 5) : Dest := { file := .s, idx := i.toNat }
/-- An address register. -/
def rA (i : Nat) : Dest := { file := .a, idx := i }
/-- A vector register. -/
def rV (i : BitVec 6) : Dest := { file := .v, idx := i.toNat }
/-- A lane mask. -/
def rQ (i : Nat) : Dest := { file := .q, idx := i }
/-- A predicate. -/
def rP (i : BitVec 3) : Dest := { file := .p, idx := i.toNat }
/-- A capability register. -/
def rK (i : Nat) : Dest := { file := .k, idx := i }
/-- lk. -/
def rLk : Dest := { file := .lk, idx := 0 }
/-- A format register. -/
def rFmt (i : BitVec 3) : Dest := { file := .fmt, idx := i.toNat }
/-- Address register `i` of the file of slot L0 or L1 (R58). -/
def lA (l1 : Bool) (i : BitVec 4) : Dest := rA (i.toNat + if l1 then 16 else 0)
/-- The scalar destination field of R176. -/
def sDest (l1 : Bool) (d : BitVec 6) : Dest :=
  if d.toNat < 32 then { file := .s, idx := d.toNat } else lA l1 (d.setWidth 4)
/-- The data register field of R174. -/
def mData (d : BitVec 6) : Dest :=
  if d.toNat < 32 then { file := .s, idx := d.toNat } else rA (d.toNat - 32)

/-- Nothing used. -/
def noInfo : Info := { slot := 13, guard := 0, reads := [], lands := [], hid := [], ports := [], acc := none, hands := [] }
/-- A syllable of a slot with a guard. -/
def slotInfo (slot : Nat) (g : BitVec 3) : Info := { noInfo with slot := slot, guard := g.toNat }
/-- C slot. -/
def cInfo (g : BitVec 3) (reads : List Dest) (lands : List (Dest × Lat)) : Info :=
  { slotInfo 0 g with reads := reads, lands := lands }
/-- S slot. -/
def sInfo (g : BitVec 3) (reads : List Dest) (lands : List (Dest × Lat)) : Info :=
  { slotInfo 1 g with reads := reads, lands := lands }
/-- SR with two sources and a destination. -/
def srInfo (o : SR) (l : Lat) : Info := sInfo o.g [rS o.a, rS o.b] [(rS o.d, l)]
/-- SR with a hidden result. -/
def srHidInfo (o : SR) : Info := { sInfo o.g [rS o.a, rS o.b] [] with hid := [rS o.d] }
/-- L0 or L1. -/
def lInfo (l1 : Bool) (g : BitVec 3) : Info := slotInfo (if l1 then 3 else 2) g
/-- LA. -/
def laInfo (o : LA) (reads : List Dest) : Info := { lInfo o.l1 o.g with
    reads := reads
    lands := [(lA o.l1 o.d, .cls 2)] }
/-- LT. -/
def ltInfo (o : LT) (d : Dest) : Info :=
  { lInfo o.l1 o.g with reads := [lA o.l1 o.row], lands := [(d, .cls 3)], hands := [o.h.toNat] }
/-- LM. -/
def lmInfo (o : LM) (reads hid : List Dest) : Info := { lInfo o.l1 o.g with reads := reads, hid := hid }
/-- LH. -/
def lhInfo (o : LH) (reads hid : List Dest) : Info := { lInfo o.l1 o.g with reads := reads, hid := hid }
/-- ST. -/
def stInfo (g : BitVec 3) (reads : List Dest) : Info := { slotInfo 4 g with reads := reads }
/-- SM. -/
def smInfo (o : SM) (reads : List Dest) : Info := stInfo o.g reads
/-- AT of amo and red. -/
def atInfo (o : AT) (hid : List Dest) : Info := { stInfo o.g [rA o.base.toNat, rS o.data] with hid := hid }
/-- AT of cas. -/
def casInfo (o : AT) (hid more : List Dest) : Info :=
  { stInfo o.g ([rA o.base.toNat, rS o.data, rS (BitVec.ofNat 5 (AT.newReg o))] ++ more) with hid := hid }
/-- V0 or V1: G names a lane mask, which is read. -/
def vInfo (o : VA) (reads : List Dest) (ports : List (Nat × Nat)) (lands : List (Dest × Lat)) : Info :=
  { noInfo with slot := if o.v1 then 6 else 5, reads := rQ o.g.toNat :: reads, ports := ports, lands := lands }
/-- VA without a vector source. -/
def va0Info (o : VA) (c : Nat) : Info := vInfo o [] [] [(rV o.vd, .cls c)]
/-- VA with source va. -/
def va1Info (o : VA) (c : Nat) : Info := vInfo o [rV o.va] [(o.pa.toNat, o.va.toNat)] [(rV o.vd, .cls c)]
/-- VA with sources va and vb. -/
def va2Info (o : VA) (c : Nat) : Info :=
  vInfo o [rV o.va, rV o.vb] [(o.pa.toNat, o.va.toNat), (o.pb.toNat, o.vb.toNat)] [(rV o.vd, .cls c)]
/-- VA with sources va, vb and vc. -/
def va3Info (o : VA) (c : Nat) : Info :=
  vInfo o [rV o.va, rV o.vb, rV o.vc] [(o.pa.toNat, o.va.toNat), (o.pb.toNat, o.vb.toNat), (o.pc.toNat, o.vc.toNat)]
    [(rV o.vd, .cls c)]
/-- VA that writes a lane mask (R146). -/
def vaMaskInfo (o : VA) : Info :=
  vInfo o [rV o.va, rV o.vb] [(o.pa.toNat, o.va.toNat), (o.pb.toNat, o.vb.toNat)] [(rQ (o.vd.toNat % 8), .cls 4)]
/-- vsel, which reads a second lane mask (R161). -/
def vselInfo (o : VA) : Info :=
  vInfo o [rV o.va, rV o.vb, rQ (o.mod.toNat % 8)] [(o.pa.toNat, o.va.toNat), (o.pb.toNat, o.vb.toNat)] [(rV o.vd, .cls 4)]
/-- M. -/
def mInfo (g : BitVec 3) : Info := slotInfo 7 g
/-- MX. -/
def mxInfo (o : MX) : Info := { mInfo o.g with acc := some o.acc.toNat, hands := [o.hA.toNat, o.hB.toNat] }
/-- DR. -/
def drInfo (o : DR) : Info := { slotInfo 8 o.g with acc := some o.acc.toNat }
/-- OP. -/
def opInfo (o : OP) (upd : Bool) : Info :=
  { slotInfo 9 o.g with
    acc := some o.acc.toNat
    hands := (if upd then [o.hW.toNat, o.hM.toNat] else []) ++ (if o.ext.isSome then [extNat o.ext / 2 ^ 26] else []) }
/-- E. -/
def eInfo (g : BitVec 3) : Info := slotInfo 10 g
/-- EJ. -/
def ejInfo (o : EJ) : Info := { eInfo o.g with hands := [o.hJ.toNat, o.hW.toNat] }
/-- W. -/
def wInfo (g : BitVec 3) (reads : List Dest) : Info := { slotInfo 11 g with reads := reads }
/-- X. -/
def xInfo : Info := { noInfo with slot := 12 }

/-- What a syllable uses: its slot, guard, registers, ports, accumulator and handles. An event uses no slot. -/
def infoOf : Instr → Info
  | .nop o => cInfo o.g [] []
  | .br o => cInfo o.g [] []
  | .brp o => cInfo o.g [rP o.p] []
  | .brl o => cInfo o.g [] [(rLk, .fixed 1)]
  | .ret o => cInfo o.g [rLk] []
  | .jmp o => cInfo o.g [rS o.s] []
  | .jmpL o => cInfo o.g [rS o.s] [(rLk, .fixed 1)]
  | .loop o => cInfo o.g [rS o.s] []
  | .loopn o => cInfo o.g [rS o.s] []
  | .fmtw o => cInfo o.g (if o.ext.isSome then [] else [rS o.s]) [(rFmt o.fmt, .fixed 4)]
  | .csrr o => cInfo o.g [] [(rS o.s, .cls 0)]
  | .csrw o => cInfo o.g [rS o.s] []
  | .csrwI o => cInfo o.g [] []
  | .pand o => cInfo o.g [rP o.pa, rP o.pb] [(rP o.pd, .fixed 1)]
  | .por o => cInfo o.g [rP o.pa, rP o.pb] [(rP o.pd, .fixed 1)]
  | .pxor o => cInfo o.g [rP o.pa, rP o.pb] [(rP o.pd, .fixed 1)]
  | .pnot o => cInfo o.g [rP o.pa] [(rP o.pd, .fixed 1)]
  | .trapC o => cInfo o.g [] []
  | .sysc o => cInfo o.g [] []
  | .rft o => cInfo o.g [] []
  | .retire o => cInfo o.g [] []
  | .yield o => cInfo o.g [] []
  | .wait o => { wInfo o.g [rS o.s] with hands := [o.h.toNat] }
  | .waitc o => wInfo o.g [rS o.s]
  | .waitb o => wInfo o.g []
  | .waitt o => wInfo o.g [rS o.s]
  | .scope _ => xInfo
  | .add o => srInfo o (.cls 0)
  | .sub o => srInfo o (.cls 0)
  | .mul o => srInfo o (.cls 1)
  | .mulh o => srInfo o (.cls 1)
  | .mulhu o => srInfo o (.cls 1)
  | .div_ o => srHidInfo o
  | .divu o => srHidInfo o
  | .rem o => srHidInfo o
  | .remu o => srHidInfo o
  | .and_ o => srInfo o (.cls 0)
  | .or_ o => srInfo o (.cls 0)
  | .xor_ o => srInfo o (.cls 0)
  | .andn o => srInfo o (.cls 0)
  | .shl o => srInfo o (.cls 0)
  | .shr o => srInfo o (.cls 0)
  | .sra o => srInfo o (.cls 0)
  | .rol o => srInfo o (.cls 0)
  | .clz o => sInfo o.g [rS o.a] [(rS o.d, .cls 0)]
  | .ctz o => sInfo o.g [rS o.a] [(rS o.d, .cls 0)]
  | .popc o => sInfo o.g [rS o.a] [(rS o.d, .cls 0)]
  | .min_ o => srInfo o (.cls 0)
  | .max_ o => srInfo o (.cls 0)
  | .minu o => srInfo o (.cls 0)
  | .maxu o => srInfo o (.cls 0)
  | .sel o => sInfo o.g [rS o.a, rS o.b, rP (o.c.setWidth 3)] [(rS o.d, .cls 0)]
  | .cmp o => sInfo o.g [rS o.a, rS o.b] [(rP (o.d.setWidth 3), .cls 0)]
  | .addW o => srInfo o (.cls 0)
  | .subW o => srInfo o (.cls 0)
  | .mulW o => srInfo o (.cls 1)
  | .divW o => srHidInfo o
  | .divuW o => srHidInfo o
  | .remW o => srHidInfo o
  | .remuW o => srHidInfo o
  | .shlW o => srInfo o (.cls 0)
  | .shrW o => srInfo o (.cls 0)
  | .sraW o => srInfo o (.cls 0)
  | .addi o => sInfo o.g [rS o.a] [(rS o.d, .cls 0)]
  | .andI o => sInfo o.g [rS o.a] [(rS o.d, .cls 0)]
  | .orI o => sInfo o.g [rS o.a] [(rS o.d, .cls 0)]
  | .xorI o => sInfo o.g [rS o.a] [(rS o.d, .cls 0)]
  | .shlI o => sInfo o.g [rS o.a] [(rS o.d, .cls 0)]
  | .shrI o => sInfo o.g [rS o.a] [(rS o.d, .cls 0)]
  | .sraI o => sInfo o.g [rS o.a] [(rS o.d, .cls 0)]
  | .rolI o => sInfo o.g [rS o.a] [(rS o.d, .cls 0)]
  | .cmpI o => sInfo o.g [rS o.a] [(rP o.pd, .cls 0)]
  | .movi o => sInfo o.g [] [(rS o.d, .cls 0)]
  | .movhi o => sInfo o.g [rS o.d] [(rS o.d, .cls 0)]
  | .xmovSl o => sInfo o.g [rS (o.a.setWidth 5)] [(rA o.d.toNat, .fixed 2)]
  | .xmovLs o => sInfo o.g [rA o.a.toNat] [(rS (o.d.setWidth 5), .fixed 2)]
  | .xmovSv o => sInfo o.g [rS (o.a.setWidth 5)] [(rV o.d, .fixed 3)]
  | .xmovVs o => { sInfo o.g [rV o.a] [(rS (o.d.setWidth 5), .fixed 3)] with ports := [(o.port.toNat, o.a.toNat)] }
  | .fadd o => srInfo o (.cls 7)
  | .fmul o => srInfo o (.cls 7)
  | .fcmp o => sInfo o.g [rS o.a, rS o.b] [(rP (o.d.setWidth 3), .cls 7)]
  | .fma o => sInfo o.g [rS o.a, rS o.b, rS o.c] [(rS o.d, .cls 7)]
  | .aadd o => laInfo o [lA o.l1 o.a, lA o.l1 o.b]
  | .aaddi o => laInfo o [lA o.l1 o.a]
  | .xmova o => laInfo o [lA o.l1 o.a]
  | .lds8 o => ltInfo o (lA o.l1 (o.d.setWidth 4))
  | .lds16 o => ltInfo o (lA o.l1 (o.d.setWidth 4))
  | .lds32 o => ltInfo o (lA o.l1 (o.d.setWidth 4))
  | .lds64 o => ltInfo o (lA o.l1 (o.d.setWidth 4))
  | .ldv o => ltInfo o (rV o.d)
  | .ldvt o => ltInfo o (rV o.d)
  | .ldg8 o => lmInfo o [lA o.l1 o.base] [sDest o.l1 o.d]
  | .ldg16 o => lmInfo o [lA o.l1 o.base] [sDest o.l1 o.d]
  | .ldg32 o => lmInfo o [lA o.l1 o.base] [sDest o.l1 o.d]
  | .ldg64 o => lmInfo o [lA o.l1 o.base] [sDest o.l1 o.d]
  | .ldgV o => lmInfo o [lA o.l1 o.base] [rV o.d]
  | .ldk32 o => lmInfo o [rK o.base.toNat] [sDest o.l1 o.d]
  | .ldk64 o => lmInfo o [rK o.base.toNat] [sDest o.l1 o.d]
  | .ldacq32 o => lmInfo o [lA o.l1 o.base] [sDest o.l1 o.d]
  | .ldacq64 o => lmInfo o [lA o.l1 o.base] [sDest o.l1 o.d]
  | .ldsc o => lmInfo o [lA o.l1 o.base] []
  | .halloc o => { lhInfo o (if o.ext.isSome then [] else [lA o.l1 o.a]) [] with hands := [o.d.toNat] }
  | .hfree o => { lhInfo o [] [] with hands := [o.d.toNat] }
  | .hinfo o => { lhInfo o [] [rS (o.d.setWidth 5)] with hands := [o.h.toNat] }
  | .kderiveLd o => lhInfo o [lA o.l1 o.a] [rK (o.d.toNat % 16)]
  | .kderiveRs o => lhInfo o [lA o.l1 o.a, rK (o.h.toNat % 16)] [rK (o.d.toNat % 16)]
  | .kderiveSt o => lhInfo o [lA o.l1 o.a, rK (o.h.toNat % 16)] []
  | .kchk o => lhInfo o [rK (o.h.toNat % 16)] [rS (o.d.setWidth 5)]
  | .pf o => lmInfo o [lA o.l1 o.base] []
  | .sts8 o => smInfo o [rA o.base.toNat, mData o.data]
  | .sts16 o => smInfo o [rA o.base.toNat, mData o.data]
  | .sts32 o => smInfo o [rA o.base.toNat, mData o.data]
  | .sts64 o => smInfo o [rA o.base.toNat, mData o.data]
  | .stv o => { smInfo o [rA o.base.toNat, rV o.data] with ports := [(o.port.toNat, o.data.toNat)] }
  | .stvt o => { smInfo o [rA o.base.toNat, rV o.data] with ports := [(o.port.toNat, o.data.toNat)] }
  | .stg8 o => smInfo o [rA o.base.toNat, mData o.data]
  | .stg16 o => smInfo o [rA o.base.toNat, mData o.data]
  | .stg32 o => smInfo o [rA o.base.toNat, mData o.data]
  | .stg64 o => smInfo o [rA o.base.toNat, mData o.data]
  | .stk32 o => smInfo o [rK (o.base.toNat % 16), mData o.data]
  | .stk64 o => smInfo o [rK (o.base.toNat % 16), mData o.data]
  | .strel32 o => smInfo o [rA o.base.toNat, mData o.data]
  | .strel64 o => smInfo o [rA o.base.toNat, mData o.data]
  | .amoAdd32 o => atInfo o [rS o.d]
  | .amoAdd64 o => atInfo o [rS o.d]
  | .amoAnd32 o => atInfo o [rS o.d]
  | .amoAnd64 o => atInfo o [rS o.d]
  | .amoOr32 o => atInfo o [rS o.d]
  | .amoOr64 o => atInfo o [rS o.d]
  | .amoXor32 o => atInfo o [rS o.d]
  | .amoXor64 o => atInfo o [rS o.d]
  | .amoMin32 o => atInfo o [rS o.d]
  | .amoMin64 o => atInfo o [rS o.d]
  | .amoMax32 o => atInfo o [rS o.d]
  | .amoMax64 o => atInfo o [rS o.d]
  | .amoMinu32 o => atInfo o [rS o.d]
  | .amoMinu64 o => atInfo o [rS o.d]
  | .amoMaxu32 o => atInfo o [rS o.d]
  | .amoMaxu64 o => atInfo o [rS o.d]
  | .amoSwap32 o => atInfo o [rS o.d]
  | .amoSwap64 o => atInfo o [rS o.d]
  | .cas32 o => casInfo o [rS o.d] []
  | .cas64 o => casInfo o [rS o.d] []
  | .cas128 o => casInfo o (if o.d = 0 then [] else [rS o.d, rS (o.d + 1)]) [rS (o.data + 1), rS (BitVec.ofNat 5 (AT.newReg o + 1))]
  | .redAdd32 o => atInfo o []
  | .redAdd64 o => atInfo o []
  | .redAnd32 o => atInfo o []
  | .redAnd64 o => atInfo o []
  | .redOr32 o => atInfo o []
  | .redOr64 o => atInfo o []
  | .redXor32 o => atInfo o []
  | .redXor64 o => atInfo o []
  | .redMin32 o => atInfo o []
  | .redMin64 o => atInfo o []
  | .redMax32 o => atInfo o []
  | .redMax64 o => atInfo o []
  | .redMinu32 o => atInfo o []
  | .redMinu64 o => atInfo o []
  | .redMaxu32 o => atInfo o []
  | .redMaxu64 o => atInfo o []
  | .redFadd32 o => atInfo o []
  | .fence o => stInfo o.g []
  | .fenceRel o => stInfo o.g []
  | .fenceAcq o => stInfo o.g []
  | .bind o => stInfo o.g [rA o.base.toNat, rA o.len.toNat, rA o.obj.toNat]
  | .unbind o => stInfo o.g [rA o.base.toNat, rA o.obj.toNat]
  | .vadd o => va2Info o 4
  | .vsub o => va2Info o 4
  | .vmul o => va2Info o 5
  | .vmulh o => va2Info o 5
  | .vand o => va2Info o 4
  | .vor o => va2Info o 4
  | .vxor o => va2Info o 4
  | .vandn o => va2Info o 4
  | .vshl o => va2Info o 4
  | .vshr o => va2Info o 4
  | .vsra o => va2Info o 4
  | .vmin o => va2Info o 4
  | .vmax o => va2Info o 4
  | .vminu o => va2Info o 4
  | .vmaxu o => va2Info o 4
  | .vabs o => va1Info o 4
  | .vneg o => va1Info o 4
  | .vcmp o => vaMaskInfo o
  | .vaddSat o => va2Info o 4
  | .vsubSat o => va2Info o 4
  | .vfadd o => va2Info o 5
  | .vfsub o => va2Info o 5
  | .vfmul o => va2Info o 5
  | .vfma o => va3Info o 5
  | .vfms o => va3Info o 5
  | .vfmin o => va2Info o 4
  | .vfmax o => va2Info o 4
  | .vfabs o => va1Info o 4
  | .vfneg o => va1Info o 4
  | .vfcmp o => vaMaskInfo o
  | .vrcp o => va1Info o 6
  | .vrsq o => va1Info o 6
  | .vsqrt o => va1Info o 6
  | .vexp2 o => va1Info o 6
  | .vlog2 o => va1Info o 6
  | .vfaddH o => va2Info o 5
  | .vfsubH o => va2Info o 5
  | .vfmulH o => va2Info o 5
  | .vfmaH o => va3Info o 5
  | .vfmsH o => va3Info o 5
  | .vfminH o => va2Info o 4
  | .vfmaxH o => va2Info o 4
  | .vfabsH o => va1Info o 4
  | .vfnegH o => va1Info o 4
  | .vfcmpH o => vaMaskInfo o
  | .vcvt o => va1Info o 4
  | .vcvtRs o => va2Info o 4
  | .vqnt o => va2Info o 5
  | .vdqnt o => va2Info o 5
  | .vrsum o => va1Info o 5
  | .vrmax o => va1Info o 5
  | .vrmin o => va1Info o 5
  | .vscan o => va1Info o 5
  | .vrsumF o => va1Info o 6
  | .vrmaxF o => va1Info o 5
  | .vrminF o => va1Info o 5
  | .vscanF o => va1Info o 6
  | .vperm o => va2Info o 4
  | .vbcast o => va1Info o 4
  | .vslide o => va2Info o 4
  | .vsel o => vselInfo o
  | .vmov o => va1Info o 4
  | .vsplat o => va0Info o 4
  | .vlane o => va0Info o 4
  | .vstat o => { va2Info o 4 with lands := [] }
  | .mopaNf o => mxInfo o
  | .mopaInt4 o => mxInfo o
  | .mopaInt8 o => mxInfo o
  | .mopaUint8 o => mxInfo o
  | .mopaF16 o => mxInfo o
  | .mopaBf16 o => mxInfo o
  | .mopaF32 o => mxInfo o
  | .mopsNf o => mxInfo o
  | .mopsInt4 o => mxInfo o
  | .mopsInt8 o => mxInfo o
  | .mopsUint8 o => mxInfo o
  | .mopsF16 o => mxInfo o
  | .mopsBf16 o => mxInfo o
  | .mopsF32 o => mxInfo o
  | .mzero o => { mInfo o.g with acc := some o.acc.toNat }
  | .mcfg o => mInfo o.g
  | .mfence o => mInfo o.g
  | .drain o => { drInfo o with hands := [o.t.toNat] }
  | .drainM o => { drInfo o with reads := [rA o.t.toNat] }
  | .drainv o => { drInfo o with hid := [rV o.t] }
  | .fill o => { drInfo o with hands := [o.t.toNat] }
  | .fillM o => { drInfo o with reads := [rA o.t.toNat] }
  | .fillv o => { drInfo o with reads := [rV o.t], ports := [(o.port.toNat, o.t.toNat)] }
  | .dzero o => drInfo o
  | .oadamF32 o => opInfo o true
  | .oadamBf16 o => opInfo o true
  | .oadamwF32 o => opInfo o true
  | .oadamwBf16 o => opInfo o true
  | .olionF32 o => opInfo o true
  | .olionBf16 o => opInfo o true
  | .osgdmF32 o => opInfo o true
  | .osgdmBf16 o => opInfo o true
  | .oclip o => opInfo o false
  | .oscale o => opInfo o false
  | .cpy o => ejInfo o
  | .cpyq o => ejInfo o
  | .gath o => ejInfo o
  | .scat o => ejInfo o
  | .gathK o => { ejInfo o with reads := [rK o.k.toNat] }
  | .scatK o => { ejInfo o with reads := [rK o.k.toNat] }
  | .bget o => { ejInfo o with reads := [rK o.k.toNat] }
  | .bwr o => { ejInfo o with reads := [rK o.k.toNat] }
  | .bred o => { ejInfo o with reads := [rK o.k.toNat] }
  | .gred o => { ejInfo o with reads := [rK o.k.toNat] }
  | .gmld o => { ejInfo o with reads := [rK o.k.toNat] }
  | .grpset o => { ejInfo o with reads := [rK o.k.toNat] }
  | .msend o => ejInfo o
  | .enq o => ejInfo o
  | .arrive o => ejInfo o
  | .tdec o => ejInfo o
  | .tspawn o => { ejInfo o with hid := [rS (BitVec.ofNat 5 (extNat o.ext))] }
  | .sclose o => ejInfo o
  | .sread o => { ejInfo o with hid := [rV (BitVec.ofNat 6 (extNat o.ext))] }
  | .sreadO o => { ejInfo o with hid := [rV (BitVec.ofNat 6 (extNat o.ext))] }
  | .salloc o => { ejInfo o with hid := [rS (BitVec.ofNat 5 (extNat o.ext))] }
  | .sfree o => ejInfo o
  | .lacq o => { ejInfo o with reads := [rK o.k.toNat] }
  | .lrel o => { ejInfo o with reads := [rK o.k.toNat] }
  | .realign o => ejInfo o
  | .mstone o => ejInfo o
  | .wmarm o => { eInfo o.g with hands := [o.hW.toNat] }
  | .landing _ => noInfo
  | .loopEndMark _ => noInfo
  | .segmentBoundaryMark _ => noInfo
  | .segmentMiss _ => noInfo
  | .segmentCopyComplete _ _ => noInfo
  | .junctionCycle _ => noInfo
  | .rotationRebase _ => noInfo
  | .hiddenResultWrite _ _ => noInfo
  | .hallocComplete _ _ => noInfo
  | .handleStorageRelease _ _ => noInfo
  | .matrixOpComplete _ _ => noInfo
  | .drainOpComplete _ _ => noInfo
  | .optimiserOpComplete _ _ => noInfo
  | .optimiserTrapTaken _ => noInfo
  | .engineJobComplete _ _ => noInfo
  | .waymarkReport _ _ _ _ => noInfo
  | .pageFault _ _ => noInfo
  | .tileRetired _ => noInfo
  | .contextSwitchStart _ _ => noInfo
  | .spillSave _ => noInfo
  | .refill _ => noInfo
  | .walkerAssign _ => noInfo
  | .walkerUpdate _ => noInfo
  | .forkRequest _ => noInfo
  | .walkerSave _ => noInfo
  | .walkerRestore _ => noInfo
  | .taskDone _ => noInfo
  | .dispatch => noInfo
  | .clusterCacheWriteback _ _ => noInfo
  | .clusterCacheEccError _ _ _ _ => noInfo
  | .barrierUpdate _ _ => noInfo
  | .atomicPlacementNear _ _ => noInfo
  | .ownershipRecall _ => noInfo
  | .llcEccError _ _ _ => noInfo
  | .translationInvalidateAck _ => noInfo
  | .migrationCopyComplete _ => noInfo
  | .hintWindowCheck _ _ _ _ => noInfo
  | .deltaMerge _ => noInfo
  | .leaseGrant _ _ => noInfo
  | .leaseRenewal _ _ => noInfo
  | .leaseEnd _ => noInfo
  | .leaseRecall _ _ _ => noInfo
  | .routeSheetEntry _ _ _ => noInfo
  | .routeRecordRetry _ _ => noInfo
  | .queueFetch _ => noInfo
  | .queueHintWrite _ _ => noInfo
  | .queueReset _ => noInfo
  | .queueEnWrite _ _ => noInfo
  | .registerWrite _ _ _ => noInfo
  | .launch _ _ _ _ _ => noInfo
  | .ready _ _ => noInfo
  | .dec _ _ _ => noInfo
  | .template _ _ _ _ => noInfo
  | .route _ _ => noInfo
  | .aspace _ _ _ _ _ _ => noInfo
  | .quota _ _ _ _ => noInfo
  | .config _ _ _ _ => noInfo
  | .map _ _ _ _ _ _ _ _ => noInfo
  | .unmap _ _ _ => noInfo
  | .protect _ _ _ _ _ => noInfo
  | .migrate _ _ _ _ _ _ => noInfo
  | .segtab _ _ _ _ => noInfo
  | .recAlloc _ _ _ _ => noInfo
  | .recFree _ _ => noInfo
  | .resume _ _ _ _ _ => noInfo
  | .abandon _ _ => noInfo
  | .switch _ _ => noInfo
  | .wsave _ _ => noInfo
  | .fencePacket _ => noInfo
  | .nopPacket _ => noInfo
  | .fwupdate _ _ _ => noInfo
  | .eventRingConfigWrite _ _ => noInfo
  | .heldFaultRecordWrite => noInfo
  | .watchdogExpiry _ => noInfo
  | .parityError _ => noInfo
  | .qownerWrite _ _ => noInfo
  | .lockInterfaceRequest _ => noInfo
  | .startInterfaceRequest _ _ => noInfo
  | .stopInterfaceRequest _ => noInfo
  | .getDeviceInterfaceReport _ => noInfo
  | .ideIntegrityFailure _ => noInfo
  | .functionLevelReset _ => noInfo
  | .spdmAlgorithmNegotiation _ _ _ _ => noInfo
  | .snpinv _ => noInfo
  | .snpdata _ => noInfo
  | .cxlCapacityEviction _ => noInfo
  | .hostHdmAccess _ _ _ _ => noInfo
  | .coldStart _ => noInfo
  | .warmStart _ => noInfo
  | .warm => noInfo
  | .go => noInfo
  | .startTimeout => noInfo
  | .tolWrite _ => noInfo
  | .powerStateEntry => noInfo
  | .powerStateWake _ _ => noInfo
  | .throttleStep _ => noInfo
  | .thermalTrip _ => noInfo
  | .slotBoundary => noInfo
  | .flitReceive _ _ => noInfo
  | .flitForward => noInfo
  | .framePulse _ _ _ => noInfo
  | .relock _ _ _ => noInfo
  | .phase2Entry => noInfo
  | .nosyncEntry => noInfo
  | .holdoverExchange _ => noInfo
  | .portPause _ => noInfo
  | .portRetrain _ => noInfo
  | .portFence _ => noInfo
  | .portRejoin _ => noInfo
  | .dataReceive _ => noInfo
  | .enqReceive _ => noInfo
  | .arriveReceive _ => noInfo
  | .heldMessageRelease _ _ => noInfo
  | .streamAbort _ _ _ => noInfo
  | .membershipAdd _ _ => noInfo
  | .membershipRemove _ _ => noInfo
  | .groupPhaseComplete _ _ _ _ => noInfo
  | .poolReject _ _ => noInfo
  | .commitAnswer _ _ _ => noInfo
  | .frozenItemWrite _ => noInfo
  | .poolWriteAcknowledgement _ _ => noInfo
  | .carrierMemoryEccError _ _ => noInfo

/-! ## Immediate and offset operands, short and extended (R58) -/

/-- A signed field of `n` bits, or the extension word, sign-extended. -/
def immS (n f : Nat) (ext : Option Word32) : Int :=
  match ext with
  | some e => e.toInt
  | none => signedN f n

/-- An unsigned field, or the extension word. -/
def immU (f : Nat) (ext : Option Word32) : Nat :=
  match ext with
  | some e => e.toNat
  | none => f

/-- A 64-bit word of an integer. -/
def wordOf (x : Int) : Word := BitVec.ofInt 64 x

/-- Low-aligned register value. -/
def vOf {n : Nat} (x : BitVec n) : VWord := x.setWidth 1024

/-- All ones. -/
def allV : VWord := BitVec.allOnes 1024

end Sys2Proof.Machine
end

