-- ==== Sys2Proof/Machine/Flags.lean ====
section
/-! DEFINITION. The sticky flags of FPSTAT and what they raise (R23, R24, R118). -/

namespace Sys2Proof.Machine

/-- The bits of FPSTAT that exist (R23). -/
def fpstatMask : Word := 0x7F

/-- The bits of FPCTL that exist (R24). -/
def fpctlMask : Word := 0x3F

/-- FPSTAT after a bundle: the flags raised are set, then the bits a csrw of the bundle names are cleared (R23, R117, R118). -/
def fpstatAfter (old : Word) (flags : Nat) (clear : Word) : Word :=
  ((old ||| BitVec.ofNat 64 flags) &&& fpstatMask) &&& ~~~clear

/-- The raised flags whose enable bit of FPCTL is 1; SAT has none (R24). -/
def arithRaised (fpctl : Word) (flags : Nat) : Nat := (fpctl &&& fpctlMask).toNat &&& flags

end Sys2Proof.Machine
end

