-- ==== Sys2Proof/Machine/Ops.lean ====
section
/-! DEFINITION. The named operations over the state: contexts and registers, the landing queue, scratch and handles, translation and
memory, the event ring, completion records, and taking a trap, freezing and returning. -/

namespace Sys2Proof.Machine

/-- The distance from b to a of two 32-bit counters that wrap. -/
def sub32 (a b : Nat) : Nat := (BitVec.ofNat 32 a - BitVec.ofNat 32 b).toNat

/-! ## Parts of the module (R6, R22) -/

/-- The core of a context. -/
def coreOf (c : Nat) : Nat := c / 4
/-- The partition of a context (R200). -/
def partOf (c : Nat) : Nat := c % 4
/-- The cluster of a context, 0 to 31 (R327). -/
def clusterOf (c : Nat) : Nat := c / 32
/-- The die of a context. -/
def dieOf (c : Nat) : Nat := c / 256

/-- A context. -/
def State.ctx (s : State) (c : Nat) : Ctx := Store.get Ctx.reset s.ctxs c
/-- Replace a context. -/
def State.setCtx (s : State) (c : Nat) (x : Ctx) : State := { s with ctxs := Store.put s.ctxs c x }
/-- Change a context. -/
def State.modCtx (s : State) (c : Nat) (f : Ctx → Ctx) : State := s.setCtx c (f (s.ctx c))
/-- A core. -/
def State.core (s : State) (k : Nat) : Core := Store.get Core.reset s.cores k
/-- Replace a core. -/
def State.setCore (s : State) (k : Nat) (x : Core) : State := { s with cores := Store.put s.cores k x }
/-- Change a core. -/
def State.modCore (s : State) (k : Nat) (f : Core → Core) : State := s.setCore k (f (s.core k))
/-- A cluster. -/
def State.cluster (s : State) (k : Nat) : Cluster := Store.get Cluster.reset s.clusters k
/-- Change a cluster. -/
def State.modCluster (s : State) (k : Nat) (f : Cluster → Cluster) : State :=
  { s with clusters := Store.put s.clusters k (f (s.cluster k)) }
/-- Change the front end. -/
def State.modFe (s : State) (f : FrontEnd → FrontEnd) : State := { s with fe := f s.fe }

/-- A quota class. -/
def State.quotaOf (s : State) (cls : Nat) : QuotaClass := Store.get QuotaClass.reset s.fe.classes cls
/-- Change a quota class. -/
def State.modQuota (s : State) (cls : Nat) (f : QuotaClass → QuotaClass) : State :=
  s.modFe fun e => { e with classes := Store.set QuotaClass.reset e.classes cls (f (Store.get QuotaClass.reset e.classes cls)) }
/-- The class of an address space (CLASSMAP). -/
def State.classOf (s : State) (asid : Nat) : Nat := Store.get 0 s.fe.classMap asid
/-- A live task record. -/
def State.taskOf (s : State) (id : Nat) : Option Task := (s.fe.tasks.find? fun e => e.1 == id).map (·.2)

/-- The contexts of a core. -/
def ctxsOf (k : Nat) : List Nat := [4 * k, 4 * k + 1, 4 * k + 2, 4 * k + 3]

/-! ## Registers (R16, R17) -/

/-- The register that a number names as zero, one or all ones (R17). -/
def Dest.fixed (d : Dest) : Bool := (d.file == .s || d.file == .p || d.file == .q) && d.idx == 0

/-- A scalar register; s0 reads as zero. -/
def Ctx.sreg (x : Ctx) (i : Nat) : Word := if i = 0 then 0 else Store.get 0 x.s i
/-- An address register. -/
def Ctx.areg (x : Ctx) (i : Nat) : Word := Store.get 0 x.a i
/-- A vector register. -/
def Ctx.vreg (x : Ctx) (i : Nat) : VWord := Store.get 0 x.v i
/-- A lane mask; q0 reads as all ones. -/
def Ctx.qreg (x : Ctx) (i : Nat) : Word128 := if i = 0 then BitVec.allOnes 128 else Store.get 0 x.q i
/-- A predicate; p0 reads as 1. -/
def Ctx.preg (x : Ctx) (i : Nat) : Bool := if i = 0 then true else Store.get false x.p i
/-- A capability register. -/
def Ctx.kreg (x : Ctx) (i : Nat) : Word128 := Store.get 0 x.k i
/-- A format register. -/
def Ctx.fmtreg (x : Ctx) (i : Nat) : Word32 := Store.get 0 x.fmt i

/-- The value of a register, low-aligned. -/
def Ctx.get (x : Ctx) (d : Dest) : VWord :=
  match d.file with
  | .s => vOf (x.sreg d.idx)
  | .a => vOf (x.areg d.idx)
  | .v => x.vreg d.idx
  | .q => vOf (x.qreg d.idx)
  | .p => if x.preg d.idx then 1 else 0
  | .lc => vOf (Store.get 0 x.lc d.idx)
  | .lk => vOf x.lk
  | .fmt => vOf (x.fmtreg d.idx)
  | .k => vOf (x.kreg d.idx)

/-- Write a register; a write to s0, p0 or q0 is discarded (R17). -/
def Ctx.put (x : Ctx) (d : Dest) (v : VWord) : Ctx :=
  if d.fixed then x else
  match d.file with
  | .s => { x with s := Store.set 0 x.s d.idx (v.setWidth 64) }
  | .a => { x with a := Store.set 0 x.a d.idx (v.setWidth 64) }
  | .v => { x with v := Store.set 0 x.v d.idx v }
  | .q => { x with q := Store.set 0 x.q d.idx (v.setWidth 128) }
  | .p => { x with p := Store.set false x.p d.idx (v.getLsbD 0) }
  | .lc => { x with lc := Store.set 0 x.lc d.idx (v.setWidth 32) }
  | .lk => { x with lk := v.setWidth 32 }
  | .fmt => { x with fmt := Store.set 0 x.fmt d.idx (v.setWidth 32) }
  | .k => { x with k := Store.set 0 x.k d.idx (v.setWidth 128) }

/-- Write the bits of a register that a mask names. -/
def Ctx.putMasked (x : Ctx) (d : Dest) (v m : VWord) : Ctx := x.put d ((x.get d &&& ~~~m) ||| (v &&& m))

/-- Is the busy bit of a register set (R32)? -/
def Ctx.isBusy (x : Ctx) (d : Dest) : Bool := x.busy.contains d

/-- Set the busy bit of a register and discard its pending landings (R32, R34); s0 has none (R17). An exposed result of a later slot of
the same bundle enters the queue after this and lands on the busy register (log entry 77). -/
def Ctx.setBusy (x : Ctx) (d : Dest) : Ctx :=
  if d.fixed then x
  else { x with
    busy := if x.busy.contains d then x.busy else x.busy ++ [d]
    queue := x.queue.filter fun e => !(e.dest == d) }

/-- A hidden result is written and its busy bit clears (R32); of two in flight to one register the first clears it (log entry 77). -/
def Ctx.writeHidden (x : Ctx) (d : Dest) (v : VWord) : Ctx :=
  { x.put d v with busy := (x.put d v).busy.filter fun e => !(e == d) }

/-! ## The landing queue (R28) -/

/-- Every remaining count falls by one: what one tick does to the queue before results land. -/
def Ctx.count (x : Ctx) : Ctx := { x with queue := x.queue.map fun e => { e with left := e.left - 1 } }

/-- The entries with no tick left are written, in order, and leave the queue. -/
def Ctx.land (x : Ctx) : Ctx :=
  (x.queue.filter fun e => e.left == 0).foldl (fun y e => y.putMasked e.dest e.value e.mask)
    { x with queue := x.queue.filter fun e => !(e.left == 0) }

/-- One tick of the landing queue (R28). -/
def Ctx.tick (x : Ctx) : Ctx := x.count.land

/-- Every entry lands at once, in ascending order of remaining ticks, equal counts in slot order (R121). -/
def Ctx.landAll (x : Ctx) : Ctx :=
  (List.range 9).foldl (fun y n => (y.queue.filter fun e => e.left == n).foldl
    (fun z e => z.putMasked e.dest e.value e.mask) { y with queue := y.queue.filter fun e => !(e.left == n) }) x

/-! ## The bundle being issued (R25, R28, R309) -/

/-- The context as every slot of the bundle reads it. -/
def State.pre (s : State) : Ctx := s.issue.pre
/-- The context as the slots of the bundle have left it so far. -/
def State.now (s : State) : Ctx := s.ctx s.cur
/-- Change the context of the bundle. -/
def State.upd (s : State) (f : Ctx → Ctx) : State := s.modCtx s.cur f

/-- An issue check fails; the first one of the bundle counts (R309). -/
def State.raise (s : State) (p : PendCause) : State :=
  match s.issue.raised with
  | some _ => s
  | none => { s with issue := { s.issue with raised := some p } }

/-- The slot code of R306. -/
def slotCode (slot : Nat) (card : Nat) (write : Bool) : Nat := slot + 16 * card + 1024 * write.toNat

/-- A failing issue check of a slot: cause, slot code, and the faulting address for a protection fault (R305, R306, R315). -/
def State.fail (s : State) (cause code : Nat) (addr : Nat) : State :=
  s.raise { cause := cause, sub := 0, val := BitVec.ofNat 64 code, faddr := addr, uaddr := 0, objid := 0 }

/-- OPERAND_FORMAT. -/
def cOperand : Nat := 0x11
/-- BANK_CONFLICT. -/
def cBank : Nat := 0x12
/-- PROTECTION. -/
def cProt : Nat := 0x13
/-- CAPABILITY. -/
def cCap : Nat := 0x14
/-- PAGE. -/
def cPage : Nat := 0x15
/-- SEGMENT. -/
def cSeg : Nat := 0x16

/-- Raise flags (R23). -/
def State.flag (s : State) (fl : Nat) : State := { s with issue := { s.issue with flags := s.issue.flags ||| fl } }

/-- The code object a context runs; with none installed, device latencies (R36). -/
def State.codeOf (s : State) (x : Ctx) : CodeObj :=
  Store.get { codeSize := 0, codeOff := 128, segCount := 0, latency := 0x48524131, fmts := [], decls := [] } s.fe.codes x.code

/-- Ticks of a latency: fixed, or declared by the program header (R36, R37). -/
def State.latOf (s : State) (x : Ctx) : Lat → Nat
  | .fixed n => n
  | .cls c => bitsN (s.codeOf x).latency.toNat (4 * c) 4

/-- Landings that the earlier slots of the bundle have entered (R321, log entry 80). -/
def State.landedBefore (s : State) : Nat := (s.now.queue.filter fun e => !s.pre.queue.contains e).length

/-- An exposed result enters the landing queue, unless its destination is s0, p0 or q0 (R17, R28). -/
def State.landMask (s : State) (d : Dest) (l : Lat) (v m : VWord) : State :=
  if d.fixed then s
  else s.upd fun x => { x with queue := x.queue ++
    [{ dest := d, value := v, mask := m, left := s.latOf x l, order := s.landedBefore }] }

/-- An exposed result that writes the whole register. -/
def State.landTo (s : State) (d : Dest) (l : Lat) (v : VWord) : State := s.landMask d l v allV

/-- A 64-bit result of the scalar or address files. -/
def State.landW (s : State) (d : Dest) (l : Lat) (v : Word) : State := s.landTo d l (vOf v)

/-- Add a unit in program order, with the next number of the context; its destinations become busy (R32, R168). -/
def State.addUnit (s : State) (u : MemUnit) : State :=
  s.upd fun x =>
    let busy := fun (y : Ctx) (d : Option Dest) => match d with | some d => y.setBusy d | none => y
    let y := busy (busy x u.dest) u.dest2
    { y with
      units := y.units ++ [{ u with id := y.nextUnit }]
      nextUnit := y.nextUnit + 1 }

/-! ## Handles and scratch (R164, R197, R204) -/

/-- A handle. -/
def Ctx.handle (x : Ctx) (h : Nat) : Handle := Store.get Handle.reset x.handles h
/-- Replace a handle. -/
def Ctx.setHandle (x : Ctx) (h : Nat) (v : Handle) : Ctx := { x with handles := Store.set Handle.reset x.handles h v }
/-- Is it bound and of group A, B or G? -/
def Handle.isGroup (h : Handle) : Bool := h.bound && h.kind ≤ 2
/-- Is it a bound waymark handle? -/
def Handle.isWaymark (h : Handle) : Bool := h.bound && h.kind == 4
/-- Bytes of storage of a handle: rows of bank words (R164); none for an accumulator. -/
def Handle.size (h : Handle) : Nat := if h.bound && h.kind ≠ 3 then 16 * h.rows * h.roww else 0
/-- The handle word of hinfo (R193). -/
def Handle.word (h : Handle) : Word :=
  BitVec.ofNat 64 (h.bound.toNat * 2 ^ 62 + h.pending.toNat * 2 ^ 61 + h.failed.toNat * 2 ^ 60 + h.kind * 2 ^ 48 +
    h.roww * 2 ^ 40 + h.rows * 2 ^ 24 + (if h.kind = 3 then 0 else h.base))

/-- Does a handle's storage hold all of the bytes? -/
def Handle.holds (h : Handle) (a n : Nat) : Bool := h.bound && decide (h.base ≤ a) && decide (a + n ≤ h.base + h.size)

/-- A valid scratch address: every byte inside the storage of one bound handle (R164). -/
def Ctx.scratchOk (x : Ctx) (a n : Nat) : Bool := x.handles.any fun e => e.2.kind ≠ 3 && e.2.holds a n

/-- Does a range touch the waymark area of some partition (R200, R206)? -/
def touchesWaymarks (a n : Nat) : Bool :=
  (List.range 4).any fun p => decide (a < 0x47C00 + p * 0x8000 + 0x400) && decide (0x47C00 + p * 0x8000 < a + n)

/-- First byte of a partition's window of group g (R200). -/
def windowBase (g p : Nat) : Nat := g * 0x20000 + p * 0x8000
/-- Bytes of the window that allocations may use (R200). -/
def windowSize (g : Nat) : Nat := if g = 2 then 0x7C00 else 0x8000

/-- Read scratch, little-endian. -/
def State.scratchRead (s : State) (k a n : Nat) : Nat := Memory.readLE (s.core k).scratch a n
/-- Write scratch. -/
def State.scratchWrite (s : State) (k a n v : Nat) : State :=
  s.modCore k fun x => { x with scratch := Memory.writeLE x.scratch a n v }
/-- A store of the ST slot: it stands against every engine write of its cycle (R199). -/
def State.slotWrite (s : State) (k a n v : Nat) : State :=
  (s.scratchWrite k a n v).modCore k fun x => { x with slotted := (a, n, s.scratchRead k a n) :: x.slotted }
/-- Does a store of a slot write a byte? -/
def slotHas (e : Nat × Nat × Nat) (a : Nat) : Bool := decide (e.1 ≤ a) && decide (a < e.1 + e.2.1)

/-- Has no slot of the cycle written a byte of a range? -/
def State.unslotted (s : State) (k a n : Nat) : Bool :=
  (s.core k).slotted.all fun e => decide (e.1 + e.2.1 ≤ a) || decide (a + n ≤ e.1)

/-- Scratch bytes as an engine port reads them: a byte that slots of the cycle have stored as it stood when the cycle began (R199). -/
def State.engineRead (s : State) (k a n : Nat) : Nat :=
  if s.unslotted k a n then s.scratchRead k a n
  else (List.range n).foldl (fun w i =>
    w + (match (s.core k).slotted.reverse.find? fun e => slotHas e (a + i) with
      | some e => e.2.2 / 256 ^ (a + i - e.1) % 256
      | none => s.scratchRead k (a + i) 1) * 256 ^ i) 0

/-- A value with the bytes that the ST slot has written in this cycle put back. -/
def State.underSlots (s : State) (k a n v : Nat) : Nat :=
  if s.unslotted k a n then v
  else (List.range n).foldl (fun w i =>
    w + (if (s.core k).slotted.any fun e => slotHas e (a + i) then s.scratchRead k (a + i) 1 else v / 256 ^ i % 256) * 256 ^ i) 0
/-- A write through the engine port: bytes that the ST slot wrote in the same cycle keep its value (R199, R332). -/
def State.engineWrite (s : State) (k a n v : Nat) : State := s.scratchWrite k a n (s.underSlots k a n v)

/-- The lowest 1 KiB-aligned place in a window with n KiB free (R201), tried from place `i` on. -/
def allocAt (used : List (Nat × Nat)) (lo : Nat) (n i : Nat) : Bool :=
  used.all fun e => decide (lo + 1024 * (i + n) ≤ e.1) || decide (e.1 + e.2 ≤ lo + 1024 * i)

/-- Where an allocation of ROWS x ROWW bank words goes: its BASE and its size, or none (R201). -/
def allocPlace (used : List (Nat × Nat)) (g p rows roww : Nat) : Option (Nat × Nat) :=
  let n := ceilDiv (rows * roww) 64
  let lo := windowBase g p
  match (List.range (windowSize g / 1024 + 1 - n)).find? fun i => allocAt used lo n i with
  | some i => some (lo + 1024 * i, 1024 * n)
  | none => none

/-- The storage is taken and zeroed (R202). -/
def Core.take (k : Core) (base size : Nat) : Core :=
  { k with
    alloc := k.alloc ++ [(base, size)]
    scratch := Store.clear k.scratch base size }

/-- The storage returns to its group (R194). -/
def Core.release (k : Core) (base : Nat) : Core := { k with alloc := k.alloc.filter fun e => !(e.1 == base) }

/-- The physical accumulator an acc name maps to, if any (R207). -/
def Ctx.accOf (x : Ctx) (c name : Nat) : Option Nat :=
  match x.accMap.findIdx? (· == name) with
  | some i => some (4 * partOf c + i)
  | none => none

/-- An accumulator element, an FP32 code (R208). -/
def State.accGet (s : State) (k acc row col : Nat) : Nat :=
  (Store.get 0#32 (s.core k).acc (16384 * acc + 128 * row + col)).toNat
/-- Set accumulator elements: (row, column, code). -/
def State.accSet (s : State) (k acc : Nat) (l : List (Nat × Nat × Nat)) : State :=
  s.modCore k fun x => { x with
    acc := l.foldl (fun m e => Store.set 0#32 m (16384 * acc + 128 * e.1 + e.2.1) (BitVec.ofNat 32 e.2.2)) x.acc }

/-! ## Addresses (R162 to R167) -/

/-- The kinds of address a register value and an offset make (R162, R163). -/
inductive Addr where
  /-- A virtual address, with its offset added; it may be out of range. -/
  | va (x : Int)
  /-- Capability register and object offset. -/
  | cra (k : Nat) (x : Int)
  /-- No address. -/
  | bad
deriving DecidableEq, Repr

/-- The address of a register value and an offset in bytes. -/
def addrOf (r : Word) (off : Int) : Addr :=
  let n := r.toNat
  if n / 2 ^ 56 = 0 then .va ((n : Int) + off)
  else if n / 2 ^ 60 = 0xC then .cra (n / 2 ^ 56 % 16) (((n % 2 ^ 56 : Nat) : Int) + off)
  else .bad

/-- check_va (R167): the intermediate address, or none for the protection fault. -/
def Ctx.checkVa (x : Ctx) (a : Int) (size align : Nat) (r w : Bool) : Option Nat :=
  if a < 0 ∨ (2 : Int) ^ 56 < a + size then none
  else
    let n := a.toNat
    if n % align ≠ 0 then none
    else
      match x.ranges.find? fun e => decide (e.2.va * 65536 ≤ n) && decide (n < (e.2.va + e.2.len) * 65536) with
      | none => none
      | some (_, rr) =>
        if (rr.va + rr.len) * 65536 < n + size then none
        else if (r && !rr.r) || (w && !rr.w) then none
        else some (rr.ia * 65536 + (n - rr.va * 65536))

/-- OBJID of a capability (R165). -/
def capObj (k : Word128) : Nat := (k.extractLsb' 14 34).toNat
/-- TOKEN of a capability. -/
def capToken (k : Word128) : Nat := (k.extractLsb' 48 32).toNat
/-- LENCLASS of a capability. -/
def capClass (k : Word128) : Nat := (k.extractLsb' 8 6).toNat
/-- RIGHTS of a capability, R W ATOM RED BULK DERIVE LEASE from bit 0. -/
def capRights (k : Word128) : Nat := (k.extractLsb' 0 8).toNat

/-- The capability check of R166: rights, length, bounds, bit 7. -/
def capOk (k : Word128) (need : Nat) (x : Int) (size : Nat) : Bool :=
  decide (capRights k &&& need = need) && decide (capClass k ≤ 44) && decide (0 ≤ x) &&
  decide (x + size ≤ (2 : Int) ^ (capClass k + 12)) && !(k.getLsbD 7)

/-! ## Service (R469, R472, R475, R476) -/

/-- Does the module serve its host: after step 4 of a start, with power on, outside recovery mode and PS4? -/
def State.serving (s : State) : Bool := decide (4 ≤ s.pow.stage) && s.pow.on && !s.pow.recovery && s.pow.ps != 4

/-- What needs service acts only in it: before step 4, without power, in recovery mode and in PS4 nothing answers but the DVSEC. -/
def State.served (s : State) (act : State → State) : State := if s.serving then act s else s

/-! ## Translation (R386, R387) -/

/-- A page-table leaf as the walk finds it. -/
structure Leaf where
  /-- Level 1, 2 or 3. -/
  level : Nat
  /-- Its index in the leaves of its level. -/
  key : Nat
  /-- The entry. -/
  word : Word
  /-- Bytes it maps. -/
  size : Nat
deriving DecidableEq, Repr

/-- PA[51:12] as a byte address. -/
def pteAddr (w : Word) : Nat := (w.extractLsb' 12 40).toNat * 4096
/-- V and LEAF. -/
def pteLeaf (w : Word) : Bool := w.getLsbD 0 && w.getLsbD 1
/-- TIER. -/
def pteTier (w : Word) : Nat := (w.extractLsb' 8 3).toNat
/-- MIG. -/
def Leaf.mig (l : Leaf) : Bool := l.word.getLsbD 11
/-- TIER of a leaf. -/
def Leaf.tier (l : Leaf) : Nat := pteTier l.word
/-- The physical address of an intermediate address. -/
def Leaf.pa (l : Leaf) (ia : Nat) : Nat := pteAddr l.word + ia % l.size

/-- Is a leaf's translation valid (R387)? -/
def Leaf.valid (l : Leaf) : Bool :=
  pteLeaf l.word && decide (l.tier ≤ 3) && decide (pteAddr l.word % l.size = 0) && l.word.extractLsb' 52 12 == 0 && !(l.word.getLsbD 2)

/-- A non-leaf entry that a walk goes on from: V and not LEAF, TIER below 4, reserved bits zero (R387). -/
def pteNode (w : Word) : Bool :=
  w.getLsbD 0 && !(w.getLsbD 1) && decide (pteTier w ≤ 3) && w.extractLsb' 52 12 == 0 && !(w.getLsbD 2)

/-- Entries of a table of a level (R386). -/
def tableEntries (level : Nat) : Nat := [4096, 2048, 256, 32].getD level 32

/-- An entry of a table in memory: the table's address and the entry's index (R386, R387). -/
def State.entry (s : State) (table i : Nat) : Word := BitVec.ofNat 64 (Memory.readLE s.mem (table + 8 * i) 8)

/-- The address in memory of an entry of the page table, by level and index over all tables of the level: the root lies at PTBASE, any other
table where its parent's entry points (R386). -/
def State.pteAt (s : State) : Nat → Nat → Option Nat
  | 0, key => some (s.ptbase.toNat + 8 * key)
  | n + 1, key =>
    match s.pteAt n (key / tableEntries (n + 1)) with
    | none => none
    | some a =>
      let w := s.entry a 0
      if pteNode w then some (pteAddr w + 8 * (key % tableEntries (n + 1))) else none

/-- An entry of the page table; 0 where no table holds it. -/
def State.pte (s : State) (level key : Nat) : Word :=
  match s.pteAt level key with
  | some a => s.entry a 0
  | none => 0

/-- The walk of R386: the leaf that maps an intermediate address, valid or not in its own fields. -/
def State.tableWalk (s : State) (ia : Nat) : Option Leaf :=
  if 2 ^ 52 ≤ ia then none else
  let w0 := s.entry s.ptbase.toNat (ia / 2 ^ 40)
  if !pteNode w0 then none
  else
    let w1 := s.entry (pteAddr w0) (ia / 2 ^ 29 % 2048)
    if pteLeaf w1 then some { level := 1, key := ia / 2 ^ 29, word := w1, size := 2 ^ 29 }
    else if !pteNode w1 then none
    else
      let w2 := s.entry (pteAddr w1) (ia / 2 ^ 21 % 256)
      if pteLeaf w2 then
        if w2.getLsbD 7 then
          some { level := 2, key := ia / 2 ^ 25 * 16, word := s.entry (pteAddr w1) (ia / 2 ^ 25 % 16 * 16), size := 2 ^ 25 }
        else some { level := 2, key := ia / 2 ^ 21, word := w2, size := 2 ^ 21 }
      else if !pteNode w2 then none
      else
        let w3 := s.entry (pteAddr w2) (ia / 2 ^ 16 % 32)
        if pteLeaf w3 then some { level := 3, key := ia / 2 ^ 16, word := w3, size := 2 ^ 16 } else none

/-- The slice that serves a line (R382). -/
def homeSlice (ia : Nat) : Nat :=
  (List.range 7).foldl (fun h c => h ^^^ (ia / 2 ^ (7 + 7 * c) % 2 ^ 45 % 2 ^ 7)) 0 % 128

/-- The key of a slice's cached leaf. -/
def tlbKey (slice level key : Nat) : Nat := 2 ^ 42 * slice + 2 ^ 40 * level + key

/-- The leaf that the home slice of an address has cached for it (R386). -/
def State.cached (s : State) (ia : Nat) : Option Leaf :=
  let q := homeSlice ia
  let w1 := Store.get 0 s.tlb (tlbKey q 1 (ia / 2 ^ 29))
  let w2 := Store.get 0 s.tlb (tlbKey q 2 (ia / 2 ^ 21))
  let wc := Store.get 0 s.tlb (tlbKey q 2 (ia / 2 ^ 25 * 16))
  let w3 := Store.get 0 s.tlb (tlbKey q 3 (ia / 2 ^ 16))
  if w1 ≠ 0 then some { level := 1, key := ia / 2 ^ 29, word := w1, size := 2 ^ 29 }
  else if w2 ≠ 0 ∧ !w2.getLsbD 7 then some { level := 2, key := ia / 2 ^ 21, word := w2, size := 2 ^ 21 }
  else if wc ≠ 0 ∧ wc.getLsbD 7 then some { level := 2, key := ia / 2 ^ 25 * 16, word := wc, size := 2 ^ 25 }
  else if w3 ≠ 0 then some { level := 3, key := ia / 2 ^ 16, word := w3, size := 2 ^ 16 }
  else none

/-- The leaf that an access of an address is translated by: the one its slice has cached, until an invalidation of its line is
acknowledged, or the table's (R386, R388). -/
def State.walk (s : State) (ia : Nat) : Option Leaf :=
  if s.tlb.isEmpty then s.tableWalk ia
  else match s.cached ia with
    | some l => some l
    | none => s.tableWalk ia

/-- Is a leaf valid with the right needed (R169, R387)? -/
def Leaf.permits (l : Leaf) (write : Bool) : Bool := l.valid && (if write then l.word.getLsbD 4 else l.word.getLsbD 3)

/-- The valid leaf that maps an intermediate address with the right needed, if any (R169, R387). -/
def State.leafFor (s : State) (ia : Nat) (write : Bool) : Option Leaf :=
  match s.walk ia with
  | none => none
  | some l => if l.permits write then some l else none

/-- Put a word into an entry, in memory (R387). -/
def State.setPte (s : State) (level key : Nat) (w : Word) : State :=
  match s.pteAt level key with
  | some a => { s with mem := Memory.writeLE s.mem a 8 w.toNat }
  | none => s

/-- An entry points to a table: to the one it has, or to a new one of zeros, placed after the earlier ones (log entry 6). -/
def State.makeTable (s : State) (level key : Nat) : State :=
  if pteNode (s.pte level key) then s
  else
    let a := (s.ptbase.toNat + 0x8000 + 0x4000 * s.ptMade) / 4096 % 2 ^ 40 * 4096
    State.setPte { s with
      mem := Store.clear s.mem a 0x4000
      ptMade := s.ptMade + 1 } level key (BitVec.ofNat 64 (a + 1))

/-- Replace a leaf; the tables above a valid one are made where they are missing. -/
def State.setLeaf (s : State) (level key : Nat) (w : Word) : State :=
  let s := if !w.getLsbD 0 then s
    else match level with
    | 1 => s.makeTable 0 (key / 2 ^ 11)
    | 2 => (s.makeTable 0 (key / 2 ^ 19)).makeTable 1 (key / 2 ^ 8)
    | _ => ((s.makeTable 0 (key / 2 ^ 24)).makeTable 1 (key / 2 ^ 13)).makeTable 2 (key / 2 ^ 5)
  s.setPte level key w

/-- The entries above one. -/
def ptesAbove : Nat → Nat → List (Nat × Nat)
  | 0, _ => []
  | n + 1, key =>
    let k := key / tableEntries (n + 1)
    (n, k) :: ptesAbove n k

/-- The entries of a table in memory that are not zero. -/
def State.entriesAt (s : State) (table level : Nat) : List Nat :=
  ((Store.slice s.mem table (8 * tableEntries level)).map fun e => e.1 / 8).eraseDups

/-- The leaves below a table: level, index over all tables of the level, and entry. -/
def State.leavesBelow (s : State) (table level key : Nat) : Nat → List (Nat × Nat × Word)
  | 0 => []
  | n + 1 => (s.entriesAt table level).flatMap fun i =>
      let w := s.entry table i
      let k := key * tableEntries level + i
      if pteLeaf w then [(level, k, w)]
      else if pteNode w then s.leavesBelow (pteAddr w) (level + 1) k n
      else []

/-- The leaves of the page table. -/
def State.leaves (s : State) : List (Nat × Nat × Word) := s.leavesBelow s.ptbase.toNat 0 0 4

/-- The directory key of a page-table line: the address of the entry div 128 (R388); 0 where no table holds it. -/
def State.dirKey (s : State) (level key : Nat) : Nat := ((s.pteAt level key).getD 0) / 128

/-- The slice that serves an access caches its leaf and is a sharer of the leaf's line (R386, R388). -/
def State.cacheLeaf (s : State) (l : Leaf) (w : Word) (ia : Nat) : State :=
  let k := tlbKey (homeSlice ia) l.level l.key
  let s := if Store.get 0 s.tlb k = w then s else { s with tlb := Store.put s.tlb k w }
  let d := s.dirKey l.level l.key
  let bit : Word128 := 1#128 <<< homeSlice ia
  let old := Store.get 0 s.sharers d
  if old ||| bit = old then s else { s with sharers := Store.put s.sharers d (old ||| bit) }

/-- Lines that a range of bytes touches. -/
def linesOf (a n : Nat) : List Nat := (List.range ((a + n + 127) / 128 - a / 128)).map (a / 128 + ·)

/-- A bit for each of `n` bytes of a line from byte `o` on. -/
def lineMask (o n : Nat) : Word128 := BitVec.ofNat 128 ((2 ^ n - 1) * 2 ^ o)

/-- The bytes of a line that lie in a range. -/
def rangeMask (a n line : Nat) : Word128 :=
  let lo := max a (128 * line)
  lineMask (lo - 128 * line) (min (a + n) (128 * line + 128) - lo)

/-- A device access at pkg scope or wider recalls a line that the host caches (R457). -/
def State.recallHdm (s : State) (line : Nat) : State :=
  if s.host.filter.contains line then { s with host := { s.host with filter := s.host.filter.filter fun l => !(l == line) } } else s

/-- Every line of a range that the host caches is recalled (R457). -/
def State.recallRange (s : State) (ia n : Nat) : State :=
  if s.host.filter.isEmpty then s
  else { s with host := { s.host with filter := s.host.filter.filter fun l => !(decide (ia < 128 * l + 128) && decide (128 * l < ia + n)) } }

/-- ACC, and DIRTY for a write, are set in the leaf in memory, and the slice that serves the access caches it (R387, R388); a line that the
host caches is recalled (R457). -/
def State.touch (s : State) (l : Leaf) (ia : Nat) (write : Bool) : State :=
  let bits := 0x20#64 ||| (if write then 0x40#64 else 0#64)
  let now := s.pte l.level l.key
  let same := pteLeaf now && (pteAddr now == pteAddr l.word || s.migrations.any fun m => decide (m.ia ≤ ia) && decide (ia < m.ia + 2 ^ [16, 21, 25, 29].getD m.size 16))
  let s := if same ∧ now ||| bits ≠ now then s.setPte l.level l.key (now ||| bits) else s
  (s.cacheLeaf l (l.word ||| bits) ia).recallHdm (ia / 128)

/-- Does a range of intermediate addresses meet a page under migration (R390)? -/
def State.migOver (s : State) (a n : Nat) : Bool :=
  s.migrations.any fun m => decide (m.ia < a + n) && decide (a < m.ia + 2 ^ [16, 21, 25, 29].getD m.size 16)

/-! ## Free values (log entry 20) -/

/-- The next free value. -/
def State.free (s : State) : Nat := (Config.freeWord s.freeCtr).toNat
/-- It is used up. -/
def State.spend (s : State) : State := { s with freeCtr := s.freeCtr + 1 }

/-! ## Bytes at the memory side -/

/-- A host-memory byte as the device reads it: the host-coherence agent's copy, or host memory (R456). -/
def State.hostByte (s : State) (a : Nat) : Byte :=
  match s.host.agent.find? fun e => e.1 == a / 64 with
  | some (_, g) => g.data.extractLsb' (8 * (a % 64)) 8
  | none => Memory.read s.hostMem a

/-- The 64 bytes of a host granule. -/
def State.hostGranule (s : State) (g : Nat) : BitVec 512 := BitVec.ofNat 512 (Memory.readLE s.hostMem (64 * g) 64)

/-- Host granules that the agent has room for (R456). -/
def agentSize : Nat := 65536

/-- A full agent evicts a granule of another line than the one it makes room for: a free choice, its data to host memory from M (R456). -/
def State.hostRoom (s : State) (g : Nat) : State :=
  if s.host.agent.length < agentSize then s
  else
    let l := s.host.agent.filter fun e => !(e.1 / 2 == g / 2)
    match l[s.free % max 1 l.length]? with
    | none => s
    | some (k, x) => State.spend { s with
        hostMem := if x.mesi = .m then Memory.writeLE s.hostMem (64 * k) 64 x.data.toNat else s.hostMem
        host := { s.host with agent := Store.del s.host.agent k } }

/-- A granule that the agent does not hold comes in, in a given state. -/
def State.hostFill (s : State) (g : Nat) (st : Mesi) : State :=
  if Store.has s.host.agent g then s
  else
    let s := s.hostRoom g
    { s with host := { s.host with agent := Store.put s.host.agent g { mesi := st, data := s.hostGranule g } } }

/-- RdShared for a granule in I: S or E, as the host grants it, which is its choice (R456). -/
def State.hostFetch (s : State) (g : Nat) : State :=
  if Store.has s.host.agent g then s else (s.hostFill g (if s.free % 2 = 1 then .e else .s)).spend

/-- A device load of bytes of a host line: where it needs a request, the request goes out for every granule of the line in I (R466). -/
def State.hostLoad (s : State) (a n : Nat) : State :=
  if Store.has s.host.agent (a / 64) && Store.has s.host.agent ((a + n - 1) / 64) then s
  else (s.hostFetch (a / 128 * 2)).hostFetch (a / 128 * 2 + 1)

/-- The MESI state of a granule; none: I. -/
def State.granule (s : State) (g : Nat) : Option Granule := (s.host.agent.find? fun e => e.1 == g).map (·.2)

/-- Is a granule in E or M? -/
def State.hostOwned (s : State) (g : Nat) : Bool :=
  match s.granule g with
  | some x => x.mesi != .s
  | none => false

/-- A device write of a host byte: the granule is held in M; the line's other granule comes in as E where a request had to go out
(R456, R466). -/
def State.hostWrite (s : State) (a : Nat) (b : Byte) : State :=
  let g := a / 64
  let s := if s.hostOwned g then s else (s.hostFill g .e).hostFill (if g % 2 = 0 then g + 1 else g - 1) .e
  let old := Store.get { mesi := .s, data := s.hostGranule g } s.host.agent g
  let sh := 8 * (a % 64)
  let data := (old.data &&& ~~~(0xFF#512 <<< sh)) ||| (b.setWidth 512 <<< sh)
  { s with host := { s.host with agent := Store.put s.host.agent g { mesi := .m, data := data } } }

/-- What the LLC keeps of a line. -/
def State.llcLine (s : State) (line : Nat) : LlcLine := Store.get LlcLine.reset s.llc line
/-- Change it. -/
def State.modLlc (s : State) (line : Nat) (f : LlcLine → LlcLine) : State :=
  { s with llc := Store.set LlcLine.reset s.llc line (f (s.llcLine line)) }

/-- A byte as the LLC or a wider level serves it (R179, R386); HBM and carrier memory are one space of physical addresses (log entry 82). -/
def State.homeByte (s : State) (ia : Nat) : Byte :=
  match s.walk ia with
  | none => 0
  | some l => if l.tier = 3 then s.hostByte (l.pa ia) else Memory.read s.mem (l.pa ia)

/-- Write a byte at its home. -/
def State.putByte (s : State) (ia : Nat) (b : Byte) : State :=
  match s.leafFor ia true with
  | none => s
  | some l =>
    let s := s.touch l ia true
    if l.tier = 3 then s.hostWrite (l.pa ia) b else { s with mem := Memory.write s.mem (l.pa ia) b }

/-- Bytes from the home, little-endian. -/
def State.homeRead (s : State) (ia : Nat) : Nat → Nat
  | 0 => 0
  | n + 1 => (s.homeByte ia).toNat + 256 * s.homeRead (ia + 1) n

/-- Bytes to the home, lowest first. -/
def State.putBytes (s : State) (ia : Nat) : Nat → Nat → State
  | 0, _ => s
  | n + 1, v => (s.putByte ia (BitVec.ofNat 8 v)).putBytes (ia + 1) n (v / 256)

/-- The bytes of a 16-byte chunk of a line. -/
def chunkMask (chunk : Nat) : Word128 := lineMask (16 * chunk) 16

/-- The poison that stays after the bytes of a mask are written: a chunk's is cleared once every poisoned byte of it is (R330, R383). -/
def unpoison (poison mask : Word128) : Word128 :=
  if poison = 0 then 0
  else (List.range 8).foldl (fun p k => if p &&& chunkMask k &&& ~~~mask = 0 then p &&& ~~~chunkMask k else p) poison

/-- The LLC's marks of a line of which some bytes were written: dirty where the slice holds the line, poison as it stays. -/
def State.llcWrote (s : State) (line : Nat) (mask : Word128) : State :=
  let x := s.llcLine line
  if x.present || x.poison != 0 then
    s.modLlc line fun y => { y with
      dirty := if y.present then y.dirty ||| mask else y.dirty
      poison := unpoison y.poison mask }
  else s

/-- Does a page under migration hold writes to a byte of a range: while its leaf has MIG set, and until the held writes apply (R390)? -/
def State.migHolds (s : State) (ia n : Nat) : Bool :=
  !s.migrations.isEmpty && (linesOf ia n).any fun l =>
    match s.leafFor (128 * l) true with
    | some x => x.mig || s.migrations.any fun m => m.copied && decide (m.ia < 128 * l + 128) && decide (128 * l < m.ia + 2 ^ [16, 21, 25, 29].getD m.size 16)
    | none => false

/-- A page under migration holds a write (R390). -/
def State.holdWrite (s : State) (agent ia n v : Nat) : State :=
  { s with migrations := s.migrations.map fun m =>
      if m.ia < ia + n ∧ ia < m.ia + 2 ^ [16, 21, 25, 29].getD m.size 16 then { m with held := m.held ++ [{ agent := agent, ia := ia, len := n, value := v }] }
      else m }

/-- The front end, its engines, the host and the peers, as an agent. -/
def agentFe : Nat := 32

/-- Has an agent, or the front end, a held write to some byte of a range (R390, R412)? -/
def State.heldBy (s : State) (agent ia n : Nat) : Bool :=
  s.migrations.any fun m => m.held.any fun w => (w.agent == agent || w.agent == agentFe) && decide (w.ia < ia + n) && decide (ia < w.ia + w.len)

/-- An agent writes bytes at their home: held by a page under migration, applied otherwise (R180, R390). -/
def State.homeWriteBy (s : State) (agent ia n v : Nat) : State :=
  if s.migHolds ia n then s.holdWrite agent ia n v
  else (linesOf ia n).foldl (fun t l => t.llcWrote l (rangeMask ia n l)) (s.putBytes ia n v)

/-- Bytes of the front end, the host or a peer to their home. -/
def State.homeWriteN (s : State) (ia n v : Nat) : State := s.homeWriteBy agentFe ia n v

/-- The first byte of a range that has no valid translation with the right, or, for a read, is poisoned at the LLC (R169, R383). -/
def State.homeFault (s : State) (ia n : Nat) (write : Bool) : Option Nat :=
  ((List.range n).find? fun i =>
    (s.leafFor (ia + i) write).isNone || (!write && (s.llcLine ((ia + i) / 128)).poison.getLsbD ((ia + i) % 128))).map (ia + ·)

/-! ## The event ring and completions (R441, R448, R519) -/

/-- Entries of the ring. -/
def EvRing.size (r : EvRing) : Nat := 2 ^ r.log2n
/-- Is the ring set up, with room for a record? -/
def EvRing.room (r : EvRing) : Bool :=
  decide (4 ≤ r.log2n) && decide (r.log2n ≤ 15) && !decide (sub32 r.tail r.head = r.size)

/-- Write eight 64-bit words at an intermediate address. -/
def State.writeWords (s : State) (ia : Nat) : List Word → State
  | [] => s
  | w :: ws => (s.homeWriteN ia 8 w.toNat).writeWords (ia + 8) ws

/-- Write a record into the ring, with the next SEQ; then EVTAIL counts it (R448). -/
def State.writeRecord (s : State) (words : List Word) : State :=
  let r := s.fe.ring
  let s := s.writeWords (64 * r.base + 64 * (r.tail % r.size)) (words ++ [BitVec.ofNat 64 (r.seq + 1)])
  s.modFe fun f => { f with ring := { f.ring with
    tail := (f.ring.tail + 1) % 2 ^ 32
    seq := f.ring.seq + 1 } }

/-- Post an error or milestone record: dropped and counted where the ring has no room (R448, R519). -/
def State.postRecord (s : State) (words : List Word) : State :=
  if s.fe.ring.room then s.writeRecord words
  else s.modFe fun f => { f with ring := { f.ring with drop := min (f.ring.drop + 1) (2 ^ 32 - 1) } }

/-- Post a fault record: held where the ring has no room (R448, R519). -/
def State.postFault (s : State) (c : Nat) (words : List Word) : State :=
  if s.fe.ring.room && s.fe.ring.heldFaults.isEmpty then s.writeRecord words
  else s.modFe fun f => { f with ring := { f.ring with heldFaults := f.ring.heldFaults ++ [{ words := words, ctx := c }] } }

/-- An error record: code, word 0x08, detail (R448, R449). -/
def State.postError (s : State) (code w8 detail : Nat) : State :=
  s.postRecord [BitVec.ofNat 64 (0x01000000 + code), BitVec.ofNat 64 w8, BitVec.ofNat 64 detail, 0, 0, 0, 0]

/-- Word 0x08 of an error record that concerns a packet (R448). -/
def pktWord (h : PktHdr) : Nat := h.queue + 256 * h.opc + 65536 * (h.entry % 65536)

/-- A completion record of 16 bytes, where one is asked for (R441). -/
def State.writeCompletion (s : State) (cmpl tag status value task : Nat) : State :=
  if cmpl = 0 then s
  else s.homeWriteN cmpl 16 (status + 2 ^ 16 * tag + 2 ^ 32 * (value % 2 ^ 32) + 2 ^ 64 * task)

/-- A queue. -/
def FrontEnd.queue (f : FrontEnd) (q : Nat) : Queue := Store.get Queue.reset f.queues q
/-- Change a queue. -/
def State.modQueue (s : State) (q : Nat) (f : Queue → Queue) : State :=
  s.modFe fun e => { e with queues := Store.put e.queues q (f (e.queue q)) }

/-- Complete the waiting FENCE packets of a queue that have no earlier packet open (R440). -/
def State.runFences (s : State) (q : Nat) : Nat → State
  | 0 => s
  | n + 1 =>
    let x := s.fe.queue q
    match x.fences with
    | [] => s
    | (at_, h) :: rest =>
      if x.open_.any (fun e => decide (e < at_)) then s
      else
        let s := s.modQueue q fun y => { y with
          fences := rest
          open_ := y.open_.filter fun e => !(e == at_) }
        (s.writeCompletion h.cmpl h.tag 0 0 0).runFences q n

/-- A packet completes: its record, and the FENCE packets that waited for it (R440, R441). -/
def State.completeTask (s : State) (h : PktHdr) (status value task : Nat) : State :=
  let s := s.writeCompletion h.cmpl h.tag status value task
  let s := s.modQueue h.queue fun y => { y with open_ := y.open_.filter fun e => !(e == h.entry) }
  s.runFences h.queue (s.fe.queue h.queue).fences.length

/-- A packet completes that created no task. -/
def State.complete (s : State) (h : PktHdr) (status value : Nat) : State := s.completeTask h status value 0

/-! ## Taking a trap (R304 to R317) -/

/-- TRAP_CAUSE (R307): `also` holds ALSO_SW, ALSO_AR and ALSO_RS from bit 0. -/
def causeWord (cause sub also : Nat) : Word :=
  BitVec.ofNat 64 (cause + (if 16 ≤ cause then 0x80 else 0) + 256 * sub + 2 ^ 20 * also)

/-- A cause with no fault address. -/
def plainCause (cause sub : Nat) (val : Word) : PendCause :=
  { cause := cause, sub := sub, val := val, faddr := 0, uaddr := 0, objid := 0 }

/-- The words of a fault record, less SEQ (R315). -/
def faultWords (x : Ctx) (c : Nat) (cause : Word) (pc : Nat) (p : PendCause) : List Word :=
  [BitVec.ofNat 64 (cause.toNat % 2 ^ 32 + 2 ^ 32 * c), BitVec.ofNat 64 pc, p.val, BitVec.ofNat 64 p.faddr,
   BitVec.ofNat 64 p.uaddr, BitVec.ofNat 64 (x.asid + 65536 * p.objid), BitVec.ofNat 64 (x.task + 2 ^ 32 * x.walker)]

/-- The saved part of a context: landing queue, repetitions, nest (R311, R314). -/
def Ctx.save (x : Ctx) : Snapshot := { queue := x.queue, reps := x.repLeft, nest := x.nest, lc := x.lc }

/-- The nest as it is saved: its loop buffer is discarded (R270, R311). -/
def Nest.dropBuffer (n : Nest) : Nest :=
  { n with
    buffer := []
    replay := false }

/-- The registers of a trap are written and the running part is set aside. -/
def Ctx.trapped (x : Ctx) (cause : Word) (val : Word) : Ctx :=
  { x with
    csr := { x.csr with
      trapCause := cause
      trapPc := BitVec.ofNat 64 x.pc
      trapVal := val }
    queue := []
    repLeft := 0
    nest := Nest.reset
    pcReplaced := false }

/-- The context enters its user handler (R311). -/
def Ctx.enterHandler (x : Ctx) (cause val : Word) : Ctx :=
  { x.trapped cause val with
    snapshot := some { x.save with nest := x.nest.dropBuffer }
    state := .handler
    pc := (x.csr.trapHandler.extractLsb' 4 28).toNat * 16 }

/-- The context freezes (R314, R515). -/
def Ctx.freeze (x : Ctx) (cause val : Word) : Ctx :=
  { x.trapped cause val with
    held := if x.state = .handler then some (x.csr.trapCause, x.csr.trapPc, x.csr.trapVal) else x.held
    frozen := some { x.save with nest := x.nest.dropBuffer }
    pcReplaced := x.pcReplaced
    from_ := x.state
    switching := none
    state := .frozen }

/-- The SWITCH packets that wait for a context complete (R257). -/
def State.answerSwitch (s : State) (x : Ctx) (status : Nat) : State :=
  match x.switching with
  | some (l, _) => l.foldl (fun t h => t.complete h status 0) s
  | none => s

/-- A system-class cause freezes the context and posts its fault record; a context already FROZEN posts only the record
(R314, R316). A SWITCH that waited for the context completes with NOT_FROZEN (R257). -/
def State.freeze (s : State) (c : Nat) (p : PendCause) (also : Nat) : State :=
  let x := s.ctx c
  let cause := causeWord p.cause p.sub also
  if x.state = .frozen then s.postFault c (faultWords x c cause x.pc p)
  else
    let s := s.setCtx c (x.freeze cause p.val)
    let s := s.answerSwitch x 0x1A
    s.postFault c (faultWords x c cause x.pc p)

/-- THE operation that takes a trap of either class at a boundary of the context (R304, R311, R314): a user cause enters the handler
where the context is RUNNING with TRAP_HANDLER.EN = 1, and is UNHANDLED_USER otherwise; a system cause freezes. TRAP_HANDLER counts as the
bundle that raised the cause has left it (log entry 76). -/
def State.takeTrap (s : State) (c : Nat) (p : PendCause) (also : Nat) : State :=
  let x := s.ctx c
  if 16 ≤ p.cause then s.freeze c p also
  else if x.state = .running && x.csr.trapHandler.getLsbD 0 then
    s.setCtx c (x.enterHandler (causeWord p.cause p.sub also) p.val)
  else s.freeze c { p with
    cause := 0x18
    sub := p.cause } also

/-- What was set aside returns: landing queue, repetitions, nest and its counters. -/
def Ctx.restore (x : Ctx) (n : Snapshot) : Ctx :=
  { x with
    queue := n.queue
    repLeft := n.reps
    nest := n.nest
    lc := n.lc }

/-- The return from a user handler (R121, R313). -/
def Ctx.returnFromTrap (x : Ctx) : Ctx :=
  let y := x.landAll
  match x.snapshot with
  | none => y
  | some n =>
    { y.restore n with
      repLeft := if x.pcReplaced then 0 else n.reps
      snapshot := none
      pcReplaced := false
      pc := (x.csr.trapPc.extractLsb' 0 32).toNat
      state := .running }

/-- The return of a frozen context to the state it froze from (R317, R515): the held trap registers return. -/
def Ctx.resumed (x : Ctx) : Ctx :=
  let y := match x.frozen with
    | none => x
    | some n => x.restore n
  let y := { y with
    frozen := none
    pc := (x.csr.trapPc.extractLsb' 0 32).toNat
    state := x.from_ }
  match x.held, x.from_ with
  | some (a, b, d), .handler =>
    { y with
      held := none
      csr := { y.csr with
        trapCause := a
        trapPc := b
        trapVal := d } }
  | _, _ => y

/-- At a boundary of a context that may take a trap, the oldest pending cause is taken: faults first, then a sysc (R309), then, in a
RUNNING context that no switch has stopped, the optimiser's trap (R246, R310). -/
def State.boundary (s : State) (c : Nat) : State :=
  let x := s.ctx c
  if x.state ≠ .running ∧ x.state ≠ .handler ∧ x.state ≠ .retiring then s
  else
    match x.pending with
    | p :: rest => (s.setCtx c { x with pending := rest }).freeze c p 0
    | [] =>
      match x.optTrap with
      | some v =>
        if x.state = .running ∧ x.switching.isNone then (s.setCtx c { x with optTrap := none }).takeTrap c (plainCause 2 1 v) 0 else s
      | none => s

end Sys2Proof.Machine
end

