-- ==== Sys2Proof/Machine/Memory.lean ====
section
/-! DEFINITION. Memory below the issue stage: the cluster cache, the cluster window and its barriers, near and far atomics, the pool and
its cache frames, synchronisation objects, and the accesses of a context in flight (R162 to R192, R327 to R337, R382 to R412,
R421, R497, R498). -/

namespace Sys2Proof.Machine

/-! ## Lines of the LLC (R383, R392, R418) -/

/-- Lines that a slice holds beside its share of the record table: 24 MiB less 128 KiB (R383). -/
def sliceLines : Nat := 195584

/-- The lines held in a slice that `p` names. -/
def State.sliceHas (s : State) (slice : Nat) (p : LlcLine → Bool) : List Nat :=
  (s.llc.filter fun e => e.2.present && homeSlice (128 * e.1) == slice && p e.2).map (·.1)

/-- A line leaves its slice, its dirty bytes going to memory first; what it knew of atomics goes with it (R383, R385, R418). -/
def State.llcEvict (s : State) (line : Nat) : State :=
  let x := s.llcLine line
  if x.present then
    (s.modQuota x.cls fun q => { q with ullc := q.ullc - 1 }).modLlc line fun y => { LlcLine.reset with poison := y.poison }
  else s

/-- A line enters its slice, charged to a class. -/
def State.llcEnter (s : State) (line cls : Nat) : State :=
  (s.modLlc line fun x => { x with
    present := true
    dirty := 0
    cls := cls }).modQuota cls fun q => { q with ullc := q.ullc + 1 }

/-- A line of a list leaves its slice: the replacement policy is free (R383). -/
def State.llcVictim (s : State) (l : List Nat) : State :=
  match l[s.free % max 1 l.length]? with
  | some v => (s.llcEvict v).spend
  | none => s

/-- Lines of a class leave a slice, `n` of them. -/
def State.llcVictims (s : State) (slice cls : Nat) : Nat → State
  | 0 => s
  | n + 1 => (s.llcVictim (s.sliceHas slice fun x => x.cls == cls)).llcVictims slice cls n

/-- A fill of a line for a class (R418): one that would exceed the class's share of the slice evicts lines of the class from it until the line is
within the share, and is served without being allocated where the share has no room for a line; a full slice makes room (log entry 5). -/
def State.llcFill (s : State) (line cls : Nat) : State :=
  if (s.llcLine line).present then s
  else
    let slice := homeSlice (128 * line)
    let mine := s.sliceHas slice fun x => x.cls == cls
    let share := 64 * (s.quotaOf cls).qllc
    if share = 0 then (if mine.isEmpty then s else s.llcVictim mine)
    else if share ≤ mine.length then (s.llcVictims slice cls (mine.length - share + 1)).llcEnter line cls
    else
      let all := s.sliceHas slice fun _ => true
      (if sliceLines ≤ all.length then s.llcVictim all else s).llcEnter line cls

/-- The entry of a task's hint list that names a line. -/
def Task.hintOf (t : Task) (line : Nat) : Option Nat :=
  t.hints.findIdx? fun e => decide (e.1 ≤ 128 * line) && decide (128 * line < e.1 + e.2.1)

/-- A lookup of a line is counted for the task and hint entry that it serves; a window of 4,096 is checked (R392). -/
def State.countLookup (s : State) (task line : Nat) (miss : Bool) : State :=
  match s.taskOf task with
  | none => s
  | some t =>
    match t.hintOf line with
    | none => s
    | some e =>
      let k := 2 ^ 20 * homeSlice (128 * line) + 64 * task + e
      let w := Store.get (0, 0) s.windows k
      let misses := w.2 + miss.toNat
      if w.1 + 1 < 4096 then { s with windows := Store.put s.windows k (w.1 + 1, misses) }
      else { s with
        windows := Store.del s.windows k
        closed := s.closed ++ [(homeSlice (128 * line), task, e, misses)] }

/-- A line comes into its home slice for a context where it misses; host lines are never held (R383). -/
def State.llcBring (s : State) (c line : Nat) : State :=
  match s.walk (128 * line) with
  | none => s
  | some l => if l.tier = 3 then s else s.llcFill line (s.classOf (s.ctx c).asid)

/-- An access of a context looks a line up in its home slice: counted, and filled where it misses (R383, R392). -/
def State.llcAccess (s : State) (c line : Nat) : State :=
  match s.walk (128 * line) with
  | none => s
  | some l =>
    if l.tier = 3 then s
    else (s.countLookup (s.ctx c).task line (!(s.llcLine line).present)).llcBring c line

/-- Does a range hold a line? -/
def lineIn (ia n line : Nat) : Bool := decide (ia / 128 ≤ line) && decide (line < (ia + n) / 128)

/-- The slices lose every line of a range; bytes of them that are poisoned stay poisoned (R383, R388, R420, R516). -/
def State.llcDrop (s : State) (ia n : Nat) : State :=
  (s.llc.filter fun e => lineIn ia n e.1).foldl (fun t e => (t.llcEvict e.1).modLlc e.1 fun x => { LlcLine.reset with poison := x.poison }) s

/-- Nothing is known of the lines of a range any more: their bytes are another page's, or none. -/
def State.llcForget (s : State) (ia n : Nat) : State :=
  let s := s.llcDrop ia n
  { s with llc := s.llc.filter fun e => !lineIn ia n e.1 }

/-! ## The cluster cache (R327 to R330) -/

/-- A cached line. -/
def State.line (s : State) (cl line : Nat) : Option CacheLine := ((s.cluster cl).cache.find? fun e => e.1 == line).map (·.2)
/-- Replace a cached line. -/
def State.setLine (s : State) (cl line : Nat) (l : CacheLine) : State :=
  s.modCluster cl fun x => { x with cache := Store.put x.cache line l }
/-- A line leaves the cache. -/
def State.dropLine (s : State) (cl line : Nat) : State := s.modCluster cl fun x => { x with cache := Store.del x.cache line }

/-- Byte `i` of a line. -/
def CacheLine.byte (l : CacheLine) (i : Nat) : Byte := l.data.extractLsb' (8 * i) 8
/-- Set byte `i` of a line's data. -/
def setByte (v : VWord) (i : Nat) (b : Byte) : VWord :=
  (v &&& ~~~(0xFF#1024 <<< (8 * i))) ||| (b.setWidth 1024 <<< (8 * i))

/-- A line that holds no byte. -/
def CacheLine.empty : CacheLine := { data := 0, valid := 0, dirty := 0, poison := 0 }

/-! ## Near and far atomics (R385) -/

/-- Ownership of a lent line is recalled; a second recall within 1,024 cycles returns it to FAR (R385). -/
def State.recallLine (s : State) (line : Nat) : State :=
  s.modLlc line fun x =>
    if x.near.isSome then
      let far := match x.recalledAt with
        | some t => decide (s.cycles.toNat < t + 1024)
        | none => false
      { x with
        near := none
        run := (0, 0)
        mode := !far
        recalledAt := if far then none else some s.cycles.toNat }
    else x

/-- An access of a cluster reaches the home of a line: a lent line is recalled from another cluster, consecutive atomics are counted,
and a line in mode NEAR that no cluster holds is lent to the cluster of an atomic; one that was recalled for the atomic is not, which executes in
the queue (R385). -/
def State.noteAccess (s : State) (cl line : Nat) (atomic : Bool) : State :=
  let lend := atomic && (s.llcLine line).near.isNone
  let s := match (s.llcLine line).near with
    | some k => if k = cl then s else s.recallLine line
    | none => s
  let x := s.llcLine line
  let run := if atomic then (if x.run.1 = cl then (cl, x.run.2 + 1) else (cl, 1)) else (if x.run.1 = cl then x.run else (cl, 0))
  if !atomic && x.run.2 = 0 then s
  else s.modLlc line fun y => { y with
    run := run
    near := if lend && y.mode then some cl else y.near }

/-! ## Writebacks and fills (R328 to R330, R385, R516) -/

/-- Bytes of a line that a mask names are written at the home for a cluster. -/
def State.homeWriteMask (s : State) (cl line : Nat) (mask : Word128) (data : CacheLine) : State :=
  if s.migHolds (128 * line) 128 then
    (List.range 128).foldl (fun t i => if mask.getLsbD i then t.holdWrite cl (128 * line + i) 1 (data.byte i).toNat else t) s
  else
    ((List.range 128).foldl (fun (t : State) i => if mask.getLsbD i then t.putByte (128 * line + i) (data.byte i) else t) s).llcWrote line mask

/-- The dirty bytes of a line go to their home, their poison with them; where no translation with the write right is found they are
dropped and error record 0x0041 is posted (R328, R330, R516). Bytes that were dropped or poisoned are no longer held. -/
def State.sendDirty (s : State) (cl line : Nat) : State :=
  match s.line cl line with
  | none => s
  | some l =>
    if l.dirty = 0 then s
    else
      let bad := l.poison &&& l.dirty
      match s.leafFor (128 * line) true with
      | none => (s.postError 0x0041 0 (128 * line)).setLine cl line { l with
          valid := l.valid &&& ~~~l.dirty
          dirty := 0
          poison := l.poison &&& ~~~l.dirty }
      | some _ =>
        let s := (s.noteAccess cl line false).homeWriteMask cl line l.dirty l
        let s := if bad = 0 then s else s.modLlc line fun x => { x with poison := x.poison ||| bad }
        s.setLine cl line { l with
          valid := l.valid &&& ~~~bad
          dirty := 0
          poison := l.poison &&& ~~~l.dirty }

/-- A writeback. A line of a page under migration stays dirty until the copy is done (R390). -/
def State.writeback (s : State) (cl line : Nat) : State := if s.migOver (128 * line) 128 then s else s.sendDirty cl line

/-- Write back and invalidate a line; bytes that are still dirty stay. -/
def State.flush (s : State) (cl line : Nat) : State :=
  let s := s.writeback cl line
  match s.line cl line with
  | some l => if l.dirty = 0 then s.dropLine cl line else s.setLine cl line { l with valid := l.dirty }
  | none => s

/-- Room for a line in its set: 8 MiB are 4,096 sets of 16 ways; a full set gives up a line of free choice, its dirty bytes written back
and its ownership returned (R327, R328; log entry 70). -/
def State.makeRoom (s : State) (cl line : Nat) : State :=
  let set := (s.cluster cl).cache.filter fun e => e.1 % 4096 == line % 4096
  if Store.has set line || decide (set.length < 16) then s
  else match set[s.free % 16]? with
    | none => s
    | some e =>
      let s := ((s.sendDirty cl e.1).dropLine cl e.1).spend
      if (s.llcLine e.1).near = some cl then s.modLlc e.1 fun x => { x with near := none } else s

/-- Fill a line: the bytes it holds dirty stay, every other comes from the home; a byte poisoned there is not held (R179, R329, R383). `look` is
its lookup in the LLC. -/
def State.fillBy (s : State) (c line : Nat) (look : State → State) : State :=
  let cl := clusterOf c
  match s.leafFor (128 * line) false with
  | none => s
  | some l =>
    let s := look (((s.makeRoom cl line).noteAccess cl line false).touch l (128 * line) false)
    let s := if l.tier = 3 then s.hostLoad (l.pa (128 * line)) 128 else s
    let old := (s.line cl line).getD CacheLine.empty
    let data := (List.range 128).foldl
      (fun v i => if old.dirty.getLsbD i then v else setByte v i (s.homeByte (128 * line + i))) old.data
    s.setLine cl line { old with
      data := data
      valid := old.dirty ||| ~~~(s.llcLine line).poison }

/-- An access fills a line. -/
def State.fillLine (s : State) (c line : Nat) : State := s.fillBy c line fun t => t.llcAccess c line

/-- Does the cluster cache hold the bytes of a line that a range names? -/
def State.holdsBytes (s : State) (cl ia n line : Nat) : Bool :=
  match s.line cl line with
  | some l => rangeMask ia n line &&& ~~~l.valid == 0
  | none => false

/-- The line is in the cluster cache as far as a range needs it. -/
def State.need (s : State) (c ia n line : Nat) : State := if s.holdsBytes (clusterOf c) ia n line then s else s.fillLine c line

/-! ## The cluster window (R331 to R334) -/

/-- First byte of the cluster window. -/
def winBase : Nat := 0xFFFFFFF000000
/-- Is an intermediate address in the cluster window? -/
def isWindow (ia : Nat) : Bool := decide (winBase ≤ ia)

/-- What a window address reaches: a core of the cluster and a scratch address, a byte of the barrier window, or nothing. -/
inductive WinAt where
  | scratch (core a : Nat)
  | barrier (o : Nat)
  | nothing
deriving DecidableEq, Repr

/-- Decode a window address for a cluster (R331): its low 24 bits, the window being the last 2^24 bytes of the address space. -/
def winAt (cl ia : Nat) : WinAt :=
  let o := ia % 2 ^ 24
  if o < 0x400000 then
    if o % 0x80000 < 0x60000 then .scratch (8 * cl + o / 0x80000) (o % 0x80000) else .nothing
  else if o < 0x400400 then .barrier (o % 0x400)
  else .nothing

/-- A barrier. -/
def State.barrier (s : State) (cl b : Nat) : Barrier := Store.get Barrier.reset (s.cluster cl).barriers b
/-- Change a barrier. -/
def State.modBarrier (s : State) (cl b : Nat) (f : Barrier → Barrier) : State :=
  s.modCluster cl fun x => { x with barriers := Store.set Barrier.reset x.barriers b (f (Store.get Barrier.reset x.barriers b)) }
/-- STATUS (R335). -/
def Barrier.status (b : Barrier) : Nat := b.err.toNat * 2 ^ 63 + b.expect * 2 ^ 48 + b.drops * 2 ^ 40 + b.pend * 2 ^ 32 + b.phase

/-- A barrier word as a load returns it (R334). -/
def Barrier.word (b : Barrier) (o : Nat) : Nat :=
  if o = 0 then b.status else if o = 0x18 then b.expect else b.phase

/-- Kinds of access for the rules of the window: 0 load, 1 store, 2 ldacq, 3 amo add, 4 red add, 5 another atomic of 32 or 64 bits,
6 cas.128 or red.fadd.32, 7 an engine job. -/
def winPermits (cl ia n kind : Nat) (data : Nat) : Bool :=
  match winAt cl ia with
  | .nothing => false
  | .scratch k a => decide (a + n ≤ 0x60000) && !touchesWaymarks a n && !decide (kind = 6) && decide (k < 256)
  | .barrier o =>
    let w := o % 64
    if w = 0 then (kind = 0 && (n = 4 || n = 8)) || (kind = 2 && (n = 4 || n = 8))
    else if w = 8 || w = 0x10 then (kind = 0 && (n = 4 || n = 8)) || ((kind = 3 || kind = 4) && n = 4 && data % 2 ^ 32 = 1)
    else if w = 0x18 then (kind = 0 && n = 8) || (kind = 1 && n = 8 && decide (data < 33))
    else false

/-- Read the window. -/
def State.winRead (s : State) (cl ia n : Nat) : Nat :=
  match winAt cl ia with
  | .scratch k a => s.engineRead k a n
  | .barrier o => (s.barrier cl (o / 64)).word (o % 64) % 2 ^ (8 * n)
  | .nothing => 0

/-- Write scratch through the window, by an engine port (R332); a barrier takes its writes in its own cycle (`State.updateBarrier`). -/
def State.winWrite (s : State) (cl ia n v : Nat) : State :=
  match winAt cl ia with
  | .scratch k a => s.engineWrite k a n v
  | _ => s

/-! ## Bytes as a context reads and writes them (R179, R180, R329) -/

/-- The lines of a range at their home: the own cluster's copies are written back and go, lent lines are recalled. -/
def State.reach (s : State) (cl ia n : Nat) (atomic : Bool) : State :=
  (linesOf ia n).foldl (fun t l => (t.flush cl l).noteAccess cl l atomic) s

/-- First faulting byte of a read at a scope: a byte the cluster cache serves faults only on poison (R330); one that it must fetch, as a
byte at the home; at pkg scope the own cluster's poison has reached the home (R328). -/
def State.loadFault (s : State) (cl scope ia n : Nat) : Option Nat :=
  if isWindow ia then none
  else if 2 ≤ scope then (s.reach cl ia n false).homeFault ia n false
  else ((List.range n).find? fun i =>
    let a := ia + i
    match s.line cl (a / 128) with
    | some l =>
      if l.dirty.getLsbD (a % 128) || s.holdsBytes cl ia n (a / 128) then l.poison.getLsbD (a % 128) else (s.homeFault a 1 false).isSome
    | none => (s.homeFault a 1 false).isSome).map (ia + ·)

/-- First faulting byte of a write: at core and clus scope the cluster cache absorbs it untranslated (R516). -/
def State.storeFault (s : State) (scope ia n : Nat) : Option Nat :=
  if isWindow ia || decide (scope < 2) then none else s.homeFault ia n true

/-- Marks of a home access: ACC and DIRTY, and the host agent's granules (R387, R456). -/
def State.homeTouch (s : State) (ia n : Nat) (write : Bool) : State :=
  (linesOf ia n).foldl (fun t l =>
    match t.leafFor (128 * l) write with
    | none => t
    | some lf =>
      let t := t.touch lf (128 * l) write
      let lo := max ia (128 * l)
      if lf.tier = 3 && !write then t.hostLoad (lf.pa (128 * l) + (lo - 128 * l)) (min (ia + n) (128 * l + 128) - lo) else t) s

/-- The lookups of a range in the LLC for a context. -/
def State.lookUp (s : State) (c ia n : Nat) : State := (linesOf ia n).foldl (fun t l => t.llcAccess c l) s

/-- Read bytes at a scope for a context: the value and the state after (R179, R329). -/
def State.readIa (s : State) (c scope ia n : Nat) : Nat × State :=
  let cl := clusterOf c
  if isWindow ia then (s.winRead cl ia n, s)
  else if 2 ≤ scope then
    let s := ((s.reach cl ia n false).homeTouch ia n false).lookUp c ia n
    (s.homeRead ia n, s)
  else
    let s := (linesOf ia n).foldl (fun t l => t.need c ia n l) s
    let v := (List.range n).foldl (fun v i =>
      v + (match s.line cl ((ia + i) / 128) with
        | some l => (l.byte ((ia + i) % 128)).toNat
        | none => 0) * 256 ^ i) 0
    (v, s)

/-- Store the bytes of a range that lie in a line: dirty, or clean where they are written through; a chunk's poison is cleared once every
poisoned byte of it is written (R330). -/
def CacheLine.store (l : CacheLine) (line ia n v : Nat) (dirty : Bool) : CacheLine :=
  let m := rangeMask ia n line
  { data := (List.range 128).foldl (fun d i =>
      if m.getLsbD i then setByte d i (BitVec.ofNat 8 (v / 256 ^ (128 * line + i - ia))) else d) l.data
    valid := l.valid ||| m
    dirty := if dirty then l.dirty ||| m else l.dirty &&& ~~~m
    poison := unpoison l.poison m }

/-- A write that went through to the home enters the line that is present (R329). -/
def State.throughLine (s : State) (cl ia n v line : Nat) : State :=
  match s.line cl line with
  | some l => s.setLine cl line (l.store line ia n v false)
  | none => s

/-- A write that the cluster cache absorbs. -/
def State.absorbBytes (s : State) (cl ia n v line : Nat) : State :=
  let s := s.makeRoom cl line
  s.setLine cl line (((s.line cl line).getD CacheLine.empty).store line ia n v true)

/-- Write bytes at a scope for a context: into the cluster cache, or through to the home (R180, R329). -/
def State.writeIa (s : State) (c scope ia n v : Nat) : State :=
  let cl := clusterOf c
  if isWindow ia then s.winWrite cl ia n v
  else if 2 ≤ scope then
    let s := (linesOf ia n).foldl (fun t l => t.noteAccess cl l false) s
    let s := (s.homeWriteBy cl ia n v).lookUp c ia n
    (linesOf ia n).foldl (fun t l => t.throughLine cl ia n v l) s
  else (linesOf ia n).foldl (fun t l => t.absorbBytes cl ia n v l) s

/-- The new value of an atomic (R184, R186): 0 add to 7 maxu, 8 swap, 9 FP32 add. -/
def amoNew (op n old d : Nat) : Nat :=
  let m := 2 ^ (8 * n)
  let so := signedN old (8 * n)
  let sd := signedN d (8 * n)
  match op with
  | 0 => (old + d) % m
  | 1 => old &&& d
  | 2 => old ||| d
  | 3 => old ^^^ d
  | 4 => if so < sd then old else d
  | 5 => if sd < so then old else d
  | 6 => if old < d then old else d
  | 7 => if d < old then old else d
  | 8 => d
  | _ => (faddCode old d).bits

/-- A line that is lent to the cluster of an atomic is taken into its cache, and the atomic acts on that copy; the home's copy is kept
equal to it, so a recall returns ownership alone (R329, R385; log entry 71). -/
def State.nearLine (s : State) (c line : Nat) : State :=
  if (s.llcLine line).near = some (clusterOf c) then s.fillLine c line else s

/-- A read-modify-write at its place (R188): the old value and the state after. -/
def State.rmwIa (s : State) (c ia n : Nat) (f : Nat → Nat) : Nat × State :=
  let cl := clusterOf c
  if isWindow ia then
    let old := s.winRead cl ia n
    (old, s.winWrite cl ia n (f old))
  else
    let s := ((s.reach cl ia n true).homeTouch ia n true).lookUp c ia n
    let s := (linesOf ia n).foldl (fun t l => t.nearLine c l) s
    let old := s.homeRead ia n
    let s := s.homeWriteBy cl ia n (f old)
    (old, (linesOf ia n).foldl (fun t l => t.throughLine cl ia n (f old) l) s)

/-! ## Synchronisation objects and bindings (R191, R192, R397, R398) -/

/-- A synchronisation object: its KIND, and its place: for a word its 8-byte word and 0 for memory or OBJID + 1 for the pool. -/
structure SyncObj where
  kind : Nat
  at_ : Nat
  obj : Nat
deriving DecidableEq, Repr

/-- The object of a binding; a word is resolved through the context's ranges and capabilities as it stands (R192). -/
def Ctx.bindObj (x : Ctx) (b : Binding) : Option SyncObj :=
  if b.kind = 0 then
    match addrOf b.obj 0 with
    | .va a => (x.checkVa a 8 8 true false).map fun ia => { kind := 0, at_ := ia / 8, obj := 0 }
    | .cra k a => some { kind := 0, at_ := a.toNat / 8, obj := capObj (x.kreg k) + 1 }
    | .bad => none
  else some { kind := b.kind, at_ := b.obj.toNat, obj := 0 }

/-- Does a binding's region cover a line of intermediate addresses (R192)? -/
def Ctx.covers (x : Ctx) (b : Binding) (line : Nat) : Bool :=
  decide (b.base.toNat / 2 ^ 56 = 0) &&
  x.ranges.any fun e =>
    let r := e.2
    let ia := 128 * line
    decide (r.ia * 65536 ≤ ia) && decide (ia < (r.ia + r.len) * 65536) &&
    (let va := r.va * 65536 + (ia - r.ia * 65536)
     decide (b.base.toNat < va + 128) && decide (va < b.base.toNat + b.len.toNat))

/-- Is a line in a region bound to an object for the context (R398)? -/
def Ctx.lineBound (x : Ctx) (o : SyncObj) (line : Nat) : Bool :=
  (x.binds ++ x.launchBinds).any fun b => x.bindObj b == some o && x.covers b line

/-- Host granules of bound lines held in M return to host memory at a sys-scope release (R411, R456). -/
def State.evictHost (s : State) (g : Nat) : State :=
  match s.host.agent.find? fun e => e.1 == g with
  | some (_, x) =>
    if x.mesi = .m then
      { s with
        hostMem := Memory.writeLE s.hostMem (64 * g) 64 x.data.toNat
        host := { s.host with agent := Store.del s.host.agent g } }
    else s
  | none => s

/-- Bytes that one entry of a level spans (R386). -/
def levelSpan (level : Nat) : Nat := 2 ^ [40, 29, 21, 16].getD level 16

/-- The page of a leaf, by its level, index and entry: first intermediate address and size code. Of a CONT group the first entry stands for all;
a leaf at level 0 maps nothing (R386, R387). -/
def leafPage (e : Nat × Nat × Word) : Option (Nat × Nat) :=
  match e.1 with
  | 1 => some (e.2.1 * 2 ^ 29, 3)
  | 2 => if !e.2.2.getLsbD 7 then some (e.2.1 * 2 ^ 21, 1) else if e.2.1 % 16 = 0 then some (e.2.1 * 2 ^ 21, 2) else none
  | 3 => some (e.2.1 * 2 ^ 16, 0)
  | _ => none

/-- Bytes of a page by its size code. -/
def pageBytes (code : Nat) : Nat := 2 ^ [16, 21, 25, 29].getD code 16

/-- The lines of intermediate addresses that a host granule holds: those that a host leaf maps to it. -/
def State.granuleLines (s : State) (g : Nat) : List Nat :=
  s.leaves.filterMap fun e =>
    let a := pteAddr e.2.2
    match leafPage e with
    | some (ia, code) => if pteTier e.2.2 = 3 ∧ a ≤ 64 * g ∧ 64 * g < a + pageBytes code then some ((ia + (64 * g - a)) / 128) else none
    | none => none

/-- Every dirty line of a cluster cache is written back, which a cache may do at any time (R328). -/
def State.writebackAll (s : State) (cl : Nat) : State := (s.cluster cl).cache.foldl (fun t e => t.writeback cl e.1) s

/-- A release writes back the lines that `p` names, which are bound to its object; at sys scope their host granules too (R329, R411). The other
dirty lines of the cluster go with them, so that no write that happens before it reaches its home after a write that follows (R403). -/
def State.release (s : State) (c scope : Nat) (p : Nat → Bool) : State :=
  if scope < 2 then s
  else
    let s := s.writebackAll (clusterOf c)
    if scope < 4 then s
    else s.host.agent.foldl (fun t e => if (t.granuleLines e.1).any p then t.evictHost e.1 else t) s

/-- Write back and invalidate the lines of a cluster cache that `p` names (R329). -/
def State.acquire (s : State) (c scope : Nat) (p : Nat → Bool) : State :=
  if scope < 2 then s
  else
    let cl := clusterOf c
    ((s.cluster cl).cache.filter fun e => p e.1).foldl (fun t e => t.flush cl e.1) s

/-- A release of an object by a context. -/
def State.releaseObj (s : State) (c scope : Nat) (o : SyncObj) : State := s.release c scope fun l => (s.ctx c).lineBound o l
/-- An acquire of an object by a context. -/
def State.acquireObj (s : State) (c scope : Nat) (o : SyncObj) : State := s.acquire c scope fun l => (s.ctx c).lineBound o l

/-! ## The pool (R421, R497 to R499) -/

/-- An object of the pool. -/
def State.poolObj (s : State) (obj : Nat) : Option PoolObj := (s.pool.objs.find? fun e => e.1 == obj).map (·.2)
/-- Replace an object. -/
def State.setPoolObj (s : State) (obj : Nat) (o : PoolObj) : State :=
  { s with pool := { s.pool with objs := Store.put s.pool.objs obj o } }
/-- Does the pool accept the seal of a capability, over its bits [79:0] (R498)? -/
def sealOk (k : Word128) : Bool := k.extractLsb' 80 48 == Config.poolSeal (k.extractLsb' 0 80)
/-- The pool's finding: 0 accepted, 2 CAP_REJECTED, 3 STALE_TOKEN (R277, R498); a removed module sends nothing (R507). -/
def State.poolFinding (s : State) (k : Word128) : Nat :=
  if s.fab.removed then 3
  else match s.poolObj (capObj k) with
  | none => 2
  | some o => if !sealOk k then 2 else if o.token = capToken k then 0 else 3

/-- The VALID frame of the pool cache that serves bytes of an object to an address space under a token (R421). -/
def State.frameFor (s : State) (asid : Nat) (k : Word128) (off n : Nat) : Option Nat :=
  (s.fe.frames.find? fun e =>
    e.2.valid && e.2.asid == asid && e.2.obj == capObj k && e.2.token == capToken k &&
    decide (e.2.off ≤ off) && decide (off + n ≤ e.2.off + 0x10000)).map (·.1)

/-- An empty frame. -/
def PoolFrame.reset : PoolFrame :=
  { asid := 0, obj := 0, off := 0, token := 0, lease := 0, cls := 0, valid := false, bytes := [], filled := 0 }

/-- Bytes written to an object enter a frame that holds some of them. -/
def PoolFrame.write (x : PoolFrame) (off n v : Nat) : PoolFrame :=
  let lo := max off x.off
  let hi := min (off + n) (x.off + 0x10000)
  if lo < hi then { x with bytes := Memory.writeLE x.bytes (lo - x.off) (hi - lo) (v / 256 ^ (lo - off)) } else x

/-- Write bytes into the VALID frames that hold them under a token: those of every address space, so that no access that carries the token
reads a value older than the pool's (R410, R421). -/
def State.frameWrite (s : State) (k : Word128) (off n v : Nat) : State :=
  s.modFe fun e => { e with frames := e.frames.map fun f =>
    if f.2.valid && f.2.obj == capObj k && f.2.token == capToken k then (f.1, f.2.write off n v) else f }

/-- Read bytes of an object at the pool. -/
def State.poolBytes (s : State) (k : Word128) (off n : Nat) : Nat :=
  match s.poolObj (capObj k) with
  | some o => Memory.readLE o.cur off n
  | none => 0

/-- Load bytes of an object: from a covering frame, or at the pool (R421). -/
def State.poolRead (s : State) (asid : Nat) (k : Word128) (off n : Nat) : Nat :=
  match s.frameFor asid k off n with
  | some f =>
    let x := Store.get PoolFrame.reset s.fe.frames f
    Memory.readLE x.bytes (off - x.off) n
  | none => s.poolBytes k off n

/-- An entry of a list joins another, once. -/
def addOnce (p : Nat × Word) (l : List (Nat × Word)) : List (Nat × Word) := if l.contains p then l else p :: l

/-- The pool records that the module read an object under a step tag (R501). -/
def State.poolSaw (s : State) (obj : Nat) (step : Word) : State :=
  match s.poolObj obj with
  | none => s
  | some o => s.setPoolObj obj { o with readers := addOnce (s.fab.selfId, step) o.readers }

/-- The pool records that the module wrote an object under a step tag (R501). -/
def State.poolTook (s : State) (obj : Nat) (step : Word) : State :=
  match s.poolObj obj with
  | none => s
  | some o => s.setPoolObj obj { o with writers := addOnce (s.fab.selfId, step) o.writers }

/-- The pool holds more write messages with a step tag, and the module has their acknowledgements (R503). -/
def State.countWrites (s : State) (step : Word) (n : Nat) : State :=
  let more := fun (m : Store Nat) => Store.put m step.toNat (Store.get 0 m step.toNat + n)
  if n = 0 then s
  else { s.modFe (fun f => { f with tagged := more f.tagged }) with pool := { s.pool with counts := more s.pool.counts } }

/-- A provisional write at the pool, tagged with the module and a step tag (R410, R497, R501). -/
def State.poolWrite (s : State) (k : Word128) (off n v : Nat) (step : Word) : State :=
  match s.poolObj (capObj k) with
  | none => s
  | some o => (s.setPoolObj (capObj k) { o with
      cur := Memory.writeLE o.cur off n v
      provs := o.provs ++ (List.range n).map fun i =>
        ({ writer := s.fab.selfId, step := step, at_ := off + i, byte := BitVec.ofNat 8 (v / 256 ^ i) } : Prov) }).poolTook
      (capObj k) step

/-- The step tag of a pool access of a context (R497). -/
def State.stepTag (s : State) (x : Ctx) : Word :=
  match s.fe.aspaces.find? fun e => e.1 == x.asid with
  | some (_, a) => if a.openStep.toNat > x.csr.stepid.toNat then a.openStep else x.csr.stepid
  | none => x.csr.stepid

/-! ## Accesses in flight (R32, R168, R181, R182) -/

/-- Does it read memory or the pool? -/
def MemUnit.isLoad (u : MemUnit) : Bool :=
  match u.op with
  | .load _ | .scale _ => true
  | .atomic _ r => r
  | .cas => u.dest.isSome || u.dest2.isSome
  | _ => false
/-- Does it write memory or the pool? -/
def MemUnit.isStore (u : MemUnit) : Bool :=
  match u.op with
  | .store _ | .atomic _ _ | .cas => true
  | _ => false
/-- Does it hold an entry of the store queue (R180, R184)? -/
def MemUnit.inStoreQueue (u : MemUnit) : Bool :=
  match u.op with
  | .store _ => true
  | .atomic _ r => !r
  | .cas => u.dest.isNone
  | _ => false
/-- Is it an acquire (R179, R187)? -/
def MemUnit.isAcquire (u : MemUnit) : Bool :=
  match u.op with
  | .load acq => acq
  | .atomic _ _ | .cas => decide (u.order % 2 = 1)
  | .fence => true
  | _ => false
/-- Is it a release (R180, R187)? -/
def MemUnit.isRelease (u : MemUnit) : Bool :=
  match u.op with
  | .store rel => rel
  | .atomic _ _ | .cas => decide (2 ≤ u.order)
  | _ => false

/-- Does it access memory or the pool, or order accesses? -/
def MemUnit.isAccess (u : MemUnit) : Bool :=
  match u.op with
  | .value | .reseal | .check => false
  | _ => true

/-- Do two accesses share a byte (R182)? -/
def MemUnit.overlaps (u w : MemUnit) : Bool :=
  match u.target, w.target with
  | .ia a, .ia b => decide (a < b + w.size) && decide (b < a + u.size)
  | .pool k a, .pool l b => capObj k == capObj l && decide (a < b + w.size) && decide (b < a + u.size)
  | _, _ => false

/-- Must `u` wait for the earlier unit `e` (R168, R169, R182, R399, R406)? -/
def MemUnit.after (u e : MemUnit) : Bool :=
  match u.op with
  | .value => false
  | .fence => e.isLoad
  | _ => u.overlaps e || e.isAcquire || (u.isRelease && (e.isStore || e.isLoad)) || (u.isStore && e.isStore && e.suspended)

/-- No earlier unit of the list holds the unit back. -/
def unitReady (us : List MemUnit) (u : MemUnit) : Bool := us.all fun e => decide (u.id ≤ e.id) || !u.after e

/-- The sync word of an access, or the barrier of one to the barrier window, as an object (R334, R337, R397). -/
def MemUnit.obj (u : MemUnit) : SyncObj :=
  match u.target with
  | .ia a =>
    (match (if isWindow a then winAt 0 a else .nothing) with
     | .barrier o => { kind := 2, at_ := o / 64, obj := 0 }
     | _ => { kind := 0, at_ := a / 8, obj := 0 })
  | .pool k off => { kind := 0, at_ := off / 8, obj := capObj k + 1 }
  | .none => { kind := 7, at_ := 0, obj := 0 }

/-- Is a line dirty in a cluster cache while its page is under migration, so that its writeback waits (R390)? -/
def State.stuckLine (s : State) (cl line : Nat) : Bool :=
  match s.line cl line with
  | some x => x.dirty != 0 && s.migOver (128 * line) 128
  | none => false

/-- Does a write of a cluster wait for a migration: a line whose writeback waits, or a write that its cache gave up and the home holds (R390)? -/
def State.stuckAny (s : State) (cl : Nat) : Bool :=
  !s.migrations.isEmpty &&
  (((s.cluster cl).cache.any fun e => s.stuckLine cl e.1) || s.migrations.any fun m => m.held.any fun w => w.agent == cl)

/-- Must an access of a context to a range wait for a migration (R390): one at the home that writes the page, a read past bytes dirty in its
own cluster, or a read of bytes that its own cluster wrote and the page holds? -/
def State.pageHeld (s : State) (c scope a n : Nat) (write home : Bool) : Bool :=
  let cl := clusterOf c
  !s.migrations.isEmpty &&
  (((home || decide (2 ≤ scope)) && s.migOver a n && (write || (linesOf a n).any (s.stuckLine cl))) || (!write && s.heldBy cl a n))

/-- Do frames show, or did they before they were evicted, bytes of an object that a store of one of some contexts still carries to the pool? What
the pool itself would read of them waits, so that no agent reads an older value after a newer one (R403). -/
def State.frameShows (s : State) (p : Nat → Bool) (obj off n : Nat) : Bool :=
  s.ctxs.any fun e => p e.1 && e.2.units.any fun u =>
    u.framed && !u.suspended && match u.target with
      | .pool k b => capObj k == obj && decide (b < off + n) && decide (off < b + u.size)
      | _ => false

/-- Does a store of another context stand so? -/
def State.frameAhead (s : State) (c obj off n : Nat) : Bool := s.frameShows (fun k => k != c) obj off n

/-- Is it a load that a frame serves (R421)? -/
def State.byFrame (s : State) (c : Nat) (u : MemUnit) : Bool :=
  match u.op, u.target with
  | .load _, .pool k off | .scale _, .pool k off => (s.frameFor (s.ctx c).asid k off u.size).isSome
  | _, _ => false

/-- Does it access the bytes of its target: all but a fence and what asks the pool for a verdict or a seal? -/
def MemUnit.touches (u : MemUnit) : Bool :=
  match u.op with
  | .load _ | .scale _ | .store _ | .atomic _ _ | .cas => true
  | _ => false

/-- Must an access wait: a release while a write of the cluster waits for a migration, any access for a page under migration, or what reads or
writes the pool itself, and no frame, for a store that frames show already (R329, R390, R403)? -/
def State.unitHeld (s : State) (c : Nat) (u : MemUnit) : Bool :=
  let cl := clusterOf c
  let atomic := match u.op with
    | .atomic _ _ | .cas => true
    | _ => false
  (u.isRelease && decide (2 ≤ u.scope) && s.stuckAny cl) ||
  match u.target with
  | .ia a => !isWindow a && s.pageHeld c u.scope a u.size u.isStore atomic
  | .pool k off => u.touches && (atomic || u.isLoad) && !s.byFrame c u && s.frameAhead c (capObj k) off u.size
  | _ => false

/-- First faulting byte of an access at the module's memory side; none for a pool access (R168). -/
def State.unitFault (s : State) (c : Nat) (u : MemUnit) : Option Nat :=
  match u.target with
  | .ia a =>
    match u.op with
    | .load _ | .scale _ => s.loadFault (clusterOf c) u.scope a u.size
    | .store _ => s.storeFault u.scope a u.size
    | .atomic _ _ | .cas =>
      if isWindow a then none
      else
        let t := s.reach (clusterOf c) a u.size true
        (match t.homeFault a u.size true with
         | some f => some f
         | none => t.homeFault a u.size false)
    | _ => none
  | _ => none

/-- The pool's finding on an access that goes to the pool; 0 where it does not (R421, R498). -/
def State.unitFinding (s : State) (c : Nat) (u : MemUnit) : Nat :=
  match u.target with
  | .pool k off =>
    match u.op with
    | .load _ | .scale _ => if (s.frameFor (s.ctx c).asid k off u.size).isSome then 0 else s.poolFinding k
    | .check => 0
    | _ => s.poolFinding k
  | _ => 0

/-- The unit leaves the context. -/
def Ctx.endUnit (x : Ctx) (id : Nat) : Ctx := { x with units := x.units.filter fun e => !(e.id == id) }

/-- The unit's result is written and its busy bit clears (R32). -/
def Ctx.deliver (x : Ctx) (u : MemUnit) (v : Nat) : Ctx :=
  let x := match u.dest with
    | some d => x.writeHidden d (BitVec.ofNat 1024 (if u.dest2.isSome then v % 2 ^ 64 else v))
    | none => x
  match u.dest2 with
  | some d => x.writeHidden d (BitVec.ofNat 1024 (v / 2 ^ 64))
  | none => x

/-- The capability kderive.rs returns: RIGHTS masked, LENCLASS lowered, resealed (R195). -/
def resealCap (k : Word128) (lim : Nat) : Word128 :=
  let rights := capRights k &&& (lim % 256)
  let cls := min (capClass k) (lim / 256 % 64)
  let low : BitVec 80 := BitVec.ofNat 80 (rights + 256 * cls + 2 ^ 14 * capObj k + 2 ^ 48 * capToken k)
  Config.poolSeal low ++ low

/-- The verdict of kchk (R196): the seal's bit is clear for a capability with no rights. A removed module asks no pool, and its verdict says that
the token is stale, as a job's status does (R507). -/
def State.verdict (s : State) (k : Word128) : Nat :=
  let tok := match s.poolObj (capObj k) with
    | some o => decide (o.token = capToken k)
    | none => false
  (sealOk k && capRights k != 0).toNat + 2 * (tok && !s.fab.removed).toNat + 4 * capRights k + 2 ^ 10 * capClass k

/-- The stores that are in the frames and wait for the pool stay there after another write (R421). -/
def State.reFrame (s : State) : State :=
  s.ctxs.foldl (fun t e => e.2.units.foldl (fun t u =>
    match u.target with
    | .pool k off => if u.framed then t.frameWrite k off u.size u.data else t
    | _ => t) t) s

/-- A write at the pool under a step tag, and in the frames that cover it (R410, R421). -/
def State.poolPut (s : State) (k : Word128) (off n v : Nat) (step : Word) : State :=
  ((s.poolWrite k off n v step).frameWrite k off n v).reFrame

/-- A read at the pool of an engine job under a step tag, from whose result the covering frames are updated (R421, R501). -/
def State.poolGet (s : State) (k : Word128) (off n : Nat) (step : Word) : Nat × State :=
  (s.poolBytes k off n, ((s.frameWrite k off n (s.poolBytes k off n)).reFrame).poolSaw (capObj k) step)

/-- First intermediate address of a pool-cache frame (R419). -/
def frameIa (f : Nat) : Nat := 0xE000000000000 + 0x10000 * f

/-- Lines of a frame that an access under it goes through come into the LLC, charged to the frame's class (R418, R421). -/
def State.frameLines (s : State) (f off n : Nat) : State :=
  (linesOf (frameIa f + off % 0x10000) n).foldl (fun t l => t.llcFill l (Store.get PoolFrame.reset s.fe.frames f).cls) s

/-- A load of an object under a step tag: through the LLC where a frame covers it, counted for the task's hints (R392, R421), and otherwise seen
by the pool (R501). -/
def State.poolLoad (s : State) (c : Nat) (k : Word128) (off n : Nat) (step : Word) : State :=
  match s.frameFor (s.ctx c).asid k off n with
  | some f =>
    ((linesOf (frameIa f + off % 0x10000) n).foldl (fun t l => t.countLookup (s.ctx c).task l (!(t.llcLine l).present)) s).frameLines f off n
  | none => s.poolSaw (capObj k) step

/-- Does a frame hold a byte that an access names, under its token? -/
def State.frameMeets (s : State) (k : Word128) (off n : Nat) : Bool :=
  s.fe.frames.any fun f => f.2.valid && f.2.obj == capObj k && f.2.token == capToken k && decide (f.2.off < off + n) &&
    decide (off < f.2.off + 0x10000)

/-- A pool store that no earlier access of its context holds back enters the frames that hold its bytes, and the lines of its own, at once,
before the pool acknowledges it (R182, R421). -/
def State.frameStores (s : State) (c : Nat) : State :=
  let us := (s.ctx c).units
  us.foldl (fun t u =>
    match u.op, u.target with
    | .store _, .pool k off =>
      if !u.framed && !u.suspended && unitReady us u && s.unitFinding c u == 0 && s.frameMeets k off u.size then
        let t := match s.frameFor (s.ctx c).asid k off u.size with
          | some f => t.frameLines f off u.size
          | none => t
        (t.frameWrite k off u.size u.data).modCtx c fun x => { x with
          units := x.units.map fun e => if e.id = u.id then { e with framed := true } else e }
      else t
    | _, _ => t) s

/-- The bytes of a store that stands in the frames and writes none after all are the pool's again. -/
def State.unframe (s : State) (c : Nat) (u : MemUnit) : State :=
  match u.target with
  | .pool k off =>
    if u.framed then ((s.frameWrite k off u.size (s.poolBytes k off u.size)).modCtx c fun x => { x with
      units := x.units.map fun e => if e.id = u.id then { e with framed := false } else e }).reFrame
    else s
  | _ => s

/-- What a store, an atomic or a reduction does at the pool, in one write message (R184, R186, R189, R421, R497). -/
def State.poolEffect (s : State) (u : MemUnit) : State :=
  match u.op, u.target with
  | .store _, .pool k off => (s.poolPut k off u.size u.data u.stepTag).countWrites u.stepTag 1
  | .atomic op _, .pool k off => (s.poolPut k off u.size (amoNew op u.size (s.poolBytes k off u.size) u.data) u.stepTag).countWrites u.stepTag 1
  | .cas, .pool k off =>
    (if s.poolBytes k off u.size = u.data then s.poolPut k off u.size u.data2 u.stepTag else s.poolSaw (capObj k) u.stepTag).countWrites u.stepTag 1
  | _, _ => s

/-- Perform one access whole: its reads and writes, what it makes visible, and its result (R168, R175 to R187). -/
def State.perform (s : State) (c : Nat) (u : MemUnit) : State :=
  let x := s.ctx c
  let s := if u.isRelease then s.releaseObj c u.scope u.obj else s
  let done := fun (t : State) (v : Nat) =>
    let t := t.modCtx c fun x => (x.deliver u v).endUnit u.id
    if u.isAcquire then t.acquireObj c u.scope u.obj else t
  match u.op, u.target with
  | .load _, .ia a =>
    (match u.taken with
     | some v => done s v
     | none => let (v, t) := s.readIa c u.scope a u.size; done t v)
  | .load _, .pool k off => done (s.poolLoad c k off u.size u.stepTag) (s.poolRead x.asid k off u.size)
  | .scale e, .ia a =>
    let (v, t) := match u.taken with
      | some v => (v, s)
      | none => s.readIa c u.scope a u.size
    done (t.modCtx c fun y => { y with scaleData := Store.put y.scaleData e (BitVec.ofNat 1024 v) }) 0
  | .scale e, .pool k off =>
    done ((s.poolLoad c k off 128 u.stepTag).modCtx c fun y => { y with
      scaleData := Store.put y.scaleData e (BitVec.ofNat 1024 (s.poolRead x.asid k off 128)) }) 0
  | .store _, .ia a =>
    done (s.writeIa c u.scope a u.size u.data) 0
  | .store _, .pool _ _ => done (s.poolEffect u) 0
  | .atomic op _, .ia a =>
    let (old, t) := s.rmwIa c a u.size fun old => amoNew op u.size old u.data
    done t old
  | .atomic _ _, .pool k off => done (s.poolEffect u) (s.poolBytes k off u.size)
  | .cas, .ia a =>
    let (old, t) := s.rmwIa c a u.size fun old => if old = u.data then u.data2 else old
    done t old
  | .cas, .pool k off => done (s.poolEffect u) (s.poolBytes k off u.size)
  | .value, _ => done s u.data
  | .reseal, .pool k _ => done s (resealCap k u.data).toNat
  | .check, .pool k _ => done s (s.verdict k)
  | .fence, _ => (s.modCtx c fun x => x.endUnit u.id).acquire c u.scope fun _ => true
  | _, _ => done s 0

/-- The barrier and the word of its window that a CONFIG write, an arrival or a drop goes to, which only BARRIER_UPDATE performs (R336). -/
def MemUnit.toBarrier (u : MemUnit) : Option (Nat × Nat) :=
  match u.target with
  | .ia a =>
    (match (if u.isStore && isWindow a then winAt 0 a else .nothing) with
     | .barrier o => some (o / 64, o % 64)
     | _ => none)
  | _ => none

/-- Is it one of the accesses that complete on their own, without a returning event: stores and reductions of the module, and fences? -/
def MemUnit.selfRunning (u : MemUnit) : Bool :=
  u.toBarrier.isNone &&
  match u.op, u.target with
  | .fence, _ => true
  | _, .ia _ => u.inStoreQueue
  | _, _ => false

/-- The first access of a context that can complete on its own now. -/
def State.nextSelf (s : State) (c : Nat) : Option MemUnit :=
  let us := (s.ctx c).units
  us.find? fun u => u.selfRunning && !u.suspended && unitReady us u && !s.unitHeld c u && (s.unitFault c u).isNone

/-- The stores, reductions and fences of a context that can complete do so, in program order (R182, R396). -/
def State.drainUnits (s : State) (c : Nat) : Nat → State
  | 0 => s
  | n + 1 =>
    match s.nextSelf c with
    | none => s
    | some u => (s.perform c u).drainUnits c n

/-- All that can; then the pool stores that nothing holds back are in the frames. -/
def State.drain (s : State) (c : Nat) : State := (s.drainUnits c (s.ctx c).units.length).frameStores c

/-! ## Pages under migration (R386, R387, R390) -/

/-- The leaf entries of a page by its size code: level and keys (R386). -/
def leafKeys (code ia : Nat) : List (Nat × Nat) :=
  match code with
  | 0 => [(3, ia / 2 ^ 16)]
  | 1 => [(2, ia / 2 ^ 21)]
  | 2 => (List.range 16).map fun i => (2, ia / 2 ^ 25 * 16 + i)
  | _ => [(1, ia / 2 ^ 29)]

/-- The word of leaf number i of a page (R387). -/
def leafWord (code pa tier i : Nat) (r w : Bool) : Word :=
  BitVec.ofNat 64 (pa + 2 ^ 21 * i + 2 ^ 8 * tier + 2 ^ 7 * (if code = 2 then 1 else 0) + 2 ^ 4 * w.toNat + 2 ^ 3 * r.toNat + 3)

/-- Write the leaves of a page. -/
def State.setLeaves (s : State) (code ia : Nat) (f : Nat → Word) : State :=
  let l := leafKeys code ia
  (l.zip (List.range l.length)).foldl (fun t e => t.setLeaf e.1.1 e.1.2 (f e.2)) s

/-- No slice caches some leaf entries any more. -/
def State.forgetLeaves (s : State) (l : List (Nat × Nat)) : State :=
  { s with tlb := s.tlb.filter fun e => !l.any fun k => e.1 / 2 ^ 40 % 4 == k.1 && e.1 % 2 ^ 40 == k.2 }

/-- Bytes of device memory copied from one place to another that does not meet it. -/
def copyBytes (m : Memory) (src dst n : Nat) : Memory :=
  m.filter (fun e => decide (e.1 < dst)) ++ (Store.slice m src n).map (fun e => (dst + e.1, e.2)) ++ m.filter fun e => decide (dst + n ≤ e.1)

/-- The held writes of a page apply in their arrival order (R384). -/
def State.applyHeld (s : State) (l : List HeldWrite) : State := l.foldl (fun t w => t.homeWriteBy w.agent w.ia w.len w.value) s

/-- Steps 2 and 3 of a migration (R390): the page is copied, and its leaf written anew, with MIG clear. -/
def State.copyPage (s : State) (m : Migration) : State :=
  let s := { s with migrations := s.migrations.map fun (e : Migration) => if e.ia = m.ia then { e with copied := true } else e }
  match s.tableWalk m.ia with
  | none => s
  | some l =>
    let s := { s with mem := copyBytes s.mem (pteAddr l.word) m.pa (pageBytes m.size) }
    let keep := l.word &&& 0xFFF0000000000060#64
    s.setLeaves m.size m.ia fun i => leafWord m.size m.pa m.tier i (l.word.getLsbD 3) (l.word.getLsbD 4) ||| (if i = 0 then keep else 0)

/-- Step 4: the held writes apply to the new PA, and the packet completes. -/
def State.endMigration (s : State) (m : Migration) : State :=
  (State.applyHeld { s with migrations := s.migrations.filter fun e => !(e.ia == m.ia) } m.held).complete m.hdr 0 0

/-- A migration that must not wait any longer is finished at once: what is left of its steps. -/
def State.finishMigration (s : State) (m : Migration) : State :=
  let s := { s with invals := s.invals.filter fun e => !(e.hdr.isNone && e.ia == m.ia) }
  (((if m.copied then s else s.copyPage m).forgetLeaves (leafKeys m.size m.ia)).endMigration m)

/-- The front end is about to read memory: a migration that holds a write of the front end or the host is finished, so that no byte is read in its
state before that write (R390, R412; log entry 102). -/
def State.settleFe (s : State) : State :=
  (s.migrations.filter fun m => m.held.any fun w => w.agent == agentFe).foldl State.finishMigration s

end Sys2Proof.Machine
end

