-- ==== Sys2Proof/Machine/Fetch.lean ====
section
/-! DEFINITION. Fetching: segments and their frames (R271 to R273, R446), padding, headers and the words of a bundle (R43 to R48), the
loop skip (R111). -/

namespace Sys2Proof.Machine

/-! ## Segments (R271, R446) -/

/-- The segment-table entry of a segment of a code object, where it is valid (R446). -/
def State.segEntry (s : State) (code n : Nat) : Option SegEntry :=
  match s.fe.segtabs.find? fun e => e.1 == code with
  | some (_, l) =>
    match l[n]? with
    | some e => if e.valid then some e else none
    | none => none
  | none =>
    match s.fe.codes.find? fun e => e.1 == code with
    | some (_, o) => if n < o.segCount then some { src := code + o.codeOff + 0x10000 * n, next := n + 1, valid := true } else none
    | none => none

/-- The resident frame of a segment on a core. -/
def Core.resident (k : Core) (code n : Nat) : Option SegFrame :=
  (k.frames.find? fun e => e.2.seg == some (code, n) && !e.2.copying).map (·.2)

/-- A frame of a core. -/
def Core.frame (k : Core) (f : Nat) : SegFrame := Store.get SegFrame.reset k.frames f

/-- A code word as fetch sees it: from the resident frame of its segment, if any. -/
def State.codeWord (s : State) (c a : Nat) : Option Word32 :=
  ((s.core (coreOf c)).resident (s.ctx c).code (a / 0x10000)).map fun f => BitVec.ofNat 32 (Memory.readLE f.bytes (a % 0x10000) 4)

/-- A code word looked at without being fetched: resident, or read from the segment's source (log entry 17). -/
def State.skipWord (s : State) (c a : Nat) : Option Word32 :=
  match s.codeWord c a with
  | some w => some w
  | none => (s.segEntry (s.ctx c).code (a / 0x10000)).map fun e => BitVec.ofNat 32 (s.homeRead (e.src + a % 0x10000) 4)

/-- The first address from `a` on that holds no padding word (R45). -/
def State.pastPadding (s : State) (c size : Nat) : Nat → Nat → Nat
  | 0, a => a
  | n + 1, a =>
    if size < a + 4 then a
    else match s.skipWord c a with
      | some w => if w = 0xF0000000#32 then s.pastPadding c size n (a + 4) else a
      | none => a

/-- The address of the first bundle of a context's code from an address on: padding is passed over (R45). -/
def State.bundleFrom (s : State) (c a : Nat) : Nat :=
  let size := (s.codeOf (s.ctx c)).codeSize
  s.pastPadding c size (size / 4 + 1) a

/-- The address of the next bundle of a context in memory (R308). -/
def State.nextBundle (s : State) (c : Nat) : Nat := s.bundleFrom c (s.ctx c).pc

/-- Is the next bundle of a context in a segment of a code object (R271)? A FROZEN context has a next bundle, the one it goes on with (R308);
one that is FREE, RETIRING or SPILLED has none. -/
def State.inSegment (s : State) (c code n : Nat) : Bool :=
  let x := s.ctx c
  (x.state == .running || x.state == .handler || x.state == .frozen) && x.code == code && s.nextBundle c / 0x10000 == n

/-- A frame is busy while a context's next bundle lies in it or a copy into it is in progress (R271); a stalled context's own frame,
for a segment it is not in, is not (R273). -/
def State.frameBusy (s : State) (k f : Nat) : Bool :=
  let fr := (s.core k).frame f
  match fr.seg with
  | none => false
  | some (code, n) => fr.copying || (ctxsOf k).any fun c => s.inSegment c code n

/-- CYCLES when a context of a core last entered the segment of a frame; 0 for one never entered (R272). -/
def Core.enteredAt (k : Core) (f : Nat) : Nat :=
  match (k.frame f).seg with
  | some g => ((k.entries.find? fun e => e.1 == g).map (·.2)).getD 0
  | none => 0

/-- The frame a copy takes: an empty one first, otherwise the non-busy one whose segment was entered longest ago, lowest number on ties
(R272). -/
def State.frameChoice (s : State) (k : Nat) : Option Nat :=
  let k' := s.core k
  match (List.range 4).find? fun f => (k'.frame f).seg.isNone with
  | some f => some f
  | none =>
    ((List.range 4).filter fun f => !s.frameBusy k f).foldl (fun best f =>
      match best with
      | none => some f
      | some g => if k'.enteredAt f < k'.enteredAt g then some f else some g) none

/-- Begin a copy into a frame, from the source that the segment table gives now (R446). -/
def State.beginCopy (s : State) (k f code n : Nat) (needed : Bool) : State :=
  s.modCore k fun x => { x with
    frames := Store.put x.frames f
      { seg := some (code, n), copying := true, src := ((s.segEntry code n).map (·.src)).getD 0, needed := needed, bytes := [] } }

/-- A dropped prefetch of a die is counted (R170). -/
def State.dropPrefetch (s : State) (die : Nat) : State :=
  s.modFe fun f => { f with pfDrops := Store.put f.pfDrops die (Store.get 0 f.pfDrops die + 1) }

/-- The boundary mark: a background copy of the successor of the context's segment, unless it is resident, being copied, invalid or
finds every frame busy (R53, R272). -/
def State.boundaryMark (s : State) (c : Nat) (pc : Nat) : State :=
  let x := s.ctx c
  let k := coreOf c
  match s.segEntry x.code (pc / 0x10000) with
  | none => s.dropPrefetch (dieOf c)
  | some e =>
    if (s.core k).frames.any (fun fr => fr.2.seg == some (x.code, e.next)) then s
    else
      match s.segEntry x.code e.next, s.frameChoice k with
      | some _, some f => s.beginCopy k f x.code e.next false
      | _, _ => s.dropPrefetch (dieOf c)

/-- The copy in progress that a miss cancels where every frame is busy (R273): one of a segment that no context's next bundle lies in, the lowest
frame of several (log entry 91). -/
def State.cancelChoice (s : State) (k : Nat) : Option Nat :=
  (List.range 4).find? fun f =>
    let fr := (s.core k).frame f
    fr.copying && !(ctxsOf k).any fun c => fr.seg.any fun g => s.inSegment c g.1 g.2

/-- A copy of a needed segment starts, or the one in progress is needed from now on; where every frame is busy, a copy in progress is
cancelled and gives its frame (R273). -/
def State.startMiss (s : State) (c n : Nat) : State :=
  let x := s.ctx c
  let k := coreOf c
  if (s.core k).frames.any (fun fr => fr.2.seg == some (x.code, n)) then
    s.modCore k fun y => { y with
      frames := y.frames.map fun fr => if fr.2.seg = some (x.code, n) then (fr.1, { fr.2 with needed := true }) else fr }
  else
    match s.frameChoice k with
    | some f => s.beginCopy k f x.code n true
    | none =>
      match s.cancelChoice k with
      | some f => s.beginCopy k f x.code n true
      | none => s

/-- `n` bytes of a segment from an address within one 64 KiB page; none without a valid translation, or, for a copy that nothing waits
for, with a leaf whose ACC is 0 (R393, log entry 79). -/
def State.segmentPart (s : State) (needed : Bool) (a n : Nat) : Option Memory :=
  match s.leafFor a false with
  | none => none
  | some l =>
    if !needed && !l.word.getLsbD 5 then none
    else if l.tier = 3 then some (((List.range n).map fun i => (i, s.homeByte (a + i))).filter fun e => !(e.2 == 0#8))
    else some (Store.slice s.mem (l.pa a) n)

/-- The first `len` bytes of a segment, up to 64 KiB, from its source, which may lie over two pages; none where a page of them has no translation
that serves (R514). -/
def State.segmentBytes (s : State) (needed : Bool) (src len : Nat) : Option Memory :=
  let n := min len (0x10000 - src % 0x10000)
  match s.segmentPart needed src n with
  | none => none
  | some l =>
    if n = len then some l
    else (s.segmentPart needed (src + n) (len - n)).map fun r => l ++ r.map fun e => (e.1 + n, e.2)

/-- A page is read: its leaf is marked accessed (R387). -/
def State.pageRead (s : State) (ia : Nat) : State :=
  match s.leafFor ia false with
  | some l => s.touch l ia false
  | none => s

/-- Code is read from its source: its pages are marked accessed, and lines that the host caches are recalled (R387, R457). -/
def State.codeRead (s : State) (src len : Nat) : State :=
  if len = 0 then s else ((s.pageRead src).pageRead (src + len - 1)).recallRange src len

/-- Bytes of segment n that belong to the code section of an installed object (R47). -/
def State.segmentLen (s : State) (code n : Nat) : Nat :=
  match s.fe.codes.find? fun e => e.1 == code with
  | some (_, o) => min 0x10000 (o.codeSize - 0x10000 * n)
  | none => 0x10000

/-! ## Reading code -/

/-- What fetching the next bundle finds. -/
inductive Fetch where
  /-- A bundle: its address, header, syllables with slot and extension word, the address past it, its words. -/
  | bundle (addr : Nat) (h : Header) (syls : List (Nat × Word32 × Option Word32)) (after : Nat) (words : List Word32)
  /-- An illegal bundle found before its syllables: its address and code of R64. -/
  | illegal (addr code : Nat)
  /-- The segment fault found at fetch, at an address (R305, SUB 1). -/
  | fault (addr : Nat)
  /-- A segment that is not resident is needed (R273). -/
  | miss (addr seg : Nat)
deriving DecidableEq, Repr

/-- The words from an address up to a limit, `n` at most. -/
def State.codeWords (s : State) (c : Nat) : Nat → Nat → Nat → List Word32
  | _, _, 0 => []
  | a, lim, n + 1 =>
    if a + 4 ≤ lim then
      match s.codeWord c a with
      | some w => w :: s.codeWords c (a + 4) lim n
      | none => []
    else []

/-- Do the syllables of a bundle from an address on run past the code section (R47)? The words beyond its own segment are looked at for their
extension bits alone (log entry 17). -/
def State.pastEnd (s : State) (c size : Nat) : List Nat → Nat → Bool
  | [], a => decide (size < a)
  | _ :: l, a => decide (size < a + 4) || s.pastEnd c size l (if ((s.skipWord c a).map hasExt).getD false then a + 8 else a + 4)

/-- The bundle whose header stands at an address; one that runs past its segment is illegal, and where it runs past the code section too the
segment fault comes first (R43, R47). -/
def State.bundleAt (s : State) (c a size : Nat) (h : Header) (hw : Word32) : Fetch :=
  let segEnd := (a / 0x10000 + 1) * 0x10000
  let ws := s.codeWords c (a + 4) (min segEnd size) 26
  match splitWords h.slots ws with
  | some (l, n) => .bundle a h l (a + 4 + 4 * n) (hw :: ws.take n)
  | none => if s.pastEnd c size h.slots (a + 4) then .fault a else .illegal a 3

/-- Fetch from an address on: padding words are passed over (R45). -/
def State.fetchAt (s : State) (c size : Nat) : Nat → Nat → Fetch
  | 0, a => .fault a
  | n + 1, a =>
    if size < a + 4 then .fault a
    else
      match s.codeWord c a with
      | none =>
        if (s.segEntry (s.ctx c).code (a / 0x10000)).isNone then .fault a else .miss a (a / 0x10000)
      | some w =>
        match decodeHead w with
        | .padding => s.fetchAt c size n (a + 4)
        | .bad code => .illegal a code
        | .header h => s.bundleAt c a size h w

/-- The body bundle that an open nest past its first pass issues next, where its loop buffer holds it (R113, R270). -/
def Nest.copied (n : Nest) : Option (Nat × List Word32) :=
  if n.isOpen && n.replay then (n.buffer.find? fun e => e.1 == n.pos).map (·.2) else none

/-- The next bundle of a context, from its loop buffer while a nest replays (R113), else from instruction memory. -/
def State.fetch (s : State) (c : Nat) : Fetch :=
  let x := s.ctx c
  let size := (s.codeOf x).codeSize
  match x.nest.copied with
  | some (a, w :: ws) =>
    match decodeHead w with
    | .header h =>
      match splitWords h.slots ws with
      | some (l, n) => .bundle a h l (a + 4 + 4 * n) (w :: ws)
      | none => .illegal a 3
    | _ => .illegal a 1
  | _ => s.fetchAt c size (size / 4 + 1) x.pc

/-! ## The loop skip (R111) -/

/-- Where a skip ends. -/
inductive Skip where
  | at_ (pc : Nat)
  | illegal (addr code : Nat)
  | fault (addr : Nat)
deriving DecidableEq, Repr

/-- The address past the syllables of a bundle, by their extension bits; none at the end of the code. -/
def State.skipSyls (s : State) (c size : Nat) : List Nat → Nat → Option Nat
  | [], a => some a
  | _ :: ss, a =>
    if size < a + 4 then none
    else match s.skipWord c a with
      | none => none
      | some w => s.skipSyls c size ss (if hasExt w then a + 8 else a + 4)

/-- Pass over bundles until one carries the loop-end mark; `n` bundles are behind. A segment without a valid segment-table entry ends the skip
with the segment fault of R273, a fourth case beside R111's three (log entry 17). -/
def State.skipBody (s : State) (c size : Nat) : Nat → Nat → Nat → Skip
  | 0, _, a => .fault a
  | fuel + 1, n, a =>
    if size < a + 4 then .fault a
    else match s.skipWord c a with
      | none => .fault a
      | some w =>
        match decodeHead w with
        | .padding => s.skipBody c size fuel n (a + 4)
        | .bad code => .illegal a code
        | .header h =>
          if 32 ≤ n then .illegal a 15
          else match s.skipSyls c size h.slots (a + 4) with
            | none => .fault a
            | some e => if e > size then .fault a else if h.lend then .at_ e else s.skipBody c size fuel (n + 1) e

end Sys2Proof.Machine
end

