-- ==== Sys2Proof/Machine/Cards.lean ====
section
/-! DEFINITION. Job cards as bits: header, footprint entries, nest (R261 to R264, R269), and what a syllable needs beside the registers
it names: the capability registers of its addresses and the handles of its parameter blocks (R33, R194, R261). -/

namespace Sys2Proof.Machine

/-! ## The card (R261, R262) -/

/-- `n` bits of a card from bit `lo` of the word at byte `off` on. -/
def cardBits (card off lo n : Nat) : Nat := bitsN card (8 * off + lo) n

/-- The card of a job, 256 bytes at most, as it stands in row 0 of its handle. -/
def State.cardOf (s : State) (c : Nat) (h : Handle) : Nat := s.scratchRead (coreOf c) h.base (min 256 (16 * h.roww))

/-- A footprint entry as it is written (R263). -/
structure CardFoot where
  /-- BASE. -/
  base : Nat
  /-- LEN. -/
  len : Nat
  /-- [31:4]. -/
  rsv : Nat
  /-- SPACE. -/
  space : Nat
  /-- W. -/
  wr : Bool
  /-- RD. -/
  rd : Bool
deriving DecidableEq, Repr

/-- Entry i of a card. -/
def cardFoot (card i : Nat) : CardFoot :=
  { base := cardBits card (16 * i + 8) 0 64, len := cardBits card (16 * i) 32 32, rsv := cardBits card (16 * i) 4 28
    space := cardBits card (16 * i) 2 2, wr := cardBits card (16 * i) 1 1 = 1, rd := cardBits card (16 * i) 0 1 = 1 }

/-- The used entries, FP0 first. -/
def cardFoots (card : Nat) : List CardFoot := ((List.range 4).map (cardFoot card)).filter fun f => f.len != 0

/-- NESTV. -/
def cardNestV (card : Nat) : Bool := cardBits card 0x70 8 1 = 1

/-- The operand-format rules of a header (R262, R264, R269, R275). -/
def headerOk (card : Nat) (nest : Bool) : Bool :=
  cardBits card 0x70 9 23 == 0 && cardBits card 0x74 0 96 == 0 && (nest || !cardNestV card) &&
  (cardNestV card || cardBits card 0x40 0 384 == 0) &&
  (cardFoots card).all fun f => f.rsv == 0 && decide (f.space < 2) && (f.rd || f.wr)

/-- The visits of a nest in order, as offsets of streams A and B (R269); one visit without a nest. -/
def visitsOf (card : Nat) : List (Int × Int) :=
  if cardNestV card then
    [5, 4, 3, 2, 1, 0].foldl (fun l d =>
      let w := cardBits card (0x40 + 8 * d) 0 64
      let sa := signedN w 24 * (2 : Int) ^ cardBits card 0x70 0 4
      let sb := signedN (w / 2 ^ 24) 24 * (2 : Int) ^ cardBits card 0x70 4 4
      l.flatMap fun v => (List.range (w / 2 ^ 48)).map fun (i : Nat) => (v.1 + (i : Int) * sa, v.2 + (i : Int) * sb)) [(0, 0)]
  else [(0, 0)]

/-- The capability register a value names as a CRA, if it is one (R163). -/
def craReg (v : Nat) : Option Nat := if v / 2 ^ 60 % 16 = 0xC then some (v / 2 ^ 56 % 16) else none

/-! ## What a bundle's own scratch store leaves for its job (R181, R261) -/

/-- The w bits from bit `lo` of a vector register. -/
def elemAt (v : VWord) (lo w : Nat) : Nat := (v.extractLsb' lo w).toNat
/-- Scratch address of a store. -/
def stsAddr (x : Ctx) (o : SM) (unit : Nat) : Nat :=
  (x.areg o.base.toNat + wordOf (immS 6 o.off.toNat o.ext * unit)).toNat
/-- Low n bytes of a data register. -/
def mValue (x : Ctx) (d : BitVec 6) (n : Nat) : Nat := (x.get (mData d)).toNat % 2 ^ (8 * n)
/-- The handle that holds a scratch address. -/
def Ctx.handleAt (x : Ctx) (a : Nat) : Option Handle := (x.handles.find? fun e => e.2.kind ≠ 3 && e.2.holds a 1).map (·.2)
/-- The eight words that stvt puts into a column: address and value. -/
def columnPieces (x : Ctx) (o : SM) (a : Nat) (h : Handle) : List (Nat × Nat) :=
  (List.range 8).map fun i => (a + 16 * h.roww * i, elemAt (x.vreg o.data.toNat) (128 * i) 128)

/-- What a scratch store writes: address, bytes and value of each piece. -/
def storePieces (x : Ctx) : Instr → List (Nat × Nat × Nat)
  | .sts8 o => [(stsAddr x o 1, 1, mValue x o.data 1)]
  | .sts16 o => [(stsAddr x o 2, 2, mValue x o.data 2)]
  | .sts32 o => [(stsAddr x o 4, 4, mValue x o.data 4)]
  | .sts64 o => [(stsAddr x o 8, 8, mValue x o.data 8)]
  | .stv o => [(stsAddr x o 16, 128, (x.vreg o.data.toNat).toNat)]
  | .stvt o =>
    match x.handleAt (stsAddr x o 16) with
    | some h => (columnPieces x o (stsAddr x o 16) h).map fun e => (e.1, 16, e.2)
    | none => []
  | _ => []

/-- Scratch as a bundle's own store leaves it, which its job's card is read from. -/
def State.stored (s : State) (c : Nat) (ops : List Instr) : State :=
  (ops.flatMap fun i => if (s.ctx c).preg (infoOf i).guard then storePieces (s.ctx c) i else []).foldl
    (fun t e => t.scratchWrite (coreOf c) e.1 e.2.1 e.2.2) s

/-! ## What a bundle waits for beside the registers it names (R33, R194, R261) -/

/-- The card handle of a job, and whether its command permits a CRA in SRC, DST and IDX. -/
def jobCard : Instr → Option (Nat × Bool)
  | .cpy o => some (o.hJ.toNat, true)
  | .cpyq o => some (o.hJ.toNat, true)
  | .gath o => some (o.hJ.toNat, true)
  | .scat o => some (o.hJ.toNat, true)
  | .gathK o => some (o.hJ.toNat, true)
  | .scatK o => some (o.hJ.toNat, true)
  | .wmarm _ => none
  | i => if (infoOf i).slot = 10 then (infoOf i).hands.head?.map fun h => (h, false) else none

/-- The address register a syllable's memory address comes from, if it has one. -/
def pointerReg (i : Instr) : Option Dest :=
  match i with
  | .bind o => if o.kind = 0 then some (rA o.obj.toNat) else none
  | .drainM o => some (rA o.t.toNat)
  | .fillM o => some (rA o.t.toNat)
  | _ =>
    match encode i with
    | none => none
    | some e =>
      let opc := opcOf e.word
      let slot := (infoOf i).slot
      if ((slot = 2 ∨ slot = 3) ∧ ((0x10 ≤ opc ∧ opc ≤ 0x14) ∨ (0x1A ≤ opc ∧ opc ≤ 0x1C) ∨ opc = 0x28)) ∨
         (slot = 4 ∧ ((0x08 ≤ opc ∧ opc ≤ 0x0B) ∨ (0x0E ≤ opc ∧ opc ≤ 0x40))) then
        (infoOf i).reads.find? fun d => d.file == .a
      else none

/-- The capability registers that a syllable reads through its address or its card. -/
def State.craRegs (s : State) (c : Nat) (i : Instr) : List Nat :=
  let x := s.ctx c
  match jobCard i with
  | some (h, body) =>
    let v := x.handle h
    if v.isGroup && decide (8 ≤ v.roww) then
      let card := s.cardOf c v
      ((cardFoots card).map (·.base) ++
        (if body then [cardBits card 0x80 0 64, cardBits card 0x88 0 64, cardBits card 0x90 0 64] else [])).filterMap craReg
    else []
  | none =>
    match pointerReg i with
    | some d => (craReg (x.areg d.idx).toNat).toList
    | none => []

/-- The parameter-block handle of a D or O form that its syllable does not name: DPB, OPB (R217, R233, R240). -/
def blockHandle (x : Ctx) (i : Instr) : Option Nat :=
  match i with
  | .dzero _ => none
  | _ =>
    if (infoOf i).slot = 8 then some x.mat.dpb.toNat
    else if (infoOf i).slot = 9 then
      (match encode i with
       | some e => if e.ext.isSome then none else x.mat.opb.map (·.toNat)
       | none => none)
    else none

end Sys2Proof.Machine
end

