-- ==== Sys2Proof/Machine/Targets.lean ====
section
/-! DEFINITION. Where the accesses of the slots go: targets in memory and the pool (R162 to R167, R331, R332, R334), rows, columns and banks of
scratch (R172, R197, R209, R210), and the order of scratch accesses of one context (R182). -/

namespace Sys2Proof.Machine

/-- Slot number of a load syllable. -/
def lSlot (l1 : Bool) : Nat := if l1 then 3 else 2

/-! ## The target of an access (R162 to R167, R331, R332, R334) -/

/-- What an access needs: its bytes, alignment, capability rights, range rights, and its kind and data for the cluster window
(`winPermits`: 0 load, 1 store, 2 ldacq, 3 amo add, 4 red add, 5 another atomic, 6 cas.128 or red.fadd.32; 8 strel and 9 another
form: scratch addresses alone, log entry 25). -/
structure Need where
  /-- Bytes. -/
  size : Nat
  /-- Alignment. -/
  align : Nat
  /-- RIGHTS bits of a capability. -/
  cap : Nat
  /-- Read right of a range register. -/
  rd : Bool
  /-- Write right of a range register. -/
  wr : Bool
  /-- Kind in the window. -/
  kind : Nat
  /-- Operand, for an arrival and a CONFIG write. -/
  data : Nat
deriving DecidableEq, Repr

/-- May an access reach an intermediate address: outside the window, or permitted there (R331)? One that begins below the window and runs into it may not
(log entry 104). -/
def windowOk (c ia : Nat) (n : Need) : Bool :=
  if isWindow ia then
    if n.kind = 8 ∨ n.kind = 9 then
      (match winAt (clusterOf c) ia with
       | .scratch _ _ => winPermits (clusterOf c) ia n.size 1 0
       | _ => false)
    else winPermits (clusterOf c) ia n.size n.kind n.data
  else !isWindow (ia + n.size - 1)

/-- The target of a register value and an offset, or the failing check: its cause and FADDR (R163, R166, R167, R309). -/
def Ctx.targetOf (x : Ctx) (c : Nat) (r : Word) (off : Int) (n : Need) : Except (Nat × Nat) Target :=
  match addrOf r off with
  | .bad => .error (cProt, 0)
  | .va v =>
    match x.checkVa v n.size n.align n.rd n.wr with
    | none => .error (cProt, (v % (2 : Int) ^ 64).toNat)
    | some ia => if windowOk c ia n then .ok (.ia ia) else .error (cProt, (v % (2 : Int) ^ 64).toNat)
  | .cra k v =>
    if v % (n.align : Int) ≠ 0 then .error (cProt, 0)
    else if capOk (x.kreg k) n.cap v n.size then .ok (.pool (x.kreg k) v.toNat)
    else .error (cCap, 0)

/-- The target of a capability register and an object offset (R166). -/
def Ctx.capTarget (x : Ctx) (k : Nat) (off : Int) (n : Need) : Except (Nat × Nat) Target :=
  if off % (n.align : Int) ≠ 0 then .error (cProt, 0)
  else if capOk (x.kreg k) n.cap off n.size then .ok (.pool (x.kreg k) off.toNat)
  else .error (cCap, 0)

/-! ## Rows and columns of scratch (R172, R209, R210) -/

/-- A register of the slot's own file. -/
def Ctx.own (x : Ctx) (l1 : Bool) (i : BitVec 4) : Word := x.areg (lA l1 i).idx

/-- Row of an LT operand. -/
def ltRow (x : Ctx) (o : LT) : Nat := ((x.own o.l1 o.row).toNat + extNat o.ext / 65536) % 2 ^ 32
/-- First byte of an LT operand within its row; `unit` is the column unit of the extended form. -/
def ltCol (o : LT) (unit : Nat) : Nat :=
  match o.ext with
  | none => 16 * o.col.toNat
  | some e => unit * (e.toNat % 65536)
/-- Scratch address of a byte of a row. -/
def Handle.at_ (h : Handle) (row col : Nat) : Nat := h.base + 16 * h.roww * row + col

/-- The n bytes of one row that a fetch reads, or its failing check. -/
def rowFetch (x : Ctx) (o : LT) (unit n : Nat) (waymark : Bool) : Except (Nat × Nat) Nat :=
  let h := x.handle o.h.toNat
  let row := ltRow x o
  let col := ltCol o unit
  if !(h.isGroup || (waymark && h.isWaymark)) then .error (cOperand, 0)
  else if h.rows ≤ row ∨ 16 * h.roww < col + n then .error (cProt, h.at_ row col)
  else .ok (h.at_ row col)

/-- Does a handle permit a column fetch (R210)? -/
def columnShape (h : Handle) : Bool := h.isGroup && (h.roww == 8 || h.roww == 16 || h.roww == 32 || h.roww == 64)

/-- Bank word of its group that a scratch address lies in (R197). -/
def scratchWord (a : Nat) : Nat := a % 0x20000 / 16
/-- Group of a scratch address: 0 A, 1 B, 2 G (R197). -/
def scratchGroup (a : Nat) : Nat := a / 0x20000
/-- Row within its bank of a scratch address (R197). -/
def scratchLine (a : Nat) : Nat := scratchWord a / 64
/-- Bank of a scratch address (R197). -/
def scratchBank (a : Nat) : Nat := scratchWord a % 64 ^^^ 8 * (scratchLine a % 8)

/-- The banks of the eight words of a column from a row on (R210). -/
def columnBanks (h : Handle) (row col : Nat) : List Nat := (List.range 8).map fun i => scratchBank (h.at_ (row + i) col)

/-! ## Scratch accesses of one context in program order (R182) -/

/-- The need of a plain load. -/
def loadNeed (n align kind : Nat) : Need := { size := n, align := align, cap := 1, rd := true, wr := false, kind := kind, data := 0 }

/-- The scratch address of the context's own core that a window access in flight has still to reach. -/
def ownScratch (c : Nat) (u : MemUnit) : Option Nat :=
  match u.target with
  | .ia a =>
    (match (if isWindow a && u.taken.isNone then winAt (clusterOf c) a else .nothing) with
     | .scratch k x => if k = coreOf c then some x else none
     | _ => none)
  | _ => none

/-- The scratch bytes that a load of the L0 or L1 slot reads: address and length of each piece. -/
def loadPieces (x : Ctx) : Instr → List (Nat × Nat)
  | .lds8 o => row o 1 1 false
  | .lds16 o => row o 2 2 false
  | .lds32 o => row o 4 4 true
  | .lds64 o => row o 8 8 true
  | .ldv o => row o 16 128 false
  | .ldvt o => (List.range 8).map fun i => ((x.handle o.h.toNat).at_ (ltRow x o + i) (ltCol o 16), 16)
  | _ => []
where
  row (o : LT) (unit n : Nat) (waymark : Bool) : List (Nat × Nat) :=
    match rowFetch x o unit n waymark with
    | .ok a => [(a, n)]
    | .error _ => []

/-- The memory address, with its bytes and its kind in the window, of a load that may read scratch through the window (R175 to R177, R195). -/
def windowLoad (x : Ctx) : Instr → Option (Word × Int × Need)
  | .ldg8 o => lm o 1 1 0
  | .ldg16 o => lm o 2 2 0
  | .ldg32 o => lm o 4 4 0
  | .ldg64 o => lm o 8 8 0
  | .ldgV o => some (x.own o.l1 o.base, immS 10 o.off.toNat o.ext * 8, loadNeed 128 8 0)
  | .ldacq32 o => lm o 4 4 2
  | .ldacq64 o => lm o 8 8 2
  | .ldsc o => some (x.own o.l1 o.base, immS 10 o.off.toNat o.ext * 128, loadNeed 128 16 9)
  | .kderiveLd o => some (x.own o.l1 o.a, 0, loadNeed 16 16 9)
  | _ => none
where
  lm (o : LM) (unit n kind : Nat) : Option (Word × Int × Need) :=
    some (x.own o.l1 o.base, immS 10 o.off.toNat o.ext * unit, loadNeed n n kind)

/-- The bytes of its own core's scratch that a load of a bundle reads through the window while an earlier access of its context, an acquire or
one of the same bytes, still holds it back. -/
def Ctx.lateLoad (x : Ctx) (c : Nat) (i : Instr) : Option (Nat × Nat) :=
  match windowLoad x i with
  | none => none
  | some (r, off, n) =>
    match x.targetOf c r off n with
    | .ok (.ia a) =>
      (match (if isWindow a then winAt (clusterOf c) a else .nothing) with
       | .scratch k b =>
         if k = coreOf c && x.units.any (fun e => e.isAcquire || (ownScratch c e).any fun d => decide (d < b + n.size) && decide (b < d + e.size))
         then some (b, n.size) else none
       | _ => none)
    | _ => none

/-- Would a scratch access of a bundle's slots overtake an earlier window access of its context to the same bytes of its own core (R182)? Such a
bundle waits (log entry 92). -/
def Ctx.overtakes (x : Ctx) (c : Nat) (ops : List Instr) : Bool :=
  let ops := ops.filter fun i => x.preg (infoOf i).guard
  let stores := ops.flatMap fun i => (storePieces x i).map fun e => (e.1, e.2.1)
  let meets := fun (l : List (Nat × Nat)) (a n : Nat) => l.any fun e => decide (e.1 < a + n) && decide (a < e.1 + e.2)
  x.units.any (fun u => (ownScratch c u).any fun a => meets (stores ++ ops.flatMap (loadPieces x)) a u.size) ||
  (ops.filterMap (x.lateLoad c)).any fun e => meets stores e.1 e.2

end Sys2Proof.Machine
end

