-- ==== Sys2Proof/Machine/Issue.lean ====
section
/-! DEFINITION. Issuing a bundle: its operations with sticky slots (R49 to R52), the checks at decode (R64), the stalls (R33, R133 to
R136, R406), what a bundle does when it commits (R26, R28, R102 to R114, R118, R121, R122) and the trap it takes (R309). -/

namespace Sys2Proof.Machine

/-! ## The operations of a bundle (R50, R51) -/

/-- Width of the short address field of a syllable's form, 0 where it has none (R51, R172, R174, R175, R180, R234). -/
def afieldWidth (slot opc : Nat) : Nat :=
  match slot with
  | 2 | 3 => if 0x08 ≤ opc ∧ opc ≤ 0x0D then 4 else if (0x10 ≤ opc ∧ opc ≤ 0x1C) ∨ opc = 0x28 then 10 else 0
  | 4 => if opc < 0x10 then 6 else 0
  | 8 => 4
  | _ => 0

/-- Does the extension word of the form carry the address value? -/
def extIsAfield (slot : Nat) : Bool := slot != 8

/-- A remembered syllable with the slot's STEP added to its address field (R51). -/
def encStepped (e : Enc) (d : Word) : Enc :=
  let w := afieldWidth e.slot (opcOf e.word)
  if w = 0 then e
  else match (if extIsAfield e.slot then e.ext else none) with
    | some x => { e with ext := some (x + d.setWidth 32) }
    | none =>
      let m : Word32 := BitVec.ofNat 32 (2 ^ w - 1)
      { e with word := (e.word &&& ~~~m) ||| ((e.word + d.setWidth 32) &&& m) }

/-- The STEP register of a streaming slot (R21, R50). -/
def Csrs.stepOf (x : Csrs) (slot : Nat) : Word :=
  match slot with
  | 2 => x.stepL0
  | 3 => x.stepL1
  | 4 => x.stepSt
  | 7 => x.stepM
  | 8 => x.stepD
  | _ => 0

/-- A bundle ready to be checked and issued. -/
structure Bundle where
  /-- Address of its header. -/
  addr : Nat
  /-- Address just past it. -/
  after : Nat
  /-- Its header. -/
  hdr : Header
  /-- Its operations in slot order. -/
  ops : List Instr
  /-- The remembered syllables after it. -/
  keep : Store Kept
  /-- Codes of R64 found in its syllables, 4 to 8. -/
  codes : List Nat
  /-- Its words. -/
  words : List Word32
deriving DecidableEq, Repr

/-- The syllable a sticky re-issue makes of a remembered one. -/
noncomputable def stepKept (x : Ctx) (slot : Nat) (k : Kept) : Except Nat Instr :=
  match encode k.instr with
  | none => .error 8
  | some e =>
    let e := encStepped e (x.csr.stepOf slot)
    decodeSyl slot e.word e.ext

/-- One slot of one repetition (R50): its operation joins the bundle, and a streaming slot remembers it. -/
noncomputable def Bundle.slot (x : Ctx) (first : Bool) (syls : List (Nat × Word32 × Option Word32)) (b : Bundle) (slot : Nat) : Bundle :=
  let here := (syls.find? fun e => e.1 == slot).map fun e => decodeSyl slot e.2.1 e.2.2
  let bad := match here with
    | some (.error c) => [c]
    | _ => []
  let b := { b with codes := b.codes ++ bad }
  if (stickyBit slot).isSome && b.hdr.isSticky slot && !(here.isSome && first) then
    match (x.keep.find? fun e => e.1 == slot) with
    | none => { b with codes := b.codes ++ [8] }
    | some (_, k) =>
      match stepKept x slot k with
      | .ok i => { b with
          ops := b.ops ++ [i]
          keep := Store.put b.keep slot { instr := i } }
      | .error c => { b with codes := b.codes ++ [c] }
  else
    match here with
    | some (.ok i) => { b with
        ops := b.ops ++ [i]
        keep := if (stickyBit slot).isSome then Store.put b.keep slot { instr := i } else b.keep }
    | _ => b

/-- The bundle of a fetched header and its syllables, for one repetition of a context. -/
noncomputable def bundleOf (x : Ctx) (addr after : Nat) (h : Header) (syls : List (Nat × Word32 × Option Word32)) (words : List Word32) :
    Bundle :=
  (List.range 13).foldl (Bundle.slot x (x.repLeft = 0 || x.repLeft = h.rep.toNat + 1) syls)
    { addr := addr, after := after, hdr := h, ops := [], keep := x.keep, codes := [], words := words }

/-- The header of a bundle of one syllable. -/
def soloHeader (slot : Nat) : Header :=
  { Header.empty with
    pres := if slot < 12 then BitVec.ofNat 12 (2 ^ slot) else 0
    xp := slot == 12 }

/-- A bundle of one syllable at the context's pc. -/
def soloBundle (x : Ctx) (i : Instr) : Bundle :=
  let slot := (infoOf i).slot
  let size := match encode i with
    | some e => if e.ext.isSome then 12 else 8
    | none => 8
  { addr := x.pc, after := x.pc + size, hdr := soloHeader slot, ops := [i]
    keep := if (stickyBit slot).isSome then Store.put x.keep slot { instr := i } else x.keep
    codes := match i.illegal with
      | some c => [c]
      | none => []
    words := match encode i with
      | some e => encodeHead (soloHeader slot) :: e.word :: e.ext.toList
      | none => [] }

/-! ## Checks at decode (R30, R48, R54, R60, R62, R64, R109, R121, R151) -/

/-- C-slot instructions that may not repeat (R49). -/
def noRepeat : Instr → Bool
  | .br _ | .brp _ | .brl _ | .ret _ | .jmp _ | .jmpL _ | .trapC _ | .sysc _ | .rft _ | .retire _ | .yield _ => true
  | _ => false

/-- The landing limits of R30: the class a destination counts in. -/
def Dest.limitClass (d : Dest) : Nat :=
  match d.file with
  | .v => 0
  | .s => 1
  | .a => if d.idx < 16 then 2 else 3
  | .p => 4
  | .q => 5
  | _ => 6

/-- Landings a class may take in one tick. -/
def landLimit (cls : Nat) : Nat := if cls = 0 then 3 else if cls = 6 then 256 else 2

/-- Does a list of (register, tick) pairs name one pair twice? -/
def landClash : List (Dest × Nat) → Bool
  | [] => false
  | e :: l => l.contains e || landClash l

/-- Are two numbers of the list equal? -/
def natClash : List Nat → Bool
  | [] => false
  | e :: l => l.contains e || natClash l

/-- Is one read port paired with two registers (R60)? -/
def portClash : List (Nat × Nat) → Bool
  | [] => false
  | (p, r) :: l => l.any (fun e => e.1 == p && e.2 != r) || portClash l

/-- The results of a bundle with the tick they land in; those to s0, p0 and q0 count for nothing (R30). -/
def State.newLands (s : State) (x : Ctx) (ops : List Instr) : List (Dest × Nat) :=
  (ops.flatMap fun i => (infoOf i).lands.map fun e => (e.1, s.latOf x e.2)).filter fun e => !e.1.fixed

/-- The PART rule of the conversions, which depends on format registers (R151). -/
def partBad (x : Ctx) (o : VA) : Bool :=
  let ws := fmtWidth x.fmtreg o.ty.toNat
  let wd := fmtWidth x.fmtreg (cvtFmt o)
  if ws = wd then cvtPart o != 0
  else decide (1024 < (cvtPart o + 1) * (1024 / max ws wd) * min ws wd)

/-- What code 7 refuses by the state of the context (R109, R121, R151). -/
def badHere (x : Ctx) (rep : Bool) : Instr → Bool
  | .loop o => x.nest.isOpen || rep || Store.has x.nest.dims o.lc.toNat
  | .loopn o => x.nest.isOpen || rep || Store.has x.nest.dims o.lc.toNat
  | .rft _ => x.state != .handler
  | .vcvt o => partBad x o
  | .vcvtRs o => partBad x o
  | .vqnt o => partBad x o
  | .vdqnt o => partBad x o
  | _ => false

/-- A register transfer to a target that is not 16-byte aligned (R48, R121); a busy target stalls instead (R105). -/
def unaligned (x : Ctx) : Instr → Bool
  | .jmp o => !x.isBusy (rS o.s) && (x.sreg o.s.toNat).toNat % 16 != 0
  | .jmpL o => !x.isBusy (rS o.s) && (x.sreg o.s.toNat).toNat % 16 != 0
  | .ret _ => x.lk.toNat % 16 != 0
  | .rft _ => x.pcReplaced && x.csr.trapPc.toNat % 16 != 0
  | _ => false

/-- The codes of R64 that a bundle meets: those of its syllables, then those of the bundle as a whole. -/
def State.illegalCodes (s : State) (x : Ctx) (b : Bundle) : List Nat :=
  let ports := b.ops.flatMap fun i => (infoOf i).ports
  let news := s.newLands x b.ops
  let olds := x.queue.map fun e => (e.dest, e.left)
  let rep := b.hdr.rep != 0
  b.codes ++
  (if b.ops.any (badHere x rep) then [7] else []) ++
  (if rep && b.ops.any noRepeat then [9] else []) ++
  (if ports.any (fun e => 6 ≤ e.1) then [10] else []) ++
  (if portClash ports then [11] else []) ++
  (if natClash (b.ops.filterMap fun i => (infoOf i).acc) then [12] else []) ++
  (if landClash news || news.any (fun e => olds.contains e) then [13] else []) ++
  (if news.any (fun e => landLimit e.1.limitClass <
      ((news ++ olds).filter fun f => f.2 == e.2 && f.1.limitClass == e.1.limitClass).length) then [14] else []) ++
  (if (b.hdr.lend && !x.nest.isOpen) || (x.nest.isOpen && !x.nest.replay && 32 ≤ x.nest.pos) then [15] else []) ++
  (if b.ops.any (unaligned x) then [16] else [])

/-- The lowest of some codes. -/
def lowest : List Nat → Option Nat
  | [] => none
  | c :: l =>
    match lowest l with
    | some d => some (min c d)
    | none => some c

/-! ## Stalls (R33, R133 to R137, R406) -/

/-- The engine queue an operation enters, with its entries (R33, R224, R227, R268); mcfg and mfence enter none. -/
def engineQueue (i : Instr) : Option (Engine × Nat) :=
  match i with
  | .mcfg _ | .mfence _ => none
  | _ =>
    match (infoOf i).slot with
    | 7 => some (.m, 8)
    | 8 => some (.d, 8)
    | 9 => some (.o, 2)
    | 10 => some (.e, 16)
    | _ => none

/-- Does the operation add an entry to the store queue (R180, R184, R195)? -/
def storesTo : Instr → Bool
  | .kderiveSt _ => true
  | i => (infoOf i).slot == 4 && (infoOf i).hid.all (fun d => d.fixed) &&
    match i with
    | .sts8 _ | .sts16 _ | .sts32 _ | .sts64 _ | .stv _ | .stvt _ | .fence _ | .fenceRel _ | .fenceAcq _ | .bind _ | .unbind _ => false
    | _ => true

/-- The threshold of a wait (R133). -/
def wtThr (o : WT) : Nat := immU o.imm.toNat o.ext

/-- Is a 32-bit count at or past a threshold, with wraparound (R133, R134)? -/
def reached (gen thr : Nat) : Bool := decide (sub32 gen thr < 2 ^ 31)

/-- The engine group of waitb bits 4 to 7 that a command belongs to (R135). -/
def EngOp.waitGroup (e : EngOp) : Nat :=
  match e.instr with
  | .cpy _ | .cpyq _ | .gath _ | .scat _ | .gathK _ | .scatK _ => 4
  | .bget _ | .bwr _ | .bred _ | .gred _ | .gmld _ | .grpset _ => 5
  | .msend _ | .enq _ | .arrive _ | .tdec _ | .tspawn _ => 6
  | _ => if e.engine = .e then 7 else 8

/-- Does the condition of a waitb mask hold (R135)? -/
def Ctx.waitbHolds (x : Ctx) (mask : Nat) : Bool :=
  let none := fun (f : RegFile) => !(x.busy.any fun d => d.file == f)
  let idle := fun (g : Nat) => !(x.eng.any fun e => e.waitGroup == g)
  (List.range 9).all fun b => mask / 2 ^ b % 2 == 0 ||
    (match b with
     | 0 => none .s
     | 1 => none .a
     | 2 => none .v
     | 3 => none .k
     | n => idle n)

/-- Scope of a bundle's prefix; core scope without one (R138, R139). -/
def scopeOf (ops : List Instr) : Nat := ops.foldl (fun v i => match i with | .scope o => o.scope.toNat | _ => v) 0

/-- Are the earlier stores of a context performed at a scope, as a fence waits for (R333, R406): none is in flight, and at pkg scope or wider no
dirty byte of the cluster cache waits for a migration? -/
def State.storesDone (s : State) (c scope : Nat) : Bool :=
  !((s.ctx c).units.any fun u => u.isStore) &&
  !(decide (2 ≤ scope) && s.stuckAny (clusterOf c))

/-- Does a wait form let its bundle issue, at the bundle's scope (R133, R134, R406)? A malformed one does: it traps instead. -/
def State.waitHolds (s : State) (c scope : Nat) : Instr → Bool
  | .wait o =>
    let x := s.ctx c
    let h := x.handle o.h.toNat
    !h.isWaymark || reached (s.scratchRead (coreOf c) h.base 4) ((x.sreg o.s.toNat).toNat + wtThr o)
  | .waitc o =>
    let v := ((s.ctx c).sreg o.s.toNat).toNat
    if v / 2 ^ 60 = 0 && v / 2 ^ 14 = 0 then
      match s.fe.tasks.find? fun e => e.1 == v with
      | some (_, t) => t.state == .done || decide (t.counter ≤ wtThr o)
      | none => true
    else if v / 2 ^ 60 = 1 && v % 2 ^ 60 / 16 = 0 then reached (s.barrier (clusterOf c) (v % 16)).phase (wtThr o)
    else true
  | .waitb o => (s.ctx c).waitbHolds (wtThr o)
  | .waitt o => decide ((((s.ctx c).sreg o.s.toNat).toNat + wtThr o) % 2 ^ 64 ≤ s.cycles.toNat)
  | .fence _ => s.storesDone c scope && !((s.ctx c).units.any fun u => u.isLoad)
  | .fenceRel _ => s.storesDone c scope
  | .fenceAcq _ => !((s.ctx c).units.any fun u => u.isLoad)
  | _ => true

/-- Is it an access that its bundle makes at issue: one of scratch, of a waymark or of a wait object? -/
def accessNow : Instr → Bool
  | .lds8 _ | .lds16 _ | .lds32 _ | .lds64 _ | .ldv _ | .ldvt _ | .sts8 _ | .sts16 _ | .sts32 _ | .sts64 _ | .stv _ | .stvt _ => true
  | .wait _ | .waitc _ => true
  | _ => false

/-- Does a syllable of a bundle of some scope hold it back (R33, R136): a handle still pending from an earlier bundle, of a halloc too, which then
issues as the outcome allows (R194, log entry 98), an access of scratch for the loads of an earlier fence too (R406)?
One whose guard reads 0 does not (log entry 18). -/
def State.opStalls (s : State) (c scope : Nat) (i : Instr) : Bool :=
  let x := s.ctx c
  let f := (infoOf i)
  x.preg f.guard &&
  (f.reads.any x.isBusy || f.lands.any (fun e => x.isBusy e.1) || f.hid.any x.isBusy ||
   (f.hands ++ (blockHandle x i).toList).any (fun h => (x.handle h).pending) ||
   (s.craRegs c i).any (fun k => x.isBusy (rK k)) ||
   (match engineQueue i with
    | some (q, n) => decide (n ≤ (x.eng.filter fun o => o.engine == q).length)
    | none => false) ||
   (accessNow i && x.units.any fun u => u.op == .fence) ||
   !s.waitHolds c scope i)

/-- Does a bundle stall (R33): by one of its operations, the card of its job as its own store leaves it (R181, R261), by a store queue or scale
queue that it would overfill, or by a window access that its scratch accesses would overtake (R182)? -/
def State.stalls (s : State) (c : Nat) (b : Bundle) : Bool :=
  let x := s.ctx c
  let on := b.ops.filter fun i => x.preg (infoOf i).guard
  b.ops.any ((s.stored c b.ops).opStalls c (scopeOf b.ops)) ||
  decide (32 < (x.units.filter MemUnit.inStoreQueue).length + (on.filter storesTo).length) &&
    on.any storesTo ||
  decide (16 < x.scaleQ.length + (on.filter fun i => match i with | .ldsc _ => true | _ => false).length) ||
  x.overtakes c b.ops

/-- A stalled cycle of a context (R41, R273). -/
def Ctx.stalled (x : Ctx) (seg : Bool) : Ctx :=
  { x with csr := { x.csr with
      stalls := x.csr.stalls + 1
      segStalls := if seg then x.csr.segStalls + 1 else x.csr.segStalls } }

/-! ## The loop nest at commit (R110 to R113) -/

/-- Counters after the loop-end mark, and whether the body runs again (R110): `inner` holds the dimensions already at 0. -/
def loopStep (inner : List (Nat × Word32)) (lc : Store Word32) : List (Nat × Word32) → Store Word32 × Bool
  | [] => (lc, false)
  | (d, t) :: rest =>
    let v := Store.get 0 lc d - 1
    let lc := Store.set 0 lc d v
    if v ≠ 0 then (inner.foldl (fun m e => Store.set 0 m e.1 e.2) lc, true)
    else loopStep (inner ++ [(d, t)]) lc rest

/-- The nest closes and D is emptied; the counters keep their values. -/
def Ctx.closeNest (x : Ctx) : Ctx := { x with nest := Nest.reset }

/-- The loop-end mark acts: the counters step, and the body starts again, from the loop buffer, or the nest closes (R110, R113). -/
def Ctx.loopEnd (x : Ctx) : Ctx :=
  if !x.nest.isOpen then x
  else
    let (lc, again) := loopStep [] x.lc x.nest.dims
    let x := { x with lc := lc }
    if again then
      { x with
        pc := x.nest.body
        nest := { x.nest with
          pos := 0
          replay := true } }
    else x.closeNest

/-- A body bundle has issued its last repetition: the position moves on, and the bundle is copied where the buffer does not hold it: in a
first pass, and in the pass that goes on after a trap and the next one's start (R270, log entry 38). -/
def Ctx.bodyStep (x : Ctx) (b : Bundle) : Ctx :=
  if !x.nest.isOpen then x
  else { x with nest := { x.nest with
      pos := x.nest.pos + 1
      buffer := if Store.has x.nest.buffer x.nest.pos then x.nest.buffer else Store.put x.nest.buffer x.nest.pos (b.addr, b.words) } }

/-- The pc after the next bundle of a replaying body is the buffer's own. -/
def Ctx.replayPc (x : Ctx) : Ctx :=
  match x.nest.copied with
  | some (a, _) => { x with pc := a }
  | none => x

/-! ## Commit (R26, R28, R118) -/

/-- The context of a bundle is set to be read, and nothing is recorded yet. -/
def State.begin (s : State) (c : Nat) (b : Bundle) : State :=
  { s with
    cur := c
    issue := { Issue.reset with
      active := true
      pre := s.ctx c
      after := b.after
      scope := scopeOf b.ops } }

/-- Nothing is being issued. -/
def State.idle (s : State) : State := { s with issue := Issue.reset }

/-- What every bundle that commits does to its context: flags, one tick, remembered syllables (R23, R26, R28, R50, R118). -/
def Ctx.commit (x : Ctx) (b : Bundle) (i : Issue) : Ctx :=
  let y := x.tick
  { y with
    keep := b.keep
    csr := { y.csr with
      fpstat := fpstatAfter y.csr.fpstat i.flags i.clear
      ticks := y.csr.ticks + 1 } }

/-- Where the context goes on: a further repetition, a transfer, the loop-end mark, or the next bundle (R49, R103, R110, R112). -/
def Ctx.advance (x : Ctx) (b : Bundle) (i : Issue) : Ctx :=
  let left := (if x.repLeft = 0 then b.hdr.rep.toNat + 1 else x.repLeft) - 1
  if left ≠ 0 then { x with
    repLeft := left
    pc := b.addr }
  else
    let x := { x with
      repLeft := 0
      pc := b.after }
    match i.target with
    | some t => { (if i.pre.nest.isOpen then x.closeNest else x) with pc := t }
    | none =>
      if !i.pre.nest.isOpen then x
      else if b.hdr.lend then (x.bodyStep b).loopEnd.replayPc
      else (x.bodyStep b).replayPc

/-- What a skip from an address up to another reads of segment n: where it is not resident, its source, as a copy would (R387, R457; log entry 17). -/
def State.skipSegment (s : State) (c lo hi n : Nat) : State :=
  let a := max lo (0x10000 * n)
  if ((s.core (coreOf c)).resident (s.ctx c).code n).isSome then s
  else match s.segEntry (s.ctx c).code n with
    | some e => s.codeRead (e.src + a % 0x10000) (min hi (0x10000 * (n + 1)) - a)
    | none => s

/-- What a skip from an address up to another reads. -/
def State.skipRead (s : State) (c lo hi : Nat) : State :=
  ((List.range ((hi - 1) / 0x10000 + 1)).filter fun n => decide (lo / 0x10000 ≤ n)).foldl (fun t n => t.skipSegment c lo hi n) s

/-- The skip over a body that runs zero times (R111): every counter is 0 and the nest closes, or a trap of the skip is taken. That trap leaves the nest open
with no body bundle issued, so after a RESUME the body goes on as from its first bundle (log entry 103). -/
def State.skip (s : State) (c : Nat) : State :=
  let x := s.ctx c
  let size := (s.codeOf x).codeSize
  match s.skipBody c size (size / 4 + 1) 0 x.pc with
  | .at_ pc => (s.skipRead c x.pc pc).setCtx c { x.closeNest with
      pc := pc
      lc := x.nest.dims.foldl (fun m e => Store.set 0 m e.1 0) x.lc }
  | .illegal a code => ((s.skipRead c x.pc (a + 4)).setCtx c { x with pc := a }).freeze c (plainCause 0x10 code 0) 0
  | .fault a => ((s.skipRead c x.pc a).setCtx c { x with pc := a }).freeze c (plainCause cSeg 1 0) 0

/-- retire commits: the context enters RETIRING; landings, nest, snapshot and scale queue go (R122, R177). The binding table and the marks of failed
streams stay until the context is FREE (R192, R322). Its pc stays the retire bundle's own (log entry 19). -/
def Ctx.retired (x : Ctx) (b : Bundle) : Ctx :=
  { x with
    state := .retiring
    queue := []
    nest := Nest.reset
    snapshot := none
    scaleQ := []
    scaleData := x.scaleData.filter fun e => x.eng.any fun o => o.scales.any fun n => n.1 == e.1
    optTrap := none
    repLeft := 0
    pc := b.addr }

/-- The ALSO bits of the user causes a bundle raised, less the one taken (R309): software, arithmetic, rescale. -/
def alsoBits (i : Issue) (arith : Nat) (taken : Nat) : Nat :=
  (if i.software.isSome && taken ≠ 1 then 1 else 0) + (if arith ≠ 0 && taken ≠ 2 then 2 else 0) +
  (if i.rescale.isSome && taken ≠ 3 then 4 else 0)

/-- A user cause of a bundle that issued in HANDLER state is UNHANDLED_USER; otherwise the one trap operation takes it (R305, R311). -/
def State.userTrap (s : State) (c : Nat) (wasHandler : Bool) (p : PendCause) (also : Nat) : State :=
  if wasHandler then s.freeze c { p with
    cause := 0x18
    sub := p.cause } also
  else s.takeTrap c p also

/-- The trap at the boundary after a committed bundle (R309, cases 3 and 4, then R310). -/
def State.afterCommit (s : State) (c : Nat) (i : Issue) : State :=
  let x := s.ctx c
  let wasHandler := i.pre.state == .handler
  let arith := arithRaised i.pre.csr.fpctl i.flags
  let waiting := x.pending ++ (match i.sysc with
    | some code => [plainCause 0x17 0 code]
    | none => [])
  match waiting with
  | p :: rest => (s.setCtx c { x with pending := rest }).freeze c p (alsoBits i arith 0)
  | [] =>
    match i.rescale with
    | some v => s.userTrap c wasHandler (plainCause 3 0 v) (alsoBits i arith 3)
    | none =>
      if arith ≠ 0 then s.userTrap c wasHandler (plainCause 2 0 (BitVec.ofNat 64 i.flags)) (alsoBits i arith 2)
      else match i.software with
        | some code => s.userTrap c wasHandler (plainCause 1 0 code) 0
        | none => s.boundary c

/-- How a bundle ends beside its effects: 0 plainly, 1 rft, 2 retire, 3 yield (R121 to R123). -/
def State.ending (s : State) (c : Nat) (b : Bundle) (i : Issue) : State :=
  match i.ending with
  | 1 => s.modCtx c Ctx.returnFromTrap
  | 2 => s.modCtx c fun x => x.retired b
  | 3 => s.modCtx c fun x => { x with yieldUntil := s.cycles.toNat + 64 }
  | _ => s

/-- The context goes on at the next bundle in memory, past padding (R45, R308). -/
def State.toBundle (s : State) (c : Nat) : State := s.modCtx c fun x => { x with pc := s.nextBundle c }

/-- A bundle commits (R26, R28, R304): its context ticks, its stores go out, the marks act, and a trap after commit is taken. Where the skip
of a loop traps, that trap is taken and the bundle's own user causes are not (log entry 78). -/
def State.commit (s : State) (c : Nat) (b : Bundle) : State :=
  let i := s.issue
  let first := i.pre.repLeft = 0 ∨ i.pre.repLeft = b.hdr.rep.toNat + 1
  let s := s.idle.modCtx c fun x => (x.commit b i).advance b i
  let s := if b.hdr.segb && decide first then s.boundaryMark c b.addr else s
  let s := s.drain c
  let s := if i.skip then s.skip c else s
  let s := if i.target.isNone && (s.ctx c).state != .frozen then s.toBundle c else s
  let s := s.ending c b i
  if i.ending = 2 then
    let x := s.ctx c
    match x.pending with
    | p :: rest => (s.setCtx c { x with pending := rest }).freeze c p 0
    | [] => s
  else if (s.ctx c).state = .frozen then s
  else s.afterCommit c i

/-- The end of an issue: an issue check that failed takes its trap with no effect of the bundle, otherwise the bundle commits
(R309). -/
def State.finish (s0 : State) (c : Nat) (b : Bundle) (s : State) : State :=
  match s.issue.raised with
  | some p => s0.takeTrap c p 0
  | none => s.commit c b

/-- Issue a bundle: an illegal one traps at decode, one that must wait stalls, otherwise its operations run by `inner` and it ends
(R33, R64, R309). -/
def issueWith (inner : State → Host.Outcome State Fault Refusal) (c : Nat) (b : Bundle) (s : State) : Host.Outcome State Fault Refusal :=
  match lowest (s.illegalCodes (s.ctx c) b) with
  | some code => .next (s.freeze c (plainCause 0x10 code 0) 0)
  | none =>
    if s.stalls c b then .next (s.modCtx c fun x => x.stalled false)
    else match inner (s.begin c b) with
      | .next t => .next (s.finish c b t)
      | .fault r => .fault r
      | .refused r => .refused r

/-- The outcome of a step. -/
abbrev Out := Host.Outcome State Fault Refusal

/-- Run operations one after another. -/
def runOps (run : Instr → State → Host.Outcome State Fault Refusal) : List Instr → State → Host.Outcome State Fault Refusal
  | [], s => .next s
  | i :: l, s =>
    match run i s with
    | .next t => runOps run l t
    | .fault r => .fault r
    | .refused r => .refused r

/-- A syllable whose guard reads 0 has no effect (R56). -/
def guarded (i : Instr) (body : State → State) (s : State) : State := if s.pre.preg (infoOf i).guard then body s else s

/-- The meaning of a syllable with a given effect: inside a bundle that is being issued, its slot's part of it; otherwise a bundle of
its own in the context at hand. -/
def issueOp (i : Instr) (body : State → State) (s : State) : Host.Outcome State Fault Refusal :=
  if s.issue.active then .next (guarded i body s)
  else issueWith (fun t => .next (guarded i body t)) s.cur (soloBundle (s.ctx s.cur) i) s

/-- A context enters the segment of the bundle it issues: its core notes when (R272). -/
def State.enterSegment (s : State) (c a : Nat) : State :=
  let g := ((s.ctx c).code, a / 0x10000)
  if (s.ctx c).seg = some g then s
  else (s.modCtx c fun x => { x with seg := some g }).modCore (coreOf c) fun k => { k with
    entries := (g, s.cycles.toNat) :: k.entries.filter fun e => !(e.1 == g) }

/-- Issue the next bundle of a context (R47, R273, R310): `run` gives the meaning of each operation. -/
noncomputable def issueNext (run : Instr → State → Host.Outcome State Fault Refusal) (c : Nat) (s : State) : Host.Outcome State Fault Refusal :=
  match s.fetch c with
  | .illegal a code => .next ((s.modCtx c fun x => { x with pc := a }).freeze c (plainCause 0x10 code 0) 0)
  | .fault a => .next ((s.modCtx c fun x => { x with pc := a }).freeze c (plainCause cSeg 1 0) 0)
  | .miss _ n => .next ((s.modCtx c fun x => x.stalled true).startMiss c n)
  | .bundle a h syls after words =>
    let b := bundleOf (s.ctx c) a after h syls words
    issueWith (runOps run b.ops) c b ((s.enterSegment c a).modCtx c fun x => { x with pc := a })

end Sys2Proof.Machine
end

