-- ==== Sys2Proof/Machine/Control.lean ====
section
/-! DEFINITION. The C, W and X slots: transfers, loops, formats, CSRs, predicates, traps, waits and the scope prefix (R102 to R123, R133 to
R139). -/

namespace Sys2Proof.Machine

/-! ## Control transfers (R102 to R106) -/

/-- base: the bundle's address with bits [3:0] cleared. -/
def State.base (s : State) : Nat := s.pre.pc / 16 * 16
/-- next: the 16-byte-aligned address past the bundle. -/
def State.nextAddr (s : State) : Nat := ceilDiv s.issue.after 16 * 16

/-- Transfer to an address; one outside the code section raises the segment fault (R105). -/
def State.transfer (s : State) (t : Int) : State :=
  if t < 0 ∨ ((s.codeOf s.pre).codeSize : Int) ≤ t then s.fail cSeg 0 0
  else { s with issue := { s.issue with target := some t.toNat } }

/-- The target of a branch: base plus 16 times the signed offset of `n` bits, or of the extension word. -/
def State.branchTarget (s : State) (n f : Nat) (ext : Option Word32) : Int := (s.base : Int) + 16 * immS n f ext

/-- lk := next, after 1 tick. -/
def State.link (s : State) : State := s.landTo rLk (.fixed 1) (BitVec.ofNat 1024 s.nextAddr)

/-- The transfer of jmp and jmp.l: sN[31:0], where sN[63:32] is zero (R105). -/
def State.jump (s : State) (r : BitVec 5) : State :=
  let v := (s.pre.sreg r.toNat).toNat
  if 2 ^ 32 ≤ v then s.fail cSeg 0 0 else s.transfer v

/-- br. -/
def execBr (o : BO) (s : State) : Out := issueOp (.br o) (fun s => s.transfer (s.branchTarget 20 o.off.toNat o.ext)) s
/-- brp: taken when pN equals sense, as pN stands at issue (R104). -/
def execBrp (o : BP) (s : State) : Out :=
  issueOp (.brp o) (fun s =>
    if s.pre.preg o.p.toNat = decide (o.sense = 1) then s.transfer (s.branchTarget 16 o.off.toNat o.ext) else s) s
/-- brl. -/
def execBrl (o : BO) (s : State) : Out := issueOp (.brl o) (fun s => (s.transfer (s.branchTarget 20 o.off.toNat o.ext)).link) s
/-- ret. -/
def execRet (o : NO) (s : State) : Out := issueOp (.ret o) (fun s => s.transfer s.pre.lk.toNat) s
/-- jmp. -/
def execJmp (o : RG) (s : State) : Out := issueOp (.jmp o) (fun s => s.jump o.s) s
/-- jmp.l. -/
def execJmpL (o : RG) (s : State) : Out := issueOp (.jmpL o) (fun s => (s.jump o.s).link) s
/-- nop. -/
def execNop (o : NO) (s : State) : Out := issueOp (.nop o) (fun s => s) s

/-! ## Loops (R107, R108, R111) -/

/-- The trip count of loop and loopn: (sM[31:0] + imm) mod 2^32. -/
def State.trips (s : State) (o : LP) : Word32 :=
  (s.pre.sreg o.s.toNat).setWidth 32 + BitVec.ofNat 32 (immU o.imm.toNat o.ext)

/-- Dimension N joins D with its trip count. -/
def State.declare (s : State) (o : LP) : State :=
  s.upd fun x => { x with nest := { x.nest with dims := Store.put x.nest.dims o.lc.toNat (s.trips o) } }

/-- loopn. -/
def execLoopn (o : LP) (s : State) : Out := issueOp (.loopn o) (fun s => s.declare o) s

/-- The nest opens with the next bundle as the start of its body: the counters land after 1 tick; the skip is to follow where a trip count is 0 (R108, R111). -/
def State.openNest (s : State) : State :=
  let dims := s.now.nest.dims
  let s := dims.foldl (fun (t : State) d => t.landTo { file := .lc, idx := d.1 } (.fixed 1) (vOf d.2)) s
  let s := s.upd fun x => { x with nest := { x.nest with
    isOpen := true
    body := s.bundleFrom s.cur s.issue.after
    pos := 0
    buffer := []
    replay := false } }
  { s with issue := { s.issue with skip := dims.any fun d => d.2 == 0 } }

/-- loop. -/
def execLoop (o : LP) (s : State) : Out := issueOp (.loop o) (fun s => (s.declare o).openNest) s

/-! ## Formats, CSRs, predicates (R116 to R119) -/

/-- fmtw: lands after 4 ticks. -/
def execFmtw (o : FW) (s : State) : Out :=
  issueOp (.fmtw o) (fun s => s.landTo (rFmt o.fmt) (.fixed 4)
    (match o.ext with
     | some e => vOf e
     | none => vOf ((s.pre.sreg o.s.toNat).setWidth 32))) s

/-- Word k of a range register (R380). -/
def Range.csr (r : Range) (k : Nat) : Word :=
  match k with
  | 0 => BitVec.ofNat 64 (r.va * 65536)
  | 1 => BitVec.ofNat 64 r.len
  | 2 => BitVec.ofNat 64 (r.ia * 65536)
  | _ => BitVec.ofNat 64 (r.asid * 65536 + 2 * r.w.toNat + r.r.toNat)

/-- The value of a CSR (R21, R25). -/
def State.csrRead (s : State) (x : Ctx) (n : Nat) : Word :=
  match n with
  | 0x000 => BitVec.ofNat 64 s.cur
  | 0x001 => x.csr.ticks
  | 0x002 => s.cycles
  | 0x003 => x.csr.stalls
  | 0x004 => x.csr.segStalls
  | 0x008 => x.csr.prio
  | 0x010 => x.csr.fpstat
  | 0x011 => x.csr.fpctl
  | 0x012 => x.csr.srseed
  | 0x013 => x.csr.stepid
  | 0x018 => x.csr.stepL0
  | 0x019 => x.csr.stepL1
  | 0x01A => x.csr.stepSt
  | 0x01B => x.csr.stepM
  | 0x01C => x.csr.stepD
  | 0x020 => x.csr.trapCause
  | 0x021 => x.csr.trapPc
  | 0x022 => x.csr.trapVal
  | 0x023 => x.csr.trapHandler
  | _ => (Store.get Range.reset x.ranges ((n - 0x100) / 4)).csr (n % 4)

/-- The low 32 bits: the fields of STEP registers and TRAP_PC (R21, R308). -/
def low32 (v : Word) : Word := v &&& 0xFFFFFFFF

/-- Write a CSR under its access code (R11, R12, R21, R23, R118, R308); reserved fields keep 0. -/
def State.csrWrite (s : State) (n : Nat) (v : Word) : State :=
  let put := fun (f : Csrs → Csrs) => s.upd fun x => { x with csr := f x.csr }
  match n with
  | 0x010 => { s with issue := { s.issue with clear := s.issue.clear ||| v } }
  | 0x011 => put fun c => { c with fpctl := v &&& fpctlMask }
  | 0x012 => put fun c => { c with srseed := v }
  | 0x018 => put fun c => { c with stepL0 := low32 v }
  | 0x019 => put fun c => { c with stepL1 := low32 v }
  | 0x01A => put fun c => { c with stepSt := low32 v }
  | 0x01B => put fun c => { c with stepM := low32 v }
  | 0x01C => put fun c => { c with stepD := low32 v }
  | 0x021 => s.upd fun x => { x with
      csr := { x.csr with trapPc := low32 v }
      pcReplaced := true }
  | 0x023 => put fun c => { c with trapHandler := v &&& 0xFFFFFFF1 }
  | _ => s

/-- csrr: the value at issue, under class 0. -/
def execCsrr (o : CS) (s : State) : Out :=
  issueOp (.csrr o) (fun s => s.landW (rS o.s) (.cls 0) (s.csrRead s.pre o.num.toNat)) s
/-- csrw. -/
def execCsrw (o : CS) (s : State) : Out :=
  issueOp (.csrw o) (fun s => s.csrWrite o.num.toNat (s.pre.sreg o.s.toNat)) s
/-- csrw.i: the immediate sign-extended. -/
def execCsrwI (o : CS) (s : State) : Out :=
  issueOp (.csrwI o) (fun s => s.csrWrite o.num.toNat (wordOf (immS 1 0 o.ext))) s

/-- A predicate result, after 1 tick. -/
def State.landP (s : State) (pd : BitVec 3) (l : Lat) (v : Bool) : State := s.landTo (rP pd) l (if v then 1 else 0)

/-- The effect of a predicate operation. -/
def predOp (o : PL) (f : Bool → Bool → Bool) (s : State) : State :=
  s.landP o.pd (.fixed 1) (f (s.pre.preg o.pa.toNat) (s.pre.preg o.pb.toNat))

/-- pand. -/
def execPand (o : PL) (s : State) : Out := issueOp (.pand o) (predOp o fun a b => a && b) s
/-- por. -/
def execPor (o : PL) (s : State) : Out := issueOp (.por o) (predOp o fun a b => a || b) s
/-- pxor. -/
def execPxor (o : PL) (s : State) : Out := issueOp (.pxor o) (predOp o fun a b => a != b) s
/-- pnot. -/
def execPnot (o : PL) (s : State) : Out := issueOp (.pnot o) (predOp o fun a _ => !a) s

/-! ## Traps, retire, yield (R120 to R123) -/

/-- trap: SOFTWARE after the bundle commits. -/
def execTrapC (o : TC) (s : State) : Out :=
  issueOp (.trapC o) (fun s => { s with issue := { s.issue with software := some (o.code.setWidth 64) } }) s
/-- sysc: SUPERVISOR after the bundle commits. -/
def execSysc (o : TC) (s : State) : Out :=
  issueOp (.sysc o) (fun s => { s with issue := { s.issue with sysc := some (o.code.setWidth 64) } }) s
/-- How the bundle ends. -/
def State.endBy (s : State) (n : Nat) : State := { s with issue := { s.issue with ending := n } }
/-- rft. -/
def execRft (o : NO) (s : State) : Out := issueOp (.rft o) (fun s => s.endBy 1) s
/-- retire. -/
def execRetire (o : NO) (s : State) : Out := issueOp (.retire o) (fun s => s.endBy 2) s
/-- yield. -/
def execYield (o : NO) (s : State) : Out := issueOp (.yield o) (fun s => s.endBy 3) s

/-! ## Waits and the prefix (R133 to R139) -/

/-- The acquire of a satisfied wait at the bundle's scope (R137). -/
def State.acquireAt (s : State) (kind at_ : Nat) : State :=
  s.acquire s.cur s.issue.scope fun l => s.pre.lineBound { kind := kind, at_ := at_, obj := 0 } l

/-- wait: its condition gates the bundle (Machine/Issue.lean); what is left is its trap, or its acquire. -/
def execWait (o : WT) (s : State) : Out :=
  issueOp (.wait o) (fun s =>
    if (s.pre.handle o.h.toNat).isWaymark then s.acquireAt 1 o.h.toNat else s.fail cOperand 11 0) s
/-- waitc: on a task it acquires every line, as what a task's completion carries needs no binding (R401, R409); on a barrier those bound to it. -/
def execWaitc (o : WT) (s : State) : Out :=
  issueOp (.waitc o) (fun s =>
    let v := (s.pre.sreg o.s.toNat).toNat
    if v / 2 ^ 14 = 0 then s.acquire s.cur s.issue.scope fun _ => true
    else if v / 2 ^ 60 = 1 ∧ v % 2 ^ 60 / 16 = 0 then s.acquireAt 2 (v % 16)
    else s.fail cOperand 11 0) s
/-- waitb: acquires nothing (R137). -/
def execWaitb (o : WT) (s : State) : Out := issueOp (.waitb o) (fun s => s) s
/-- waitt: acquires nothing. -/
def execWaitt (o : WT) (s : State) : Out := issueOp (.waitt o) (fun s => s) s
/-- scope: the scope of the bundle's memory operations and of its acquire. -/
def execScope (o : SP) (s : State) : Out :=
  issueOp (.scope o) (fun s => { s with issue := { s.issue with scope := o.scope.toNat } }) s

end Sys2Proof.Machine
end

