-- ==== Sys2Proof/Machine/Scalar.lean ====
section
/-! DEFINITION. The S slot: scalar integer, crossing and FP32 instructions (R124 to R132). -/

namespace Sys2Proof.Machine

/-! ## Integer results -/

/-- High 64 bits of a signed product. -/
def mulHigh (a b : Word) : Word := BitVec.ofInt 64 (a.toInt * b.toInt / 2 ^ 64)
/-- High 64 bits of an unsigned product. -/
def mulHighU (a b : Word) : Word := BitVec.ofNat 64 (a.toNat * b.toNat / 2 ^ 64)
/-- Leading zeros of a number below 2^n. -/
def clzN : Nat → Nat → Nat
  | 0, _ => 0
  | n + 1, x => if 2 ^ n ≤ x then 0 else 1 + clzN n x
/-- Trailing zeros, `n` at most. -/
def ctzN : Nat → Nat → Nat
  | 0, _ => 0
  | n + 1, x => if x % 2 = 1 then 0 else 1 + ctzN n (x / 2)

/-- Signed division of R125, truncating, at any width. -/
def divS {n : Nat} (a b : BitVec n) : BitVec n := if b = 0 then BitVec.allOnes n else BitVec.ofInt n (a.toInt.tdiv b.toInt)
/-- Unsigned division of R125. -/
def divU {n : Nat} (a b : BitVec n) : BitVec n := if b = 0 then BitVec.allOnes n else BitVec.ofNat n (a.toNat / b.toNat)
/-- Signed remainder of R125. -/
def remS {n : Nat} (a b : BitVec n) : BitVec n := if b = 0 then a else BitVec.ofInt n (a.toInt.tmod b.toInt)
/-- Unsigned remainder of R125. -/
def remU {n : Nat} (a b : BitVec n) : BitVec n := if b = 0 then a else BitVec.ofNat n (a.toNat % b.toNat)

/-- An operation on the low 32 bits, its result sign-extended (R126). -/
def onLow (f : Word32 → Word32 → Word32) (a b : Word) : Word := (f (a.setWidth 32) (b.setWidth 32)).signExtend 64

/-- The integer conditions of R128, on values of `w` bits. -/
def icond (code w a b : Nat) : Bool :=
  match code with
  | 0 => a == b
  | 1 => a != b
  | 2 => decide (signedN a w < signedN b w)
  | 3 => decide (signedN b w ≤ signedN a w)
  | 4 => decide (a < b)
  | 5 => decide (b ≤ a)
  | 6 => decide (signedN b w < signedN a w)
  | 7 => decide (signedN a w ≤ signedN b w)
  | 8 => decide (b < a)
  | _ => decide (a ≤ b)

/-- The effect of a two-source form: f of sa and sb lands in sd. -/
def srOp (o : SR) (l : Lat) (f : Word → Word → Word) (s : State) : State :=
  s.landW (rS o.d) l (f (s.pre.sreg o.a.toNat) (s.pre.sreg o.b.toNat))

/-- A hidden result computed at issue (R125). -/
def State.hidden (s : State) (d : Dest) (v : Nat) : State :=
  s.addUnit { id := 0, slot := 1, op := .value, target := .none, size := 8, data := v, data2 := 0,
              dest := if d.fixed then none else some d, dest2 := none, order := 0, scope := 0, stepTag := 0, suspended := false, framed := false, taken := none }

/-- The effect of a division form: its hidden result, and DZ for a zero divisor (`low`: of 32 bits). -/
def divOp (o : SR) (low : Bool) (f : Word → Word → Word) (s : State) : State :=
  let b := s.pre.sreg o.b.toNat
  let zero := if low then b.setWidth 32 == 0#32 else b == 0
  let s := if zero then s.flag flagDZ else s
  s.hidden (rS o.d) (f (s.pre.sreg o.a.toNat) b).toNat

/-! ## Register forms (R124 to R126) -/

/-- add. -/
def execAdd (o : SR) (s : State) : Out := issueOp (.add o) (srOp o (.cls 0) fun a b => a + b) s
/-- sub. -/
def execSub (o : SR) (s : State) : Out := issueOp (.sub o) (srOp o (.cls 0) fun a b => a - b) s
/-- mul. -/
def execMul (o : SR) (s : State) : Out := issueOp (.mul o) (srOp o (.cls 1) fun a b => a * b) s
/-- mulh. -/
def execMulh (o : SR) (s : State) : Out := issueOp (.mulh o) (srOp o (.cls 1) mulHigh) s
/-- mulhu. -/
def execMulhu (o : SR) (s : State) : Out := issueOp (.mulhu o) (srOp o (.cls 1) mulHighU) s
/-- div. -/
def execDiv (o : SR) (s : State) : Out := issueOp (.div_ o) (divOp o false divS) s
/-- divu. -/
def execDivu (o : SR) (s : State) : Out := issueOp (.divu o) (divOp o false divU) s
/-- rem. -/
def execRem (o : SR) (s : State) : Out := issueOp (.rem o) (divOp o false remS) s
/-- remu. -/
def execRemu (o : SR) (s : State) : Out := issueOp (.remu o) (divOp o false remU) s
/-- and. -/
def execAnd (o : SR) (s : State) : Out := issueOp (.and_ o) (srOp o (.cls 0) fun a b => a &&& b) s
/-- or. -/
def execOr (o : SR) (s : State) : Out := issueOp (.or_ o) (srOp o (.cls 0) fun a b => a ||| b) s
/-- xor. -/
def execXor (o : SR) (s : State) : Out := issueOp (.xor_ o) (srOp o (.cls 0) fun a b => a ^^^ b) s
/-- andn. -/
def execAndn (o : SR) (s : State) : Out := issueOp (.andn o) (srOp o (.cls 0) fun a b => a &&& ~~~b) s
/-- shl. -/
def execShl (o : SR) (s : State) : Out := issueOp (.shl o) (srOp o (.cls 0) fun a b => a <<< (b.toNat % 64)) s
/-- shr. -/
def execShr (o : SR) (s : State) : Out := issueOp (.shr o) (srOp o (.cls 0) fun a b => a >>> (b.toNat % 64)) s
/-- sra. -/
def execSra (o : SR) (s : State) : Out := issueOp (.sra o) (srOp o (.cls 0) fun a b => a.sshiftRight (b.toNat % 64)) s
/-- rol. -/
def execRol (o : SR) (s : State) : Out := issueOp (.rol o) (srOp o (.cls 0) fun a b => a.rotateLeft (b.toNat % 64)) s
/-- clz. -/
def execClz (o : SR) (s : State) : Out := issueOp (.clz o) (srOp o (.cls 0) fun a _ => BitVec.ofNat 64 (clzN 64 a.toNat)) s
/-- ctz. -/
def execCtz (o : SR) (s : State) : Out := issueOp (.ctz o) (srOp o (.cls 0) fun a _ => BitVec.ofNat 64 (ctzN 64 a.toNat)) s
/-- popc. -/
def execPopc (o : SR) (s : State) : Out := issueOp (.popc o) (srOp o (.cls 0) fun a _ => BitVec.ofNat 64 (popcountN 64 a.toNat)) s
/-- min. -/
def execMin (o : SR) (s : State) : Out := issueOp (.min_ o) (srOp o (.cls 0) fun a b => if b.slt a then b else a) s
/-- max. -/
def execMax (o : SR) (s : State) : Out := issueOp (.max_ o) (srOp o (.cls 0) fun a b => if a.slt b then b else a) s
/-- minu. -/
def execMinu (o : SR) (s : State) : Out := issueOp (.minu o) (srOp o (.cls 0) fun a b => if b.ult a then b else a) s
/-- maxu. -/
def execMaxu (o : SR) (s : State) : Out := issueOp (.maxu o) (srOp o (.cls 0) fun a b => if a.ult b then b else a) s
/-- sel: pN ? a : b. -/
def execSel (o : SR) (s : State) : Out :=
  issueOp (.sel o) (fun s => srOp o (.cls 0) (fun a b => if s.pre.preg (o.c.toNat % 8) then a else b) s) s
/-- cmp. -/
def execCmp (o : SR) (s : State) : Out :=
  issueOp (.cmp o) (fun s => s.landP (o.d.setWidth 3) (.cls 0)
    (icond o.c.toNat 64 (s.pre.sreg o.a.toNat).toNat (s.pre.sreg o.b.toNat).toNat)) s
/-- add.w. -/
def execAddW (o : SR) (s : State) : Out := issueOp (.addW o) (srOp o (.cls 0) (onLow fun a b => a + b)) s
/-- sub.w. -/
def execSubW (o : SR) (s : State) : Out := issueOp (.subW o) (srOp o (.cls 0) (onLow fun a b => a - b)) s
/-- mul.w. -/
def execMulW (o : SR) (s : State) : Out := issueOp (.mulW o) (srOp o (.cls 1) (onLow fun a b => a * b)) s
/-- div.w. -/
def execDivW (o : SR) (s : State) : Out := issueOp (.divW o) (divOp o true (onLow divS)) s
/-- divu.w. -/
def execDivuW (o : SR) (s : State) : Out := issueOp (.divuW o) (divOp o true (onLow divU)) s
/-- rem.w. -/
def execRemW (o : SR) (s : State) : Out := issueOp (.remW o) (divOp o true (onLow remS)) s
/-- remu.w. -/
def execRemuW (o : SR) (s : State) : Out := issueOp (.remuW o) (divOp o true (onLow remU)) s
/-- shl.w. -/
def execShlW (o : SR) (s : State) : Out := issueOp (.shlW o) (srOp o (.cls 0) (onLow fun a b => a <<< (b.toNat % 32))) s
/-- shr.w. -/
def execShrW (o : SR) (s : State) : Out := issueOp (.shrW o) (srOp o (.cls 0) (onLow fun a b => a >>> (b.toNat % 32))) s
/-- sra.w. -/
def execSraW (o : SR) (s : State) : Out := issueOp (.sraW o) (srOp o (.cls 0) (onLow fun a b => a.sshiftRight (b.toNat % 32))) s

/-! ## Immediate forms (R127 to R129) -/

/-- The immediate of SI, sign-extended. -/
def SI.value (o : SI) : Word := wordOf (immS 10 o.imm.toNat o.ext)

/-- The effect of an immediate form. -/
def siOp (o : SI) (f : Word → Word → Word) (s : State) : State :=
  s.landW (rS o.d) (.cls 0) (f (s.pre.sreg o.a.toNat) (SI.value o))

/-- addi. -/
def execAddi (o : SI) (s : State) : Out := issueOp (.addi o) (siOp o fun a b => a + b) s
/-- and.i. -/
def execAndI (o : SI) (s : State) : Out := issueOp (.andI o) (siOp o fun a b => a &&& b) s
/-- or.i. -/
def execOrI (o : SI) (s : State) : Out := issueOp (.orI o) (siOp o fun a b => a ||| b) s
/-- xor.i. -/
def execXorI (o : SI) (s : State) : Out := issueOp (.xorI o) (siOp o fun a b => a ^^^ b) s
/-- shl.i. -/
def execShlI (o : SI) (s : State) : Out := issueOp (.shlI o) (siOp o fun a b => a <<< (b.toNat % 64)) s
/-- shr.i. -/
def execShrI (o : SI) (s : State) : Out := issueOp (.shrI o) (siOp o fun a b => a >>> (b.toNat % 64)) s
/-- sra.i. -/
def execSraI (o : SI) (s : State) : Out := issueOp (.sraI o) (siOp o fun a b => a.sshiftRight (b.toNat % 64)) s
/-- rol.i. -/
def execRolI (o : SI) (s : State) : Out := issueOp (.rolI o) (siOp o fun a b => a.rotateLeft (b.toNat % 64)) s
/-- cmp.i. -/
def execCmpI (o : SC) (s : State) : Out :=
  issueOp (.cmpI o) (fun s => s.landP o.pd (.cls 0)
    (icond o.cond.toNat 64 (s.pre.sreg o.a.toNat).toNat (wordOf (immS 5 o.imm.toNat o.ext)).toNat)) s
/-- movi. -/
def execMovi (o : MV) (s : State) : Out :=
  issueOp (.movi o) (fun s => s.landW (rS o.d) (.cls 0) (wordOf (immS 15 o.imm.toNat o.ext))) s
/-- movhi: the upper half replaced. -/
def execMovhi (o : MV) (s : State) : Out :=
  issueOp (.movhi o) (fun s => s.landW (rS o.d) (.cls 0)
    (BitVec.ofInt 32 (immS 15 o.imm.toNat o.ext) ++ (s.pre.sreg o.d.toNat).setWidth 32)) s

/-! ## Crossing (R19, R130) -/

/-- xmov.sl. -/
def execXmovSl (o : XV) (s : State) : Out :=
  issueOp (.xmovSl o) (fun s => s.landW (rA o.d.toNat) (.fixed 2) (s.pre.sreg o.a.toNat)) s
/-- xmov.ls. -/
def execXmovLs (o : XV) (s : State) : Out :=
  issueOp (.xmovLs o) (fun s => s.landW (rS (o.d.setWidth 5)) (.fixed 2) (s.pre.areg o.a.toNat)) s
/-- Every w-bit element of a vector register set to one value. -/
def splat (w v : Nat) : VWord :=
  BitVec.ofNat 1024 ((List.range (1024 / w)).foldl (fun a i => a + (v % 2 ^ w) * 2 ^ (w * i)) 0)
/-- xmov.sv. -/
def execXmovSv (o : XV) (s : State) : Out :=
  issueOp (.xmovSv o) (fun s => s.landTo (rV o.d) (.fixed 3) (splat (8 * 2 ^ o.sel.toNat) (s.pre.sreg o.a.toNat).toNat)) s
/-- xmov.vs. -/
def execXmovVs (o : XV) (s : State) : Out :=
  issueOp (.xmovVs o) (fun s => s.landW (rS (o.d.setWidth 5)) (.fixed 3) ((s.pre.vreg o.a.toNat).extractLsb' (64 * o.sel.toNat) 64)) s

/-! ## Scalar FP32 (R131, R132) -/

/-- The FP32 value of s[31:0]. -/
def Ctx.sfp (x : Ctx) (r : BitVec 5) : FVal := decodeVal fp32 ((x.sreg r.toNat).toNat % 2 ^ 32)

/-- An FP32 result lands under class 7, its flags are raised. -/
def State.landFp (s : State) (d : BitVec 5) (r : Rounded) : State :=
  (s.flag r.flags).landW (rS d) (.cls 7) (BitVec.ofNat 64 r.bits)

/-- fadd. -/
def execFadd (o : SR) (s : State) : Out :=
  issueOp (.fadd o) (fun s =>
    s.landFp o.d (roundNV fp32 (FVal.add (o.c.toNat % 8) (s.pre.sfp o.a) (s.pre.sfp o.b)) (o.c.toNat % 8) false)) s
/-- fmul. -/
def execFmul (o : SR) (s : State) : Out :=
  issueOp (.fmul o) (fun s => s.landFp o.d (roundNV fp32 (FVal.mul (s.pre.sfp o.a) (s.pre.sfp o.b)) (o.c.toNat % 8) false)) s
/-- fma: RNE. -/
def execFma (o : SR) (s : State) : Out :=
  issueOp (.fma o) (fun s =>
    s.landFp o.d (roundNV fp32 (FVal.fma 0 (s.pre.sfp o.a) (s.pre.sfp o.b) (s.pre.sfp o.c)) 0 false)) s

/-- The FP conditions of R132: the result, and NV. -/
def fcond (code : Nat) (x y : FVal) : Bool × Nat :=
  let un := x.isNan || y.isNan
  let c := FVal.cmp x y
  match code with
  | 0 => (!un && c == 0, 0)
  | 1 => (un || c != 0, 0)
  | 2 => (!un && decide (c < 0), if un then flagNV else 0)
  | 3 => (!un && decide (0 ≤ c), if un then flagNV else 0)
  | 6 => (!un && decide (0 < c), if un then flagNV else 0)
  | 7 => (!un && decide (c ≤ 0), if un then flagNV else 0)
  | 10 => (un, 0)
  | _ => (!un, 0)

/-- fcmp. -/
def execFcmp (o : SR) (s : State) : Out :=
  issueOp (.fcmp o) (fun s =>
    let r := fcond o.c.toNat (s.pre.sfp o.a) (s.pre.sfp o.b)
    (s.flag r.2).landP (o.d.setWidth 3) (.cls 7) r.1) s

end Sys2Proof.Machine
end

