-- ==== Sys2Proof/Machine/Vector.lean ====
section
/-! DEFINITION. The V0 and V1 slots (R140 to R161). -/

namespace Sys2Proof.Machine

/-! ## Lanes (R141, R142) -/

/-- Element width of a type code (R141). -/
def tyW (ty : BitVec 5) : Nat := fmtWidth (fun _ => 0) ty.toNat
/-- Is an integer type signed? -/
def tySigned (ty : BitVec 5) : Bool := ty == 3 || ty == 5 || ty == 6 || ty == 8
/-- Is element i enabled: bit i mod 128 of the lane mask named by G (R142)? -/
def laneOn (x : Ctx) (o : VA) (i : Nat) : Bool := (x.qreg o.g.toNat).getLsbD (i % 128)
/-- Values of width w placed by element from bit `base` on, and the bits they take. -/
def packLanes (base w : Nat) (l : List (Nat × Nat)) : VWord × VWord :=
  (BitVec.ofNat 1024 (l.foldl (fun a e => a + (e.2 % 2 ^ w) * 2 ^ (base + w * e.1)) 0),
   BitVec.ofNat 1024 (l.foldl (fun a e => a + (2 ^ w - 1) * 2 ^ (base + w * e.1)) 0))
/-- Element values land in their bits of vd (R142). -/
def State.landLanes (s : State) (o : VA) (c base w : Nat) (l : List (Nat × Nat)) : State :=
  let p := packLanes base w l
  s.landMask (rV o.vd) (.cls c) p.1 p.2
/-- The enabled elements of the first n. -/
def lanesOn (x : Ctx) (o : VA) (n : Nat) : List Nat := (List.range n).filter (laneOn x o)

/-- A lane operation: `f i` gives the value and the flags of element i; it is asked for the enabled ones only. -/
def laneOp (o : VA) (c n base w : Nat) (f : Nat → Nat × Nat) (s : State) : State :=
  let r := (lanesOn s.pre o n).map fun i => (i, f i)
  (s.flag (r.foldl (fun a e => a ||| e.2.2) 0)).landLanes o c base w (r.map fun e => (e.1, e.2.1))

/-- A lane operation on w-bit elements of the whole register that raises no flag. -/
def plainOp (o : VA) (c w : Nat) (f : Nat → Nat) (s : State) : State := laneOp o c (1024 / w) 0 w (fun i => (f i, 0)) s

/-- A lane comparison: bit i of the lane mask vd becomes `f i`.1, with the flags `f i`.2 (R146, R149). -/
def laneCmp (o : VA) (w : Nat) (f : Nat → Bool × Nat) (s : State) : State :=
  let r := (lanesOn s.pre o (1024 / w)).map fun i => (i, f i)
  let p := packLanes 0 1 (r.map fun e => (e.1, e.2.1.toNat))
  (s.flag (r.foldl (fun a e => a ||| e.2.2) 0)).landMask (rQ (o.vd.toNat % 8)) (.cls 4) p.1 p.2

/-! ## Integer lane instructions (R145, R146) -/

/-- The low w bits of an integer, as a number. -/
def wrapN (w : Nat) (x : Int) : Nat := (x % (2 : Int) ^ w).toNat
/-- The reading of a w-bit element under its type. -/
def tyVal (ty : BitVec 5) (w e : Nat) : Int := if tySigned ty then signedN e w else (e : Int)
/-- The smallest value of a type. -/
def tyMin (ty : BitVec 5) (w : Nat) : Int := if tySigned ty then -(2 : Int) ^ (w - 1) else 0
/-- The largest value of a type. -/
def tyMax (ty : BitVec 5) (w : Nat) : Int := if tySigned ty then (2 : Int) ^ (w - 1) - 1 else (2 : Int) ^ w - 1

/-- An integer lane operation with two sources: `f w a b`. -/
def vint2 (o : VA) (c : Nat) (f : Nat → Nat → Nat → Nat) (s : State) : State :=
  let w := tyW o.ty
  let a := s.pre.vreg o.va.toNat
  let b := s.pre.vreg o.vb.toNat
  plainOp o c w (fun i => f w (elemAt a (w * i) w) (elemAt b (w * i) w)) s

/-- An integer lane operation with one source. -/
def vint1 (o : VA) (f : Nat → Nat → Nat) (s : State) : State :=
  let w := tyW o.ty
  let a := s.pre.vreg o.va.toNat
  plainOp o 4 w (fun i => f w (elemAt a (w * i) w)) s

/-- A saturating lane operation: SAT where an enabled element is clamped, to the range of ty (R145), which for a signed ty reaches the least
integer and not `Fmt.sat`'s -maxmag (log entry 8). -/
def vsat (o : VA) (f : Int → Int → Int) (s : State) : State :=
  let w := tyW o.ty
  let a := s.pre.vreg o.va.toNat
  let b := s.pre.vreg o.vb.toNat
  laneOp o 4 (1024 / w) 0 w (fun i =>
    let v := f (tyVal o.ty w (elemAt a (w * i) w)) (tyVal o.ty w (elemAt b (w * i) w))
    if tyMax o.ty w < v then (wrapN w (tyMax o.ty w), flagSAT)
    else if v < tyMin o.ty w then (wrapN w (tyMin o.ty w), flagSAT)
    else (wrapN w v, 0)) s

/-- vadd. -/
def execVadd (o : VA) (s : State) : Out := issueOp (.vadd o) (vint2 o 4 fun _ a b => a + b) s
/-- vsub. -/
def execVsub (o : VA) (s : State) : Out := issueOp (.vsub o) (vint2 o 4 fun w a b => a + 2 ^ w - b) s
/-- vmul. -/
def execVmul (o : VA) (s : State) : Out := issueOp (.vmul o) (vint2 o 5 fun _ a b => a * b) s
/-- vmulh. -/
def execVmulh (o : VA) (s : State) : Out :=
  issueOp (.vmulh o) (vint2 o 5 fun w a b => wrapN w (tyVal o.ty w a * tyVal o.ty w b / (2 : Int) ^ w)) s
/-- vand. -/
def execVand (o : VA) (s : State) : Out := issueOp (.vand o) (vint2 o 4 fun _ a b => a &&& b) s
/-- vor. -/
def execVor (o : VA) (s : State) : Out := issueOp (.vor o) (vint2 o 4 fun _ a b => a ||| b) s
/-- vxor. -/
def execVxor (o : VA) (s : State) : Out := issueOp (.vxor o) (vint2 o 4 fun _ a b => a ^^^ b) s
/-- vandn. -/
def execVandn (o : VA) (s : State) : Out := issueOp (.vandn o) (vint2 o 4 fun w a b => a &&& (2 ^ w - 1 - b)) s
/-- vshl. -/
def execVshl (o : VA) (s : State) : Out := issueOp (.vshl o) (vint2 o 4 fun w a b => a * 2 ^ (b % w)) s
/-- vshr. -/
def execVshr (o : VA) (s : State) : Out := issueOp (.vshr o) (vint2 o 4 fun w a b => a / 2 ^ (b % w)) s
/-- vsra. -/
def execVsra (o : VA) (s : State) : Out :=
  issueOp (.vsra o) (vint2 o 4 fun w a b => wrapN w (signedN a w / (2 : Int) ^ (b % w))) s
/-- vmin. -/
def execVmin (o : VA) (s : State) : Out := issueOp (.vmin o) (vint2 o 4 fun w a b => if signedN b w < signedN a w then b else a) s
/-- vmax. -/
def execVmax (o : VA) (s : State) : Out := issueOp (.vmax o) (vint2 o 4 fun w a b => if signedN a w < signedN b w then b else a) s
/-- vminu. -/
def execVminu (o : VA) (s : State) : Out := issueOp (.vminu o) (vint2 o 4 fun _ a b => min a b) s
/-- vmaxu. -/
def execVmaxu (o : VA) (s : State) : Out := issueOp (.vmaxu o) (vint2 o 4 fun _ a b => max a b) s
/-- vabs: the most negative value gives itself. -/
def execVabs (o : VA) (s : State) : Out := issueOp (.vabs o) (vint1 o fun w a => wrapN w (signedN a w).natAbs) s
/-- vneg. -/
def execVneg (o : VA) (s : State) : Out := issueOp (.vneg o) (vint1 o fun w a => 2 ^ w - a) s
/-- vcmp. -/
def execVcmp (o : VA) (s : State) : Out :=
  issueOp (.vcmp o) (fun s =>
    let w := tyW o.ty
    let a := s.pre.vreg o.va.toNat
    let b := s.pre.vreg o.vb.toNat
    laneCmp o w (fun i => (icond (o.mod.toNat % 32) w (elemAt a (w * i) w) (elemAt b (w * i) w), 0)) s) s
/-- vadd.sat. -/
def execVaddSat (o : VA) (s : State) : Out := issueOp (.vaddSat o) (vsat o fun a b => a + b) s
/-- vsub.sat. -/
def execVsubSat (o : VA) (s : State) : Out := issueOp (.vsubSat o) (vsat o fun a b => a - b) s

/-! ## Floating-point lane instructions (R147 to R150) -/

/-- The format of a floating-point type code 0 to 2. -/
def tyFmt (ty : BitVec 5) : Fmt := if ty = 0 then fp32 else if ty = 1 then fp16 else bf16

/-- A floating-point lane operation rounded once under mod's mode. -/
def vfp (o : VA) (f : Nat → FVal → FVal → FVal → FVal × Bool) (s : State) : State :=
  let t := tyFmt o.ty
  let mode := o.mod.toNat % 8
  let e := fun (r : BitVec 6) (i : Nat) => decodeVal t (elemAt (s.pre.vreg r.toNat) (t.w * i) t.w)
  laneOp o 5 (1024 / t.w) 0 t.w (fun i =>
    let r := roundNV t (f mode (e o.va i) (e o.vb i) (e o.vc i)) mode false
    (r.bits, r.flags)) s

/-- The addition of vfadd. -/
def fAdd (mode : Nat) (x y _z : FVal) : FVal × Bool := FVal.add mode x y
/-- The subtraction of vfsub. -/
def fSub (mode : Nat) (x y _z : FVal) : FVal × Bool := FVal.add mode x y.negate
/-- The product of vfmul. -/
def fMul (_mode : Nat) (x y _z : FVal) : FVal × Bool := FVal.mul x y
/-- x * y + z of vfma. -/
def fMa (mode : Nat) (x y z : FVal) : FVal × Bool := FVal.fma mode x y z
/-- x * y - z of vfms. -/
def fMs (mode : Nat) (x y z : FVal) : FVal × Bool := FVal.fma mode x y z.negate

/-- An operation on element codes that does not round (R148). -/
def vfcode (o : VA) (f : Fmt → Nat → Nat → Nat) (s : State) : State :=
  let t := tyFmt o.ty
  let e := fun (r : BitVec 6) (i : Nat) => elemAt (s.pre.vreg r.toNat) (t.w * i) t.w
  plainOp o 4 t.w (fun i => f t (e o.va i) (e o.vb i)) s

/-- vfabs on a code (R148). -/
def fabsCode (t : Fmt) (a _b : Nat) : Nat := if (decodeVal t a).isNan then t.canonNan else a % 2 ^ (t.w - 1)
/-- vfneg on a code (R148). -/
def fnegCode (t : Fmt) (a _b : Nat) : Nat := if (decodeVal t a).isNan then t.canonNan else a ^^^ 2 ^ (t.w - 1)

/-- A floating-point comparison (R149). -/
def vfcmpOp (o : VA) (s : State) : State :=
  let t := tyFmt o.ty
  let e := fun (r : BitVec 6) (i : Nat) => decodeVal t (elemAt (s.pre.vreg r.toNat) (t.w * i) t.w)
  laneCmp o t.w (fun i => fcond (o.mod.toNat % 32) (e o.va i) (e o.vb i)) s

/-- A special function (R150). -/
def vspecial (o : VA) (op : Nat) (s : State) : State :=
  let a := s.pre.vreg o.va.toNat
  laneOp o 6 32 0 32 (fun i =>
    let v := specialFn op (decodeVal fp32 (elemAt a (32 * i) 32))
    let r := roundTo fp32 v.1 (o.mod.toNat % 8) false 0
    (r.bits, r.flags ||| v.2)) s

/-- vfadd. -/
def execVfadd (o : VA) (s : State) : Out := issueOp (.vfadd o) (vfp o fAdd) s
/-- vfadd.h. -/
def execVfaddH (o : VA) (s : State) : Out := issueOp (.vfaddH o) (vfp o fAdd) s
/-- vfsub. -/
def execVfsub (o : VA) (s : State) : Out := issueOp (.vfsub o) (vfp o fSub) s
/-- vfsub.h. -/
def execVfsubH (o : VA) (s : State) : Out := issueOp (.vfsubH o) (vfp o fSub) s
/-- vfmul. -/
def execVfmul (o : VA) (s : State) : Out := issueOp (.vfmul o) (vfp o fMul) s
/-- vfmul.h. -/
def execVfmulH (o : VA) (s : State) : Out := issueOp (.vfmulH o) (vfp o fMul) s
/-- vfma. -/
def execVfma (o : VA) (s : State) : Out := issueOp (.vfma o) (vfp o fMa) s
/-- vfma.h. -/
def execVfmaH (o : VA) (s : State) : Out := issueOp (.vfmaH o) (vfp o fMa) s
/-- vfms. -/
def execVfms (o : VA) (s : State) : Out := issueOp (.vfms o) (vfp o fMs) s
/-- vfms.h. -/
def execVfmsH (o : VA) (s : State) : Out := issueOp (.vfmsH o) (vfp o fMs) s
/-- vfmin. -/
def execVfmin (o : VA) (s : State) : Out := issueOp (.vfmin o) (vfcode o (fun t a b => fminmax t false a b)) s
/-- vfmin.h. -/
def execVfminH (o : VA) (s : State) : Out := issueOp (.vfminH o) (vfcode o (fun t a b => fminmax t false a b)) s
/-- vfmax. -/
def execVfmax (o : VA) (s : State) : Out := issueOp (.vfmax o) (vfcode o (fun t a b => fminmax t true a b)) s
/-- vfmax.h. -/
def execVfmaxH (o : VA) (s : State) : Out := issueOp (.vfmaxH o) (vfcode o (fun t a b => fminmax t true a b)) s
/-- vfabs. -/
def execVfabs (o : VA) (s : State) : Out := issueOp (.vfabs o) (vfcode o fabsCode) s
/-- vfabs.h. -/
def execVfabsH (o : VA) (s : State) : Out := issueOp (.vfabsH o) (vfcode o fabsCode) s
/-- vfneg. -/
def execVfneg (o : VA) (s : State) : Out := issueOp (.vfneg o) (vfcode o fnegCode) s
/-- vfneg.h. -/
def execVfnegH (o : VA) (s : State) : Out := issueOp (.vfnegH o) (vfcode o fnegCode) s
/-- vfcmp. -/
def execVfcmp (o : VA) (s : State) : Out := issueOp (.vfcmp o) (vfcmpOp o) s
/-- vfcmp.h. -/
def execVfcmpH (o : VA) (s : State) : Out := issueOp (.vfcmpH o) (vfcmpOp o) s
/-- vrcp. -/
def execVrcp (o : VA) (s : State) : Out := issueOp (.vrcp o) (vspecial o 0) s
/-- vrsq. -/
def execVrsq (o : VA) (s : State) : Out := issueOp (.vrsq o) (vspecial o 1) s
/-- vsqrt. -/
def execVsqrt (o : VA) (s : State) : Out := issueOp (.vsqrt o) (vspecial o 2) s
/-- vexp2. -/
def execVexp2 (o : VA) (s : State) : Out := issueOp (.vexp2 o) (vspecial o 3) s
/-- vlog2. -/
def execVlog2 (o : VA) (s : State) : Out := issueOp (.vlog2 o) (vspecial o 4) s

/-! ## Conversion (R151, R152) -/

/-- The slot number of a vector syllable. -/
def vSlot (o : VA) : Nat := if o.v1 then 6 else 5
/-- Element count of a conversion (R151). -/
def cvtCount (a b : Fmt) : Nat := 1024 / max a.w b.w
/-- First bit of the source field. -/
def cvtFrom (o : VA) (a b : Fmt) : Nat := if a.w < b.w then cvtPart o * cvtCount a b * a.w else 0
/-- First bit of the destination field. -/
def cvtTo (o : VA) (a b : Fmt) : Nat := if b.w < a.w then cvtPart o * cvtCount a b * b.w else 0

/-- A conversion between two formats: `f` gives the rounded result of an exact source value and its element number. An invalid format
register raises the operand-format trap (R80, R143). -/
def convert (o : VA) (c : Nat) (f : Fmt → Nat → FVal → Rounded) (s : State) : State :=
  match fmtOf s.pre.fmtreg o.ty.toNat, fmtOf s.pre.fmtreg (cvtFmt o) with
  | some a, some b =>
    let v := s.pre.vreg o.va.toNat
    laneOp o c (cvtCount a b) (cvtTo o a b) b.w (fun i =>
      let r := f b i (decodeVal a (elemAt v (cvtFrom o a b + a.w * i) a.w))
      (r.bits, r.flags)) s
  | _, _ => s.fail cOperand (vSlot o) 0

/-- The rounding of a conversion: the least integer of a signed destination needs none, so it raises no flag (R151, log entry 8). -/
def cvtRound (d : Fmt) (x : FVal) (mode : Nat) (satf : Bool) (r : Nat) : Rounded :=
  if d.isLeast x then { bits := 2 ^ (d.w - 1), flags := 0, ovf := false } else roundTo d x mode satf r

/-- vcvt. -/
def execVcvt (o : VA) (s : State) : Out :=
  issueOp (.vcvt o) (convert o 4 fun d _ x => cvtRound d x (cvtMode o) (cvtSat o) 0) s

/-- The draw of vcvt.rs for element i (R152). -/
def vcvtDraw (x : Ctx) (o : VA) (i : Nat) : Nat :=
  let b := x.vreg o.vb.toNat
  srbits x.csr.srseed (b.extractLsb' 64 32) (b.extractLsb' 0 64 + BitVec.ofNat 64 i) x.csr.stepid

/-- vcvt.rs. -/
def execVcvtRs (o : VA) (s : State) : Out :=
  issueOp (.vcvtRs o) (fun s => convert o 4 (fun d i x => cvtRound d x 4 (cvtSat o) (vcvtDraw s.pre o i)) s) s

/-! ## Statistics deltas (R157, R158, R367) -/

/-- AMAX of a magnitude: its FP32 code; where the value has none, the open function of the magnitude (log entry 62). -/
def magCode (m : Nat) (e : Int) : Nat :=
  let r := roundTo fp32 (.fin false m e) 0 false 0
  if r.flags = 0 then r.bits % 2 ^ 31 else (Config.amaxCode m e).toNat

/-- The statistics of one element added to a half's fields (R157). -/
def Half.addVal (h : Half) (x : FVal) : Half :=
  let h := { h with count := h.count + 1 }
  match x with
  | .nan => { h with nans := h.nans + 1 }
  | .inf _ => { h with infs := h.infs + 1 }
  | .fin _ 0 _ => h
  | .fin _ (m + 1) e => { h with
      amax := max h.amax (magCode (m + 1) e)
      bins := Store.put h.bins (statBin (m + 1) e) (Store.get 0 h.bins (statBin (m + 1) e) + 1) }

/-- The statistics of some elements. -/
def statsOf (l : List FVal) : Half := l.foldl Half.addVal Half.reset

/-- A delta goes to its record's home slice (R367). -/
def State.sendDelta (s : State) (asid recid : Nat) (h : Half) : State :=
  { s with deltas := s.deltas ++ [{ recid := recid, asid := asid, fields := h }] }

/-! ## Quantisation (R153 to R156) -/

/-- RECID of a scale word. -/
def scaleRec (v : VWord) : Nat := elemAt v 64 16
/-- OVF of a scale word's policy. -/
def scaleOvf (v : VWord) : Nat := elemAt v 34 2
/-- A scale word with a reserved bit set, or OVF = 3 (R153). -/
def scaleBad (v : VWord) : Bool := elemAt v 80 48 != 0 || elemAt v 40 8 != 0 || scaleOvf v == 3

/-- TRAP_VAL of the rescale trap (R155). -/
def rescaleVal (recid first n slot : Nat) : Word :=
  BitVec.ofNat 64 (recid + 2 ^ 16 * (first % 256) + 2 ^ 24 * (n % 256) + 2 ^ 32 * slot)

/-- A rescale condition of the bundle: the first vector slot's counts (R155). -/
def State.askRescale (s : State) (v : Word) : State :=
  match s.issue.rescale with
  | some _ => s
  | none => { s with issue := { s.issue with rescale := some v } }

/-- The delta and the rescale condition of the overflowing elements of a vqnt (R154). -/
def State.overflowed (s : State) (o : VA) (l : List Nat) : State :=
  let w := s.pre.vreg o.vb.toNat
  match l with
  | [] => s
  | first :: _ =>
    let s := s.sendDelta s.pre.asid (scaleRec w) { Half.reset with
      ovfs := l.length
      defer := scaleOvf w == 2 }
    if scaleOvf w = 1 then s.askRescale (rescaleVal (scaleRec w) first l.length (vSlot o - 5)) else s

/-- The rounded product of vqnt for an exact source value. -/
def qntRound (d : Fmt) (sc : FVal) (mode : Nat) (x : FVal) : Rounded := roundNV d (FVal.mul x sc) mode true

/-- vqnt. -/
def execVqnt (o : VA) (s : State) : Out :=
  issueOp (.vqnt o) (fun s =>
    let w := s.pre.vreg o.vb.toNat
    let sc := decodeVal fp32 (elemAt w 0 32)
    if scaleBad w then s.fail cOperand (vSlot o) 0
    else match fmtOf s.pre.fmtreg o.ty.toNat, fmtOf s.pre.fmtreg (cvtFmt o) with
      | some a, some b =>
        let v := s.pre.vreg o.va.toNat
        let large := (lanesOn s.pre o (cvtCount a b)).filter fun i =>
          (qntRound b sc (cvtMode o) (decodeVal a (elemAt v (cvtFrom o a b + a.w * i) a.w))).ovf
        (convert o 5 (fun d _ x => qntRound d sc (cvtMode o) x) s).overflowed o large
      | _, _ => s.fail cOperand (vSlot o) 0) s

/-- The exact quotient of vdqnt with NV or DZ (R156). -/
def dqnt (x sc : FVal) : FVal × Nat :=
  match x, sc with
  | .nan, _ => (.nan, 0)
  | _, .nan => (.nan, 0)
  | .inf _, .inf _ => (.nan, flagNV)
  | .inf a, y => (.inf (a != y.neg), 0)
  | y, .inf b => (.fin (y.neg != b) 0 0, 0)
  | .fin _ 0 _, .fin _ 0 _ => (.nan, flagNV)
  | .fin a _ _, .fin b 0 _ => (.inf (a != b), flagDZ)
  | .fin a m e, .fin b n k => (finDiv a m e b n k, 0)

/-- vdqnt. -/
def execVdqnt (o : VA) (s : State) : Out :=
  issueOp (.vdqnt o) (fun s =>
    let sc := decodeVal fp32 (elemAt (s.pre.vreg o.vb.toNat) 0 32)
    convert o 5 (fun d _ x =>
      let v := dqnt x sc
      let r := roundTo d v.1 (cvtMode o) false 0
      { r with flags := r.flags ||| v.2 }) s) s

/-- vstat. -/
def execVstat (o : VA) (s : State) : Out :=
  issueOp (.vstat o) (fun s =>
    match fmtOf s.pre.fmtreg o.ty.toNat with
    | some a =>
      let v := s.pre.vreg o.va.toNat
      let vals := (lanesOn s.pre o (1024 / a.w)).map fun i => decodeVal a (elemAt v (a.w * i) a.w)
      s.sendDelta s.pre.asid (scaleRec (s.pre.vreg o.vb.toNat)) (statsOf vals)
    | none => s.fail cOperand (vSlot o) 0) s

/-! ## Reductions and scans (R99, R100, R159, R160) -/

/-- One level of the pairwise tree, with its flags. -/
def treeLevel (op : Nat → Nat → Nat × Nat) : List Nat → List Nat × Nat
  | a :: b :: l =>
    let r := treeLevel op l
    let v := op a b
    (v.1 :: r.1, v.2 ||| r.2)
  | l => (l, 0)

/-- The root of the tree, with the flags of every node (R99). -/
def treeFold (op : Nat → Nat → Nat × Nat) : Nat → List Nat → Nat × Nat
  | 0, l => (l.headD 0, 0)
  | k + 1, l =>
    let r := treeLevel op l
    let t := treeFold op k r.1
    (t.1, r.2 ||| t.2)

/-- A reduction of n elements with identity `id`: `get i` is element i as it enters the tree; the low `bits` bits of vd are written,
whatever G says (R159). -/
def reduce (o : VA) (c n id bits : Nat) (get : Nat → Nat) (op : Nat → Nat → Nat × Nat) (s : State) : State :=
  let r := treeFold op (log2N 16 n) ((List.range n).map fun i => if laneOn s.pre o i then get i else id)
  let p := packLanes 0 bits [(0, r.1)]
  (s.flag r.2).landMask (rV o.vd) (.cls c) p.1 p.2

/-- vrsum. -/
def execVrsum (o : VA) (s : State) : Out :=
  issueOp (.vrsum o) (fun s =>
    let w := tyW o.ty
    let a := s.pre.vreg o.va.toNat
    reduce o 5 (1024 / w) 0 32 (fun i => wrapN 32 (tyVal o.ty w (elemAt a (w * i) w))) (fun x y => ((x + y) % 2 ^ 32, 0)) s) s

/-- The larger (or smaller) of two elements under their type. -/
def tyPick (ty : BitVec 5) (w : Nat) (max : Bool) (x y : Nat) : Nat :=
  if (if max then tyVal ty w x < tyVal ty w y else tyVal ty w y < tyVal ty w x) then y else x

/-- vrmax and vrmin. -/
def vrpick (o : VA) (max : Bool) (s : State) : State :=
  let w := tyW o.ty
  let a := s.pre.vreg o.va.toNat
  reduce o 5 (1024 / w) (wrapN w (if max then tyMin o.ty w else tyMax o.ty w)) w (fun i => elemAt a (w * i) w)
    (fun x y => (tyPick o.ty w max x y, 0)) s

/-- vrmax. -/
def execVrmax (o : VA) (s : State) : Out := issueOp (.vrmax o) (vrpick o true) s
/-- vrmin. -/
def execVrmin (o : VA) (s : State) : Out := issueOp (.vrmin o) (vrpick o false) s

/-- FP32 codes of −0, −∞ and +∞. -/
def negZero : Nat := 0x80000000
/-- −∞. -/
def negInf : Nat := 0xFF800000
/-- +∞. -/
def posInf : Nat := 0x7F800000
/-- The operations of vscan.f and the reductions: 0 add, 1 max, 2 min. -/
def fpStep (op x y : Nat) : Nat × Nat :=
  if op = 0 then
    let r := faddCode x y
    (r.bits, r.flags)
  else (fminmax fp32 (op == 1) x y, 0)
/-- Their identities. -/
def fpIdent (op : Nat) : Nat := if op = 0 then negZero else if op = 1 then negInf else posInf

/-- A floating-point reduction. -/
def vredF (o : VA) (c op : Nat) (s : State) : State :=
  let t := tyFmt o.ty
  let a := s.pre.vreg o.va.toNat
  reduce o c (1024 / t.w) (fpIdent op) 32 (fun i => if t = fp32 then elemAt a (32 * i) 32 else widen t (elemAt a (t.w * i) t.w))
    (fpStep op) s

/-- vrsum.f. -/
def execVrsumF (o : VA) (s : State) : Out := issueOp (.vrsumF o) (vredF o 6 0) s
/-- vrmax.f. -/
def execVrmaxF (o : VA) (s : State) : Out := issueOp (.vrmaxF o) (vredF o 5 1) s
/-- vrmin.f. -/
def execVrminF (o : VA) (s : State) : Out := issueOp (.vrminF o) (vredF o 5 2) s

/-- A scan over elements (enabled, value): the outputs and the flags; `run` is the value so far, none before the first, which
`first` hands on. -/
def scanRun (first : Nat → Nat) (op : Nat → Nat → Nat × Nat) (id : Nat) : Option Nat → List (Bool × Nat) → List Nat × Nat
  | _, [] => ([], 0)
  | run, (on, v) :: l =>
    let r := match run with
      | none => if on then (first v, 0) else (id, 0)
      | some p => if on then op p v else (p, 0)
    let t := scanRun first op id (some r.1) l
    (r.1 :: t.1, r.2 ||| t.2)

/-- Element 0 of a vscan.f: R100 gives x[0], and a NaN result is the canonical one (R92; log entry 69). -/
def scanFirst (v : Nat) : Nat := if (decodeVal fp32 v).isNan then fp32.canonNan else v

/-- A scan over the n elements of width w (R160). -/
def vscanOp (o : VA) (c w id : Nat) (first : Nat → Nat) (op : Nat → Nat → Nat × Nat) (s : State) : State :=
  let a := s.pre.vreg o.va.toNat
  let r := scanRun first op id none ((List.range (1024 / w)).map fun i => (laneOn s.pre o i, elemAt a (w * i) w))
  plainOp o c w (fun i => r.1.getD i 0) (s.flag r.2)

/-- vscan. -/
def execVscan (o : VA) (s : State) : Out :=
  issueOp (.vscan o) (fun s =>
    let w := tyW o.ty
    let k := o.mod.toNat % 4
    let id := if k = 0 then 0 else wrapN w (if k = 1 then tyMin o.ty w else tyMax o.ty w)
    vscanOp o 5 w id (fun x => x) (fun x y => (if k = 0 then (x + y) % 2 ^ w else tyPick o.ty w (k == 1) x y, 0)) s) s
/-- vscan.f. -/
def execVscanF (o : VA) (s : State) : Out :=
  issueOp (.vscanF o) (vscanOp o 6 32 (fpIdent (o.mod.toNat % 4)) scanFirst (fpStep (o.mod.toNat % 4))) s

/-! ## Data movement (R161) -/

/-- A movement of w-bit elements: `f w n a b i` is element i of the result from the element readers of va and vb. -/
def vmove (o : VA) (f : Nat → Nat → (Nat → Nat) → (Nat → Nat) → Nat → Nat) (s : State) : State :=
  let w := tyW o.ty
  let a := s.pre.vreg o.va.toNat
  let b := s.pre.vreg o.vb.toNat
  plainOp o 4 w (f w (1024 / w) (fun i => elemAt a (w * i) w) (fun i => elemAt b (w * i) w)) s

/-- The 14-bit immediate of vsplat and vlane, extended by the type. -/
def vImm (o : VA) : Int := if tySigned o.ty then signedN o.mod.toNat 14 else (o.mod.toNat : Int)

/-- vperm. -/
def execVperm (o : VA) (s : State) : Out := issueOp (.vperm o) (vmove o fun _ n a b i => a (b i % n)) s
/-- vbcast. -/
def execVbcast (o : VA) (s : State) : Out := issueOp (.vbcast o) (vmove o fun _ _ a _ _ => a (o.mod.toNat % 128)) s
/-- vslide: mod[7] is up. -/
def execVslide (o : VA) (s : State) : Out :=
  issueOp (.vslide o) (vmove o fun _ n a b i =>
    let k := o.mod.toNat % 128
    if o.mod.getLsbD 7 then (if k ≤ i then a (i - k) else b (n - k + i))
    else if i + k < n then a (i + k) else b (i + k - n)) s
/-- vsel. -/
def execVsel (o : VA) (s : State) : Out :=
  issueOp (.vsel o) (fun s =>
    vmove o (fun _ _ a b i => if (s.pre.qreg (o.mod.toNat % 8)).getLsbD (i % 128) then a i else b i) s) s
/-- vmov. -/
def execVmov (o : VA) (s : State) : Out := issueOp (.vmov o) (vmove o fun _ _ a _ i => a i) s
/-- vsplat. -/
def execVsplat (o : VA) (s : State) : Out := issueOp (.vsplat o) (vmove o fun w _ _ _ _ => wrapN w (vImm o)) s
/-- vlane. -/
def execVlane (o : VA) (s : State) : Out := issueOp (.vlane o) (vmove o fun w _ _ _ i => wrapN w ((i : Int) + vImm o)) s

end Sys2Proof.Machine
end

