-- ==== Sys2Proof/Machine/Access.lean ====
section
/-! DEFINITION. The L0, L1 and ST slots: address arithmetic, scratch, memory, pool, atomics, fences, bindings, handles and
capabilities (R162 to R196, R209, R210). -/

namespace Sys2Proof.Machine

/-! ## Issuing an access (R162 to R167) -/

/-- Issue an access at a target, or fail its check. -/
def State.issueAt (s : State) (slot : Nat) (write : Bool) (t : Except (Nat × Nat) Target) (f : Target → State) : State :=
  match t with
  | .ok t => f t
  | .error (cause, addr) => s.fail cause (slotCode slot 0 write) addr

/-- A unit with the bundle's scope and step tag. -/
def State.unitOf (s : State) (slot : Nat) (op : UnitOp) (t : Target) (size : Nat) : MemUnit :=
  { id := 0, slot := slot, op := op, target := t, size := size, data := 0, data2 := 0, dest := none, dest2 := none, order := 0
    scope := s.issue.scope, stepTag := s.stepTag s.pre, suspended := false, framed := false, taken := none }

/-- A load joins the accesses in flight: one of the own core's scratch through the window that nothing earlier holds back reads it as it issues,
so a later store of a slot leaves its value alone (R182). -/
def State.addLoad (s : State) (u : MemUnit) : State :=
  let c := s.cur
  s.addUnit (match ownScratch c u with
    | some a => if (s.now.units).all fun e => !u.after e then { u with taken := some (s.scratchRead (coreOf c) a u.size) } else u
    | none => u)

/-- A destination, unless it is s0 (R17, R176). -/
def destOf (d : Dest) : Option Dest := if d.fixed then none else some d

/-! ## Address arithmetic (R171) -/

/-- An address result. -/
def laOp (o : LA) (v : Word) (s : State) : State := s.landW (lA o.l1 o.d) (.cls 2) v
/-- aadd. -/
def execAadd (o : LA) (s : State) : Out :=
  issueOp (.aadd o) (fun s => laOp o (s.pre.own o.l1 o.a + s.pre.own o.l1 o.b + wordOf (immS 8 o.imm.toNat o.ext)) s) s
/-- aaddi. -/
def execAaddi (o : LA) (s : State) : Out :=
  issueOp (.aaddi o) (fun s => laOp o (s.pre.own o.l1 o.a + wordOf (immS 8 o.imm.toNat o.ext)) s) s
/-- xmova. -/
def execXmova (o : LA) (s : State) : Out := issueOp (.xmova o) (fun s => laOp o (s.pre.own o.l1 o.a) s) s

/-! ## Scratch loads (R172, R173, R209, R210) -/

/-- The stores of the context through the window that have still to reach scratch bytes of its own core, oldest first: address, bytes and value. -/
def State.comingStores (s : State) (a n : Nat) : List (Nat × Nat × Nat) :=
  s.now.units.filterMap fun u =>
    match u.op, ownScratch s.cur u with
    | .store _, some b => if b < a + n ∧ a < b + u.size then some (b, u.size, u.data) else none
    | _, _ => none

/-- Scratch bytes as a load of the L0 or L1 slot reads them: those that its own bundle's kderive.st is still to store are read as it stores them; a
store of an earlier bundle has the bundle wait (R181, R182; log entry 92). -/
def State.slotRead (s : State) (a n : Nat) : Nat :=
  if (s.comingStores a n).isEmpty then s.scratchRead (coreOf s.cur) a n
  else (List.range n).foldl (fun w i =>
    w + (match (s.comingStores a n).reverse.find? fun e => slotHas e (a + i) with
      | some e => e.2.2 / 256 ^ (a + i - e.1) % 256
      | none => s.scratchRead (coreOf s.cur) (a + i) 1) * 256 ^ i) 0

/-- lds of n bytes. -/
def ldsOp (o : LT) (n : Nat) (s : State) : State :=
  match rowFetch s.pre o n n (4 ≤ n) with
  | .ok a => s.landW (lA o.l1 (o.d.setWidth 4)) (.cls 3) (BitVec.ofNat 64 (s.slotRead a n))
  | .error (c, a) => s.fail c (slotCode (lSlot o.l1) 0 false) a

/-- lds.8. -/
def execLds8 (o : LT) (s : State) : Out := issueOp (.lds8 o) (ldsOp o 1) s
/-- lds.16. -/
def execLds16 (o : LT) (s : State) : Out := issueOp (.lds16 o) (ldsOp o 2) s
/-- lds.32. -/
def execLds32 (o : LT) (s : State) : Out := issueOp (.lds32 o) (ldsOp o 4) s
/-- lds.64. -/
def execLds64 (o : LT) (s : State) : Out := issueOp (.lds64 o) (ldsOp o 8) s
/-- ldv. -/
def execLdv (o : LT) (s : State) : Out :=
  issueOp (.ldv o) (fun s =>
    match rowFetch s.pre o 16 128 false with
    | .ok a => s.landTo (rV o.d) (.cls 3) (BitVec.ofNat 1024 (s.slotRead a 128))
    | .error (c, a) => s.fail c (slotCode (lSlot o.l1) 0 false) a) s

/-- Eight words of a column, as one register (R172). -/
def State.columnRead (s : State) (h : Handle) (row col : Nat) : VWord :=
  BitVec.ofNat 1024 ((List.range 8).foldl (fun v i => v + s.slotRead (h.at_ (row + i) col) 16 * 2 ^ (128 * i)) 0)

/-- ldvt. -/
def execLdvt (o : LT) (s : State) : Out :=
  issueOp (.ldvt o) (fun s =>
    let h := s.pre.handle o.h.toNat
    let row := ltRow s.pre o
    let col := ltCol o 16
    let code := slotCode (lSlot o.l1) 0 false
    if !columnShape h then s.fail cOperand code 0
    else if row % (64 / h.roww) ≠ 0 then s.fail cBank code 0
    else if h.rows < row + 8 ∨ 16 * h.roww < col + 16 then s.fail cProt code (h.at_ row col)
    else s.landTo (rV o.d) (.cls 3) (s.columnRead h row col)) s

/-! ## Scratch stores (R174, R206, R210) -/

/-- The window address of a scratch address of a core (R331). -/
def windowOf (k a : Nat) : Nat := winBase + k % 8 * 0x80000 + a

/-- A store of the ST slot writes scratch as it issues; where a window access of its own bundle to the same bytes has still to reach them, it follows
it as a window store (R181, R182; log entry 92). -/
def State.slotStore (s : State) (a n v : Nat) : State :=
  if s.now.units.any fun u => (ownScratch s.cur u).any fun b => decide (b < a + n) && decide (a < b + u.size) then
    s.addUnit { s.unitOf 4 (.store false) (.ia (windowOf (coreOf s.cur) a)) n with data := v }
  else s.slotWrite (coreOf s.cur) a n v

/-- A store of n bytes at a scratch address, aligned to `unit`. -/
def scratchStore (a n unit v : Nat) (s : State) : State :=
  if a % unit ≠ 0 ∨ !s.pre.scratchOk a n ∨ touchesWaymarks a n then s.fail cProt (slotCode 4 0 true) a
  else s.slotStore a n v

/-- sts of n bytes. -/
def stsOp (o : SM) (n : Nat) (s : State) : State := scratchStore (stsAddr s.pre o n) n n (mValue s.pre o.data n) s

/-- sts.8. -/
def execSts8 (o : SM) (s : State) : Out := issueOp (.sts8 o) (stsOp o 1) s
/-- sts.16. -/
def execSts16 (o : SM) (s : State) : Out := issueOp (.sts16 o) (stsOp o 2) s
/-- sts.32. -/
def execSts32 (o : SM) (s : State) : Out := issueOp (.sts32 o) (stsOp o 4) s
/-- sts.64. -/
def execSts64 (o : SM) (s : State) : Out := issueOp (.sts64 o) (stsOp o 8) s
/-- stv. -/
def execStv (o : SM) (s : State) : Out :=
  issueOp (.stv o) (fun s => scratchStore (stsAddr s.pre o 16) 128 16 (s.pre.vreg o.data.toNat).toNat s) s

/-- stvt. -/
def execStvt (o : SM) (s : State) : Out :=
  issueOp (.stvt o) (fun s =>
    let a := stsAddr s.pre o 16
    let code := slotCode 4 0 true
    match s.pre.handleAt a with
    | none => s.fail cProt code a
    | some h =>
      let row := (a - h.base) / (16 * h.roww)
      if !columnShape h then s.fail cOperand code 0
      else if row % (64 / h.roww) ≠ 0 then s.fail cBank code 0
      else if a % 16 ≠ 0 ∨ h.rows < row + 8 then s.fail cProt code a
      else (columnPieces s.pre o a h).foldl (fun t e => t.slotStore e.1 16 e.2) s) s

/-! ## Loads (R175 to R179) -/

/-- Issue a load of an LM form: its operation, destination and need. -/
def lmLoad (o : LM) (op : UnitOp) (d : Option Dest) (unit : Nat) (n : Need) (s : State) : State :=
  let off := immS 10 o.off.toNat o.ext * unit
  s.issueAt (lSlot o.l1) false (s.pre.targetOf s.cur (s.pre.own o.l1 o.base) off n) fun t =>
    s.addLoad { s.unitOf (lSlot o.l1) op t n.size with
      dest := d
      order := if op = .load true then 1 else 0 }

/-- ldg of n bytes. -/
def ldgOp (o : LM) (n : Nat) (s : State) : State := lmLoad o (.load false) (destOf (sDest o.l1 o.d)) n (loadNeed n n 0) s
/-- ldacq of n bytes. -/
def ldacqOp (o : LM) (n : Nat) (s : State) : State := lmLoad o (.load true) (destOf (sDest o.l1 o.d)) n (loadNeed n n 2) s
/-- ldk of n bytes. -/
def ldkOp (o : LM) (n : Nat) (s : State) : State :=
  s.issueAt (lSlot o.l1) false (s.pre.capTarget o.base.toNat (immS 10 o.off.toNat o.ext * n) (loadNeed n n 0)) fun t =>
    s.addUnit { s.unitOf (lSlot o.l1) (.load false) t n with dest := destOf (sDest o.l1 o.d) }

/-- ldg.8. -/
def execLdg8 (o : LM) (s : State) : Out := issueOp (.ldg8 o) (ldgOp o 1) s
/-- ldg.16. -/
def execLdg16 (o : LM) (s : State) : Out := issueOp (.ldg16 o) (ldgOp o 2) s
/-- ldg.32. -/
def execLdg32 (o : LM) (s : State) : Out := issueOp (.ldg32 o) (ldgOp o 4) s
/-- ldg.64. -/
def execLdg64 (o : LM) (s : State) : Out := issueOp (.ldg64 o) (ldgOp o 8) s
/-- ldg.v. -/
def execLdgV (o : LM) (s : State) : Out := issueOp (.ldgV o) (lmLoad o (.load false) (some (rV o.d)) 8 (loadNeed 128 8 0)) s
/-- ldk.32. -/
def execLdk32 (o : LM) (s : State) : Out := issueOp (.ldk32 o) (ldkOp o 4) s
/-- ldk.64. -/
def execLdk64 (o : LM) (s : State) : Out := issueOp (.ldk64 o) (ldkOp o 8) s
/-- ldacq.32. -/
def execLdacq32 (o : LM) (s : State) : Out := issueOp (.ldacq32 o) (ldacqOp o 4) s
/-- ldacq.64. -/
def execLdacq64 (o : LM) (s : State) : Out := issueOp (.ldacq64 o) (ldacqOp o 8) s

/-- ldsc: an entry of the scale queue is reserved at issue, with the number of its load (R177). -/
def execLdsc (o : LM) (s : State) : Out :=
  issueOp (.ldsc o) (fun s =>
    let id := s.now.nextUnit
    let t := lmLoad o (.scale id) none 128 (loadNeed 128 16 9) s
    if t.issue.raised.isSome then t
    else t.upd fun x => { x with scaleQ := x.scaleQ ++ [{ id := id, isB := o.d.getLsbD 0, ue4m3 := o.d.getLsbD 1 }] }) s

/-- A prefetch is dropped and counted (R170). -/
def State.dropPf (s : State) : State :=
  let d := dieOf s.cur
  s.modFe fun f => { f with pfDrops := Store.set 0 f.pfDrops d (Store.get 0 f.pfDrops d + 1) }

/-- pf of a line of device or host memory: dropped where its translation is invalid or has ACC = 0, or a byte would fault; otherwise the
line comes into the LLC and, for pf.cc, the cluster cache, and its slice caches the translation; no mark is set and no lookup counted for a hint
(R170, R178, R393). pf.hbm of such a line acts as pf.llc (log entry 94). -/
def State.prefetchLine (s : State) (c line : Nat) (near : Bool) : State :=
  match s.leafFor (128 * line) false with
  | none => s.dropPf
  | some l =>
    if !l.word.getLsbD 5 || (s.homeFault (128 * line) 128 false).isSome then s.dropPf
    else if near then s.fillBy c line fun t => t.llcBring c line
    else (s.cacheLeaf l l.word (128 * line)).llcBring c line

/-- pf of a pool line: a VALID frame's line comes into the LLC; otherwise nothing does, since only the prefetch engine fills frames (R419),
and one that the pool would reject is dropped (R170, R421). -/
def State.prefetchPool (s : State) (c : Nat) (k : Word128) (off : Nat) : State :=
  match s.frameFor (s.ctx c).asid k (off / 128 * 128) 128 with
  | some f => s.frameLines f (off / 128 * 128) 128
  | none => if s.poolFinding k = 0 then s else s.dropPf

/-- pf (R170, R175, R178): the line that holds the target comes nearer; one whose target would fault is dropped; a window address is near
already (R332). The target byte alone is checked, with the read right (log entries 72 and 73). -/
def execPf (o : LM) (s : State) : Out :=
  issueOp (.pf o) (fun s =>
    match s.pre.targetOf s.cur (s.pre.own o.l1 o.base) (immS 10 o.off.toNat o.ext * 128) (loadNeed 1 1 9) with
    | .error _ => s.dropPf
    | .ok (.ia a) => if isWindow a then s else s.prefetchLine s.cur (a / 128) (o.d.toNat % 4 == 0)
    | .ok (.pool k off) => s.prefetchPool s.cur k off
    | .ok .none => s) s

/-! ## Stores (R180, R421) -/

/-- A store joins the store queue; a pool store that no earlier access of the context holds back is in the frames at once (R182, R421). -/
def State.addStore (s : State) (u : MemUnit) : State := (s.addUnit u).frameStores s.cur

/-- The need of a store. -/
def storeNeed (n kind data : Nat) : Need := { size := n, align := n, cap := 2, rd := false, wr := true, kind := kind, data := data }

/-- stg and strel of n bytes. -/
def stgOp (o : SM) (n : Nat) (rel : Bool) (s : State) : State :=
  let v := mValue s.pre o.data n
  s.issueAt 4 true (s.pre.targetOf s.cur (s.pre.areg o.base.toNat) (immS 6 o.off.toNat o.ext * n)
    (storeNeed n (if rel then 8 else 1) v)) fun t =>
    s.addStore { s.unitOf 4 (.store rel) t n with
      data := v
      order := if rel then 2 else 0 }
/-- stk of n bytes. -/
def stkOp (o : SM) (n : Nat) (s : State) : State :=
  let v := mValue s.pre o.data n
  s.issueAt 4 true (s.pre.capTarget (o.base.toNat % 16) (immS 6 o.off.toNat o.ext * n) (storeNeed n 1 v)) fun t =>
    s.addStore { s.unitOf 4 (.store false) t n with data := v }

/-- stg.8. -/
def execStg8 (o : SM) (s : State) : Out := issueOp (.stg8 o) (stgOp o 1 false) s
/-- stg.16. -/
def execStg16 (o : SM) (s : State) : Out := issueOp (.stg16 o) (stgOp o 2 false) s
/-- stg.32. -/
def execStg32 (o : SM) (s : State) : Out := issueOp (.stg32 o) (stgOp o 4 false) s
/-- stg.64. -/
def execStg64 (o : SM) (s : State) : Out := issueOp (.stg64 o) (stgOp o 8 false) s
/-- stk.32. -/
def execStk32 (o : SM) (s : State) : Out := issueOp (.stk32 o) (stkOp o 4) s
/-- stk.64. -/
def execStk64 (o : SM) (s : State) : Out := issueOp (.stk64 o) (stkOp o 8) s
/-- strel.32. -/
def execStrel32 (o : SM) (s : State) : Out := issueOp (.strel32 o) (stgOp o 4 true) s
/-- strel.64. -/
def execStrel64 (o : SM) (s : State) : Out := issueOp (.strel64 o) (stgOp o 8 true) s

/-! ## Atomics and reductions (R183 to R188) -/

/-- Byte offset of an AT form. -/
def atOff (o : AT) (n : Nat) : Int :=
  match o.ext with
  | none => 0
  | some e => (e.extractLsb' 8 24).toInt * n

/-- Issue an atomic: its operation, bytes, alignment, rights, window kind, operands and destinations. -/
def atIssue (o : AT) (op : UnitOp) (n cap kind v v2 : Nat) (d d2 : Option Dest) (s : State) : State :=
  s.issueAt 4 true (s.pre.targetOf s.cur (s.pre.areg o.base.toNat) (atOff o n)
    { size := n, align := n, cap := cap, rd := true, wr := true, kind := kind, data := v }) fun t =>
    s.addUnit { s.unitOf 4 op t n with
      data := v
      data2 := v2
      dest := d
      dest2 := d2
      order := o.ord.toNat }

/-- The low n bytes of a scalar register. -/
def sLow (x : Ctx) (r : BitVec 5) (n : Nat) : Nat := (x.sreg r.toNat).toNat % 2 ^ (8 * n)

/-- amo (R184). -/
def amoOp (o : AT) (op n : Nat) (s : State) : State :=
  atIssue o (.atomic op (destOf (rS o.d)).isSome) n 4 (if op = 0 then 3 else 5) (sLow s.pre o.data n) 0 (destOf (rS o.d)) none s
/-- red (R186). -/
def redOp (o : AT) (op n : Nat) (s : State) : State :=
  atIssue o (.atomic op false) n 8 (if op = 0 then 4 else if op = 9 then 6 else 5) (sLow s.pre o.data n) 0 none none s

/-- cas.32 and cas.64 (R185). -/
def casOp (o : AT) (n : Nat) (s : State) : State :=
  atIssue o .cas n 4 5 (sLow s.pre o.data n) (sLow s.pre (BitVec.ofNat 5 (AT.newReg o)) n) (destOf (rS o.d)) none s
/-- A pair of scalar registers, the low half in the even one; (s0, s1) supplies 0 for the low half. -/
def sPair (x : Ctx) (r : BitVec 5) : Nat := (x.sreg r.toNat).toNat + 2 ^ 64 * (x.sreg (r + 1).toNat).toNat
/-- cas.128. -/
def cas128Op (o : AT) (s : State) : State :=
  let some? := (destOf (rS o.d)).isSome
  atIssue o .cas 16 4 6 (sPair s.pre o.data) (sPair s.pre (BitVec.ofNat 5 (AT.newReg o))) (destOf (rS o.d))
    (if some? then some (rS (o.d + 1)) else none) s

/-- amo.add.32. -/
def execAmoAdd32 (o : AT) (s : State) : Out := issueOp (.amoAdd32 o) (amoOp o 0 4) s
/-- amo.add.64. -/
def execAmoAdd64 (o : AT) (s : State) : Out := issueOp (.amoAdd64 o) (amoOp o 0 8) s
/-- amo.and.32. -/
def execAmoAnd32 (o : AT) (s : State) : Out := issueOp (.amoAnd32 o) (amoOp o 1 4) s
/-- amo.and.64. -/
def execAmoAnd64 (o : AT) (s : State) : Out := issueOp (.amoAnd64 o) (amoOp o 1 8) s
/-- amo.or.32. -/
def execAmoOr32 (o : AT) (s : State) : Out := issueOp (.amoOr32 o) (amoOp o 2 4) s
/-- amo.or.64. -/
def execAmoOr64 (o : AT) (s : State) : Out := issueOp (.amoOr64 o) (amoOp o 2 8) s
/-- amo.xor.32. -/
def execAmoXor32 (o : AT) (s : State) : Out := issueOp (.amoXor32 o) (amoOp o 3 4) s
/-- amo.xor.64. -/
def execAmoXor64 (o : AT) (s : State) : Out := issueOp (.amoXor64 o) (amoOp o 3 8) s
/-- amo.min.32. -/
def execAmoMin32 (o : AT) (s : State) : Out := issueOp (.amoMin32 o) (amoOp o 4 4) s
/-- amo.min.64. -/
def execAmoMin64 (o : AT) (s : State) : Out := issueOp (.amoMin64 o) (amoOp o 4 8) s
/-- amo.max.32. -/
def execAmoMax32 (o : AT) (s : State) : Out := issueOp (.amoMax32 o) (amoOp o 5 4) s
/-- amo.max.64. -/
def execAmoMax64 (o : AT) (s : State) : Out := issueOp (.amoMax64 o) (amoOp o 5 8) s
/-- amo.minu.32. -/
def execAmoMinu32 (o : AT) (s : State) : Out := issueOp (.amoMinu32 o) (amoOp o 6 4) s
/-- amo.minu.64. -/
def execAmoMinu64 (o : AT) (s : State) : Out := issueOp (.amoMinu64 o) (amoOp o 6 8) s
/-- amo.maxu.32. -/
def execAmoMaxu32 (o : AT) (s : State) : Out := issueOp (.amoMaxu32 o) (amoOp o 7 4) s
/-- amo.maxu.64. -/
def execAmoMaxu64 (o : AT) (s : State) : Out := issueOp (.amoMaxu64 o) (amoOp o 7 8) s
/-- amo.swap.32. -/
def execAmoSwap32 (o : AT) (s : State) : Out := issueOp (.amoSwap32 o) (amoOp o 8 4) s
/-- amo.swap.64. -/
def execAmoSwap64 (o : AT) (s : State) : Out := issueOp (.amoSwap64 o) (amoOp o 8 8) s
/-- red.add.32. -/
def execRedAdd32 (o : AT) (s : State) : Out := issueOp (.redAdd32 o) (redOp o 0 4) s
/-- red.add.64. -/
def execRedAdd64 (o : AT) (s : State) : Out := issueOp (.redAdd64 o) (redOp o 0 8) s
/-- red.and.32. -/
def execRedAnd32 (o : AT) (s : State) : Out := issueOp (.redAnd32 o) (redOp o 1 4) s
/-- red.and.64. -/
def execRedAnd64 (o : AT) (s : State) : Out := issueOp (.redAnd64 o) (redOp o 1 8) s
/-- red.or.32. -/
def execRedOr32 (o : AT) (s : State) : Out := issueOp (.redOr32 o) (redOp o 2 4) s
/-- red.or.64. -/
def execRedOr64 (o : AT) (s : State) : Out := issueOp (.redOr64 o) (redOp o 2 8) s
/-- red.xor.32. -/
def execRedXor32 (o : AT) (s : State) : Out := issueOp (.redXor32 o) (redOp o 3 4) s
/-- red.xor.64. -/
def execRedXor64 (o : AT) (s : State) : Out := issueOp (.redXor64 o) (redOp o 3 8) s
/-- red.min.32. -/
def execRedMin32 (o : AT) (s : State) : Out := issueOp (.redMin32 o) (redOp o 4 4) s
/-- red.min.64. -/
def execRedMin64 (o : AT) (s : State) : Out := issueOp (.redMin64 o) (redOp o 4 8) s
/-- red.max.32. -/
def execRedMax32 (o : AT) (s : State) : Out := issueOp (.redMax32 o) (redOp o 5 4) s
/-- red.max.64. -/
def execRedMax64 (o : AT) (s : State) : Out := issueOp (.redMax64 o) (redOp o 5 8) s
/-- red.minu.32. -/
def execRedMinu32 (o : AT) (s : State) : Out := issueOp (.redMinu32 o) (redOp o 6 4) s
/-- red.minu.64. -/
def execRedMinu64 (o : AT) (s : State) : Out := issueOp (.redMinu64 o) (redOp o 6 8) s
/-- red.maxu.32. -/
def execRedMaxu32 (o : AT) (s : State) : Out := issueOp (.redMaxu32 o) (redOp o 7 4) s
/-- red.maxu.64. -/
def execRedMaxu64 (o : AT) (s : State) : Out := issueOp (.redMaxu64 o) (redOp o 7 8) s
/-- red.fadd.32. -/
def execRedFadd32 (o : AT) (s : State) : Out := issueOp (.redFadd32 o) (redOp o 9 4) s
/-- cas.32. -/
def execCas32 (o : AT) (s : State) : Out := issueOp (.cas32 o) (casOp o 4) s
/-- cas.64. -/
def execCas64 (o : AT) (s : State) : Out := issueOp (.cas64 o) (casOp o 8) s
/-- cas.128. -/
def execCas128 (o : AT) (s : State) : Out := issueOp (.cas128 o) (cas128Op o) s

/-! ## Fences (R406): what they wait for holds when the bundle issues -/

/-- The write side of a fence: at pkg scope or wider every dirty byte of the cluster cache is written back. -/
def State.fenceWrites (s : State) : State := s.release s.cur s.issue.scope fun _ => true
/-- The read side: later accesses wait for the loads of the fence's bundle; then the cache invalidates every line. -/
def State.fenceReads (s : State) : State := s.addUnit (s.unitOf 4 .fence .none 0)

/-- fence. -/
def execFence (o : FB) (s : State) : Out := issueOp (.fence o) (fun s => s.fenceWrites.fenceReads) s
/-- fence.rel. -/
def execFenceRel (o : FB) (s : State) : Out := issueOp (.fenceRel o) (fun s => s.fenceWrites) s
/-- fence.acq. -/
def execFenceAcq (o : FB) (s : State) : Out := issueOp (.fenceAcq o) (fun s => s.fenceReads) s

/-! ## Binding (R191, R192) -/

/-- Are the reserved bits of an object operand zero, and a waymark operand a waymark handle (R169, R191, R192)? -/
def Ctx.objOk (x : Ctx) (kind : Nat) (v : Word) : Bool :=
  match kind with
  | 0 => true
  | 1 => decide (v.toNat < 64) && (x.handle v.toNat).isWaymark
  | 2 => decide (v.toNat < 16)
  | 3 => decide (v.toNat < 2 ^ 14)
  | _ => decide (v.toNat < 2 ^ 32)

/-- The binding a bind names. -/
def bindingOf (x : Ctx) (o : FB) : Binding :=
  { base := x.areg o.base.toNat, len := x.areg o.len.toNat, obj := x.areg o.obj.toNat, kind := o.kind.toNat }

/-- bind. -/
def execBind (o : FB) (s : State) : Out :=
  issueOp (.bind o) (fun s =>
    let b := bindingOf s.pre o
    let code := slotCode 4 0 false
    if b.len = 0 ∨ !s.pre.objOk b.kind b.obj ∨ (16 ≤ s.pre.binds.length ∧ b ∉ s.pre.binds) then s.fail cOperand code 0
    else
      let put := s.upd fun x => if x.binds.contains b then x else { x with binds := x.binds ++ [b] }
      if b.kind = 0 then s.issueAt 4 false (s.pre.targetOf s.cur b.obj 0 (loadNeed 8 8 0)) fun _ => put
      else put) s

/-- unbind: its object is checked as that of a bind (R191, log entry 26); where entries differ in length alone, all of them go (log entry
74). -/
def execUnbind (o : FB) (s : State) : Out :=
  issueOp (.unbind o) (fun s =>
    let b := bindingOf s.pre o
    if !s.pre.objOk b.kind b.obj then s.fail cOperand (slotCode 4 0 false) 0
    else
      let cut := s.upd fun x => { x with binds := x.binds.filter fun e => !(e.base == b.base && e.obj == b.obj && e.kind == b.kind) }
      if b.kind = 0 then s.issueAt 4 false (s.pre.targetOf s.cur b.obj 0 (loadNeed 8 8 0)) fun _ => cut
      else cut) s

/-! ## Handles (R193, R194) -/

/-- Size operand of a halloc. -/
def hallocSize (x : Ctx) (o : LH) : Nat :=
  match o.ext with
  | some e => e.toNat
  | none => (x.own o.l1 o.a).toNat

/-- halloc: PENDING from issue; a second halloc of the handle in the bundle finds it pending (R194). -/
def execHalloc (o : LH) (s : State) : Out :=
  issueOp (.halloc o) (fun s =>
    let n := hallocSize s.pre o
    let h := o.d.toNat
    if (s.pre.handle h).bound ∨ (s.now.handle h).pending ∨ 2 ^ 24 ≤ n then s.fail cOperand (slotCode (lSlot o.l1) 0 false) 0
    else s.upd fun x => { x.setHandle h { Handle.reset with pending := true } with
      hallocs := x.hallocs ++ [(h, o.sub.toNat, n % 65536, n / 65536 % 256)] }) s

/-- The handle is unbound and its storage waits for the engine operations in flight that name it; an operation whose footprint only covers
the storage does not name it (log entry 75). -/
def Ctx.hfree (x : Ctx) (h : Nat) : Ctx :=
  let v := x.handle h
  if v.isGroup then
    { x.setHandle h Handle.reset with
      releasing := x.releasing ++ [(v.base, v.size, (x.eng.filter fun e => e.handles.contains h).map (·.id))] }
  else x

/-- hfree: of a group handle; it has no effect on another. -/
def execHfree (o : LH) (s : State) : Out := issueOp (.hfree o) (fun s => s.upd fun x => x.hfree o.d.toNat) s

/-- hinfo. -/
def execHinfo (o : LH) (s : State) : Out :=
  issueOp (.hinfo o) (fun s => s.hidden (rS (o.d.setWidth 5)) (s.pre.handle o.h.toNat).word.toNat) s

/-! ## Capabilities (R195, R196) -/

/-- kderive.ld. -/
def execKderiveLd (o : LH) (s : State) : Out :=
  issueOp (.kderiveLd o) (fun s =>
    let t := match s.pre.targetOf s.cur (s.pre.own o.l1 o.a) 0 (loadNeed 16 16 9) with
      | .ok (.ia a) => .ok (.ia a)
      | .ok _ => .error (cProt, 0)
      | .error e => if e.1 = cProt then .error e else .error (cProt, 0)
    s.issueAt (lSlot o.l1) false t fun t =>
      s.addLoad { s.unitOf (lSlot o.l1) (.load false) t 16 with dest := some (rK (o.d.toNat % 16)) }) s

/-- kderive.rs. -/
def execKderiveRs (o : LH) (s : State) : Out :=
  issueOp (.kderiveRs o) (fun s =>
    let lim := (s.pre.own o.l1 o.a).toNat
    let k := s.pre.kreg (o.h.toNat % 16)
    let code := slotCode (lSlot o.l1) 0 false
    if 2 ^ 14 ≤ lim then s.fail cOperand code 0
    else if !k.getLsbD 5 then s.fail cCap code 0
    else s.addUnit { s.unitOf (lSlot o.l1) .reseal (.pool k 0) 16 with
      data := lim
      dest := some (rK (o.d.toNat % 16)) }) s

/-- kderive.st. -/
def execKderiveSt (o : LH) (s : State) : Out :=
  issueOp (.kderiveSt o) (fun s =>
    let v := (s.pre.kreg (o.h.toNat % 16)).toNat
    let t := match s.pre.targetOf s.cur (s.pre.own o.l1 o.a) 0 (storeNeed 16 9 v) with
      | .ok (.ia a) => .ok (.ia a)
      | .ok _ => .error (cProt, 0)
      | .error e => if e.1 = cProt then .error e else .error (cProt, 0)
    s.issueAt (lSlot o.l1) true t fun t => s.addStore { s.unitOf (lSlot o.l1) (.store false) t 16 with data := v }) s

/-- kchk. -/
def execKchk (o : LH) (s : State) : Out :=
  issueOp (.kchk o) (fun s =>
    s.addUnit { s.unitOf (lSlot o.l1) .check (.pool (s.pre.kreg (o.h.toNat % 16)) 0) 0 with
      dest := destOf (rS (o.d.setWidth 5)) }) s

end Sys2Proof.Machine
end

