-- ==== Sys2Proof/Machine/Slots.lean ====
section
/-! DEFINITION. Slots, joins and placement (R477 to R483), and the messages without a window that accesses and jobs send to the pool (R480,
R491, R497). -/

namespace Sys2Proof.Machine

/-! ## Joins (R477, R478) -/

/-- The plane that joins endpoints at a distance in a slot: d = (u - 4p) mod 64. -/
def planeFor (slot d : Nat) : Option Nat :=
  let x := (slot % 64 + 64 - d % 64) % 64
  if d % 64 = 0 then none else if x % 4 = 0 then some (x / 4) else none

/-- The distance of two modules of one domain. -/
def distance (a b : Nat) : Nat := (a % 64) ^^^ (b % 64)

/-- A port. -/
def State.port (s : State) (p : Nat) : Port := Store.get Port.reset s.fab.ports p
/-- Change a port. -/
def State.modPort (s : State) (p : Nat) (f : Port → Port) : State :=
  { s with fab := { s.fab with ports := Store.put s.fab.ports p (f (s.port p)) } }
/-- Change the fabric interface. -/
def State.modFab (s : State) (f : Fabric → Fabric) : State := { s with fab := f s.fab }
/-- Does a port carry flits: neither paused nor fenced (R492, R493)? -/
def Port.usable (p : Port) : Bool := !p.fenced && p.pausedAt.isNone
/-- Is a port in service: of the 16, only ports 0 and 1 before full service, and none before they are calibrated (R469, R470)? -/
def State.portUp (s : State) (p : Nat) : Bool := decide (6 ≤ s.pow.stage) || (decide (p < 2) && decide (4 ≤ s.pow.stage))
/-- Does a port carry flits now? -/
def State.portUsable (s : State) (p : Nat) : Bool := (s.port p).usable && s.portUp p
/-- Are all 16 ports fenced (R494)? -/
def State.allFenced (s : State) : Bool := (List.range 16).all fun p => (s.port p).fenced

/-- The 128-bit header of a flit (R479). -/
def Flit.header (f : Flit) : BitVec 128 :=
  BitVec.ofNat 128 (f.len % 2 ^ 8 + 2 ^ 8 * (f.rsv % 4) + 2 ^ 10 * (f.tstate % 4) + 2 ^ 12 * f.fwd.toNat + 2 ^ 13 * (f.cls % 8) +
    2 ^ 16 * (f.tag % 2 ^ 16) + 2 ^ 32 * (f.dst % 2 ^ 16) + 2 ^ 48 * (f.src % 2 ^ 16) + 2 ^ 64 * (f.ofs % 2 ^ 32) + 2 ^ 96 * (f.stamp % 2 ^ 32))

/-- The flit of a header and its 240 bytes of payload. -/
def Flit.ofHeader (h : BitVec 128) (payload : BitVec 1920) : Flit :=
  let v := h.toNat
  { stamp := bitsN v 96 32, ofs := bitsN v 64 32, src := bitsN v 48 16, dst := bitsN v 32 16, tag := bitsN v 16 16, cls := bitsN v 13 3
    rsv := bitsN v 8 2, fwd := bitsN v 12 1 == 1, tstate := bitsN v 10 2, len := bitsN v 0 8, payload := payload }

/-- TSTATE of a timing state (R479). -/
def Timing.code : Timing → Nat
  | .locked => 0
  | .phase1 => 1
  | .phase2 => 2
  | .nosync => 3

/-- Guard of a slot in ns, widened from phase 2 on (R477, R485, log entry 61). -/
def Timing.guard (t : Timing) : Nat :=
  match t with
  | .locked => 16
  | .phase1 => 16
  | _ => 64

/-- Does the module take part in the fabric: its ports are calibrated, its power is on, it is not in recovery mode, and not in PS3 or PS4 (R469,
R472, R475, R476)? -/
def State.fabricUp (s : State) : Bool := decide (4 ≤ s.pow.stage) && s.pow.on && !s.pow.recovery && decide (s.pow.ps < 3)

/-- A fabric message reaches the module, where it takes part in the fabric, and wakes it from PS1 and PS2 (R475). -/
def State.fabricArrives (s : State) (act : State → State) : State :=
  if s.fabricUp then act { s with pow := { s.pow with ps := 0 } } else s

/-- May flits be sent in a slot (R483)? -/
def Timing.sends (t : Timing) (slot : Nat) : Bool :=
  match t with
  | .nosync => false
  | .phase2 => slot % 2 == 0
  | _ => true
/-- Flits of a plane slot that are kept for forwarding, and the others (R479). -/
def Timing.shares (t : Timing) : Nat × Nat := if t == .phase2 then (60, 240) else (75, 300)
/-- The shares now: a quarter of them while the wavelengths run at 100 of their 400 Gb/s (R470). -/
def State.shares (s : State) : Nat × Nat :=
  if 6 ≤ s.pow.stage then s.fab.timing.shares else (s.fab.timing.shares.1 / 4, s.fab.timing.shares.2 / 4)

/-- An error record of the fabric: the detail is the slot counter (R496). -/
def State.fabricError (s : State) (code : Nat) : State := s.postError code 0 s.fab.slot.toNat

/-! ## Placement (R481) -/

/-- Own-share flits free in a slot of a port, room in its retry buffer counted: what is placed there takes from both. -/
def State.slotRoom (s : State) (slot port : Nat) : Nat :=
  if !s.portUsable port ∨ !s.fab.timing.sends slot then 0
  else min s.shares.2 (768 - (s.port port).retry.length) - (s.fab.placed.filter fun e => e.slot == slot && e.port == port).length

/-- The third modules a detour to a peer may take, lowest first. -/
def State.detours (s : State) (peer : Nat) : List Nat :=
  s.fab.members.filter fun m => m != peer && m != s.fab.selfId && decide (m / 64 = s.fab.selfId / 64) && decide (Store.get 3 s.fab.tstates m ≤ 1)

/-- The candidates that arrive `k` slots from now, in order: slot, port and third module; none before `k0` slots from now. -/
def State.candidates (s : State) (peer k0 k : Nat) : List (Nat × Nat × Option Nat) :=
  let now := s.fab.slot.toNat
  let at_ := fun (i : Nat) => (now + i) % 2 ^ 32
  (match planeFor (at_ k) (distance s.fab.selfId peer) with
   | some p => [(at_ k, p, none)]
   | none => []) ++
  (s.detours peer).flatMap fun m =>
    if (planeFor (at_ k) (distance m peer)).isNone then []
    else [4, 3, 2, 1].filterMap fun i =>
      if k < k0 + i then none else (planeFor (at_ (k - i)) (distance s.fab.selfId m)).map fun p => (at_ (k - i), p, some m)

/-- Take free flits from candidates, `n` at most. -/
def State.takeRoom (s : State) : Nat → List (Nat × Nat × Option Nat) → List (Nat × Nat × Option Nat)
  | _, [] => []
  | n, e :: l =>
    let t := min n (s.slotRoom e.1 e.2.1)
    List.replicate t e ++ s.takeRoom (n - t) l

/-- Places for `n` flits in arrival slots from `k` slots from now on, `fuel` of them. -/
def State.findPlaces (s : State) (peer k0 : Nat) : Nat → Nat → Nat → Option (List (Nat × Nat × Option Nat))
  | _, _, 0 => some []
  | 0, _, _ => none
  | fuel + 1, k, n =>
    let l := s.takeRoom n (s.candidates peer k0 k)
    (s.findPlaces peer k0 fuel (k + 1) (n - l.length)).map fun r => l ++ r

/-- Has the last slot of a window passed (R291)? -/
def State.windowPassed (s : State) (late : Nat) : Bool := decide (2 ^ 31 ≤ sub32 late s.fab.slot.toNat)

/-- Places for `n` flits to a peer inside a window, from the present slot on: all or none (R481). -/
def State.placesFor (s : State) (peer early late n : Nat) : Option (List (Nat × Nat × Option Nat)) :=
  if s.windowPassed late then none
  else
    let now := s.fab.slot.toNat
    let k := sub32 early now
    let k0 := if 2 ^ 31 ≤ k then 0 else k
    s.findPlaces peer k0 (sub32 late now + 1 - k0) k0 n

/-- Flits are reserved in their places. -/
def State.reserve (s : State) (job : Option (Nat × Nat)) (places : List (Nat × Nat × Option Nat)) (flits : List Flit) : State :=
  s.modFab fun f => { f with
    placed := f.placed ++ (places.zip flits).map fun e =>
      ({ slot := e.1.1, port := e.1.2.1, flit := { e.2 with fwd := e.1.2.2.isSome }, job := job, via := e.1.2.2 } : Placed) }

/-! ## Messages without a window (R480, R491, R494, R497) -/

/-- The key of a module and a stream. -/
def streamKey (peer stream : Nat) : Nat := 256 * peer + stream

/-- Does an entry serve a job? -/
def Placed.serves (e : Placed) (j : Nat × Nat) : Bool := e.job == some j
/-- Is it of a class with a window: DATA, ENQ, ARRIVE (R491)? -/
def Placed.windowed (e : Placed) : Bool := decide (4 ≤ e.flit.cls) && decide (e.flit.cls ≤ 6)
/-- The endpoint a flit goes to first. -/
def Placed.hop (e : Placed) : Nat := e.via.getD e.flit.dst

/-- The flits of a job are discarded, wherever they stand. -/
def State.dropFlits (s : State) (j : Nat × Nat) : State :=
  s.modFab fun f => { f with
    placed := f.placed.filter fun e => !e.serves j
    owed := f.owed.filter fun e => !e.serves j
    ports := f.ports.map fun p => (p.1, { p.2 with retry := p.2.retry.filter fun e => !e.serves j }) }

/-- Does a flit of a job wait to be sent or acknowledged? -/
def State.flitsOut (s : State) (j : Nat × Nat) : Bool :=
  s.fab.placed.any (fun e => e.serves j) || s.fab.owed.any (fun e => e.serves j) || s.fab.ports.any fun p => p.2.retry.any fun e => e.serves j

/-- The earliest slot from `k` slots from now on, of `fuel`, that has room and joins the module directly to an endpoint, and its port. -/
def State.directSlot (s : State) (dst : Nat) : Nat → Nat → Option (Nat × Nat)
  | 0, _ => none
  | fuel + 1, k =>
    let at_ := (s.fab.slot.toNat + k) % 2 ^ 32
    match planeFor at_ (distance s.fab.selfId dst) with
    | some p => if 0 < s.slotRoom at_ p then some (at_, p) else s.directSlot dst fuel (k + 1)
    | none => s.directSlot dst fuel (k + 1)

/-- A flit is placed in the earliest direct slot with room; where the module finds none, in NOSYNC or with its ports paused, fenced or full, it
waits for one (R480, R483, R494). -/
def State.placeFlit (s : State) (e : Placed) : State :=
  match s.directSlot e.hop (64 * (2 + s.fab.placed.length)) 0 with
  | some (slot, port) => s.modFab fun f => { f with placed := f.placed ++ [{ e with
      slot := slot
      port := port }] }
  | none => s.modFab fun f => { f with owed := f.owed ++ [e] }

/-- The flits that wait for a slot look for one again. -/
def State.placeOwed (s : State) : State :=
  s.fab.owed.foldl State.placeFlit (s.modFab fun f => { f with owed := [] })

/-- The pool node that serves an object or, above all OBJIDs, an address space's commits: the spec names no endpoint of the pool, so it is some
other endpoint of the module's domain (log entry 84). -/
def State.poolNode (s : State) (obj : Nat) : Nat :=
  s.fab.selfId / 64 * 64 + ((s.fab.selfId % 64) ^^^ (1 + Config.poolNode obj % 63))

/-- The flits of a message without a window: its class, destination, body and bytes of data. Up to 208 bytes of the data follow the
operation's own fields in each flit (log entry 84). -/
def State.openFlits (s : State) (cls dst body n : Nat) : List Flit :=
  (List.range (max 1 (ceilDiv n 208))).map fun i =>
    { stamp := 0, ofs := (208 * i) % 2 ^ 32, src := s.fab.selfId, dst := dst, tag := Store.get 0 s.fab.msgNo dst, cls := cls, rsv := 0, fwd := false
      tstate := s.fab.timing.code, len := 31 + min 208 (n - 208 * i)
      payload := BitVec.ofNat 1920 (body % 2 ^ 256 + 2 ^ 256 * bitsN (body / 2 ^ 256) (1664 * i) 1664) }

/-- A message without a window is made and its flits are placed; it serves a job, or none (R480). -/
def State.sendOpen (s : State) (job : Option (Nat × Nat)) (cls dst body n : Nat) : State :=
  ((s.openFlits cls dst body n).foldl (fun (t : State) f => t.placeFlit { slot := 0, port := 0, flit := f, job := job, via := none }) s).modFab
    fun f => { f with msgNo := Store.put f.msgNo dst ((Store.get 0 f.msgNo dst + 1) % 2 ^ 16) }

/-- The fields of a pool operation (R497): capability, object offset, step tag; its data follows. -/
def poolBody (k : Word128) (off : Nat) (step : Word) (v : Nat) : Nat :=
  k.toNat + 2 ^ 128 * (off % 2 ^ 64) + 2 ^ 192 * step.toNat + 2 ^ 256 * v

/-- What goes through messages: they are made, their flits go out and are acknowledged, and then it acts. A removed module sends nothing (R480,
R491, R507). Those of a context's access or job are made once; those of the front end once for each act. -/
def State.viaMessages (s : State) (j : Nat × Nat) (l : List (Nat × Nat × Nat × Nat)) (act : State → State) : State :=
  if s.fab.removed then act s
  else if !s.fab.sent.contains j then
    l.foldl (fun t m => t.sendOpen (some j) m.1 m.2.1 m.2.2.1 m.2.2.2) (s.modFab fun f => { f with sent := j :: f.sent })
  else if s.flitsOut j then s
  else act (if j.1 < 1024 then s else s.modFab fun f => { f with sent := f.sent.erase j })

/-- What goes through one message: its class, destination, body and bytes of data. -/
def State.viaMessage (s : State) (j : Nat × Nat) (cls dst body n : Nat) (act : State → State) : State :=
  s.viaMessages j [(cls, dst, body, n)] act

/-- Is the message of an access or a job out and acknowledged, or sent by none? -/
def State.messageDone (s : State) (j : Nat × Nat) : Bool := s.fab.removed || (s.fab.sent.contains j && !s.flitsOut j)

/-- The accesses and jobs that are no more have no message (R318). -/
def State.settleSent (s : State) : State :=
  let live := fun (j : Nat × Nat) =>
    decide (1024 ≤ j.1) || (s.ctx j.1).units.any (fun u => u.id == j.2) || (s.ctx j.1).eng.any fun o => o.id == j.2
  s.modFab fun f => { f with sent := f.sent.filter live }

/-- Class of the message of a pool access; none where a covering frame serves it (R421, R497). -/
def State.unitClass (s : State) (c : Nat) (u : MemUnit) : Option Nat :=
  match u.target with
  | .pool k off =>
    (match u.op with
     | .load _ | .scale _ => if (s.frameFor (s.ctx c).asid k off u.size).isSome then none else some 0
     | .store _ => some 0
     | .atomic _ _ | .cas => some 1
     | .reseal | .check => some 7
     | _ => none)
  | _ => none

/-- A pool access goes through its message. -/
def State.unitMessage (s : State) (c : Nat) (u : MemUnit) (act : State → State) : State :=
  match s.unitClass c u, u.target with
  | some cls, .pool k off => s.viaMessage (c, u.id) cls (s.poolNode (capObj k)) (poolBody k off u.stepTag u.data) (if u.isStore then u.size else 0) act
  | _, _ => act s

/-- Class of the message of an engine operation that acts at the pool; none for any other (R497). -/
def EngOp.msgClass (o : EngOp) : Option Nat :=
  match o.instr with
  | .bred _ | .gred _ | .gmld _ | .grpset _ => some 3
  | .lrel _ => some 7
  | .bget _ | .bwr _ => some 2
  | _ => if o.foot.any fun f => f.space == 2 then (if o.engine = .e then some 2 else some 0) else none

/-- The capability a job uses for a k register. -/
def EngOp.capOf (o : EngOp) (k : Nat) : Word128 := Store.get 0 o.caps k

/-- The regions of pool objects in an operation's footprint, each with the capability under which it is reached: the k register that the CRA of its
card entry names, as the entries stand first and in the card's order, or the operation's own (R163, R263, R497). -/
def EngOp.regions (o : EngOp) : List (Word128 × Foot) :=
  let named := if o.engine = .e then (cardFoots o.card).filterMap fun f => if f.space = 0 then none else (craReg f.base).map o.capOf else []
  let l := o.foot.filter fun f => f.space == 2
  (named ++ List.replicate l.length o.cap).zip l

/-- The object offset that a lease or group command's message carries: OFF of lrel, ROFF of grpset or of the group that gred and gmld found. -/
def EngOp.namedOff (o : EngOp) : Nat :=
  match o.instr with
  | .lrel _ => bitsN o.card (8 * 0x80) 64
  | .grpset _ => bitsN o.card (8 * 0x90) 64
  | _ => bitsN o.vec.toNat 64 64

/-- The messages of an operation that acts at the pool: one for each region of an object in its footprint, with that region's capability, offset
and, for a write, bytes; one in all for a lease or group command (R497, log entry 84). -/
def State.opMessages (s : State) (o : EngOp) (cls : Nat) : List (Nat × Nat × Nat × Nat) :=
  let one := fun (k : Word128) (off n : Nat) => (cls, s.poolNode (capObj k), poolBody k off o.stepTag 0, n)
  match o.instr with
  | .gred _ => [one o.cap o.namedOff o.total]
  | .gmld _ | .grpset _ | .lrel _ => [one o.cap o.namedOff 0]
  | _ => o.regions.map fun e => one e.1 e.2.base (if e.2.wr then e.2.len else 0)

/-- The write messages of an operation that the pool has accepted count for their step, bred's among them (R497, R503, log entry 107). -/
def State.countOp (s : State) (o : EngOp) : State :=
  match o.instr with
  | .gred _ | .gmld _ | .grpset _ | .lrel _ => s
  | _ => s.countWrites o.stepTag (o.regions.filter fun e => e.2.wr && s.poolFinding e.1 == 0).length

/-- Must an operation wait for a store that frames show and the pool has still to take, one of its own context too (R403)? -/
def State.opAhead (s : State) (o : EngOp) : Bool := o.foot.any fun f => f.space == 2 && f.rd && s.frameShows (fun _ => true) f.obj f.base f.len

/-- An engine operation that acts at the pool goes through its messages; rows that frames hold need none (R421). -/
def State.opMessage (s : State) (c : Nat) (o : EngOp) (act : State → State) : State :=
  let framed := fun (f : Foot) => !f.wr && (s.frameFor (s.ctx c).asid o.cap f.base f.len).isSome
  match (if o.engine = .d ∧ o.foot.all (fun f => f.space != 2 || framed f) then none else o.msgClass) with
  | none => act s
  | some cls => s.viaMessages (c, o.id) (s.opMessages o cls) fun t => if t.opAhead o then t else act t

end Sys2Proof.Machine
end

