-- ==== Sys2Proof/Machine/EngineOps.lean ====
section
/-! DEFINITION. Handing an operation to an engine and completing it: footprints, edges, and what a completion leaves (R227 to R231,
R266, R267, R226). -/

namespace Sys2Proof.Machine

/-! ## Footprints (R266, R267) -/

/-- Do two footprint entries share storage? -/
def Foot.overlaps (f g : Foot) : Bool :=
  f.space == g.space && f.obj == g.obj && decide (f.base < g.base + g.len) && decide (g.base < f.base + f.len)
/-- Do two operations conflict: an overlap where at least one of them writes? -/
def conflicts (p j : EngOp) : Bool := p.foot.any fun f => j.foot.any fun g => f.overlaps g && (f.wr || g.wr)

/-- A scratch entry. -/
def footScratch (base len : Nat) (rd wr : Bool) : Foot := { space := 0, obj := 0, base := base, len := len, rd := rd, wr := wr }
/-- The storage of a handle. -/
def footHandle (h : Handle) (rd wr : Bool) : Foot := footScratch h.base h.size rd wr
/-- An accumulator, which overlaps only itself. -/
def footAcc (acc : Nat) (rd wr : Bool) : Foot := { space := 3, obj := 0, base := acc, len := 1, rd := rd, wr := wr }
/-- Bytes of a target. -/
def footTarget (t : Target) (len : Nat) (rd wr : Bool) : Foot :=
  match t with
  | .ia a => { space := 1, obj := 0, base := a, len := len, rd := rd, wr := wr }
  | .pool k o => { space := 2, obj := capObj k, base := o, len := len, rd := rd, wr := wr }
  | .none => footScratch 0 0 rd wr

/-! ## Issue (R227, R267) -/

/-- An operation with everything it reads at issue that does not depend on its form. -/
def State.engOf (s : State) (i : Instr) (q : Engine) : EngOp :=
  let x := s.pre
  { id := 0, engine := q, instr := i, scope := s.issue.scope, handles := (infoOf i).hands, foot := [], edges := [], card := 0, cap := 0
    caps := [], fmtA := 0, fmtB := 0, offA := x.mat.offA.toNat, offB := x.mat.offB.toNat, scales := [], tiles := [], vec := 0
    acc := 0, step := x.csr.stepid, seed := x.csr.srseed, stepTag := s.stepTag x, pos := 0, total := 0
    waymark := 0, fields := Half.reset, status := 0
    begun := false, suspended := false, answer := none }

/-- An operation joins its queue: it gets its number, an edge to every earlier operation of the context that it conflicts with, and to
every M, D and O operation before the last mfence (R226, R267); its hidden destinations become busy; storage freed in its own bundle
waits for it (R194, R215). -/
def Ctx.addEng (x : Ctx) (o : EngOp) : Ctx :=
  let n := x.nextUnit
  let edges := o.edges ++ (x.eng.filter fun p => conflicts p o || (p.engine != .e && decide (p.id < x.mfence))).map (·.id)
  let y := (infoOf o.instr).hid.foldl Ctx.setBusy x
  { y with
    eng := y.eng ++ [{ o with
      id := n
      edges := edges }]
    nextUnit := n + 1
    releasing := y.releasing.map fun e => if o.tiles.any (fun t => t.1 == e.1) then (e.1, e.2.1, e.2.2 ++ [n]) else e }

/-- Issue an operation. -/
def State.addEng (s : State) (o : EngOp) : State := s.upd fun x => x.addEng o

/-- BASE and ROWW of a handle. -/
def Handle.tile (h : Handle) : Nat × Nat := (h.base, h.roww)

/-! ## Completion -/

/-- An operation in flight, by its number. -/
def Ctx.engOp (x : Ctx) (id : Nat) : Option EngOp := x.eng.find? fun o => o.id == id
/-- May it begin: every operation it has an edge to has completed, and so has every access that precedes it in program order (R181, R267,
R268, R400)? -/
def Ctx.engReady (x : Ctx) (o : EngOp) : Bool :=
  o.edges.all (fun e => !x.eng.any fun p => p.id == e) && x.units.all (fun u => decide (o.id ≤ u.id) || !u.isAccess) && !o.suspended
/-- It leaves its queue. -/
def Ctx.engDone (x : Ctx) (id : Nat) : Ctx := { x with eng := x.eng.filter fun o => !(o.id == id) }
/-- Change an operation in flight. -/
def Ctx.modEng (x : Ctx) (id : Nat) (f : EngOp → EngOp) : Ctx :=
  { x with eng := x.eng.map fun o => if o.id == id then f o else o }
/-- The flags of its roundings enter FPSTAT at completion, without a trap (R230). -/
def Ctx.orFlags (x : Ctx) (fl : Nat) : Ctx := { x with csr := { x.csr with fpstat := fpstatAfter x.csr.fpstat fl 0 } }

/-- An event of a context: none outside the module's 1,024. -/
def onCtx (c : Nat) (t : State) : Out := if c < 1024 then .next t else .fault .noSuchUnit

/-- The lowest free task id (R442). -/
def State.freeTask (s : State) : Option Nat := Store.lowestFree s.fe.tasks 16384 0

/-- The object that an operation releases, with its scope: the task that a tdec names or a tspawn makes, the peer's task of an enq or arrive, the group of a
gred (R279, R397). -/
def State.releasedBy (s : State) (o : EngOp) : Option (Nat × SyncObj) :=
  match o.instr with
  | .tdec _ => some (o.scope, { kind := 3, at_ := cardBits o.card 0x80 0 14, obj := 0 })
  | .tspawn _ => s.freeTask.map fun id => (o.scope, { kind := 3, at_ := id, obj := 0 })
  | .enq _ | .arrive _ => some (3, { kind := 3, at_ := cardBits o.card 0x90 0 14, obj := 0 })
  | .gred _ => some (3, { kind := 4, at_ := cardBits o.card 0x88 0 32, obj := 0 })
  | _ => none

/-- The scope at which an operation accesses memory: a message is sent at fab scope, a D operation's rows are at core scope (R238, R279). -/
def EngOp.reach (o : EngOp) : Nat :=
  match o.instr with
  | .msend _ => 3
  | _ => if o.engine = .e then o.scope else 0

/-- Must an operation wait for a migration: one whose access must, or one that releases lines whose writeback waits (R390)? -/
def State.opHeld (s : State) (c : Nat) (o : EngOp) : Bool :=
  !s.migrations.isEmpty &&
  ((match s.releasedBy o with
    | some (sc, _) => decide (2 ≤ sc) && s.stuckAny (clusterOf c)
    | none => false) ||
   o.foot.any fun f => f.space == 1 && s.pageHeld c o.reach f.base f.len f.wr false)

/-- The completion of an operation of an engine: it acts only on one in flight that may begin, at the pool through its message (R480). -/
def completing (c id : Nat) (q : Engine) (s : State) (f : EngOp → State) : Out :=
  onCtx c (match (s.ctx c).engOp id with
    | some o => if o.engine = q ∧ (s.ctx c).engReady o ∧ !s.opHeld c o then s.opMessage c o fun _ => f o else s
    | none => s)

/-! ## Accumulator rows (R216) -/

/-- The codes of one accumulator row. -/
def State.accRow (s : State) (k acc row : Nat) : List Nat :=
  let m := Store.slice (s.core k).acc (16384 * acc + 128 * row) 128
  (List.range 128).map fun j => (Store.get 0#32 m j).toNat

/-- Replace `n` rows of an accumulator from row `r0` on; an element the list lacks becomes +0. -/
def State.accRows (s : State) (k acc r0 n : Nat) (rows : List (List Nat)) : State :=
  let lo := 16384 * acc + 128 * r0
  let new := (List.range (128 * n)).filterMap fun e =>
    let v : Word32 := BitVec.ofNat 32 ((rows.getD (e / 128) []).getD (e % 128) 0)
    if v = 0 then none else some (lo + e, v)
  s.modCore k fun x => { x with
    acc := x.acc.filter (fun e => decide (e.1 < lo)) ++ new ++ x.acc.filter fun e => decide (lo + 128 * n ≤ e.1) }

end Sys2Proof.Machine
end

