-- ==== Sys2Proof/Machine/Matrix.lean ====
section
/-! DEFINITION. The M slot: outer products, clearing, the matrix configuration and mfence (R98, R216 to R226). -/

namespace Sys2Proof.Machine

/-! ## Operand layout (R219, R220) -/

/-- The fixed operand format of an opcode suffix: none for .nf. -/
inductive MxFmt where
  | nf
  | fix (f : Fmt)
deriving DecidableEq, Repr

/-- The operand format read through a format register. -/
def MxFmt.of (m : MxFmt) (reg : Word32) : Option Fmt :=
  match m with
  | .nf => nfFmt reg
  | .fix f => some f

/-- Elements of a packing group (R86). -/
def groupElems (w : Nat) : Nat := if w = 4 then 2 else if w = 5 ∨ w = 7 then 8 else if w = 6 then 4 else 1

/-- Do K steps from offset `off` fit a handle (R220)? -/
def fitsTile (h : Handle) (t : Bool) (off k w : Nat) : Bool :=
  if t then decide (128 ≤ h.rows) && decide ((off + k) * w ≤ 128 * h.roww)
  else decide (off + k ≤ h.rows) && decide (w ≤ h.roww)

/-- Element `i` of k-step `k` of an operand: from row off + k, or, transposed, element off + k of row i (R220); an element may lie in
two bytes (R86). -/
def State.mxElem (s : State) (core : Nat) (tile : Nat × Nat) (t : Bool) (off w i k : Nat) : Nat :=
  let row := if t then i else off + k
  let e := if t then off + k else i
  let a := tile.1 + 16 * tile.2 * row
  s.engineRead core (a + e * w / 8) ((e * w % 8 + w + 7) / 8) / 2 ^ (e * w % 8) % 2 ^ w

/-! ## Issue (R217, R219, R222, R223) -/

/-- Block scales an operation takes (R221). -/
def mxBlocks (o : MX) : Nat := if o.bs then ceilDiv o.depth 32 else 0

/-- Does a list of scale entries alternate .a, .b (R222)? -/
def alternates : Bool → List ScaleEntry → Bool
  | _, [] => true
  | b, e :: l => e.isB == b && alternates (!b) l

/-- The offsets after an operation (R223). -/
def MatCfg.advance (m : MatCfg) : MatCfg :=
  { m with
    offA := m.offA + m.advA
    offB := m.offB + m.advB }

/-- Issue an outer product. -/
def mxIssue (i : Instr) (o : MX) (f : MxFmt) (s : State) : State :=
  let x := s.pre
  let hA := x.handle o.hA.toNat
  let hB := x.handle o.hB.toNat
  let ra := x.fmtreg o.fmtA.toNat
  let rb := x.fmtreg o.fmtB.toNat
  let code := slotCode 7 0 false
  let need := 2 * mxBlocks o
  match x.accOf s.cur o.acc.toNat, f.of ra, f.of rb with
  | some acc, some fa, some fb =>
    let ta := o.order.getLsbD 0
    let tb := o.order.getLsbD 1
    let offA := x.mat.offA.toNat
    let offB := x.mat.offB.toNat
    if !hA.bound ∨ hA.kind ≠ 0 ∨ hA.roww % 8 ≠ 0 ∨ !hB.bound ∨ hB.kind ≠ 1 ∨ hB.roww % 8 ≠ 0 ∨
       (ta ∧ offA % groupElems fa.w ≠ 0) ∨ (tb ∧ offB % groupElems fb.w ≠ 0) then s.fail cOperand code 0
    else if !fitsTile hA ta offA o.depth fa.w then s.fail cProt code hA.base
    else if !fitsTile hB tb offB o.depth fb.w then s.fail cProt code hB.base
    else
      let q := s.now.scaleQ
      if q.length < need ∨ !alternates false (q.take need) then
        s.raise (plainCause 4 0 (BitVec.ofNat 64 (need % 256 + 256 * (q.length % 256))))
      else
        let s := s.upd fun y => { y with
          scaleQ := y.scaleQ.drop need
          mat := y.mat.advance }
        s.addEng { s.engOf i .m with
          foot := [footHandle hA true false, footHandle hB true false, footAcc acc true true]
          fmtA := ra
          fmtB := rb
          scales := (q.take need).map fun e => (e.id, e.ue4m3)
          tiles := [hA.tile, hB.tile]
          acc := acc }
  | _, _, _ => s.fail cOperand code 0

/-! ## The accumulation (R98, R223) -/

/-- A scaled operand, and whether its element or its scale is a NaN. -/
abbrev MxVal := FVal × Bool

/-- One rounded group of products added to an element (R98). -/
def macGroup (neg : Bool) (c : Nat) (l : List (MxVal × MxVal)) : Rounded :=
  let p := l.foldl (fun a e => (FVal.add 0 a (FVal.mul e.1.1 e.2.1).1).1) (.fin true 0 0)
  let old := decodeVal fp32 c
  let v := (FVal.add 0 old (if neg then p.negate else p)).1
  let given := old.isNan || l.any fun e => e.1.2 || e.2.2
  roundNV fp32 (v, v.isNan && !given) 0 false

/-- Groups of g consecutive items. -/
def inGroups {α : Type} (g : Nat) : Nat → List α → List (List α)
  | 0, _ => []
  | n + 1, l => if l.isEmpty then [] else l.take g :: inGroups g n (l.drop g)

/-- An element after all its groups, with the flags of every rounding. -/
def macElem (neg : Bool) (g c : Nat) (a b : List MxVal) : Nat × Nat :=
  (inGroups g a.length (a.zip b)).foldl (fun r l =>
    let t := macGroup neg r.1 l
    (t.bits, r.2 ||| t.flags)) (c, 0)

/-- The scale of row or column i in block b of an operand: 0 A, 1 B (R221). -/
def EngOp.scaleAt (o : EngOp) (x : Ctx) (side b i : Nat) : FVal :=
  match o.scales[2 * b + side]? with
  | none => .fin false 1 0
  | some (id, ue) => decodeVal (if ue then ue4m3 else e8m0) (elemAt (Store.get 0 x.scaleData id) (8 * i) 8)

/-- Row i of an operand over k, scaled (R97, R223). -/
def State.mxRow (s : State) (core : Nat) (x : Ctx) (o : EngOp) (side : Nat) (f : Fmt) (t : Bool) (off depth i : Nat) : List MxVal :=
  (List.range depth).map fun k =>
    let v := decodeVal f (s.mxElem core (o.tiles.getD side (0, 0)) t off f.w i k)
    let sc := o.scaleAt x side (k / 32) i
    (scaledVal v sc, v.isNan || sc.isNan)

/-- The whole outer product (R98): every element's codes and the flags of all roundings. -/
def State.outer (s : State) (c : Nat) (o : EngOp) (m : MX) (neg : Bool) (fa fb : Fmt) : List (List Nat) × Nat :=
  let core := coreOf c
  let x := s.ctx c
  let g := if fa.w ≤ 6 ∧ fb.w ≤ 6 then 2 else 1
  let bs := (List.range 128).map fun j => s.mxRow core x o 1 fb (m.order.getLsbD 1) o.offB m.depth j
  let rows := (List.range 128).map fun i =>
    let a := s.mxRow core x o 0 fa (m.order.getLsbD 0) o.offA m.depth i
    ((s.accRow core o.acc i).zip bs).map fun e => macElem neg g e.1 a e.2
  (rows.map fun r => r.map (·.1), rows.foldl (fun f r => r.foldl (fun f e => f ||| e.2) f) 0)

/-- What the M operation of an instruction is: mops rather than mopa, its format and its operands; none for another instruction. -/
def mxForm : Instr → Option (Bool × MxFmt × MX)
  | .mopaNf o => some (false, .nf, o)
  | .mopaInt4 o => some (false, .fix (sintFmt 4), o)
  | .mopaInt8 o => some (false, .fix (sintFmt 8), o)
  | .mopaUint8 o => some (false, .fix (uintFmt 8), o)
  | .mopaF16 o => some (false, .fix fp16, o)
  | .mopaBf16 o => some (false, .fix bf16, o)
  | .mopaF32 o => some (false, .fix fp32, o)
  | .mopsNf o => some (true, .nf, o)
  | .mopsInt4 o => some (true, .fix (sintFmt 4), o)
  | .mopsInt8 o => some (true, .fix (sintFmt 8), o)
  | .mopsUint8 o => some (true, .fix (uintFmt 8), o)
  | .mopsF16 o => some (true, .fix fp16, o)
  | .mopsBf16 o => some (true, .fix bf16, o)
  | .mopsF32 o => some (true, .fix fp32, o)
  | _ => none

/-- Rows of the row groups that a mask clears (R225). -/
def State.clearGroups (s : State) (k acc mask : Nat) : State :=
  (List.range 8).foldl (fun t g => if mask / 2 ^ g % 2 = 1 then t.accRows k acc (16 * g) 16 [] else t) s

/-- Row-group mask of mzero. -/
def mzeroMask (o : MC) : Nat :=
  match o.ext with
  | some e => e.toNat % 256
  | none => o.imm.toNat % 256

/-- MATRIX_OP_COMPLETE: a mopa or mops whose scales have arrived accumulates, an mzero clears; the flags enter FPSTAT (R223, R225,
R230). -/
def execMatrixOpComplete (c id : Nat) (s : State) : Out :=
  completing c id .m s fun o =>
    let x := s.ctx c
    if o.scales.all fun e => Store.has x.scaleData e.1 then
      match mxForm o.instr with
      | some (neg, f, m) =>
        match f.of o.fmtA, f.of o.fmtB with
        | some fa, some fb =>
          let r := s.outer c o m neg fa fb
          (s.accRows (coreOf c) o.acc 0 128 r.1).modCtx c fun y => { (y.orFlags r.2).engDone id with
            scaleData := y.scaleData.filter fun e => !o.scales.any fun n => n.1 == e.1 }
        | _, _ => s
      | none =>
        (s.clearGroups (coreOf c) o.acc o.pos).modCtx c fun y => y.engDone id
    else s

/-- mopa.nf. -/
def execMopaNf (o : MX) (s : State) : Out := issueOp (.mopaNf o) (mxIssue (.mopaNf o) o .nf) s
/-- mopa.int4. -/
def execMopaInt4 (o : MX) (s : State) : Out := issueOp (.mopaInt4 o) (mxIssue (.mopaInt4 o) o (.fix (sintFmt 4))) s
/-- mopa.int8. -/
def execMopaInt8 (o : MX) (s : State) : Out := issueOp (.mopaInt8 o) (mxIssue (.mopaInt8 o) o (.fix (sintFmt 8))) s
/-- mopa.uint8. -/
def execMopaUint8 (o : MX) (s : State) : Out := issueOp (.mopaUint8 o) (mxIssue (.mopaUint8 o) o (.fix (uintFmt 8))) s
/-- mopa.f16. -/
def execMopaF16 (o : MX) (s : State) : Out := issueOp (.mopaF16 o) (mxIssue (.mopaF16 o) o (.fix fp16)) s
/-- mopa.bf16. -/
def execMopaBf16 (o : MX) (s : State) : Out := issueOp (.mopaBf16 o) (mxIssue (.mopaBf16 o) o (.fix bf16)) s
/-- mopa.f32. -/
def execMopaF32 (o : MX) (s : State) : Out := issueOp (.mopaF32 o) (mxIssue (.mopaF32 o) o (.fix fp32)) s
/-- mops.nf. -/
def execMopsNf (o : MX) (s : State) : Out := issueOp (.mopsNf o) (mxIssue (.mopsNf o) o .nf) s
/-- mops.int4. -/
def execMopsInt4 (o : MX) (s : State) : Out := issueOp (.mopsInt4 o) (mxIssue (.mopsInt4 o) o (.fix (sintFmt 4))) s
/-- mops.int8. -/
def execMopsInt8 (o : MX) (s : State) : Out := issueOp (.mopsInt8 o) (mxIssue (.mopsInt8 o) o (.fix (sintFmt 8))) s
/-- mops.uint8. -/
def execMopsUint8 (o : MX) (s : State) : Out := issueOp (.mopsUint8 o) (mxIssue (.mopsUint8 o) o (.fix (uintFmt 8))) s
/-- mops.f16. -/
def execMopsF16 (o : MX) (s : State) : Out := issueOp (.mopsF16 o) (mxIssue (.mopsF16 o) o (.fix fp16)) s
/-- mops.bf16. -/
def execMopsBf16 (o : MX) (s : State) : Out := issueOp (.mopsBf16 o) (mxIssue (.mopsBf16 o) o (.fix bf16)) s
/-- mops.f32. -/
noncomputable def execMopsF32 (o : MX) (s : State) : Out := issueOp (.mopsF32 o) (mxIssue (.mopsF32 o) o (.fix fp32)) s

/-- mzero: its mask is the operation's. -/
noncomputable def execMzero (o : MC) (s : State) : Out :=
  issueOp (.mzero o) (fun s =>
    match s.pre.accOf s.cur o.acc.toNat with
    | none => s.fail cOperand (slotCode 7 0 false) 0
    | some acc => s.addEng { s.engOf (.mzero o) .m with
        foot := [footAcc acc true true]
        acc := acc
        pos := mzeroMask o }) s

/-- Item and value of an mcfg (R217). -/
def mcfgItem (o : MC) : Nat × Nat :=
  match o.ext with
  | some e => (e.toNat / 2 ^ 28, e.toNat % 2 ^ 28)
  | none => (o.imm.toNat / 2 ^ 12, o.imm.toNat % 2 ^ 12)

/-- One item of the matrix configuration. -/
def MatCfg.set (m : MatCfg) (item v : Nat) : MatCfg :=
  match item with
  | 0 => { m with offA := BitVec.ofNat 16 v }
  | 1 => { m with offB := BitVec.ofNat 16 v }
  | 2 => { m with advA := BitVec.ofNat 16 v }
  | 3 => { m with advB := BitVec.ofNat 16 v }
  | _ => { m with dpb := BitVec.ofNat 6 v }

/-- mcfg: for the operations of later bundles (R218). -/
noncomputable def execMcfg (o : MC) (s : State) : Out :=
  issueOp (.mcfg o) (fun s => s.upd fun x => { x with mat := x.mat.set (mcfgItem o).1 (mcfgItem o).2 }) s

/-- mfence: later operations wait for every M, D and O operation before it (R226). -/
noncomputable def execMfence (o : MC) (s : State) : Out := issueOp (.mfence o) (fun s => s.upd fun x => { x with mfence := x.nextUnit }) s

end Sys2Proof.Machine
end

