-- ==== Sys2Proof/Machine/Drain.lean ====
section
/-! DEFINITION. The D slot: drain, fill and dzero under an entry of the drain parameter block (R232 to R239). -/

namespace Sys2Proof.Machine

/-! ## The entry (R232, R233) -/

/-- FMT of an entry. -/
def dpFmt (e : Nat) : Nat := bitsN e 200 5
/-- MODE. -/
def dpMode (e : Nat) : Nat := bitsN e 205 3
/-- SATF. -/
def dpSat (e : Nat) : Bool := bitsN e 208 1 = 1
/-- COL0. -/
def dpCol (e : Nat) : Nat := bitsN e 192 8
/-- ROW0. -/
def dpRow (e : Nat) : Nat := bitsN e 176 16
/-- REC. -/
def dpRec (e : Nat) : Bool := bitsN e 209 1 = 1
/-- RECID. -/
def dpRecId (e : Nat) : Nat := bitsN e 160 16
/-- tid of the stochastic inputs (R235). -/
def dpTid (e : Nat) : Nat := if dpRec e then dpRecId e else bitsN e 224 32

/-- Is FMT one that R232 lists? -/
def dpFmtOk (f : Nat) : Bool := f ≤ 5 || fmtIsNf f

/-- The entry a D form names, with its format and format-register value; none: the operand-format trap (R233). A fill ignores MODE. The
block is read after the stores of the bundle's ST slot (log entry 98). -/
def State.drEntry (s : State) (o : DR) (fill : Bool) : Option (Nat × Fmt × Word32) :=
  let x := s.pre
  let h := x.handle x.mat.dpb.toNat
  if !h.isGroup ∨ h.roww < 16 then none
  else
    let e := s.scratchRead (coreOf s.cur) (h.base + 32 * o.fmt.toNat) 32
    let reg := if fmtIsNf (dpFmt e) then x.fmtreg (dpFmt e - 16) else 0
    if bitsN e 210 14 ≠ 0 ∨ !dpFmtOk (dpFmt e) ∨ (!fill ∧ 4 < dpMode e) ∨ 63 < dpCol e then none
    else (fmtOf (fun _ => reg) (dpFmt e)).map fun f => (e, f, reg)

/-- Columns of a piece of drainv and fillv (R234). -/
def pieceLen (w : Nat) : Nat := min 128 (1024 / w)

/-- An operation of the D queue with what its entry gives. -/
def State.drOp (s : State) (i : Instr) (acc e : Nat) (reg : Word32) (foot : List Foot) : EngOp :=
  { s.engOf i .d with
    foot := foot
    card := e
    fmtA := reg
    acc := acc }

/-! ## Handle rows (R235) -/

/-- First byte of the elements of accumulator row i in a tile under an entry. -/
def drRowAt (tile : Nat × Nat) (e i : Nat) : Nat := tile.1 + 16 * tile.2 * (dpRow e + i) + 16 * dpCol e
/-- Do the 16 rows of row group g fit a handle? -/
def drFits (h : Handle) (e g w : Nat) : Bool := decide (dpRow e + 16 * g + 15 < h.rows) && decide (dpCol e + w ≤ h.roww)

/-- Issue a drain or fill over handle rows. -/
def drTile (i : Instr) (o : DR) (fill : Bool) (s : State) : State :=
  let code := slotCode 8 0 (!fill)
  let h := s.pre.handle o.t.toNat
  match s.pre.accOf s.cur o.acc.toNat, s.drEntry o fill with
  | some acc, some (e, f, reg) =>
    if !h.isGroup ∨ (!fill ∧ h.kind ≠ 2) then s.fail cOperand code 0
    else if !drFits h e o.row.toNat f.w then s.fail cProt code (drRowAt h.tile e (16 * o.row.toNat))
    else
      let rows := (List.range 16).map fun r => footScratch (drRowAt h.tile e (16 * o.row.toNat + r)) (16 * f.w) fill (!fill)
      s.addEng { s.drOp i acc e reg (rows ++ [footAcc acc (!fill) fill]) with tiles := [h.tile] }
  | _, _ => s.fail cOperand code 0

/-! ## Memory rows (R238) -/

/-- The targets of the 16 rows, or the first failing check. -/
def drTargets (x : Ctx) (c : Nat) (o : DR) (fill : Bool) (n : Nat) : Except (Nat × Nat) (List Target) :=
  (List.range 16).foldl (fun acc r =>
    match acc with
    | .error e => .error e
    | .ok l =>
      match x.targetOf c (x.areg o.t.toNat) (((16 * o.row.toNat + r) * DR.pitch o : Nat) : Int)
          { size := n, align := 16, cap := if fill then 1 else 2, rd := fill, wr := !fill, kind := 9, data := 0 } with
      | .ok t => .ok (l ++ [t])
      | .error e => .error e) (.ok [])

/-- The capability of the first pool target. -/
def targetCap : List Target → Word128
  | .pool k _ :: _ => k
  | _ => 0

/-- Issue a drain or fill over memory rows. -/
def drMemory (i : Instr) (o : DR) (fill : Bool) (s : State) : State :=
  let code := slotCode 8 0 (!fill)
  match s.pre.accOf s.cur o.acc.toNat, s.drEntry o fill with
  | some acc, some (e, f, reg) =>
    match drTargets s.pre s.cur o fill (16 * f.w) with
    | .error (cause, addr) => s.fail cause code addr
    | .ok ts =>
      s.addEng { s.drOp i acc e reg ((ts.map fun t => footTarget t (16 * f.w) fill (!fill)) ++ [footAcc acc (!fill) fill]) with
        cap := targetCap ts }
  | _, _ => s.fail cOperand code 0

/-! ## Pieces (R234) -/

/-- Row of a piece. -/
def pieceRow (o : DR) : Nat := extNat o.ext % 128

/-- Issue a drainv or fillv. -/
def drPiece (i : Instr) (o : DR) (fill : Bool) (s : State) : State :=
  let code := slotCode 8 0 false
  match s.pre.accOf s.cur o.acc.toNat, s.drEntry o fill with
  | some acc, some (e, f, reg) =>
    if 128 < (o.row.toNat + 1) * pieceLen f.w then s.fail cOperand code 0
    else s.addEng { s.drOp i acc e reg [footAcc acc (!fill) fill] with vec := if fill then s.pre.vreg o.t.toNat else 0 }
  | _, _ => s.fail cOperand code 0

/-! ## What a completion does (R235 to R239) -/

/-- One element converted under an entry, with its draw (R235). -/
def drRound (o : EngOp) (f : Fmt) (i j code : Nat) : Rounded :=
  let e := o.card
  let idx := BitVec.ofNat 64 (bitsN e 64 64 + i * bitsN e 128 32 + j)
  roundTo f (decodeVal fp32 code) (dpMode e) (dpSat e) (srbits (BitVec.ofNat 64 (bitsN e 0 64)) (BitVec.ofNat 32 (dpTid e)) idx o.step)

/-- Codes packed from bit 0 (R86). -/
def packCodes (w : Nat) (l : List Nat) : Nat := l.foldr (fun c v => c + 2 ^ w * v) 0

/-- The converted rows of a row group. -/
def State.drained (s : State) (c : Nat) (o : EngOp) (f : Fmt) (g : Nat) : List (List Rounded) :=
  (List.range 16).map fun r =>
    let i := 16 * g + r
    ((s.accRow (coreOf c) o.acc i).zip (List.range 128)).map fun e => drRound o f i e.2 e.1

/-- The flags of some roundings. -/
def flagsOf (l : List (List Rounded)) : Nat := l.foldl (fun a r => r.foldl (fun a e => a ||| e.flags) a) 0

/-- The delta of a drain with REC = 1 (R237). -/
def State.drainDelta (s : State) (c : Nat) (o : EngOp) (f : Fmt) (l : List (List Rounded)) : State :=
  if dpRec o.card then
    let all := l.flatten
    let h := statsOf (all.map fun r => decodeVal f r.bits)
    s.sendDelta (s.ctx c).asid (dpRecId o.card) { h with ovfs := (all.filter (·.ovf)).length }
  else s

/-- A row of bytes goes to its place in memory at core scope, or to the pool (R238). -/
def State.putFoot (s : State) (c : Nat) (o : EngOp) (f : Foot) (v : Nat) : State :=
  match f.space with
  | 0 => s.engineWrite (coreOf c) f.base f.len v
  | 1 => s.writeIa c 0 f.base f.len v
  | _ => s.poolPut o.cap f.base f.len v o.stepTag

/-- A row of bytes from its place, with the state after. -/
def State.getFoot (s : State) (c : Nat) (o : EngOp) (f : Foot) : Nat × State :=
  match f.space with
  | 0 => (s.engineRead (coreOf c) f.base f.len, s)
  | 1 => s.readIa c 0 f.base f.len
  | _ => (s.poolRead (s.ctx c).asid o.cap f.base f.len, s.poolLoad c o.cap f.base f.len o.stepTag)

/-- The fault of a row: its cause, SUB and first faulting address (R239). -/
def State.footFault (s : State) (c : Nat) (o : EngOp) (f : Foot) : Option (Nat × Nat × Nat) :=
  match f.space with
  | 1 => (if f.wr then s.storeFault 0 f.base f.len else s.loadFault (clusterOf c) 0 f.base f.len).map fun a => (cPage, 0, a)
  | 2 =>
    if !f.wr && (s.frameFor (s.ctx c).asid o.cap f.base f.len).isSome then none
    else if s.poolFinding o.cap = 0 then none else some (cCap, 1, f.base)
  | _ => none

/-- The first faulting row of an operation's memory rows. -/
def State.rowFault (s : State) (c : Nat) (o : EngOp) : Option (Foot × Nat × Nat × Nat) :=
  (o.foot.take 16).findSome? fun f => (s.footFault c o f).map fun e => (f, e)

/-- An operation is suspended by a fault of one of its units, and the context freezes (R168, R239, R278). -/
def State.suspendEng (s : State) (c : Nat) (o : EngOp) (slot card : Nat) (f : Foot) (e : Nat × Nat × Nat) : State :=
  (s.modCtx c fun x => x.modEng o.id fun p => { p with suspended := true }).freeze c
    { cause := e.1, sub := e.2.1, val := BitVec.ofNat 64 (slotCode slot card f.wr), faddr := e.2.2, uaddr := f.base, objid := f.obj } 0

/-- Elements of a packed value, as FP32 codes with their flags (R236). -/
def filled (f : Fmt) (n v : Nat) : List Rounded :=
  (List.range n).map fun j => roundTo fp32 (decodeVal f (v / 2 ^ (f.w * j) % 2 ^ f.w)) 0 false 0

/-- A D operation ends with its flags, and its write messages count for their step (R230, R503). -/
def State.drDone (s : State) (c : Nat) (o : EngOp) (fl : Nat) : State := (s.countOp o).modCtx c fun x => (x.orFlags fl).engDone o.id

/-- Rows written by a drain. -/
def State.drainRows (s : State) (c : Nat) (o : EngOp) (f : Fmt) (g : Nat) : State :=
  match s.rowFault c o with
  | some (foot, e) => s.suspendEng c o 8 0 foot e
  | none =>
    let l := s.drained c o f g
    let s := (o.foot.zip l).foldl (fun t e => t.putFoot c o e.1 (packCodes f.w (e.2.map (·.bits)))) s
    (s.drainDelta c o f l).drDone c o (flagsOf l)

/-- Rows read by a fill. -/
def State.fillRows (s : State) (c : Nat) (o : EngOp) (f : Fmt) (g : Nat) : State :=
  match s.rowFault c o with
  | some (foot, e) => s.suspendEng c o 8 0 foot e
  | none =>
    let r := (o.foot.take 16).foldl (fun (t : List (List Rounded) × State) e =>
      let (v, u) := t.2.getFoot c o e
      (t.1 ++ [filled f 128 v], u)) ([], s)
    (r.2.accRows (coreOf c) o.acc (16 * g) 16 (r.1.map fun l => l.map (·.bits))).drDone c o (flagsOf r.1)

/-- The piece of a drainv (R235). -/
def State.drainPiece (s : State) (c : Nat) (o : EngOp) (f : Fmt) (d : DR) : State :=
  let n := pieceLen f.w
  let row := pieceRow d
  let codes := ((s.accRow (coreOf c) o.acc row).zip (List.range 128)).filter fun e => e.2 / n == d.row.toNat
  let l := codes.map fun e => drRound o f row e.2 e.1
  (s.modCtx c fun x => x.writeHidden (rV d.t) (BitVec.ofNat 1024 (packCodes f.w (l.map (·.bits))))).drDone c o (flagsOf [l])

/-- The piece of a fillv (R236). -/
def State.fillPiece (s : State) (c : Nat) (o : EngOp) (f : Fmt) (d : DR) : State :=
  let n := pieceLen f.w
  let row := pieceRow d
  let l := filled f n o.vec.toNat
  let old := s.accRow (coreOf c) o.acc row
  let new := old.take (n * d.row.toNat) ++ l.map (·.bits) ++ old.drop (n * (d.row.toNat + 1))
  (s.accRows (coreOf c) o.acc row 1 [new]).drDone c o (flagsOf [l])

/-- DRAIN_OP_COMPLETE (R235 to R239). -/
def execDrainOpComplete (c id : Nat) (s : State) : Out :=
  completing c id .d s fun o =>
    match o.instr with
    | .dzero d => (s.accRows (coreOf c) o.acc (16 * d.row.toNat) 16 []).drDone c o 0
    | i =>
      match fmtOf (fun _ => o.fmtA) (dpFmt o.card) with
      | none => s
      | some f =>
        match i with
        | .drain d => s.drainRows c o f d.row.toNat
        | .drainM d => s.drainRows c o f d.row.toNat
        | .drainv d => s.drainPiece c o f d
        | .fill d => s.fillRows c o f d.row.toNat
        | .fillM d => s.fillRows c o f d.row.toNat
        | .fillv d => s.fillPiece c o f d
        | _ => s

/-! ## The forms (R234) -/

/-- drain. -/
noncomputable def execDrain (o : DR) (s : State) : Out := issueOp (.drain o) (drTile (.drain o) o false) s
/-- drain.m. -/
noncomputable def execDrainM (o : DR) (s : State) : Out := issueOp (.drainM o) (drMemory (.drainM o) o false) s
/-- drainv. -/
noncomputable def execDrainv (o : DR) (s : State) : Out := issueOp (.drainv o) (drPiece (.drainv o) o false) s
/-- fill. -/
noncomputable def execFill (o : DR) (s : State) : Out := issueOp (.fill o) (drTile (.fill o) o true) s
/-- fill.m. -/
noncomputable def execFillM (o : DR) (s : State) : Out := issueOp (.fillM o) (drMemory (.fillM o) o true) s
/-- fillv. -/
noncomputable def execFillv (o : DR) (s : State) : Out := issueOp (.fillv o) (drPiece (.fillv o) o true) s
/-- dzero. -/
noncomputable def execDzero (o : DR) (s : State) : Out :=
  issueOp (.dzero o) (fun s =>
    match s.pre.accOf s.cur o.acc.toNat with
    | none => s.fail cOperand (slotCode 8 0 false) 0
    | some acc => s.addEng { s.engOf (.dzero o) .d with
        foot := [footAcc acc true true]
        acc := acc }) s

end Sys2Proof.Machine
end

