-- ==== Sys2Proof/Machine/Optimiser.lean ====
section
/-! DEFINITION. The O slot: the optimiser's update forms, oclip and oscale, and the trap a suppressed element makes pending (R240 to
R246, R310). -/

namespace Sys2Proof.Machine

/-! ## The parameter block (R241), as a number of 64 bytes -/

/-- The FP32 value at a byte offset. -/
def opVal (p off : Nat) : FVal := decodeVal fp32 (bitsN p (8 * off) 32)
/-- LR. -/
def opLr (p : Nat) : FVal := opVal p 0x00
/-- BETA1. -/
def opB1 (p : Nat) : FVal := opVal p 0x04
/-- BETA2. -/
def opB2 (p : Nat) : FVal := opVal p 0x08
/-- EPS. -/
def opEps (p : Nat) : FVal := opVal p 0x0C
/-- WD. -/
def opWd (p : Nat) : FVal := opVal p 0x10
/-- BC1. -/
def opBc1 (p : Nat) : FVal := opVal p 0x14
/-- BC2. -/
def opBc2 (p : Nat) : FVal := opVal p 0x18
/-- GSCALE. -/
def opGscale (p : Nat) : FVal := opVal p 0x1C
/-- RGRP. -/
def opRgrp (p : Nat) : Nat := bitsN p (8 * 0x24 + 20) 3
/-- MODE. -/
def opMode (p : Nat) : Nat := bitsN p (8 * 0x24 + 17) 3
/-- WRECV. -/
def opWrecv (p : Nat) : Bool := bitsN p (8 * 0x24 + 16) 1 = 1
/-- WREC. -/
def opWrec (p : Nat) : Nat := bitsN p (8 * 0x24) 16
/-- tid of the stochastic inputs (R242). -/
def opTid (p : Nat) : Nat := if opWrecv p then opWrec p else bitsN p (8 * 0x3C) 32

/-- Is a block refused: a reserved field, MODE 5 to 7, or, for oclip, a CLIPV that is NaN or negative (R241)? MODE 4, stochastic, is taken
for the weights as R241 and R242 say, though R87 and R95 name only the drain and vcvt.rs (log entry 81). -/
def opBad (p : Nat) (clip : Bool) : Bool :=
  let v := opVal p 0x20
  bitsN p (8 * 0x24 + 23) 9 != 0 || decide (4 < opMode p) || (clip && (v.isNan || (v.neg && !v.isZero)))

/-! ## Issue (R240) -/

/-- The kinds of update. -/
inductive OptKind where
  | adam | adamw | lion | sgdm
deriving DecidableEq, Repr

/-- Does the kind keep a second moment? -/
def OptKind.second (k : OptKind) : Bool := k == .adam || k == .adamw

/-- The parameter block's handle: the extension word's, or OPB. -/
def opBlock (x : Ctx) (o : OP) : Option Nat :=
  match o.ext with
  | some e => some (e.toNat / 2 ^ 26)
  | none => x.mat.opb.map (·.toNat)

/-- OPB after a form (R240). -/
def State.setOpb (s : State) (o : OP) : State :=
  match o.ext with
  | some e => s.upd fun x => { x with mat := { x.mat with opb := some (e.extractLsb' 26 6) } }
  | none => s

/-- Issue a form: `hs` are the handles it updates with the rows and row words each needs. The parameter block is read after the stores of the
bundle's ST slot, 64 bytes from the handle's base even where its row is narrower, so that its own fields are tested before the rows (log entry
98). -/
def opIssue (i : Instr) (o : OP) (clip : Bool) (hs : List (Nat × Nat)) (s : State) : State :=
  let x := s.pre
  let code := slotCode 9 0
  match x.accOf s.cur o.acc.toNat, opBlock x o with
  | some acc, some hp =>
    let b := x.handle hp
    let p := s.scratchRead (coreOf s.cur) b.base 64
    if !b.isGroup ∨ (hs.any fun e => !(x.handle e.1).isGroup) ∨ opBad p clip then s.fail cOperand (code false) 0
    else match hs.find? fun e => decide ((x.handle e.1).rows < 16) || decide ((x.handle e.1).roww < e.2) with
      | some e => s.fail cProt (code true) (x.handle e.1).base
      | none =>
        if b.roww < 4 then s.fail cProt (code false) b.base
        else (s.setOpb o).addEng { s.engOf i .o with
          foot := (hs.map fun e => footHandle (x.handle e.1) true true) ++ [footScratch b.base 64 true false, footAcc acc true true]
          tiles := (hs.map fun e => (x.handle e.1).tile) ++ [b.tile]
          handles := hs.map (·.1) ++ [hp]
          card := p
          acc := acc }
  | _, _ => s.fail cOperand (code false) 0

/-- Issue an update form. -/
def opUpdate (i : Instr) (o : OP) (k : OptKind) (bf : Bool) (s : State) : State :=
  opIssue i o false [(o.hW.toNat, if bf then 16 else 32), (o.hM.toNat, if k.second then 64 else 32)] s

/-! ## One element (R242) -/

/-- A value of the update, its flags so far, and whether a NaN has appeared. -/
structure OptVal where
  /-- The value. -/
  v : FVal
  /-- Its FP32 code. -/
  bits : Nat
  /-- Flags of all roundings up to it. -/
  fl : Nat
  /-- A NaN among the values so far. -/
  bad : Bool
deriving DecidableEq, Repr

/-- rnd of an exact value, after some flags. -/
def optRnd (fl : Nat) (bad : Bool) (v : FVal) : OptVal :=
  let r := roundTo fp32 v 0 false 0
  { v := decodeVal fp32 r.bits, bits := r.bits, fl := fl ||| r.flags, bad := bad || v.isNan }

/-- Exact product. -/
def fmulE (a b : FVal) : FVal := (FVal.mul a b).1
/-- Exact sum, formed under RNE's zero sign (R93). -/
def faddE (a b : FVal) : FVal := (FVal.add 0 a b).1
/-- beta * x + (1 - beta) * y, exact. -/
def blend (beta x y : FVal) : FVal := faddE (fmulE beta x) (fmulE (faddE (.fin false 1 0) beta.negate) y)

/-- adam_step (R242). -/
def adamStep (p : Nat) (m1 v1 : OptVal) : OptVal :=
  let mh := optRnd (m1.fl ||| v1.fl) (m1.bad || v1.bad) (fmulE m1.v (opBc1 p))
  let vh := optRnd mh.fl mh.bad (fmulE v1.v (opBc2 p))
  let vv : FVal := if vh.v.neg then .fin false 0 0 else vh.v
  let q := optRnd vh.fl vh.bad (specialFn 2 vv).1
  let d := optRnd q.fl q.bad (faddE q.v (opEps p))
  let r := dqnt mh.v d.v
  optRnd (d.fl ||| (r.2 &&& flagDZ)) d.bad r.1

/-- sgn. -/
def optSgn (x : FVal) : FVal :=
  match x with
  | .nan => .nan
  | .inf n => .fin n 1 0
  | .fin _ 0 _ => .fin false 0 0
  | .fin n _ _ => .fin n 1 0

/-- The update of one element: the new weight's rounding, m1 and v1, and all flags; none where a NaN suppresses it (R243). -/
def optElem (k : OptKind) (p : Nat) (wf : Fmt) (G w m v : FVal) (r : Nat) : Option (Rounded × Nat × Nat) :=
  let wd := fmulE (opWd p) w
  let given := G.isNan || w.isNan || m.isNan || (k.second && v.isNan)
  let g0 := optRnd 0 given (fmulE G (opGscale p))
  let g := if k = .adam then optRnd g0.fl g0.bad (faddE g0.v wd) else g0
  let m1 := match k with
    | .adam | .adamw => optRnd g.fl g.bad (blend (opB1 p) m g.v)
    | .lion => optRnd g.fl g.bad (blend (opB2 p) m g.v)
    | .sgdm => optRnd g.fl g.bad (faddE (fmulE (opB1 p) m) g.v)
  let v1 := if k.second then optRnd m1.fl m1.bad (faddE (fmulE (opB2 p) v) (fmulE (fmulE (faddE (.fin false 1 0) (opB2 p).negate) g.v) g.v))
    else { m1 with bits := 0 }
  let u : OptVal := match k with
    | .adam => adamStep p m1 v1
    | .adamw => let t := adamStep p m1 v1; { t with v := faddE t.v wd }
    | .lion => let t := optRnd v1.fl v1.bad (blend (opB1 p) m g.v); { t with v := faddE (optSgn t.v) wd }
    | .sgdm => { v1 with v := faddE m1.v wd }
  let e := (FVal.add (opMode p) w (fmulE (opLr p) u.v).negate).1
  if u.bad || e.isNan then none
  else
    let w1 := roundTo wf e (opMode p) false r
    if (decodeVal wf w1.bits).isNan then none
    else some ({ w1 with flags := w1.flags ||| u.fl }, m1.bits, v1.bits)

/-! ## Completion (R242 to R246) -/

/-- What an update form is: its kind, BF16 weights, its operands. -/
def opForm : Instr → Option (OptKind × Bool)
  | .oadamF32 _ => some (.adam, false)
  | .oadamBf16 _ => some (.adam, true)
  | .oadamwF32 _ => some (.adamw, false)
  | .oadamwBf16 _ => some (.adamw, true)
  | .olionF32 _ => some (.lion, false)
  | .olionBf16 _ => some (.lion, true)
  | .osgdmF32 _ => some (.sgdm, false)
  | .osgdmBf16 _ => some (.sgdm, true)
  | _ => none

/-- What an update has done so far: the state, the written weights' values, flags, overflows and suppressed elements. -/
structure OptRun where
  s : State
  vals : List FVal
  fl : Nat
  ovf : Nat
  sup : Nat

/-- One element of the row group. -/
def optStep (c : Nat) (o : EngOp) (k : OptKind) (bf : Bool) (t : OptRun) (n : Nat) : OptRun :=
  let core := coreOf c
  let p := o.card
  let r := n / 128
  let j := n % 128
  let i := 16 * opRgrp p + r
  let wf := if bf then bf16 else fp32
  let wb := if bf then 2 else 4
  let tW := o.tiles.getD 0 (0, 0)
  let tM := o.tiles.getD 1 (0, 0)
  let aw := tW.1 + 16 * tW.2 * r + wb * j
  let am := tM.1 + 16 * tM.2 * r + 4 * j
  let rd := fun a n => t.s.engineRead core a n
  let idx := BitVec.ofNat 64 (bitsN p (8 * 0x30) 64 + i * bitsN p (8 * 0x38) 32 + j)
  let draw := srbits (BitVec.ofNat 64 (bitsN p (8 * 0x28) 64)) (BitVec.ofNat 32 (opTid p)) idx o.step
  match optElem k p wf (decodeVal fp32 (t.s.accGet core o.acc i j)) (decodeVal wf (rd aw wb)) (decodeVal fp32 (rd am 4))
      (if k.second then decodeVal fp32 (rd (am + 512) 4) else .fin false 0 0) draw with
  | none => { t with sup := t.sup + 1 }
  | some (w1, m1, v1) =>
    let s := (t.s.engineWrite core aw wb w1.bits).engineWrite core am 4 m1
    { s := if k.second then s.engineWrite core (am + 512) 4 v1 else s
      vals := t.vals ++ [decodeVal wf w1.bits]
      fl := t.fl ||| w1.flags
      ovf := t.ovf + w1.ovf.toNat
      sup := t.sup }

/-- Opcode of an O form, for TRAP_VAL (R246). -/
def opOpcode (i : Instr) : Nat :=
  match encode i with
  | some e => opcOf e.word
  | none => 0

/-- The accumulator field of an O form. -/
def opAcc : Instr → Nat
  | .oadamF32 o | .oadamBf16 o | .oadamwF32 o | .oadamwBf16 o | .olionF32 o | .olionBf16 o | .osgdmF32 o | .osgdmBf16 o
  | .oclip o | .oscale o => o.acc.toNat
  | _ => 0

/-- The trap of a suppressed element becomes pending where ONAN_T is 1; where one is pending already it stays, with its TRAP_VAL, and the second is
dropped (log entry 99); one that comes up in HANDLER state is a system-class fault, one
after the tile has retired is dropped (R246). -/
def State.pendOpt (s : State) (c : Nat) (val : Word) : State :=
  let x := s.ctx c
  let inState := fun (t : CtxState) => x.state == t || (x.state == .frozen && x.from_ == t)
  if !x.csr.fpctl.getLsbD 5 || inState .retiring || x.state == .free then s
  else if inState .handler then (s.setCtx c { x with pending := x.pending ++ [plainCause 0x18 2 val] }).boundary c
  else if x.optTrap.isSome then s
  else s.setCtx c { x with optTrap := some val }

/-- The delta of an update form with WRECV = 1 (R244). -/
def State.optDelta (s : State) (c : Nat) (p : Nat) (t : OptRun) : State :=
  if opWrecv p then
    let h := statsOf t.vals
    s.sendDelta (s.ctx c).asid (opWrec p) { h with
      nans := h.nans + t.sup
      ovfs := t.ovf }
  else s

/-- An update form completes. -/
def State.optDone (s : State) (c : Nat) (o : EngOp) (k : OptKind) (bf : Bool) : State :=
  let t := (List.range 2048).foldl (optStep c o k bf) { s := s, vals := [], fl := 0, ovf := 0, sup := 0 }
  let u := (t.s.optDelta c o.card t).modCtx c fun x => (x.orFlags (t.fl ||| if 0 < t.sup then flagONAN else 0)).engDone o.id
  if 0 < t.sup then u.pendOpt c (BitVec.ofNat 64 (opOpcode o.instr + 256 * opAcc o.instr)) else u

/-- oclip on one element (R245). -/
def clipElem (p code : Nat) : Nat :=
  let x := decodeVal fp32 code
  let cb := bitsN p (8 * 0x20) 32
  let v := decodeVal fp32 cb
  if x.isNan then code
  else if 0 < FVal.cmp x v then cb
  else if FVal.cmp x v.negate < 0 then cb ^^^ 0x80000000
  else code

/-- Every element of an accumulator through a function. -/
def State.accMap (s : State) (c : Nat) (o : EngOp) (f : Nat → Nat × Nat) : State :=
  let r := (List.range 128).map fun i => (s.accRow (coreOf c) o.acc i).map f
  let fl := r.foldl (fun a l => l.foldl (fun a e => a ||| e.2) a) 0
  (s.accRows (coreOf c) o.acc 0 128 (r.map fun l => l.map (·.1))).modCtx c fun x => (x.orFlags fl).engDone o.id

/-- OPTIMISER_OP_COMPLETE (R242 to R246). -/
def execOptimiserOpComplete (c id : Nat) (s : State) : Out :=
  completing c id .o s fun o =>
    match opForm o.instr with
    | some (k, bf) => s.optDone c o k bf
    | none =>
      match o.instr with
      | .oclip _ => s.accMap c o fun v => (clipElem o.card v, 0)
      | _ => s.accMap c o fun v =>
        let r := rnd (FVal.mul (decodeVal fp32 v) (opGscale o.card))
        (r.bits, r.flags)

/-- OPTIMISER_TRAP_TAKEN: the pending trap is taken at a boundary of the RUNNING tile where no other cause waits (R246, R310). -/
def execOptimiserTrapTaken (c : Nat) (s : State) : Out :=
  let x := s.ctx c
  onCtx c (match x.optTrap with
    | some v =>
      if x.state = .running ∧ x.pending = [] ∧ x.switching = none then
        (s.setCtx c { x with optTrap := none }).takeTrap c (plainCause 2 1 v) 0
      else s
    | none => s)

/-- oadam.f32. -/
noncomputable def execOadamF32 (o : OP) (s : State) : Out := issueOp (.oadamF32 o) (opUpdate (.oadamF32 o) o .adam false) s
/-- oadam.bf16. -/
noncomputable def execOadamBf16 (o : OP) (s : State) : Out := issueOp (.oadamBf16 o) (opUpdate (.oadamBf16 o) o .adam true) s
/-- oadamw.f32. -/
noncomputable def execOadamwF32 (o : OP) (s : State) : Out := issueOp (.oadamwF32 o) (opUpdate (.oadamwF32 o) o .adamw false) s
/-- oadamw.bf16. -/
noncomputable def execOadamwBf16 (o : OP) (s : State) : Out := issueOp (.oadamwBf16 o) (opUpdate (.oadamwBf16 o) o .adamw true) s
/-- olion.f32. -/
noncomputable def execOlionF32 (o : OP) (s : State) : Out := issueOp (.olionF32 o) (opUpdate (.olionF32 o) o .lion false) s
/-- olion.bf16. -/
noncomputable def execOlionBf16 (o : OP) (s : State) : Out := issueOp (.olionBf16 o) (opUpdate (.olionBf16 o) o .lion true) s
/-- osgdm.f32. -/
noncomputable def execOsgdmF32 (o : OP) (s : State) : Out := issueOp (.osgdmF32 o) (opUpdate (.osgdmF32 o) o .sgdm false) s
/-- osgdm.bf16. -/
noncomputable def execOsgdmBf16 (o : OP) (s : State) : Out := issueOp (.osgdmBf16 o) (opUpdate (.osgdmBf16 o) o .sgdm true) s
/-- oclip. -/
noncomputable def execOclip (o : OP) (s : State) : Out := issueOp (.oclip o) (opIssue (.oclip o) o true []) s
/-- oscale. -/
noncomputable def execOscale (o : OP) (s : State) : Out := issueOp (.oscale o) (opIssue (.oscale o) o false []) s

end Sys2Proof.Machine
end

