-- ==== Sys2Proof/Machine/Records.lean ====
section
/-! DEFINITION. Statistics records: halves, deltas, closes, allocation and scale words (R359 to R373), the DELTA_MERGE event and the
REC_ALLOC and REC_FREE packets. -/

namespace Sys2Proof.Machine

/-! ## Halves (R360, R368, R369) -/

/-- The open half. -/
def Rec.opened (r : Rec) : Half := if r.open1 then r.half1 else r.half0
/-- The closed half. -/
def Rec.closed (r : Rec) : Half := if r.open1 then r.half0 else r.half1
/-- Replace the open half. -/
def Rec.setOpened (r : Rec) (h : Half) : Rec := if r.open1 then { r with half1 := h } else { r with half0 := h }

/-- A delta merges into a half (R368). -/
def Half.merge (h d : Half) : Half :=
  { defer := h.defer || d.defer
    amax := max h.amax d.amax
    count := min (h.count + d.count) (2 ^ 32 - 1)
    nans := min (h.nans + d.nans) 4095
    infs := min (h.infs + d.infs) 4095
    epoch := h.epoch
    ovfs := min (h.ovfs + d.ovfs) 65535
    bins := (List.range 28).foldl (fun m b =>
      Store.set 0 m b (min (Store.get 0 h.bins b + Store.get 0 d.bins b) (2 ^ 32 - 1))) [] }

/-- The swap of a close (R369). -/
def Rec.swap (r : Rec) : Rec :=
  let n : Half := { Half.reset with epoch := (r.opened.epoch + 1) % 65536 }
  if r.open1 then { r with
      half0 := n
      open1 := false }
  else { r with
      half1 := n
      open1 := true }

/-- A new record (R364). -/
def Rec.fresh (asid : Nat) (policy : BitVec 8) (o : RecOrigin) : Rec :=
  { half0 := Half.reset
    half1 := { Half.reset with epoch := 1 }
    open1 := true
    policy := policy
    asid := asid
    origin := o
    reload := false }

/-- The 128 bytes of a half (R360). -/
def Half.bytes (h : Half) (policy : BitVec 8) : Nat :=
  (h.amax + 2 ^ 31 * h.defer.toNat) + 2 ^ 32 * h.count + 2 ^ 64 * (policy.toNat + 2 ^ 8 * h.infs + 2 ^ 20 * h.nans) +
  2 ^ 96 * (h.ovfs + 2 ^ 16 * h.epoch) +
  (List.range 28).foldl (fun v b => v + 2 ^ (128 + 32 * b) * Store.get 0 h.bins b) 0

/-- A half from its 128 bytes (R374). -/
def Half.ofBytes (v : Nat) : Half :=
  { defer := bitsN v 31 1 = 1
    amax := bitsN v 0 31
    count := bitsN v 32 32
    nans := bitsN v 84 12
    infs := bitsN v 72 12
    epoch := bitsN v 112 16
    ovfs := bitsN v 96 16
    bins := (List.range 28).foldl (fun m b => Store.set 0 m b (bitsN v (128 + 32 * b) 32)) [] }

/-- The policy byte of a half's bytes. -/
def policyOf (v : Nat) : BitVec 8 := BitVec.ofNat 8 (bitsN v 64 8)

/-- A policy byte that is refused: reserved bits, OVF 3 (R363). -/
def policyBad (p : BitVec 8) : Bool := decide (16 ≤ p.toNat) || decide (p.toNat / 4 = 3)

/-! ## The table (R359, R364, R365) -/

/-- Where SREC n lives: its slice, and its first byte in that slice's 128 KiB share of the table (R359). -/
def recPlace (n : Nat) : Nat × Nat := (n * 0x9E37 % 128, 256 * (n / 128))

/-- A record of an address space. -/
def State.recOf (s : State) (asid id : Nat) : Option Rec :=
  match s.records.find? fun e => e.1 == id with
  | some (_, r) => if r.asid = asid then some r else none
  | none => none

/-- Replace a record. -/
def State.setRec (s : State) (id : Nat) (r : Rec) : State := { s with records := Store.put s.records id r }
/-- A record reads as unallocated. -/
def State.freeRec (s : State) (id : Nat) : State := { s with records := Store.del s.records id }

/-- A delta merges into the open half of its record; one to an id the sender's address space does not own is discarded
(R365, R368). -/
def State.mergeDelta (s : State) (d : Delta) : State :=
  match s.recOf d.asid d.recid with
  | some r => s.setRec d.recid (r.setOpened (r.opened.merge d.fields))
  | none => s

/-- DELTA_MERGE (R368): the delta in place n of those on their way. -/
def execDeltaMerge (n : Nat) (s : State) : Out :=
  match s.deltas[n]? with
  | some d => .next ({ s with deltas := s.deltas.eraseIdx n }.mergeDelta d)
  | none => .next s

/-- Every delta on its way to a record of an address space merges: what a close waits for (R371). -/
def State.mergeAll (s : State) (asid id : Nat) : State :=
  let mine := fun (d : Delta) => d.asid == asid && d.recid == id
  (s.deltas.filter mine).foldl State.mergeDelta { s with deltas := s.deltas.filter fun d => !mine d }

/-- One close of one record: the state after, and its status OK, NO_RECORD or DEFERRED (R298, R369). -/
def State.closeRec (s : State) (asid id : Nat) : State × Nat :=
  let s := s.mergeAll asid id
  match s.recOf asid id with
  | none => (s, 0x0C)
  | some r => (s.setRec id r.swap, if r.opened.defer then 0x13 else 0)

/-- Records an address space holds. -/
def State.recCount (s : State) (asid : Nat) : Nat := (s.records.filter fun e => e.2.asid == asid).length

/-- May an address space allocate one more record (R364, R444)? -/
def State.recQuotaOk (s : State) (asid : Nat) : Bool :=
  match s.fe.aspaces.find? fun e => e.1 == asid with
  | some (_, a) => decide (s.recCount asid < a.recQuota)
  | none => false

/-- Allocate at an id. -/
def State.allocRec (s : State) (asid id : Nat) (policy : BitVec 8) (o : RecOrigin) : State :=
  s.setRec id (Rec.fresh asid policy o)

/-- The lowest free id, where the quota and the table allow an allocation; none: QUOTA. -/
def State.freeRecId (s : State) (asid : Nat) : Option Nat :=
  if s.recQuotaOk asid then Store.lowestFree s.records 65536 0 else none

/-! ## Scale words (R153, R299, R373) -/

/-- The scale word of a half of a record. -/
def Half.scaleWord (h : Half) (id : Nat) (policy : BitVec 8) (f : Fmt) : Nat :=
  scaleFrom h.amax f (policy.toNat % 4) + 2 ^ 32 * policy.toNat + 2 ^ 48 * h.epoch + 2 ^ 64 * id

/-! ## Packets (R364) -/

/-- REC_ALLOC: of several refusals, BAD_PACKET comes before ID_IN_USE, and that before QUOTA (log entry 112). -/
def execRecAlloc (h : PktHdr) (recid : Nat) (any : Bool) (policy : BitVec 8) (s : State) : Out :=
  let refuse := fun (code : Nat) =>
    Host.Outcome.next ((s.postError 0x0012 (pktWord h) (if any then 2 ^ 64 - 1 else recid)).complete h code 0)
  if policyBad policy then refuse 0x15
  else if any then
    match s.freeRecId h.asid with
    | some id => .next ((s.allocRec h.asid id policy .packet).complete h 0 id)
    | none => refuse 0x0D
  else if Store.has s.records recid then refuse 0x17
  else if s.recQuotaOk h.asid then .next ((s.allocRec h.asid recid policy .packet).complete h 0 recid)
  else refuse 0x0D

/-- REC_FREE: of a record that REC_ALLOC allocated in the queue's address space; any other is NO_RECORD. -/
def execRecFree (h : PktHdr) (recid : Nat) (s : State) : Out :=
  match s.recOf h.asid recid with
  | some r => if r.origin = .packet then .next ((s.freeRec recid).complete h 0 0) else .next (s.complete h 0x0C 0)
  | none => .next (s.complete h 0x0C 0)

end Sys2Proof.Machine
end

