-- ==== Sys2Proof/Machine/Jobs.lean ====
section
/-! DEFINITION. Engine jobs in general (R261 to R269, R274 to R280, R517): the checks when a job issues, where its accesses go, how its
elements run, its reports and its end; waymarks (R212 to R214). -/

namespace Sys2Proof.Machine

/-! ## Card addresses (R163, R517) -/

/-- An address of a card: the capability register of a CRA, and a value with its offset added. -/
structure CardAddr where
  k : Option Nat
  x : Int
deriving DecidableEq, Repr

/-- A card field with an offset in bytes. -/
def cardAddr (v : Nat) (off : Int) : CardAddr :=
  match craReg v with
  | some k => { k := some k, x := ((v % 2 ^ 56 : Nat) : Int) + off }
  | none => { k := none, x := (v : Int) + off }

/-- A card field that may not be a CRA: a CRA there lies in no entry. -/
def localAddr (v : Nat) (off : Int) : CardAddr := { k := none, x := (v : Int) + off }

/-- An object offset of a capability register. -/
def objAddr (k : Nat) (x : Int) : CardAddr := { k := some k, x := x }

/-- Do `n` bytes at an address lie in an entry? -/
def CardFoot.holds (f : CardFoot) (a : CardAddr) (n : Nat) : Bool :=
  let b : CardAddr := cardAddr f.base 0
  b.k == a.k && decide (b.x ≤ a.x) && decide (a.x + n ≤ b.x + f.len)

/-- The SPACE of a field: that of the first entry with the intent that holds its byte (R517). -/
def spaceOf (fs : List CardFoot) (a : CardAddr) (wr : Bool) : Option Nat :=
  (fs.find? fun f => (if wr then f.wr else f.rd) && f.holds a 1).map (·.space)

/-- Does an access lie inside an entry of a space with the intent (R264)? -/
def insideFoot (fs : List CardFoot) (sp : Nat) (a : CardAddr) (n : Nat) (wr : Bool) : Bool :=
  fs.any fun f => f.space == sp && (if wr then f.wr else f.rd) && f.holds a n

/-- Where an access of a job goes. -/
inductive Place where
  /-- A scratch address. -/
  | scratch (a : Nat)
  /-- An intermediate address. -/
  | ia (a : Nat)
  /-- An object offset of the capability of a k register. -/
  | pool (k off : Nat)
deriving DecidableEq, Repr

/-- The place of an address in a space. -/
def Ctx.placeAt (x : Ctx) (sp : Nat) (a : CardAddr) : Place :=
  match a.k with
  | some k => .pool k a.x.toNat
  | none => if sp = 0 then .scratch a.x.toNat else .ia ((x.checkVa a.x 1 1 false false).getD 0)

/-- The place of an access whose field takes the space of another address. -/
def Ctx.placeOf (x : Ctx) (card : Nat) (field a : CardAddr) (wr : Bool) : Place :=
  x.placeAt ((spaceOf (cardFoots card) field wr).getD 0) a

/-- The place of an access checked when it is made: none where no entry holds it (R265, R517). -/
def Ctx.runPlace (x : Ctx) (card : Nat) (a : CardAddr) (n : Nat) (wr : Bool) : Option Place :=
  match spaceOf (cardFoots card) a wr with
  | some sp => if insideFoot (cardFoots card) sp a n wr then some (x.placeAt sp a) else none
  | none => none

/-! ## The checks at issue (R264, R275, R309) -/

/-- Does every byte lie in the storage of bound handles (R164, R264)? `fuel` handles are followed at most. -/
def Ctx.spanOk (x : Ctx) : Nat → Nat → Nat → Bool
  | 0, a, e => decide (e ≤ a)
  | fuel + 1, a, e =>
    if e ≤ a then true
    else match x.handles.find? fun h => h.2.kind ≠ 3 && h.2.holds a 1 with
      | some (_, h) => x.spanOk fuel (h.base + h.size) e
      | none => false

/-- A failing check: its cause, faulting address, and whether the access writes. -/
structure JobFault where
  cause : Nat
  addr : Nat
  write : Bool
deriving DecidableEq, Repr

/-- A used entry, checked: the region it covers, or its fault (R264). -/
def Ctx.entryOf (x : Ctx) (c : Nat) (f : CardFoot) : Except JobFault Foot :=
  if f.space = 0 then
    if x.spanOk 64 f.base (f.base + f.len) && !(f.wr && touchesWaymarks f.base f.len) then
      .ok (footScratch f.base f.len f.rd f.wr)
    else .error { cause := cProt, addr := f.base, write := f.wr }
  else
    match x.targetOf c (BitVec.ofNat 64 f.base) 0
        { size := f.len, align := 1, cap := f.rd.toNat + 2 * f.wr.toNat + 16, rd := f.rd, wr := f.wr, kind := 7, data := 0 } with
    | .ok t => .ok (footTarget t f.len f.rd f.wr)
    | .error e => .error { cause := e.1, addr := e.2, write := f.wr }

/-- An access that a job's operands fix: the field it belongs to, its address, its bytes and its intent. -/
structure Fixed where
  field : CardAddr
  at_ : CardAddr
  len : Nat
  wr : Bool
deriving DecidableEq, Repr

/-- Does it lie where the card says (R264, R517)? -/
def Fixed.ok (fs : List CardFoot) (f : Fixed) : Bool :=
  match spaceOf fs f.field f.wr with
  | some sp => insideFoot fs sp f.at_ f.len f.wr
  | none => false

/-- What a command makes of its card. -/
structure JobPlan where
  /-- Its declared byte total. -/
  total : Nat
  /-- Accesses fixed at issue. -/
  fixed : List Fixed
  /-- Capability register of the syllable. -/
  kN : Nat
  /-- Rights it needs; 0: the form names none. -/
  rights : Nat
  /-- Object ranges fixed at issue: offset and bytes. -/
  ranges : List (Int × Nat)
  /-- Implicit footprints (R280). -/
  extra : List Foot
  /-- It follows every earlier operation (R280). -/
  after : Bool
  /-- A format register read at issue. -/
  fmt : Word32
  /-- A value kept from issue: the group table's entry (R518). -/
  vec : Nat
deriving DecidableEq, Repr

/-- A plan with no access. -/
def JobPlan.plain (total : Nat) : JobPlan :=
  { total := total, fixed := [], kN := 0, rights := 0, ranges := [], extra := [], after := false, fmt := 0, vec := 0 }

/-- The regions of a card's entries. -/
def okFoots (l : List (Except JobFault Foot)) : List Foot :=
  l.filterMap fun e => match e with
    | .ok f => some f
    | .error _ => none

/-- The first fault of a cause among entries. -/
def firstFault (cause : Nat) (l : List (Except JobFault Foot)) : Option JobFault :=
  l.findSome? fun e => match e with
    | .error f => if f.cause = cause then some f else none
    | .ok _ => none

/-- The fault of a job whose operands are well formed: protection first, then capability (R309). -/
def jobFault (x : Ctx) (card : Nat) (p : JobPlan) (l : List (Except JobFault Foot)) : Option JobFault :=
  match firstFault cProt l with
  | some f => some f
  | none =>
    match p.fixed.find? fun f => !f.ok (cardFoots card) with
    | some f => some { cause := cProt, addr := if f.at_.k.isSome then 0 else (f.at_.x % (2 : Int) ^ 64).toNat, write := f.wr }
    | none =>
      match firstFault cCap l with
      | some f => some f
      | none =>
        if p.rights ≠ 0 ∧ !(((0, 0) :: p.ranges).all fun r => capOk (x.kreg p.kN) p.rights r.1 r.2) then
          some { cause := cCap, addr := 0, write := p.rights &&& 0x0A ≠ 0 }
        else none

/-- The waymark word as a region: a job reads it, wmarm writes it, so that wmarm follows the reports of earlier jobs and later jobs
report under the new TARGET (R214). -/
def footWaymark (a : Nat) (arm : Bool) : Foot := footScratch a 16 true arm

/-- A job joins the E queue with all that it reads at issue (R261). -/
def State.addJob (s : State) (i : Instr) (hJ hW : Handle) (card : Nat) (p : JobPlan) (fs : List Foot) : State :=
  s.addEng { s.engOf i .e with
    foot := fs ++ p.extra ++ [footWaymark hW.base false]
    edges := if p.after then s.now.eng.map (·.id) else []
    card := card
    cap := s.pre.kreg p.kN
    caps := s.pre.k
    fmtA := p.fmt
    tiles := [hJ.tile]
    vec := BitVec.ofNat 1024 p.vec
    total := p.total
    waymark := hW.base }

/-- Issue a job: its card is read and checked, and it enters the E queue (R261, R275, R309). -/
def jobIssue (i : Instr) (o : EJ) (minRow : Nat) (nest : Bool) (plan : State → Nat → Option JobPlan) (s : State) : State :=
  let x := s.pre
  let hJ := x.handle o.hJ.toNat
  let hW := x.handle o.hW.toNat
  let code := slotCode 10 0
  if !(hJ.isGroup && hJ.kind == 2) ∨ hJ.roww < minRow ∨ !hW.isWaymark then s.fail cOperand (code false) 0
  else
    let card := s.cardOf s.cur hJ
    match (if headerOk card nest then plan s card else none) with
    | none => s.fail cOperand (code false) 0
    | some p =>
      let l := (cardFoots card).map (x.entryOf s.cur)
      match jobFault x card p l with
      | some f => s.fail f.cause (code f.write) f.addr
      | none => s.addJob i hJ hW card p (okFoots l)

/-- Is the rest of a card from a byte on zero (R275)? -/
def restZero (card off : Nat) : Bool := card / 2 ^ (8 * off) == 0

/-! ## Running (R278, R279) -/

/-- Why a job's elements stop. -/
inductive Stop where
  /-- A page fault: write, first byte of the unit, first faulting address. -/
  | page (wr : Bool) (unit addr : Nat)
  /-- A failing status that ends the job. -/
  | ends (status : Nat)
deriving DecidableEq, Repr

/-- What stops an access of a job: a page fault, or the pool's finding (R278, R498). -/
def State.placeStop (s : State) (c : Nat) (o : EngOp) (p : Place) (n : Nat) (wr : Bool) : Option Stop :=
  match p with
  | .scratch _ => none
  | .ia a => (if wr then s.storeFault o.scope a n else s.loadFault (clusterOf c) o.scope a n).map (Stop.page wr a)
  | .pool k _ => if s.poolFinding (o.capOf k) = 0 then none else some (.ends (s.poolFinding (o.capOf k)))

/-- Bytes of a place, with the state after; those of a pool object are read at the pool (R421). -/
def State.placeRead (s : State) (c : Nat) (o : EngOp) (p : Place) (n : Nat) : Nat × State :=
  match p with
  | .scratch a => (s.engineRead (coreOf c) a n, s)
  | .ia a => s.readIa c o.scope a n
  | .pool k off => s.poolGet (o.capOf k) off n o.stepTag

/-- Bytes to a place: at the bundle's scope, or provisionally to the pool (R279). -/
def State.placeWrite (s : State) (c : Nat) (o : EngOp) (p : Place) (n v : Nat) : State :=
  match p with
  | .scratch a => s.engineWrite (coreOf c) a n v
  | .ia a => s.writeIa c o.scope a n v
  | .pool k off => s.poolPut (o.capOf k) off n v o.stepTag

/-- Read, or what stops it. -/
def State.tryRead (s : State) (c : Nat) (o : EngOp) (p : Place) (n : Nat) : Except Stop (Nat × State) :=
  match s.placeStop c o p n false with
  | some e => .error e
  | none => .ok (s.placeRead c o p n)

/-- Write, or what stops it. -/
def State.tryWrite (s : State) (c : Nat) (o : EngOp) (p : Place) (n v : Nat) : Except Stop State :=
  match s.placeStop c o p n true with
  | some e => .error e
  | none => .ok (s.placeWrite c o p n v)

/-- The status of lower code of two, 0 standing for OK (R277). -/
def worse (a b : Nat) : Nat := if a = 0 then b else if b = 0 then a else min a b

/-- Run `n` elements from number `i` on: the state after, the status, and the element that a page fault stopped. -/
def runElems (f : Nat → State → Except Stop (State × Nat)) :
    Nat → Nat → Nat → State → State × Nat × Option (Nat × Bool × Nat × Nat)
  | 0, _, st, s => (s, st, none)
  | n + 1, i, st, s =>
    match f i s with
    | .ok (t, e) => runElems f n (i + 1) (worse st e) t
    | .error (.ends e) => (s, worse st e, none)
    | .error (.page w u a) => (s, st, some (i, w, u, a))

/-! ## Waymarks and the end of a job (R212 to R214, R276) -/

/-- A report of bytes to a waymark word with a status, 0 for none failing (R213). -/
def waymarkAfter (w n status : Nat) : Nat :=
  let gen := bitsN w 0 32
  let count := bitsN w 32 32
  let target := bitsN w 64 32
  let err := if status = 0 then bitsN w 96 1 else 1
  let fstat := if bitsN w 112 16 = 0 then status else bitsN w 112 16
  let (gen, count) :=
    if target = 0 then (gen, min (count + n) (2 ^ 32 - 1))
    else
      let t := (count + n) % 2 ^ 32
      ((gen + t / target) % 2 ^ 32, t % target)
  gen + 2 ^ 32 * count + 2 ^ 64 * target + 2 ^ 96 * err + 2 ^ 112 * fstat

/-- A report reaches a waymark word of a core. -/
def State.report (s : State) (k addr n status : Nat) : State :=
  s.scratchWrite k addr 16 (waymarkAfter (s.scratchRead k addr 16) n status)

/-- WAYMARK_REPORT (R213): to the waymark word at a scratch address of a core. -/
def execWaymarkReport (core addr bytes status : Nat) (s : State) : Out :=
  if core < 256 then .next (s.report core addr bytes status) else .fault .noSuchUnit

/-- Is a line in a footprint region that the job writes, which is bound to its waymark (R398)? -/
def EngOp.writesLine (o : EngOp) (line : Nat) : Bool :=
  o.foot.any fun f => f.wr && f.space == 1 && decide (f.base / 128 ≤ line) && decide (128 * line < f.base + f.len)

/-- Is a line bound to a waymark word by a binding of its context (R398)? -/
def Ctx.waymarkBound (x : Ctx) (a line : Nat) : Bool :=
  x.handles.any fun e => e.2.isWaymark && e.2.base == a && x.lineBound { kind := 1, at_ := e.1, obj := 0 } line

/-- A job ends: it reports its whole total with its status, which releases its writes at its scope, and leaves the queue (R213, R276, R397,
R411); its write messages count for their step (R503). -/
def State.jobEnd (s : State) (c : Nat) (o : EngOp) (status : Nat) : State :=
  (((s.release c o.scope fun l => o.writesLine l || (s.ctx c).waymarkBound o.waymark l).countOp o).report (coreOf c) o.waymark o.total status).modCtx c fun x =>
    x.engDone o.id

/-- A job is suspended before an element by a page fault, and its context freezes (R278). -/
def State.jobSuspend (s : State) (c : Nat) (o : EngOp) (st : Nat) (e : Nat × Bool × Nat × Nat) : State :=
  (s.modCtx c fun x => x.modEng o.id fun p => { p with
    pos := e.1
    status := st
    begun := true }).suspendEng c o 15 (o.handles.headD 0)
    { space := 1, obj := 0, base := e.2.2.1, len := 0, rd := !e.2.1, wr := e.2.1 } (cPage, 0, e.2.2.2)

/-- A job that is one unit is suspended before it by a page fault: write, first byte of the unit, first faulting address (R278). -/
def State.jobHold (s : State) (c : Nat) (o : EngOp) (wr : Bool) (unit addr : Nat) : State :=
  s.suspendEng c o 15 (o.handles.headD 0) { space := 1, obj := 0, base := unit, len := 0, rd := !wr, wr := wr } (cPage, 0, addr)

/-- Run a job's elements from where it stands; when all are done, end it by `fin` with its status. -/
def State.jobRun (s : State) (c : Nat) (o : EngOp) (n : Nat) (f : Nat → State → Except Stop (State × Nat))
    (fin : State → Nat → State) : State :=
  match runElems f (n - o.pos) o.pos o.status s with
  | (t, st, some e) => t.jobSuspend c o st e
  | (t, st, none) => fin t st

/-- The operation as it now stands in the context. -/
def State.jobNow (s : State) (c : Nat) (o : EngOp) : EngOp := ((s.ctx c).engOp o.id).getD o

/-- wmarm arms the waymark: TARGET is set, COUNT, ERR and FSTAT clear, GEN stays (R214). -/
def State.wmarmEnd (s : State) (c : Nat) (o : EngOp) : State :=
  (s.scratchWrite (coreOf c) o.waymark 16 (bitsN (s.scratchRead (coreOf c) o.waymark 16) 0 32 + 2 ^ 64 * o.total)).modCtx c
    fun x => x.engDone o.id

/-- wmarm (R214): the fields it does not use are zero (Legal). -/
noncomputable def execWmarm (o : EJ) (s : State) : Out :=
  issueOp (.wmarm o) (fun s =>
    let hW := s.pre.handle o.hW.toNat
    if hW.isWaymark then
      s.addEng { s.engOf (.wmarm o) .e with
        foot := [footWaymark hW.base true]
        waymark := hW.base
        total := extNat o.ext }
    else s.fail cOperand (slotCode 10 0 false) 0) s

end Sys2Proof.Machine
end

