-- ==== Sys2Proof/Machine/Copy.lean ====
section
/-! DEFINITION. The copy and gather family and the pool bulk commands (R281 to R286). -/

namespace Sys2Proof.Machine

/-! ## The card body of the copy family (R281) -/

/-- SRC. -/
def cSrc (card : Nat) : Nat := cardBits card 0x80 0 64
/-- DST. -/
def cDst (card : Nat) : Nat := cardBits card 0x88 0 64
/-- IDX. -/
def cIdx (card : Nat) : Nat := cardBits card 0x90 0 64
/-- LEN. -/
def cLen (card : Nat) : Nat := cardBits card 0x98 0 32
/-- ESIZE. -/
def cEsize (card : Nat) : Nat := cardBits card 0x9C 0 16
/-- MODE. -/
def cMode (card : Nat) : Nat := cardBits card 0xA0 43 3
/-- DFMT. -/
def cDfmt (card : Nat) : Nat := cardBits card 0xA0 38 5
/-- SFMT. -/
def cSfmt (card : Nat) : Nat := cardBits card 0xA0 33 5
/-- DRECV. -/
def cDrecv (card : Nat) : Bool := cardBits card 0xA0 32 1 = 1
/-- RECD. -/
def cRecd (card : Nat) : Nat := cardBits card 0xA0 16 16
/-- RECS. -/
def cRecs (card : Nat) : Nat := cardBits card 0xA0 0 16

/-- A length or count of 1 to 2^24. -/
def lenOk (n : Nat) : Bool := decide (1 ≤ n) && decide (n ≤ 2 ^ 24)

/-- The format a card names, with the value of its format register read at issue. -/
def cardFmt (x : Ctx) (code : Nat) : Option (Fmt × Word32) :=
  let reg := if fmtIsNf code then x.fmtreg (code - 16) else 0
  (fmtOf (fun _ => reg) code).map fun f => (f, reg)

/-- Bytes of a packing group (R86). -/
def groupBytes (w : Nat) : Nat := groupElems w * w / 8

/-- The reads and writes of a copy's visits. -/
def copyFixed (card na nb : Nat) : List Fixed :=
  (visitsOf card).flatMap fun v =>
    [{ field := cardAddr (cSrc card) 0, at_ := cardAddr (cSrc card) v.1, len := na, wr := false },
     { field := cardAddr (cDst card) 0, at_ := cardAddr (cDst card) v.2, len := nb, wr := true }]

/-- cpy's plan (R282). -/
def cpyPlan (s : State) (card : Nat) : Option JobPlan :=
  let n := cLen card
  if cIdx card ≠ 0 ∨ cardBits card 0x9C 0 32 ≠ 0 ∨ cardBits card 0xA0 43 21 ≠ 0 ∨ cSfmt card ≠ 0 ∨ cRecs card ≠ 0 ∨
      !restZero card 0xA8 ∨ !lenOk n then none
  else
    let p := JobPlan.plain (n * (visitsOf card).length)
    if cDrecv card then
      if !(decide (cDfmt card ≤ 2) || fmtIsNf (cDfmt card)) then none
      else match cardFmt s.pre (cDfmt card) with
        | none => none
        | some (f, reg) => if n % groupBytes f.w ≠ 0 then none else some { p with
            fixed := copyFixed card n n
            fmt := reg }
    else if cDfmt card ≠ 0 ∨ cRecd card ≠ 0 then none
    else some { p with fixed := copyFixed card n n }

/-- Is DFMT one a quantiser writes (R283, R299)? -/
def quantFmt (code : Nat) : Bool := (decide (3 ≤ code) && decide (code ≤ 5)) || fmtIsNf code

/-- The region of a record (R280). -/
def footRec (id : Nat) (wr : Bool) : Foot := { space := 4, obj := 0, base := id, len := 1, rd := !wr, wr := wr }

/-- cpyq's plan (R283). -/
def cpyqPlan (s : State) (card : Nat) : Option JobPlan :=
  let n := cLen card
  if cIdx card ≠ 0 ∨ cardBits card 0x9C 0 32 ≠ 0 ∨ cardBits card 0xA0 46 18 ≠ 0 ∨ 3 < cMode card ∨ 2 < cSfmt card ∨
      !quantFmt (cDfmt card) ∨ (!cDrecv card ∧ cRecd card ≠ 0) ∨ !restZero card 0xA8 ∨ !lenOk n then none
  else
    match fmtOf (fun _ => 0) (cSfmt card), cardFmt s.pre (cDfmt card) with
    | some sf, some (df, reg) =>
      if n % groupElems df.w ≠ 0 then none
      else
        let nb := n * df.w / 8
        some { JobPlan.plain (nb * (visitsOf card).length) with
          fixed := copyFixed card (n * sf.w / 8) nb
          extra := [footRec (cRecs card) false]
          fmt := reg }
    | _, _ => none

/-- Statistics of written elements are added to a job's (R157, R282). -/
def State.addStats (s : State) (c id : Nat) (l : List FVal) : State :=
  s.modCtx c fun x => x.modEng id fun p => { p with fields := l.foldl Half.addVal p.fields }

/-- One visit: bytes are read from stream A, converted, and written to stream B. -/
def State.copyVisit (s : State) (c : Nat) (o : EngOp) (na nb : Nat) (conv : Nat → State → Nat × State) (i : Nat) :
    Except Stop (State × Nat) :=
  let x := s.ctx c
  let card := o.card
  let v := (visitsOf card).getD i (0, 0)
  let a := x.placeOf card (cardAddr (cSrc card) 0) (cardAddr (cSrc card) v.1) false
  let b := x.placeOf card (cardAddr (cDst card) 0) (cardAddr (cDst card) v.2) true
  match s.placeStop c o a na false, s.placeStop c o b nb true with
  | some e, _ => .error e
  | none, some e => .error e
  | none, none =>
    let (v, s) := s.placeRead c o a na
    let (w, s) := conv v s
    .ok (s.placeWrite c o b nb w, 0)

/-- cpy's conversion: none, with the statistics of DRECV. -/
def cpyConv (c : Nat) (o : EngOp) (v : Nat) (s : State) : Nat × State :=
  if cDrecv o.card then
    match fmtOf (fun _ => o.fmtA) (cDfmt o.card) with
    | some f => (v, s.addStats c o.id ((List.range (cLen o.card * 8 / f.w)).map fun j => decodeVal f (bitsN v (f.w * j) f.w)))
    | none => (v, s)
  else (v, s)

/-- The delta of DRECV (R282). -/
def State.recdDelta (s : State) (c : Nat) (o : EngOp) : State :=
  if cDrecv o.card then
    s.sendDelta (s.ctx c).asid (cRecd o.card) { (s.jobNow c o).fields with
      ovfs := 0
      defer := false }
  else s

/-- cpy runs (R282). -/
def State.cpyRun (s : State) (c : Nat) (o : EngOp) : State :=
  s.jobRun c o (visitsOf o.card).length
    (fun i s => s.copyVisit c o (cLen o.card) (cLen o.card) (cpyConv c o) i)
    fun t st => (t.recdDelta c o).jobEnd c o st

/-- cpyq begins: scale and policy byte from the closed half of RECS, 1.0 and NO_RECORD without one (R283). -/
def State.cpyqBegin (s : State) (c : Nat) (o : EngOp) (f : Fmt) : State :=
  if o.begun then s
  else
    let (w, st) := match s.recOf (s.ctx c).asid (cRecs o.card) with
      | some r => (r.closed.scaleWord (cRecs o.card) r.policy f, 0)
      | none => (0x3F800000, 0x0C)
    s.modCtx c fun x => x.modEng o.id fun p => { p with
      begun := true
      vec := BitVec.ofNat 1024 w
      status := worse p.status st }

/-- cpyq's conversion of a visit: the codes of the products, with their overflows counted and their statistics. -/
def cpyqConv (c : Nat) (o : EngOp) (sf df : Fmt) (v : Nat) (s : State) : Nat × State :=
  let sc := decodeVal fp32 (o.vec.toNat % 2 ^ 32)
  let l := (List.range (cLen o.card)).map fun j =>
    qntRound df sc (cMode o.card) (decodeVal sf (bitsN v (sf.w * j) sf.w))
  let s := s.modCtx c fun x => x.modEng o.id fun p => { p with fields := { p.fields with
    ovfs := p.fields.ovfs + (l.filter (·.ovf)).length } }
  let s := if cDrecv o.card then s.addStats c o.id (l.map fun r => decodeVal df r.bits) else s
  (packCodes df.w (l.map (·.bits)), s)

/-- cpyq ends: its deltas, and OVERFLOW under the trap policy (R283). -/
def State.cpyqEnd (s : State) (c : Nat) (o : EngOp) (st : Nat) : State :=
  let p := s.jobNow c o
  let n := p.fields.ovfs
  let pol := bitsN p.vec.toNat 34 2
  let s := if n = 0 then s
    else s.sendDelta (s.ctx c).asid (cRecs o.card) { Half.reset with
      ovfs := n
      defer := pol == 2 }
  (s.recdDelta c o).jobEnd c o (worse st (if pol = 1 ∧ 0 < n then 0x12 else 0))

/-- cpyq runs (R283). -/
def State.cpyqRun (s : State) (c : Nat) (o : EngOp) : State :=
  match fmtOf (fun _ => 0) (cSfmt o.card), fmtOf (fun _ => o.fmtA) (cDfmt o.card) with
  | some sf, some df =>
    let s := s.cpyqBegin c o df
    let o := s.jobNow c o
    s.jobRun c o (visitsOf o.card).length
      (fun i s => s.copyVisit c o (cLen o.card * sf.w / 8) (cLen o.card * df.w / 8) (cpyqConv c o sf df) i)
      fun t st => t.cpyqEnd c o st
  | _, _ => s

/-! ## Gather and scatter (R284) -/

/-- The plan of the gath and scat family: `g` for gath; `k` the capability register of a .k form. -/
def gatherPlan (g : Bool) (kN : Option Nat) (card : Nat) : Option JobPlan :=
  let n := cLen card
  let e := cEsize card
  if cIdx card % 4 ≠ 0 ∨ cardBits card 0x9C 16 16 ≠ 0 ∨ e < 1 ∨ 4096 < e ∨ cardBits card 0xA0 0 64 ≠ 0 ∨ !restZero card 0xA8 ∨
      !lenOk n then none
  else
    let side := cardAddr (if g then cDst card else cSrc card) 0
    let idx := localAddr (cIdx card) 0
    let p := { JobPlan.plain (n * e) with
      fixed := [{ field := idx, at_ := idx, len := 4 * n, wr := false }, { field := side, at_ := side, len := n * e, wr := g }] }
    match kN with
    | none => some p
    | some k => some { p with
        kN := k
        rights := if g then 0x11 else 0x12 }

/-- The address of element j on the contiguous side, and of element i on the indexed side. -/
def gatherSide (g : Bool) (card j : Nat) : CardAddr :=
  cardAddr (if g then cDst card else cSrc card) ((j * cEsize card : Nat) : Int)
/-- The indexed side: an object offset of kN in the .k forms. -/
def gatherIndexed (g : Bool) (kN : Option Nat) (card i : Nat) : CardAddr :=
  let v := if g then cSrc card else cDst card
  match kN with
  | none => cardAddr v ((i * cEsize card : Nat) : Int)
  | some k => objAddr k (((v + i * cEsize card : Nat)) : Int)

/-- One element: its index is read when it is reached; an index of all ones gathers zeros and scatters nothing; an indexed access outside
the footprint is not made. -/
def State.gatherElem (s : State) (c : Nat) (o : EngOp) (g : Bool) (kN : Option Nat) (j : Nat) : Except Stop (State × Nat) :=
  let x := s.ctx c
  let card := o.card
  let e := cEsize card
  let idx := localAddr (cIdx card) 0
  match s.tryRead c o (x.placeOf card idx (localAddr (cIdx card) ((4 * j : Nat) : Int)) false) 4 with
  | .error e => .error e
  | .ok (i, s) =>
    let side := x.placeOf card (gatherSide g card 0) (gatherSide g card j) g
    if i = 0xFFFFFFFF then
      if g then (s.tryWrite c o side e 0).map fun t => (t, 0) else .ok (s, 0)
    else
      match x.runPlace card (gatherIndexed g kN card i) e (!g) with
      | none => .ok (s, 0x01)
      | some p =>
        match s.tryRead c o (if g then p else side) e with
        | .error e => .error e
        | .ok (v, s) => (s.tryWrite c o (if g then side else p) e v).map fun t => (t, 0)

/-- The gath and scat family runs. -/
def State.gatherRun (s : State) (c : Nat) (o : EngOp) (g : Bool) (kN : Option Nat) : State :=
  s.jobRun c o (cLen o.card) (fun j s => s.gatherElem c o g kN j) fun t st => t.jobEnd c o st

/-! ## Pool bulk commands (R285, R286) -/

/-- LOC. -/
def bLoc (card : Nat) : Nat := cardBits card 0x80 0 64
/-- OFF. -/
def bOff (card : Nat) : Nat := cardBits card 0x88 0 64
/-- LEN. -/
def bLen (card : Nat) : Nat := cardBits card 0x90 0 32
/-- CIDX. -/
def bCidx (card : Nat) : Nat := cardBits card 0x94 8 16
/-- ROP. -/
def bRop (card : Nat) : Nat := cardBits card 0x94 5 3
/-- RFMT. -/
def bRfmt (card : Nat) : Nat := cardBits card 0x94 0 5
/-- DRECV. -/
def bDrecv (card : Nat) : Bool := cardBits card 0x94 24 1 = 1
/-- RECD. -/
def bRecd (card : Nat) : Nat := cardBits card 0x98 0 16

/-- Bytes of an element of RFMT: FP32, FP16, BF16, INT32, UINT32; 0 for another code. -/
def rfmtBytes (code : Nat) : Nat :=
  match code with
  | 0 | 8 | 9 => 4
  | 1 | 2 => 2
  | _ => 0

/-- The kinds of bulk command. -/
inductive Bulk where
  | get | write | reduce
deriving DecidableEq, Repr

/-- The local and the object offset of a visit. -/
def bulkVisit (b : Bulk) (card : Nat) (v : Int × Int) : CardAddr × Int :=
  match b with
  | .get => (localAddr (bLoc card) v.2, (bOff card : Int) + v.1)
  | _ => (localAddr (bLoc card) v.1, (bOff card : Int) + v.2)

/-- The plan of a bulk command. -/
def bulkPlan (b : Bulk) (k : Nat) (card : Nat) : Option JobPlan :=
  let n := bLen card
  let w := rfmtBytes (bRfmt card)
  let ok := match b with
    | .reduce => cardBits card 0x94 25 7 == 0 && cardBits card 0x98 16 16 == 0 && decide (bRop card ≤ 2) && w != 0 &&
        n % w == 0 && (bDrecv card || bRecd card == 0)
    | _ => cardBits card 0x94 0 64 == 0
  if (craReg (bLoc card)).isSome ∨ !lenOk n ∨ !ok ∨ !restZero card 0x9C then none
  else
    let vs := (visitsOf card).map (bulkVisit b card)
    let get := b == .get
    some { JobPlan.plain (n * vs.length) with
      fixed := vs.flatMap fun v =>
        [{ field := localAddr (bLoc card) 0, at_ := v.1, len := n, wr := get },
         { field := objAddr k v.2, at_ := objAddr k v.2, len := n, wr := !get }]
      kN := k
      rights := match b with
        | .get => 0x11
        | .write => 0x12
        | .reduce => 0x18
      ranges := vs.map fun v => (v.2, n) }

/-- A contribution reaches the pool: held until the milestone, a second of one index for one location is discarded (R286). -/
def Pool.contribute (p : Pool) (x : Contribution) : Pool × Bool :=
  if p.held.any fun e => e.obj == x.obj && e.off == x.off && e.cidx == x.cidx && e.step == x.step then (p, true)
  else ({ p with held := p.held ++ [x] }, false)

/-- The contributions of a visit of bred, and whether one was a duplicate. -/
def State.contributeAll (s : State) (c : Nat) (o : EngOp) (k off v : Nat) : State × Bool :=
  let card := o.card
  let w := rfmtBytes (bRfmt card)
  (List.range (bLen card / w)).foldl (fun (t : State × Bool) i =>
    let (p, dup) := t.1.pool.contribute
      { obj := capObj (o.capOf k), off := off + w * i, cidx := bCidx card, rfmt := bRfmt card, rop := bRop card
        value := bitsN v (8 * w * i) (8 * w), step := o.stepTag, asid := (s.ctx c).asid
        drec := if bDrecv card then some (bRecd card) else none }
    ((if dup then t.1 else { t.1 with pool := p }.poolTook (capObj (o.capOf k)) o.stepTag), t.2 || dup)) (s, false)

/-- One visit of a bulk command. -/
def State.bulkElem (s : State) (c : Nat) (o : EngOp) (b : Bulk) (k : Nat) (i : Nat) : Except Stop (State × Nat) :=
  let card := o.card
  let n := bLen card
  let (loc, off) := bulkVisit b card ((visitsOf card).getD i (0, 0))
  let obj := Place.pool k off.toNat
  let here := (s.ctx c).placeOf card (localAddr (bLoc card) 0) loc (b == .get)
  match b with
  | .get =>
    match s.tryRead c o obj n with
    | .error e => .error e
    | .ok (v, s) => (s.tryWrite c o here n v).map fun t => (t, 0)
  | .write =>
    match s.tryRead c o here n with
    | .error e => .error e
    | .ok (v, s) => (s.tryWrite c o obj n v).map fun t => (t, 0)
  | .reduce =>
    match s.tryRead c o here n with
    | .error e => .error e
    | .ok (v, s) =>
      match s.placeStop c o obj n true with
      | some e => .error e
      | none =>
        let (t, dup) := s.contributeAll c o k off.toNat v
        .ok (t, if dup then 0x0B else 0)

/-- A bulk command runs. -/
def State.bulkRun (s : State) (c : Nat) (o : EngOp) (b : Bulk) (k : Nat) : State :=
  s.jobRun c o (visitsOf o.card).length (fun i s => s.bulkElem c o b k i) fun t st => t.jobEnd c o st

/-! ## The forms -/

/-- cpy. -/
noncomputable def execCpy (o : EJ) (s : State) : Out := issueOp (.cpy o) (jobIssue (.cpy o) o 11 true cpyPlan) s
/-- cpyq. -/
noncomputable def execCpyq (o : EJ) (s : State) : Out := issueOp (.cpyq o) (jobIssue (.cpyq o) o 11 true cpyqPlan) s
/-- gath. -/
noncomputable def execGath (o : EJ) (s : State) : Out :=
  issueOp (.gath o) (jobIssue (.gath o) o 11 false fun _ card => gatherPlan true none card) s
/-- scat. -/
noncomputable def execScat (o : EJ) (s : State) : Out :=
  issueOp (.scat o) (jobIssue (.scat o) o 11 false fun _ card => gatherPlan false none card) s
/-- gath.k. -/
noncomputable def execGathK (o : EJ) (s : State) : Out :=
  issueOp (.gathK o) (jobIssue (.gathK o) o 11 false fun _ card => gatherPlan true (some o.k.toNat) card) s
/-- scat.k. -/
noncomputable def execScatK (o : EJ) (s : State) : Out :=
  issueOp (.scatK o) (jobIssue (.scatK o) o 11 false fun _ card => gatherPlan false (some o.k.toNat) card) s
/-- bget. -/
noncomputable def execBget (o : EJ) (s : State) : Out :=
  issueOp (.bget o) (jobIssue (.bget o) o 10 true fun _ card => bulkPlan .get o.k.toNat card) s
/-- bwr. -/
noncomputable def execBwr (o : EJ) (s : State) : Out :=
  issueOp (.bwr o) (jobIssue (.bwr o) o 10 true fun _ card => bulkPlan .write o.k.toNat card) s
/-- bred. -/
noncomputable def execBred (o : EJ) (s : State) : Out :=
  issueOp (.bred o) (jobIssue (.bred o) o 10 true fun _ card => bulkPlan .reduce o.k.toNat card) s

end Sys2Proof.Machine
end

