-- ==== Sys2Proof/Machine/RecordJobs.lean ====
section
/-! DEFINITION. The record commands of the E slot: sclose, sread, sread.o, salloc and sfree (R298 to R300). -/

namespace Sys2Proof.Machine

/-- COUNT of a list of records. -/
def rCount (card : Nat) : Nat := cardBits card 0x80 0 32
/-- RECID i of a list of records. -/
def rId (card i : Nat) : Nat := cardBits card (0x88 + 2 * i) 0 16
/-- The listed ids, in list order. -/
def rIds (card : Nat) : List Nat := (List.range (rCount card)).map (rId card)

/-- The plan of sclose and sfree (R298, R300). -/
def recListPlan (card : Nat) : Option JobPlan :=
  let n := rCount card
  if n < 1 ∨ 16 < n ∨ cardBits card 0x84 0 32 ≠ 0 ∨ !restZero card (0x88 + 2 * n) then none
  else some { JobPlan.plain 16 with extra := (rIds card).map fun i => footRec i true }

/-- sclose runs: each listed record swaps once for each time it is listed (R298, R369). -/
def State.scloseRun (s : State) (c : Nat) (o : EngOp) : State :=
  let r := (rIds o.card).foldl (fun (t : State × Nat) id =>
    let (u, e) := t.1.closeRec (s.ctx c).asid id
    (u, worse t.2 e)) (s, 0)
  r.1.jobEnd c o r.2

/-- sfree runs: it frees the listed records that salloc allocated in the address space (R300). -/
def State.sfreeRun (s : State) (c : Nat) (o : EngOp) : State :=
  let r := (rIds o.card).foldl (fun (t : State × Nat) id =>
    match t.1.recOf (s.ctx c).asid id with
    | some x => if x.origin = .salloc then (t.1.freeRec id, t.2) else (t.1, worse t.2 0x0C)
    | none => (t.1, worse t.2 0x0C)) (s, 0)
  r.1.jobEnd c o r.2

/-- RECID and FMT of sread. -/
def srId (card : Nat) : Nat := cardBits card 0x80 0 16
/-- FMT of sread. -/
def srFmt (card : Nat) : Nat := cardBits card 0x80 16 5

/-- The plan of sread and sread.o. -/
def sreadPlan (o : EJ) (s : State) (card : Nat) : Option JobPlan :=
  if cardBits card 0x80 21 11 ≠ 0 ∨ !restZero card 0x84 then none
  else
    let p := { JobPlan.plain 16 with extra := [footRec (srId card) false] }
    if o.sub.getLsbD 0 then (if srFmt card = 0 then some p else none)
    else if quantFmt (srFmt card) then (cardFmt s.pre (srFmt card)).map fun f => { p with fmt := f.2 }
    else none

/-- A register result of a job arrives. -/
def State.jobResult (s : State) (c : Nat) (d : Dest) (v : Nat) : State := s.modCtx c fun x => x.writeHidden d (BitVec.ofNat 1024 v)

/-- sread and sread.o run: the scale word or the bytes of a half, zero where the id names no record. -/
def State.sreadRun (s : State) (c : Nat) (o : EngOp) (e : EJ) (opened : Bool) : State :=
  let d := rV (BitVec.ofNat 6 (extNat e.ext))
  match s.recOf (s.ctx c).asid (srId o.card) with
  | none => (s.jobResult c d 0).jobEnd c o 0x0C
  | some r =>
    let h := if opened then r.opened else r.closed
    let v := if e.sub.getLsbD 0 then h.bytes r.policy
      else match fmtOf (fun _ => o.fmtA) (srFmt o.card) with
        | some f => h.scaleWord (srId o.card) r.policy f
        | none => 0
    (s.jobResult c d v).jobEnd c o 0

/-- The plan of salloc. -/
def sallocPlan (card : Nat) : Option JobPlan :=
  if cardBits card 0x80 8 24 ≠ 0 ∨ policyBad (BitVec.ofNat 8 (cardBits card 0x80 0 8)) ∨ !restZero card 0x84 then none
  else some (JobPlan.plain 16)

/-- salloc runs: the lowest free id, or all ones with QUOTA. -/
def State.sallocRun (s : State) (c : Nat) (o : EngOp) (e : EJ) : State :=
  let d := rS (BitVec.ofNat 5 (extNat e.ext))
  let asid := (s.ctx c).asid
  match s.freeRecId asid with
  | some id => ((s.allocRec asid id (BitVec.ofNat 8 (cardBits o.card 0x80 0 8)) .salloc).jobResult c d id).jobEnd c o 0
  | none => (s.jobResult c d (2 ^ 64 - 1)).jobEnd c o 0x0D

/-- sclose. -/
noncomputable def execSclose (o : EJ) (s : State) : Out :=
  issueOp (.sclose o) (jobIssue (.sclose o) o 11 false fun _ card => recListPlan card) s
/-- sfree. -/
noncomputable def execSfree (o : EJ) (s : State) : Out :=
  issueOp (.sfree o) (jobIssue (.sfree o) o 11 false fun _ card => recListPlan card) s
/-- sread. -/
noncomputable def execSread (o : EJ) (s : State) : Out := issueOp (.sread o) (jobIssue (.sread o) o 9 false (sreadPlan o)) s
/-- sread.o. -/
noncomputable def execSreadO (o : EJ) (s : State) : Out := issueOp (.sreadO o) (jobIssue (.sreadO o) o 9 false (sreadPlan o)) s
/-- salloc. -/
noncomputable def execSalloc (o : EJ) (s : State) : Out :=
  issueOp (.salloc o) (jobIssue (.salloc o) o 9 false fun _ card => sallocPlan card) s

end Sys2Proof.Machine
end

