-- ==== Sys2Proof/Machine/Tasks.lean ====
section
/-! DEFINITION. The task machine (R442, R443), the ready queue (R445), launch records and their checks (R339 to R342, R65 to R67, R205,
R514), tile numbers (R343, R344), and the tdec and tspawn commands (R296, R297). -/

namespace Sys2Proof.Machine

/-! ## The launch record (R339) -/

/-- `n` bits of a launch record from bit `lo` of the word at byte `off` on. -/
def recBits (r : VWord) (off lo n : Nat) : Nat := elemAt r (8 * off + lo) n

/-- CODE. -/
def lrCode (r : VWord) : Nat := recBits r 0x00 0 64
/-- ENTRY. -/
def lrEntry (r : VWord) : Nat := recBits r 0x08 0 32
/-- HADDR times 16. -/
def lrHandler (r : VWord) : Nat := 16 * recBits r 0x0C 4 28
/-- HEN. -/
def lrHen (r : VWord) : Bool := recBits r 0x0C 0 1 = 1
/-- PRIO. -/
def lrPrio (r : VWord) : Nat := recBits r 0x10 16 3
/-- CPC. -/
def lrCpc (r : VWord) : Nat := recBits r 0x10 8 3
/-- DEPCNT. -/
def lrDepcnt (r : VWord) : Nat := recBits r 0x14 0 32
/-- HINTS. -/
def lrHints (r : VWord) : Nat := recBits r 0x18 0 64
/-- ARGS. -/
def lrArgs (r : VWord) : Nat := recBits r 0x20 0 64
/-- FOOT. -/
def lrFoot (r : VWord) : Nat := recBits r 0x28 0 64
/-- SUCC. -/
def lrSucc (r : VWord) : Nat := recBits r 0x30 0 64
/-- RAG. -/
def lrRag (r : VWord) : Nat := recBits r 0x38 0 64
/-- EXTd. -/
def lrExt (r : VWord) (d : Nat) : Nat := recBits r (0x40 + 4 * d) 0 32
/-- TSd. -/
def lrTs (r : VWord) (d : Nat) : Nat := recBits r (0x50 + 2 * d) 0 16
/-- MINSPLIT. -/
def lrMinsplit (r : VWord) : Nat := recBits r 0x58 32 32
/-- RAGGED, bit d. -/
def lrRagged (r : VWord) (d : Nat) : Bool := recBits r 0x58 (8 + d) 1 = 1
/-- SPLIT. -/
def lrSplit (r : VWord) : Nat := recBits r 0x58 6 2
/-- ORDER. -/
def lrOrder (r : VWord) : Nat := recBits r 0x58 4 2
/-- The rank. -/
def lrRank (r : VWord) : Nat := recBits r 0x58 0 2 + 1
/-- SRECn. -/
def lrSrec (r : VWord) (n : Nat) : Nat := recBits r (0x60 + 2 * n) 0 16
/-- The policy byte of record n. -/
def lrPolicy (r : VWord) (n : Nat) : BitVec 8 := BitVec.ofNat 8 (recBits r 0x68 (32 + 8 * n) 8)
/-- SRECA, bit n. -/
def lrSreca (r : VWord) (n : Nat) : Bool := recBits r 0x68 (4 + n) 1 = 1
/-- SRECV, bit n. -/
def lrSrecv (r : VWord) (n : Nat) : Bool := recBits r 0x68 n 1 = 1

/-- The zero fields of a launch record hold zero (R339, R340). -/
def lrZeroOk (r : VWord) : Bool :=
  recBits r 0x00 0 7 == 0 && recBits r 0x08 0 4 == 0 && recBits r 0x0C 1 3 == 0 && recBits r 0x10 19 5 == 0 &&
  recBits r 0x10 11 5 == 0 && recBits r 0x10 0 8 == 0 && recBits r 0x20 0 6 == 0 &&
  (recBits r 0x58 8 4 != 0 || lrRag r == 0) && recBits r 0x58 12 20 == 0 && recBits r 0x58 2 2 == 0 &&
  recBits r 0x68 8 24 == 0 && recBits r 0x70 0 128 == 0 &&
  (List.range 4).all fun d => (!(lrRagged r d || decide (lrRank r ≤ d)) || lrExt r d == 0) && (decide (d < lrRank r) || lrTs r d == 0)

/-- Stage 1 of the checks of a launch: the record alone (R340). -/
def lrStage1 (r : VWord) : Bool :=
  lrZeroOk r && recBits r 0x10 24 8 == 1 && decide (1 ≤ lrCpc r) && decide (lrCpc r ≤ 4) && lrSplit r != 3 && lrMinsplit r != 0 &&
  (List.range (lrRank r)).all (fun d => lrTs r d != 0) && !lrRagged r 0 &&
  (List.range 4).all (fun d => decide (d < lrRank r) || !lrRagged r d) && (recBits r 0x58 8 4 == 0 || lrTs r 0 == 1) &&
  !(lrOrder r == 3 && lrSplit r == 1)

/-! ## Tile numbers (R343, R344) -/

/-- T0. -/
def lrT0 (r : VWord) : Nat := ceilDiv (lrExt r 0) (lrTs r 0)
/-- The position of a dimension among the ragged ones. -/
def raggedPos (r : VWord) (d : Nat) : Nat := ((List.range d).filter (lrRagged r)).length
/-- Td of a t0; `rag` gives the entries of the ragged table. -/
def tilesOfDim (r : VWord) (rag : Store Word32) (t0 d : Nat) : Nat :=
  if d = 0 then lrT0 r
  else if lrRagged r d then ceilDiv (Store.get 0#32 rag (lrT0 r * raggedPos r d + t0)).toNat (lrTs r d)
  else ceilDiv (lrExt r d) (lrTs r d)

/-- N, the number of existing tiles. -/
def tileCount (r : VWord) (rag : Store Word32) : Nat :=
  (List.range (lrT0 r)).foldl (fun n t0 => n + ((List.range (lrRank r)).drop 1).foldl (fun p d => p * tilesOfDim r rag t0 d) 1) 0

/-- The existing tiles, by coordinates. -/
def tilesOf (r : VWord) (rag : Store Word32) : List (List Nat) :=
  (List.range (lrT0 r)).flatMap fun t0 =>
    ((List.range (lrRank r)).drop 1).foldl (fun l d => l.flatMap fun t => (List.range (tilesOfDim r rag t0 d)).map fun i => t ++ [i])
      [[t0]]

/-- The bits of a coordinate spread by the rank from bit `at_` on. -/
def spread (rank at_ : Nat) : Nat → Nat → Nat
  | 0, _ => 0
  | n + 1, t => t % 2 * 2 ^ at_ + spread rank (at_ + rank) n (t / 2)

/-- The serpentine key of coordinates: `s` sums the earlier ones. -/
def serpKey (r : VWord) (rag : Store Word32) (t0 : Nat) : Nat → Nat → List Nat → List Nat
  | _, _, [] => []
  | d, s, t :: l => (if d = 0 ∨ s % 2 = 0 then t else tilesOfDim r rag t0 d - 1 - t) :: serpKey r rag t0 (d + 1) (s + t) l

/-- The key of a tile under its order (R344). -/
def tileKey (r : VWord) (rag : Store Word32) (t : List Nat) : List Nat :=
  match lrOrder r with
  | 0 => t
  | 1 => t.reverse
  | 2 => serpKey r rag (t.headD 0) 0 0 t
  | _ => [(List.range (lrRank r)).foldl (fun k d => k + spread (lrRank r) (lrRank r - 1 - d) 32 (t.getD d 0)) 0]

/-- Lexicographic order of keys. -/
def keyLt : List Nat → List Nat → Bool
  | [], [] => false
  | [], _ => true
  | _, [] => false
  | a :: l, b :: m => if a < b then true else if b < a then false else keyLt l m

/-- The coordinates of a tile number: the tile with that many existing tiles of smaller key (R344). -/
def tileAt (r : VWord) (rag : Store Word32) (n : Nat) : List Nat :=
  let l := (tilesOf r rag).map fun t => (tileKey r rag t, t)
  ((l.find? fun e => (l.filter fun f => keyLt f.1 e.1).length == n).map (·.2)).getD []

/-- The outer coordinate of a tile number. -/
def outerOf (r : VWord) (rag : Store Word32) (n : Nat) : Nat := (tileKey r rag (tileAt r rag n)).headD 0

/-! ## Task records (R442) -/

/-- Replace a task record. -/
def State.setTask (s : State) (id : Nat) (t : Task) : State := s.modFe fun f => { f with tasks := Store.put f.tasks id t }
/-- Change a live task record. -/
def State.modTask (s : State) (id : Nat) (f : Task → Task) : State :=
  match s.taskOf id with
  | some t => s.setTask id (f t)
  | none => s

/-- A task enters the ready queue at the tail of its priority; a new head of its level has seen no dispatch yet (R445). -/
def State.makeReady (s : State) (id : Nat) : State :=
  match s.taskOf id with
  | none => s
  | some t =>
    let q := Store.get [] s.fe.ready t.prio
    if q.contains id then s
    else (s.setTask id { t with state := .ready }).modFe fun f => { f with
      ready := Store.put f.ready t.prio (q ++ [id])
      aged := if q.isEmpty then Store.set 0 f.aged t.prio 0 else f.aged }

/-- A decrement of a task's counter, saturating at 0; one that first reaches 0 makes the task ready; a record that is not WAITING
stays as it is (R443). The status. -/
def State.decTask (s : State) (id n : Nat) : State × Nat :=
  match s.taskOf id with
  | none => (s, 0x0E)
  | some t =>
    if t.state ≠ .waiting then (s, 0)
    else
      let s := s.setTask id { t with counter := t.counter - n }
      (if t.counter - n = 0 then s.makeReady id else s, 0)

/-- The counter becomes 0 (R293 mode 0, READY). -/
def State.zeroTask (s : State) (id : Nat) : State × Nat :=
  match s.taskOf id with
  | none => (s, 0x0E)
  | some t => s.decTask id t.counter

/-- Is the device interface of an address space in ERROR, so that no tile of it issues and nothing of its tasks is reported (R460)? -/
def State.asidInError (s : State) (asid : Nat) : Bool := (Store.get Vf.reset s.host.vfs (Store.get 0 s.fe.asidOwn asid)).state == 3

/-- A new task record (R442). -/
def freshTask (r : VWord) (asid : Nat) (step : Word) (dep : Nat) (rep : Report) : Task :=
  { state := .waiting, record := r, counter := dep, prio := lrPrio r, asid := asid, step := step, report := rep, saved := []
    checked := false, tiles := 0, ragged := [], retired := 0, aborted := 0, status := 0, seed := 0, binds := [], hints := []
    silent := false }

/-- Create a task at an id: READY at once where its count is 0. Nothing is known of its hints yet (R392); of an interface in ERROR nothing
is reported (R460); a step launched again after STALE_TOKEN has a milestone to come, is open, and the pool takes its party for a new one (R303, R497, log entry 89). -/
def State.createAt (s : State) (id : Nat) (t : Task) : State :=
  let s := if s.fe.stale.contains (t.asid, t.step) then
      { s with pool := { s.pool with discarded := s.pool.discarded.filter fun e => !(e == (t.asid, t.step)) } } else s
  let s := { s with windows := s.windows.filter fun e => !(e.1 % 2 ^ 20 / 64 == id) }
  let s := (s.modFe fun f => { f with
    hinted := f.hinted.filter fun e => !(e.1 == id)
    aspaces := f.aspaces.map fun e =>
      if e.1 = t.asid ∧ f.stale.contains (t.asid, t.step) then (e.1, { e.2 with openStep := t.step }) else e
    stale := f.stale.filter fun e => !(e == (t.asid, t.step)) }).setTask id { t with silent := s.asidInError t.asid }
  if t.counter = 0 then s.makeReady id else s

/-- The front end reads bytes: their pages are marked accessed (R387). -/
def State.feRead (s : State) (ia n : Nat) : State := s.homeTouch ia n false

/-- 128 bytes of memory as a record, where every line of it has a valid translation with the read right. -/
def State.read128 (s : State) (ia : Nat) : Option VWord :=
  if (s.homeFault ia 128 false).isSome then none else some (BitVec.ofNat 1024 (s.homeRead ia 128))

/-- An ENQ in mode 1: a task from a template of the address space (R293, R443); of TASK_FULL and BAD_LAUNCH the lower code (R277). -/
def State.enqTemplate (s : State) (asid tid prio dep : Nat) (delta : Nat) : State × Nat :=
  let bad := if s.freeTask.isNone then 0x0F else 0x10
  match s.fe.templates.find? fun e => e.1 == 1024 * asid + tid, s.fe.aspaces.find? fun e => e.1 == asid with
  | some (_, t), some (_, a) =>
    let s := s.settleFe
    if (s.homeFault t.lrec 128 false).isSome then (s, bad)
    else
    let s := s.feRead t.lrec 128
    let base := s.homeRead t.lrec 32 + 2 ^ 256 * (delta % 2 ^ 768)
    let base := base - bitsN base (8 * 0x10 + 16) 3 * 2 ^ (8 * 0x10 + 16) + prio % 8 * 2 ^ (8 * 0x10 + 16)
    let r := BitVec.ofNat 1024 base
    if !lrStage1 r then (s, bad)
    else match s.freeTask with
      | none => (s, 0x0F)
      | some id => (s.createAt id (freshTask r asid a.curStep dep (.template t.cmpl t.tag)), 0)
  | _, _ => (s, bad)

/-! ## Code objects (R65 to R67, R205, R514) -/

/-- Does every page of a range of intermediate addresses have a valid translation with the read right? -/
def State.pagesOk (s : State) (ia n : Nat) : Bool :=
  decide (n = 0) || (List.range ((ia + n - 1) / 65536 + 1 - ia / 65536)).all fun i => (s.leafFor ((ia / 65536 + i) * 65536) false).isSome

/-- Can the front end read a range: translated, which an address of 2^52 or more is not (log entry 111), and no byte of it poisoned at the LLC (R340, R383)? -/
def State.readable (s : State) (ia n : Nat) : Bool :=
  s.pagesOk ia n && !s.llc.any fun e => decide (ia < 128 * e.1 + 128) && decide (128 * e.1 < ia + n) && e.2.poison &&& rangeMask ia n e.1 != 0

/-- Do two parts of an object share a byte? -/
def partsMeet (a b : Nat × Nat) : Bool :=
  decide (0 < a.2) && decide (0 < b.2) && decide (a.1 < b.1 + b.2) && decide (b.1 < a.1 + a.2)

/-- Does some pair of the list meet? -/
def anyMeet : List (Nat × Nat) → Bool
  | [] => false
  | a :: l => l.any (partsMeet a) || anyMeet l

/-- Fields of a handle declaration (R204). -/
def declKind (d : Word) : Nat := (d.extractLsb' 8 3).toNat
/-- HANDLE. -/
def declHandle (d : Word) : Nat := (d.extractLsb' 0 6).toNat
/-- SLOT. -/
def declSlot (d : Word) : Nat := (d.extractLsb' 16 6).toNat
/-- ROWW. -/
def declRoww (d : Word) : Nat := (d.extractLsb' 40 8).toNat
/-- ROWS. -/
def declRows (d : Word) : Nat := (d.extractLsb' 48 16).toNat

/-- Is a declaration within R204? -/
def declOk (d : Word) : Bool :=
  d.extractLsb' 22 18 == 0 && d.extractLsb' 11 5 == 0 && d.extractLsb' 6 2 == 0 && decide (declKind d ≤ 4) &&
  (if declKind d ≤ 2 then decide (1 ≤ declRows d) && decide (1 ≤ declRoww d) && decide (declRoww d ≤ 64) && declSlot d == 0
   else declRows d == 0 && declRoww d == 0 && (declKind d == 4 || decide (declSlot d < 16)))

/-- Bytes a declaration's storage takes (R201). -/
def declBytes (d : Word) : Nat := 1024 * ceilDiv (declRows d * declRoww d) 64

/-- Are the declarations those of a code object that R205 accepts? -/
def declsOk (l : List Word) : Bool :=
  l.all declOk && !natClash (l.map declHandle) &&
  !natClash ((l.filter fun d => declKind d == 4).map declSlot) && !natClash ((l.filter fun d => declKind d == 3).map declSlot) &&
  decide ((l.filter fun d => declKind d == 3).length ≤ 4) &&
  (List.range 3).all fun g => decide (((l.filter fun d => declKind d == g).map declBytes).foldl (· + ·) 0 ≤ windowSize g)

/-- `n` eight-byte words from an intermediate address. -/
def State.words64 (s : State) (ia n : Nat) : List Word := (List.range n).map fun i => BitVec.ofNat 64 (s.homeRead (ia + 8 * i) 8)

/-- Is a capability declaration within R67? -/
def capDeclOk (size : Nat) (d : Word) : Bool := d.extractLsb' 32 32 == 0 && d.toNat % 16 == 0 && decide (d.toNat + 16 ≤ size)

/-- The code object at an intermediate address as the front end installs it; none: BAD_CODE_OBJECT (R39, R66, R205, R514). -/
def State.codeObject (s : State) (ia : Nat) : Option CodeObj :=
  if !s.pagesOk ia 128 ∨ 2 ^ 52 < ia + 128 then none
  else
    let h := s.homeRead ia 128
    let size := bitsN h (8 * 0x0C) 32
    let off := bitsN h (8 * 0x18) 32
    let dataOff := bitsN h (8 * 0x1C) 32
    let dataSize := bitsN h (8 * 0x20) 32
    let hOff := bitsN h (8 * 0x24) 32
    let hCount := bitsN h (8 * 0x28) 16
    let cOff := bitsN h (8 * 0x2C) 32
    let cCount := bitsN h (8 * 0x30) 16
    let lat := bitsN h (8 * 0x10) 32
    let fmts : List Word32 := (List.range 8).map fun i => BitVec.ofNat 32 (bitsN h (8 * (0x40 + 4 * i)) 32)
    let segs := bitsN h (8 * 0x14) 16
    let parts := [(ia, 128), (ia + off, size), (ia + dataOff, dataSize), (ia + hOff, 8 * hCount), (ia + cOff, 8 * cCount)]
    if bitsN h 0 32 ≠ 0x30564C46 ∨ bitsN h (8 * 0x04) 16 ≠ 1 ∨ bitsN h (8 * 0x06) 16 ≠ 1 ∨ bitsN h (8 * 0x08) 32 ≠ 128 ∨
       size % 16 ≠ 0 ∨ 0x10000000 < size ∨ bitsN h (8 * 0x16) 16 ≠ 0 ∨ segs ≠ ceilDiv size 65536 ∨ segs < 1 ∨ 4096 < segs ∨
       off % 16 ≠ 0 ∨ off < 128 ∨ 64 < hCount ∨ bitsN h (8 * 0x2A) 16 ≠ 0 ∨ 16 < cCount ∨ bitsN h (8 * 0x32) 16 ≠ 0 ∨
       bitsN h (8 * 0x34) 96 ≠ 0 ∨ bitsN h (8 * 0x60) 256 ≠ 0 then none
    else if !((List.range 8).all fun c => decide (1 ≤ bitsN lat (4 * c) 4) && decide (bitsN lat (4 * c) 4 ≤ 8)) ∨
       !(fmts.all fun f => (nfFmt f).isSome) ∨ anyMeet parts ∨ !(parts.all fun p => decide (p.2 = 0) || decide (p.1 + p.2 ≤ 2 ^ 52)) ∨
       !(parts.all fun p => s.pagesOk p.1 p.2) then none
    else
      let decls := s.words64 (ia + hOff) hCount
      if !declsOk decls ∨ !((s.words64 (ia + cOff) cCount).all (capDeclOk dataSize)) then none
      else some { codeSize := size, codeOff := off, segCount := segs, latency := BitVec.ofNat 32 lat, fmts := fmts, decls := decls }

/-! ## The checks at the first walker (R340 to R342) -/

/-- The intermediate address of `n` bytes of an address space's VA with the rights asked for, as its tiles would find it, where it is
translated too. -/
def State.taskVa (s : State) (asid va n : Nat) (write : Bool) : Option Nat :=
  match s.fe.aspaces.find? fun e => e.1 == asid with
  | none => none
  | some (_, a) =>
    match ({ Ctx.reset with ranges := a.ranges } : Ctx).checkVa (va : Int) n 1 (!write) write with
    | none => none
    | some ia => if (s.homeFault ia n write).isSome then none else some ia

/-- Is a footprint entry valid under bind's rules, a CRA object by its alignment and tag alone (R341)? A waymark handle is one that the code
object declares, the handles that a tile begins with (R191, R206). -/
def State.footEntryOk (s : State) (asid : Nat) (decls : List Word) (b : Binding) (kindWord : Nat) : Bool :=
  decide (kindWord ≤ 4) && b.len != 0 &&
  (match b.kind with
   | 0 =>
     if 0xC0 ≤ b.obj.toNat / 2 ^ 56 ∧ b.obj.toNat / 2 ^ 56 ≤ 0xCF then b.obj.toNat % 8 == 0
     else b.obj.toNat % 8 == 0 &&
       (match s.fe.aspaces.find? fun e => e.1 == asid with
        | some (_, a) => (({ Ctx.reset with ranges := a.ranges } : Ctx).checkVa b.obj.toNat 8 8 true false).isSome
        | none => false)
   | 1 => decls.any fun d => declKind d == 4 && declHandle d == b.obj.toNat
   | 2 => decide (b.obj.toNat < 16)
   | 3 => decide (b.obj.toNat < 2 ^ 14)
   | _ => decide (b.obj.toNat < 2 ^ 32))

/-- The footprint list of a task (R341); none where it is not valid. -/
def State.footList (s : State) (asid : Nat) (decls : List Word) (foot : Nat) : Option (List Binding) :=
  if foot = 0 then some []
  else if !s.readable foot 32 then none
  else
    let n := s.homeRead foot 32
    if 16 < n ∨ !s.readable (foot + 32) (32 * n) then none
    else
      let l := (List.range n).map fun i =>
        let w := s.words64 (foot + 32 + 32 * i) 4
        (({ base := w.getD 0 0, len := w.getD 1 0, obj := w.getD 2 0, kind := (w.getD 3 0).toNat % 8 } : Binding), (w.getD 3 0).toNat)
      if l.all fun e => s.footEntryOk asid decls e.1 e.2 then some (l.map (·.1)) else none

/-- The entries of the ragged table (R343); none where they cannot be read. -/
def State.ragTable (s : State) (r : VWord) : Option (Store Word32) :=
  let n := lrT0 r * ((List.range 4).filter (lrRagged r)).length
  if !s.readable (lrRag r) (4 * n) then none
  else some ((List.range n).foldl (fun m i => Store.set 0 m i (BitVec.ofNat 32 (s.homeRead (lrRag r + 4 * i) 4))) [])

/-- The records of SRECA, in ascending n, with the ids they get; a refusal frees those already allocated (R340, R342, R364). -/
def State.launchRecs (t : Task) : List Nat → State → Except Nat (State × List (Nat × Nat))
  | [], s => .ok (s, [])
  | n :: l, s =>
    if !lrSreca t.record n then State.launchRecs t l s
    else if policyBad (lrPolicy t.record n) then .error 0x10
    else match s.freeRecId t.asid with
      | none => .error 0x0D
      | some id =>
        match State.launchRecs t l (s.allocRec t.asid id (lrPolicy t.record n) (.launch t.step)) with
        | .ok (u, ids) => .ok (u, (n, id) :: ids)
        | .error e => .error e

/-- Where AREC n is written (R342). -/
def State.arecAt (s : State) (t : Task) (n : Nat) : Option Nat := s.taskVa t.asid (lrArgs t.record + 8 + 2 * n) 2 true

/-- The AREC writes, once every record is allocated and every write permitted (R340, R342, log entry 83). -/
def State.writeArecs (s : State) (t : Task) (ids : List (Nat × Nat)) : Except Nat State :=
  if ids.all fun e => (s.arecAt t e.1).isSome then
    .ok (ids.foldl (fun u e => match s.arecAt t e.1 with
      | some ia => u.homeWriteN ia 2 e.2
      | none => u) s)
  else .error 0x10

/-- The records SRECV binds to a task, named for its step's milestone: those allocated now by their new ids. A task that its launch checks refuse names
none (log entry 114). -/
def State.nameRecs (s : State) (t : Task) (ids : List (Nat × Nat)) : State :=
  (List.range 4).foldl (fun s n =>
    if lrSrecv t.record n then
      let id := ((ids.find? fun e => e.1 == n).map (·.2)).getD (lrSrec t.record n)
      s.modFe fun f => { f with stepRecs := if f.stepRecs.contains ((t.asid, t.step), id) then f.stepRecs
        else f.stepRecs ++ [((t.asid, t.step), id)] }
    else s) s

/-- The checks of a task at its first walker, in their four stages, and what it reads then (R340 to R342): a status, or the state with
the task prepared. -/
def State.prepare (s : State) (id : Nat) (t : Task) : Except Nat State :=
  let r := t.record
  if !lrStage1 r then .error 0x10
  else match s.codeObject (lrCode r) with
    | none => .error 0x14
    | some o =>
      if o.codeSize ≤ lrEntry r ∨ (lrHen r ∧ o.codeSize ≤ lrHandler r) then .error 0x10
      else match s.footList t.asid o.decls (lrFoot r), s.ragTable r, s.taskVa t.asid (lrArgs r) 8 false with
        | some fl, some rag, some a =>
          if 2 ^ 32 ≤ tileCount r rag then .error 0x10
          else match State.launchRecs t (List.range 4) s with
            | .error e => .error e
            | .ok (u, ids) =>
              match u.writeArecs t ids with
              | .error e => .error e
              | .ok u => .ok (((u.modFe fun f => { f with codes := Store.put f.codes (lrCode r) o }).setTask id { t with
                checked := true
                tiles := tileCount r rag
                ragged := rag
                seed := BitVec.ofNat 64 (s.homeRead a 8)
                binds := fl }).nameRecs t ids)
        | _, _, _ => .error 0x10

/-! ## Range-list hints (R391, R392) -/

/-- The entries of a hint list as base, length and REUSE; none: malformed, or not readable. -/
def State.hintList (s : State) (r : VWord) : Option (List (Nat × Nat × Nat)) :=
  let h := lrHints r
  if h = 0 then some []
  else if !s.readable h 32 then none
  else
    let n := s.homeRead h 32
    if 64 < n ∨ !s.readable (h + 32) (32 * n) then none
    else
      let l := (List.range n).map fun i => (s.words64 (h + 32 + 32 * i) 4).map BitVec.toNat
      if l.all fun e => e.getD 0 0 % 65536 == 0 && e.getD 1 0 % 65536 == 0 && e.getD 1 0 != 0 && decide (e.getD 2 0 < 4) && e.getD 3 0 == 0 then
        some (l.map fun e => (e.getD 0 0, e.getD 1 0, e.getD 2 0))
      else none

/-- Post a report to the driver's report queue: its identity word, the misses, the base of the entry. -/
def State.postHint (s : State) (ident misses base : Nat) : State :=
  s.modFe fun f => { f with hintReports := f.hintReports ++
    [[BitVec.ofNat 64 ident, BitVec.ofNat 64 misses, BitVec.ofNat 64 base, BitVec.ofNat 64 (f.hintReports.length + 1)]] }

/-- The task's hints as read, or the one report of a malformed list (R391). -/
def State.checkHints (s : State) (task : Nat) (t : Task) : State :=
  match s.hintList t.record with
  | none => s.postHint (task + 2 ^ 26) 0 0
  | some l => s.modTask task fun u => { u with hints := l }

/-- What the front end reads when it checks a launch marks the pages read (R340, R342, R387). -/
def State.launchReads (s : State) (t : Task) : State :=
  let r := t.record
  if !lrStage1 r then s
  else
    let h := s.homeRead (lrCode r) 128
    let s := s.feRead (lrCode r) 128
    match s.codeObject (lrCode r) with
    | none => s
    | some _ =>
      let list := fun (t : State) (a : Nat) => if a = 0 then t else (t.feRead a 32).feRead (a + 32) (32 * min 64 (t.homeRead a 32))
      let s := (s.feRead (lrCode r + bitsN h (8 * 0x24) 32) (8 * bitsN h (8 * 0x28) 16)).feRead
        (lrCode r + bitsN h (8 * 0x2C) 32) (8 * bitsN h (8 * 0x30) 16)
      let s := (list (list s (lrFoot r)) (lrHints r)).feRead (lrRag r) (4 * (lrT0 r * ((List.range 4).filter (lrRagged r)).length))
      match s.taskVa t.asid (lrArgs r) 8 false with
      | some a => s.feRead a 8
      | none => s

/-! ## The end of a task (R348, R443) -/

/-- The successor list: none where it is malformed or cannot be read. -/
def State.successors (s : State) (succ : Nat) : Option (List Nat) :=
  if succ = 0 then some []
  else
    let h := s.homeRead succ 16
    if 64 < h ∨ !s.readable succ (16 + 8 * h) then none
    else
      let l := (List.range h).map fun i => s.homeRead (succ + 16 + 8 * i) 8
      if l.all fun e => decide (e < 2 ^ 14) then some l else none

/-- Every tile of a task that will be issued has ended: DONE, and TASK_DONE is to come (R442). -/
noncomputable def State.checkDone (s : State) (id : Nat) : State :=
  match s.taskOf id with
  | some t =>
    if t.state = .draining ∧ t.tiles ≤ t.retired + t.aborted then
      { s.setTask id { t with state := .done } with agenda := s.agenda ++ [.taskDone id] }
    else s
  | none => s

/-- A task is refused at its first walker, or has no tile: DONE (R340, R343). -/
noncomputable def State.refuseTask (s : State) (id status : Nat) : State :=
  { s.modTask id fun t => { t with
      state := .done
      status := status } with agenda := s.agenda ++ [.taskDone id] }

/-- A tile of a task ends, by retiring or by being abandoned. -/
noncomputable def State.tileEnds (s : State) (id : Nat) (abandoned : Bool) : State :=
  (s.modTask id fun t => if abandoned then { t with aborted := t.aborted + 1 } else { t with retired := t.retired + 1 }).checkDone id

/-- The completion of a task (R441, R443, R460). -/
def State.reportTask (s : State) (id : Nat) (t : Task) (status : Nat) : State :=
  if t.silent then
    (match t.report with
     | .packet h => s.completeTask { h with cmpl := 0 } status t.aborted id
     | _ => s)
  else match t.report with
    | .packet h => s.completeTask h status t.aborted id
    | .template cmpl tag => s.writeCompletion cmpl tag status t.aborted id
    | .none => s

/-- Does an address space have a live task? -/
def State.asidLive (s : State) (asid : Nat) : Bool := s.fe.tasks.any fun e => e.2.asid == asid

/-- What waited for the last task of an address space comes next: teardowns, and interfaces that are being stopped (R444, R461). -/
noncomputable def State.lastTask (s : State) : State :=
  let due := s.fe.teardowns.filter fun e => !s.asidLive e.1
  let stops := s.host.vfs.filter fun v => v.2.stopping && !s.fe.tasks.any fun e => Store.get 0 s.fe.asidOwn e.2.asid == v.1
  { s.modFe (fun f => { f with
      teardowns := f.teardowns.filter fun e => s.asidLive e.1
      teardownsDue := f.teardownsDue ++ due }) with
    agenda := s.agenda ++ due.map (fun e => Instr.aspace e.2 e.1 0 true 0 0) ++ stops.map fun v => Instr.stopInterfaceRequest v.1 }

/-- Must the end of a task wait: for a window of its lookups that is closed and not yet checked (R392), or, where it has successors, for a write of a
cluster that a migration holds (R390, R409)? -/
def State.doneWaits (s : State) (task : Nat) (succ : List Nat) : Bool :=
  (s.closed.any fun e => e.2.1 == task) || (!succ.isEmpty && (List.range 32).any s.stuckAny)

/-- TASK_DONE (R443): a DONE task decrements its successors, in list order and in one step, reports itself and is FREE. What its tiles left dirty
in the cluster caches goes to its home first, so that it stays behind what its successors write (R403, R409). -/
noncomputable def execTaskDone (task : Nat) (s : State) : Out :=
  match s.taskOf task with
  | none => .next s
  | some t =>
    if t.state ≠ .done then .next s
    else
      let s := s.settleFe
      let succ := s.successors (lrSucc t.record)
      if s.doneWaits task (succ.getD []) then .next s
      else
      let status := if t.status ≠ 0 then t.status else if 0 < t.aborted then 0x18 else if succ.isNone then 0x19 else 0
      let s := if lrSucc t.record = 0 then s else s.feRead (lrSucc t.record) (16 + 8 * (succ.getD []).length)
      let s := if succ.getD [] = [] then s else s.clusters.foldl (fun u e => u.writebackAll e.1) s
      let s := (succ.getD []).foldl (fun (u : State) e => (u.decTask e 1).1) s
      .next ((s.reportTask task t status).modFe fun f => { f with tasks := Store.del f.tasks task }).lastTask

/-! ## tdec and tspawn (R296, R297) -/

/-- The plan of tdec. -/
def tdecPlan (card : Nat) : Option JobPlan :=
  if cardBits card 0x80 14 18 ≠ 0 ∨ cardBits card 0x84 0 32 = 0 ∨ !restZero card 0x88 then none
  else some { JobPlan.plain 16 with after := true }

/-- A release of a task object at the bundle's scope (R296, R297, R398). -/
def State.releaseTask (s : State) (c : Nat) (o : EngOp) (task : Nat) : State :=
  s.releaseObj c o.scope { kind := 3, at_ := task, obj := 0 }

/-- tdec runs. -/
def State.tdecRun (s : State) (c : Nat) (o : EngOp) : State :=
  let task := cardBits o.card 0x80 0 14
  let (s, st) := (s.releaseTask c o task).decTask task (cardBits o.card 0x84 0 32)
  s.jobEnd c o st

/-- The plan of tspawn. -/
def tspawnPlan (card : Nat) : Option JobPlan :=
  let lrec := cardBits card 0x80 0 64
  if lrec % 128 ≠ 0 ∨ !restZero card 0x8C then none
  else some { JobPlan.plain 16 with
    fixed := [{ field := localAddr lrec 0, at_ := localAddr lrec 0, len := 128, wr := false }]
    after := true }

/-- tspawn runs: the task holds the launch record as read; stage 1 of its checks is made here, and a full table comes first (R277). -/
def State.tspawnRun (s : State) (c : Nat) (o : EngOp) (e : EJ) : State :=
  let x := s.ctx c
  let lrec := localAddr (cardBits o.card 0x80 0 64) 0
  let d := rS (BitVec.ofNat 5 (extNat e.ext))
  let p := x.placeOf o.card lrec lrec false
  match s.placeStop c o p 128 false with
  | some (.page w u a) => s.jobHold c o w u a
  | some (.ends st) => (s.jobResult c d (2 ^ 64 - 1)).jobEnd c o st
  | none =>
    let (v, s) := s.placeRead c o p 128
    let r := BitVec.ofNat 1024 v
    match s.freeTask with
    | none => (s.jobResult c d (2 ^ 64 - 1)).jobEnd c o 0x0F
    | some id =>
      if !lrStage1 r then (s.jobResult c d (2 ^ 64 - 1)).jobEnd c o 0x10
      else
        (((s.releaseTask c o id).createAt id (freshTask r x.asid o.step (cardBits o.card 0x88 0 32) .none)).jobResult c d id).jobEnd c o 0

/-- tdec. -/
noncomputable def execTdec (o : EJ) (s : State) : Out :=
  issueOp (.tdec o) (jobIssue (.tdec o) o 9 false fun _ card => tdecPlan card) s
/-- tspawn. -/
noncomputable def execTspawn (o : EJ) (s : State) : Out :=
  issueOp (.tspawn o) (jobIssue (.tspawn o) o 9 false fun _ card => tspawnPlan card) s

/-! ## Packets of the task machine (R440, R442, R443) -/

/-- LAUNCH: it completes when its task does; a refused one completes at once. -/
def execLaunch (h : PktHdr) (lrec id : Nat) (any : Bool) (step : Word) (s : State) : Out :=
  let s := s.settleFe
  match (if lrec % 128 = 0 ∧ id < 2 ^ 14 then s.read128 lrec else none) with
  | none => .next (s.complete h 0x15 0)
  | some r =>
    let t := freshTask r h.asid step (lrDepcnt r) (.packet h)
    let make := fun (i : Nat) => Host.Outcome.next (((s.feRead lrec 128).createAt i t).modFe fun f => { f with
      aspaces := f.aspaces.map fun e => if e.1 = h.asid ∧ e.2.curStep.toNat < step.toNat then (e.1, { e.2 with curStep := step }) else e })
    if any then
      match s.freeTask with
      | some i => make i
      | none => .next (s.complete h 0x0F 0)
    else if Store.has s.fe.tasks id then .next (s.complete h 0x17 0)
    else make id

/-- READY. -/
def execReady (h : PktHdr) (id : Nat) (s : State) : Out :=
  let (t, st) := s.zeroTask id
  .next (t.complete h st 0)

/-- DEC. -/
def execDec (h : PktHdr) (id n : Nat) (s : State) : Out :=
  if n = 0 then .next (s.complete h 0x15 0)
  else
    let (t, st) := s.decTask id n
    .next (t.complete h st 0)

/-- TEMPLATE: of the queue's address space, which must be installed. -/
def execTemplate (h : PktHdr) (tid lrec tcmpl : Nat) (s : State) : Out :=
  if Store.has s.fe.aspaces h.asid ∧ tid < 1024 ∧ lrec % 128 = 0 ∧ tcmpl % 16 = 0 ∧ lrec < 2 ^ 52 ∧ tcmpl < 2 ^ 52 then
    .next ((s.modFe fun f => { f with
      templates := Store.put f.templates (1024 * h.asid + tid) { lrec := lrec, cmpl := tcmpl, tag := h.tag } }).complete h 0 0)
  else .next (s.complete h 0x15 0)

end Sys2Proof.Machine
end

