-- ==== Sys2Proof/Machine/Walkers.lean ====
section
/-! DEFINITION. Tile entry (R16, R201 to R203, R347), walkers (R345, R346), forks (R349, R350), saves and restores (R351, R352), dispatch
(R445), and the end of a tile (R122, R203). -/

namespace Sys2Proof.Machine

/-! ## Tile entry (R16, R200 to R206, R347) -/

/-- A handle declaration takes effect in a core and a context: storage, an accumulator or a waymark word (R201, R202, R206, R207). -/
def declareHandle (p : Nat) (t : Core × Ctx) (d : Word) : Core × Ctx :=
  let (k, x) := t
  let h := declHandle d
  let v : Handle := { Handle.reset with
    bound := true
    kind := declKind d
    roww := declRoww d
    rows := declRows d }
  match declKind d with
  | 3 =>
    ({ k with acc := Store.clear k.acc (16384 * (4 * p + x.accMap.length)) 16384 },
     { x.setHandle h v with accMap := x.accMap ++ [declSlot d] })
  | 4 =>
    let a := 0x47C00 + p * 0x8000 + 16 * declSlot d
    ({ k with scratch := Store.clear k.scratch a 16 }, x.setHandle h { v with
      roww := 1
      rows := 1
      base := a })
  | g =>
    match allocPlace k.alloc g p (declRows d) (declRoww d) with
    | some (base, size) => (k.take base size, x.setHandle h { v with base := base })
    | none => (k, x)

/-- The context of a tile at its entry, before its handles are declared (R16, R21, R347). -/
def Ctx.entry (t : Task) (o : CodeObj) (ranges : Store Range) (id walker n : Nat) : Ctx :=
  let r := t.record
  let c := tileAt r t.ragged n
  let co := fun (d : Nat) => if d < lrRank r then BitVec.ofNat 64 (c.getD d 0 * lrTs r d) else 0
  { Ctx.reset with
    state := .running
    s := (List.range 8).foldl (fun m i =>
      Store.set 0 m i (if 1 ≤ i ∧ i ≤ 4 then co (i - 1) else if i = 5 then BitVec.ofNat 64 n
        else if i = 6 then BitVec.ofNat 64 (lrArgs r) else if i = 7 then BitVec.ofNat 64 walker else 0)) []
    fmt := (List.range 8).foldl (fun m i => Store.set 0 m i (o.fmts.getD i 0)) []
    ranges := ranges
    csr := { Csrs.reset with
      prio := BitVec.ofNat 64 t.prio
      srseed := t.seed
      stepid := t.step
      trapHandler := BitVec.ofNat 64 (lrHandler r + (lrHen r).toNat) }
    pc := lrEntry r
    launchBinds := t.binds
    task := id
    walker := walker
    tile := n
    asid := t.asid
    code := lrCode r }

/-- A tile starts in a context (R347): its entry is an acquire of its task object at fab scope. The writes that a task's completion or the DATA
of an ENQ carries need no binding (R401, R409), so every line of the cluster cache is written back and invalidated. -/
def State.startTile (s : State) (c : Nat) (t : Task) (id walker n : Nat) : State :=
  let o := Store.get { codeSize := 0, codeOff := 0, segCount := 0, latency := 0, fmts := [], decls := [] } s.fe.codes (lrCode t.record)
  let ranges := match s.fe.aspaces.find? fun e => e.1 == t.asid with
    | some (_, a) => a.ranges
    | none => []
  let (k, x) := o.decls.foldl (fun k d => declareHandle (partOf c) k d) (s.core (coreOf c), Ctx.entry t o ranges id walker n)
  ((s.setCore (coreOf c) k).setCtx c x).acquire c 3 fun _ => true

/-! ## Walkers (R345, R346) -/

/-- A busy walker. -/
def State.walkerOf (s : State) (w : Nat) : Option Walker := (s.walkers.find? fun e => e.1 == w).map (·.2)
/-- Replace a walker. -/
def State.setWalker (s : State) (w : Nat) (x : Walker) : State := { s with walkers := Store.put s.walkers w x }
/-- A walker becomes free. -/
def State.freeWalker (s : State) (w : Nat) : State := { s with walkers := Store.del s.walkers w }

/-- Do the walkers and the cores of a die take tiles: in reduced service, those of die 0 alone (R470)? -/
def State.dieServes (s : State) (die : Nat) : Bool := decide (6 ≤ s.pow.stage) || (die == 0 && decide (4 ≤ s.pow.stage))

/-- Free walkers of a die, lowest first. -/
def State.freeWalkers (s : State) (die : Nat) : List Nat :=
  ((List.range 16).map (16 * die + ·)).filter fun w => s.dieServes die && !Store.has s.walkers w

/-- Is a context resident on its core: does it hold a tile (R254)? -/
def Ctx.resident (x : Ctx) : Bool := x.state != .free && x.state != .spilled

/-- Is a context's partition FREE, with no storage (R203, R346)? -/
def State.partitionFree (s : State) (c : Nat) : Bool :=
  !(s.ctx c).resident && (s.core (coreOf c)).alloc.all fun e => !decide (e.1 % 0x20000 / 0x8000 = partOf c)

/-- R254: a tile leaves one partition of the core FREE, or its priority exceeds that of every resident tile. -/
def State.roomFor (s : State) (core prio : Nat) : Bool :=
  decide (2 ≤ ((ctxsOf core).filter s.partitionFree).length) ||
  (ctxsOf core).all fun c => !(s.ctx c).resident || decide ((s.ctx c).csr.prio.toNat < prio)

/-- Is the partition of a context offered to a walker that a switch freed it for (R260)? -/
def State.offeredTo (s : State) (c w : Nat) : Bool := s.walkers.any fun e => e.1 == w && e.2.offer == some c

/-- Does R260 leave a partition to a task's tile of a walker, `none` for a fork: it is offered to no other walker, and a tile that waits
there to be refilled has a lower priority, unless the walker caused its switch? -/
def State.leftTo (s : State) (c : Nat) (t : Task) (w : Option Nat) : Bool :=
  (match w with
   | some w => s.offeredTo c w
   | none => false) ||
  ((s.walkers.all fun e => e.2.offer != some c) && s.fe.images.all fun e => e.2.1 != c || decide (e.2.2.csr.prio.toNat < t.prio))

/-- Is a context eligible for a task of a walker (R346)? -/
def State.eligible (s : State) (c : Nat) (t : Task) (id : Nat) (w : Option Nat) : Bool :=
  s.dieServes (dieOf c) && !s.asidInError t.asid && s.partitionFree c && s.roomFor (coreOf c) t.prio &&
  decide (((ctxsOf (coreOf c)).filter fun d => (s.ctx d).resident && (s.ctx d).task == id).length < lrCpc t.record) && s.leftTo c t w

/-- The contexts of a die, lowest core first. -/
def ctxsOfDie (die : Nat) : List Nat := (List.range 256).map (256 * die + ·)

/-- The first context of a die that is eligible for a task. -/
def State.firstEligible (s : State) (die : Nat) (t : Task) (id : Nat) (w : Option Nat) : Option Nat :=
  (ctxsOfDie die).find? fun c => s.eligible c t id w

/-- Does the task hold an unissued number: in a walker, or saved? -/
def State.unissued (s : State) (id : Nat) (t : Task) : Bool :=
  s.walkers.any (fun w => w.2.task == id && decide (w.2.cur < w.2.end_)) || !t.saved.isEmpty

/-- A task with no unissued number is DRAINING (R442). -/
noncomputable def State.checkDraining (s : State) (id : Nat) : State :=
  match s.taskOf id with
  | some t => if t.state = .active ∧ !s.unissued id t then (s.setTask id { t with state := .draining }).checkDone id else s
  | none => s

/-- A walker starts its next tile in a context. -/
noncomputable def State.issueTile (s : State) (w c : Nat) (x : Walker) (t : Task) : State :=
  ((s.setWalker w { x with
    cur := x.cur + 1
    offer := none
    issued := some s.cycles.toNat }).startTile c t x.task w x.cur).checkDraining x.task

/-- WALKER_UPDATE (R346): a walker issues its next tile to its first eligible context; one freed for it comes first (R260). -/
noncomputable def execWalkerUpdate (w : Nat) (s : State) : Out :=
  if 64 ≤ w then .fault .noSuchUnit
  else match s.walkerOf w with
    | none => .next s
    | some x =>
      match s.taskOf x.task with
      | none => .next s
      | some t =>
        let mine := match x.offer with
          | some c => if s.eligible c t x.task (some w) then some c else none
          | none => none
        match (if x.end_ ≤ x.cur then none else match mine with
          | some c => some c
          | none => s.firstEligible (w / 16) t x.task (some w)) with
        | some c => .next (s.issueTile w c x t)
        | none => .next (s.setWalker w { x with offer := none })

/-- The walkers whose numbers are all issued become free at the end of the cycle (R346). -/
def State.dropWalkers (s : State) : State := { s with walkers := s.walkers.filter fun w => decide (w.2.cur < w.2.end_) }

/-! ## Forks (R349, R350) -/

/-- END as it stood before the forks of this cycle. -/
def Walker.endNow (x : Walker) (cycle : Nat) : Nat :=
  match x.asked with
  | some (k, e) => if k = cycle then e else x.end_
  | none => x.end_

/-- END − CUR as the walker stood before the issues and forks of a cycle, by which requests are made (R349). -/
def Walker.leftNow (x : Walker) (cycle : Nat) : Nat := x.endNow cycle - (x.cur - (x.issued == some cycle).toNat)

/-- Does a walker rank before another for a fork request (R349)? -/
def forkBefore (cycle : Nat) (a b : Nat × Walker × Task) : Bool :=
  let ra := a.2.1.leftNow cycle
  let rb := b.2.1.leftNow cycle
  decide (b.2.2.prio < a.2.2.prio) || (a.2.2.prio == b.2.2.prio && (decide (rb < ra) || (ra == rb && decide (a.1 < b.1))))

/-- The qualifying walkers, with their tasks. -/
def State.forkable (s : State) : List (Nat × Walker × Task) :=
  s.walkers.filterMap fun e =>
    match s.taskOf e.2.task with
    | some t =>
      if lrSplit t.record ≠ 2 ∧ 2 * lrMinsplit t.record ≤ e.2.leftNow s.cycles.toNat then some (e.1, e.2, t) else none
    | none => none

/-- The request of a die: its context, and the walker it names. -/
def State.forkRequest (s : State) (die : Nat) : Option (Nat × Nat × Walker × Task) :=
  let q := s.forkable
  (ctxsOfDie die).findSome? fun c =>
    ((q.filter fun e => s.eligible c e.2.2 e.2.1.task none).foldl (fun (best : Option (Nat × Walker × Task)) e =>
      match best with
      | none => some e
      | some b => if forkBefore s.cycles.toNat e b then some e else some b) none).map fun e => (c, e)

/-- The split point of an outer split: past the tiles that share the outer coordinate (R350). -/
def outerMid (t : Task) (end_ : Nat) : Nat → Nat → Nat
  | 0, mid => mid
  | n + 1, mid =>
    if mid < end_ ∧ outerOf t.record t.ragged mid = outerOf t.record t.ragged (mid - 1) then outerMid t end_ n (mid + 1) else mid

/-- FORK_REQUEST (R349, R350): the die's request is refused, or takes half of the named walker's numbers. -/
noncomputable def execForkRequest (die : Nat) (s : State) : Out :=
  if 4 ≤ die then .fault .noSuchUnit
  else match s.forkRequest die with
    | none => .next s
    | some (c, w, x, t) =>
      let cycle := s.cycles.toNat
      let rem := x.end_ - x.cur
      let first := match x.asked with
        | some (k, _) => decide (k ≠ cycle)
        | none => true
      if !first then .next s
      else
        let s := s.setWalker w { x with asked := some (cycle, x.end_) }
        if lrSplit t.record = 2 ∨ rem < 2 * lrMinsplit t.record then .next s
        else match s.freeWalkers die with
          | [] => .next s
          | v :: _ =>
            let mid := x.cur + ceilDiv rem 2
            let mid := if lrSplit t.record = 1 then outerMid t x.end_ rem mid else mid
            if lrSplit t.record = 1 ∧ x.end_ - mid < lrMinsplit t.record then .next s
            else
              let s := s.setWalker w { x with
                end_ := mid
                forks := min (x.forks + 1) 65535
                asked := some (cycle, x.end_) }
              .next (s.issueTile v c { task := x.task, cur := mid, end_ := x.end_, forks := 0, asked := some (cycle, mid), offer := none, issued := none } t)

/-! ## Dispatch, saves and restores (R345, R351, R352, R445) -/

/-- Is a task of a step whose sheet has a record entry that failed its retry (R428)? An entry that is still pending, or under retry, holds no task back
(log entry 113). -/
def State.stepBlocked (s : State) (id : Nat) : Bool :=
  match s.taskOf id with
  | some t => s.fe.sheets.any fun e => e.1 == (t.asid, t.step) && e.2.blocked
  | none => false

/-- The tasks of a level that may be dispatched, the head first. -/
def State.readyAt (s : State) (p : Nat) : List Nat := (Store.get [] s.fe.ready p).filter fun id => !s.stepBlocked id

/-- The level dispatched next: the lowest of those whose counts have reached 64, so that no head waits longer, otherwise the highest that is
not empty (R445). -/
def State.nextLevel (s : State) : Option Nat :=
  let levels := [7, 6, 5, 4, 3, 2, 1, 0].filter fun p => !(s.readyAt p).isEmpty
  match levels.reverse.find? fun p => decide (64 ≤ Store.get 0 s.fe.aged p) with
  | some p => some p
  | none => levels.head?

/-- Is some walker free? -/
def State.anyFreeWalker (s : State) : Bool := (List.range 64).any fun w => s.dieServes (w / 16) && !Store.has s.walkers w

/-- DISPATCH (R445): with a walker free, the head of a level of the ready queue is ACTIVE, and gets its walkers next. -/
noncomputable def execDispatch (s : State) : Out :=
  match (if s.anyFreeWalker then s.nextLevel else none) with
  | none => .next s
  | some p =>
    match s.readyAt p with
    | [] => .next s
    | id :: _ =>
      let s := s.modFe fun f => { f with
        ready := Store.put f.ready p ((Store.get [] f.ready p).erase id)
        aged := (List.range 8).foldl (fun m l =>
          if l = p then Store.set 0 m l 0
          else if l < p ∧ !(Store.get [] f.ready l).isEmpty then Store.set 0 m l (Store.get 0 f.aged l + 1)
          else Store.set 0 m l (Store.get 0 f.aged l)) [] }
      let saved := match s.taskOf id with
        | some t => t.checked
        | none => false
      let s := s.modTask id fun t => { t with state := .active }
      .next { s with agenda := (if saved then Instr.walkerRestore id else Instr.walkerAssign id) :: s.agenda }

/-- The die with the most free walkers, the lowest on ties (R345). -/
def State.widestDie (s : State) : Nat :=
  (List.range 4).foldl (fun b d => if (s.freeWalkers b).length < (s.freeWalkers d).length then d else b) 0

/-- WALKER_ASSIGN (R340, R345): the checks of a newly dispatched task, and its walker. -/
noncomputable def execWalkerAssign (task : Nat) (s : State) : Out :=
  match s.taskOf task with
  | none => .next s
  | some t =>
    if t.state ≠ .active ∨ t.checked then .next s
    else
      let s := s.settleFe.launchReads t
      match s.prepare task t with
      | .error e => .next (s.refuseTask task e)
      | .ok u =>
        let u := u.checkHints task t
        match u.taskOf task, u.freeWalkers u.widestDie with
        | some t, w :: _ =>
          if t.tiles = 0 then .next (u.refuseTask task 0)
          else .next (u.setWalker w { task := task, cur := 0, end_ := t.tiles, forks := 0, asked := none, offer := none, issued := none })
        | _, _ => .next s

/-- Restore saved entries into free walkers, preferring the die of WID; the rest stay saved (R352). -/
def State.restoreAll (s : State) (task : Nat) : List (Nat × Nat × Nat × Nat) → State × List (Nat × Nat × Nat × Nat)
  | [] => (s, [])
  | (wid, forks, end_, cur) :: l =>
    match s.freeWalkers (wid / 16) ++ (List.range 64).filter fun w => s.dieServes (w / 16) && !Store.has s.walkers w with
    | w :: _ =>
      (s.setWalker w { task := task, cur := cur, end_ := end_, forks := forks, asked := none, offer := none, issued := none }).restoreAll task l
    | [] =>
      let r := s.restoreAll task l
      (r.1, (wid, forks, end_, cur) :: r.2)

/-- WALKER_RESTORE (R352): a task with entries that stay saved stays in the ready queue. -/
def execWalkerRestore (task : Nat) (s : State) : Out :=
  match s.taskOf task with
  | none => .next s
  | some t =>
    if t.state ≠ .active ∨ t.saved.isEmpty then .next s
    else
      let (u, left) := s.restoreAll task t.saved
      let u := u.modTask task fun t => { t with saved := left }
      .next (if left.isEmpty then u else u.makeReady task)

/-- A walker's numbers go to its task record, and its task is ready again (R351). -/
def State.saveWalker (s : State) (w : Nat) : State :=
  match s.walkerOf w with
  | none => s
  | some x =>
    let s := s.freeWalker w
    if x.end_ ≤ x.cur then s
    else (s.modTask x.task fun t => { t with saved := t.saved ++ [(w, x.forks, x.end_, x.cur)] }).makeReady x.task

/-- The priority of a walker's task. -/
def State.walkerPrio (s : State) (x : Walker) : Nat :=
  match s.taskOf x.task with
  | some t => t.prio
  | none => 0

/-- The victim of a save: lowest PRIO, then fewest remaining tiles, then highest number (R351). A walker that issued its last number becomes free at the end
of the cycle, and is no victim. -/
def State.saveVictim (s : State) : Option Nat :=
  ((s.walkers.filter fun e => decide (e.2.cur < e.2.end_)).foldl (fun (b : Option (Nat × Walker)) e =>
    match b with
    | none => some e
    | some v =>
      let pe := s.walkerPrio e.2
      let pv := s.walkerPrio v.2
      let re := e.2.end_ - e.2.cur
      let rv := v.2.end_ - v.2.cur
      if pe < pv ∨ (pe = pv ∧ (re < rv ∨ (re = rv ∧ v.1 < e.1))) then some e else some v) none).map (·.1)

/-- Is a walker to be saved this cycle: a WSAVE names it, or it is the victim of a ready task of higher priority with no walker free? -/
def State.saveDue (s : State) (w : Nat) : Bool :=
  s.fe.saves.any (fun e => e.1 == w) ||
  (!s.anyFreeWalker && s.saveVictim == some w &&
    match s.walkerOf w, [7, 6, 5, 4, 3, 2, 1, 0].find? (fun p => !(s.readyAt p).isEmpty) with
    | some x, some p => decide (s.walkerPrio x < p)
    | _, _ => false)

/-- WALKER_SAVE (R351): at the end of the cycle, after its issue and fork; the WSAVE packets that asked complete. -/
def execWalkerSave (w : Nat) (s : State) : Out :=
  if 64 ≤ w then .fault .noSuchUnit
  else if !s.saveDue w then .next s
  else
    let asked := s.fe.saves.filter fun e => e.1 == w
    let s := (s.saveWalker w).modFe fun f => { f with saves := f.saves.filter fun e => !(e.1 == w) }
    .next (asked.foldl (fun (u : State) e => match e.2 with
      | some h => u.complete h 0 0
      | none => u) s)

/-! ## The end of a tile (R122, R203, R318) -/

/-- A context becomes FREE, and its partition's storage and mappings are released; where a tile of the context is still in a spill area it
is that tile's again, SPILLED (R260). -/
def State.freeCtx (s : State) (c : Nat) : State :=
  (s.modCore (coreOf c) fun k => { k with alloc := k.alloc.filter fun e => !decide (e.1 % 0x20000 / 0x8000 = partOf c) }).setCtx c
    { Ctx.reset with state := if s.fe.images.any fun e => e.2.1 == c then .spilled else .free }

/-- Does nothing of the context remain in flight? -/
def Ctx.quiet (x : Ctx) : Bool := x.units.isEmpty && x.eng.isEmpty && x.hallocs.isEmpty

/-- TILE_RETIRED (R122): a RETIRING context with nothing in flight becomes FREE, and its tile has retired. -/
noncomputable def execTileRetired (c : Nat) (s : State) : Out :=
  if 1024 ≤ c then .fault .noSuchUnit
  else
    let x := s.ctx c
    if x.state = .retiring ∧ x.quiet then .next ((s.freeCtx c).tileEnds x.task false) else .next s

end Sys2Proof.Machine
end

