-- ==== Sys2Proof/Machine/Spill.lean ====
section
/-! DEFINITION. Full context switches (R256 to R260), the spill image (R319 to R323), resuming and abandoning (R317, R318, R447), and the
RESUME, ABANDON, SWITCH and WSAVE packets. -/

namespace Sys2Proof.Machine

/-! ## The spill image as fields: offset, bytes and value (R319 to R321) -/

/-- The entry of a list that holds it, zeros past its end. -/
def atD {α : Type} (f : α → Nat) (l : List α) (i : Nat) : Nat :=
  match l[i]? with
  | some x => f x
  | none => 0

/-- FILE (R321). -/
def RegFile.code : RegFile → Nat
  | .s => 0
  | .a => 1
  | .v => 2
  | .q => 3
  | .p => 4
  | .lc => 5
  | .lk => 6
  | .fmt => 7
  | .k => 8
/-- The file of a FILE code. -/
def fileOf (n : Nat) : RegFile :=
  match n with
  | 0 => .s
  | 1 => .a
  | 2 => .v
  | 3 => .q
  | 4 => .p
  | 5 => .lc
  | 6 => .lk
  | _ => .fmt

/-- A landing entry of 144 bytes. -/
def Landing.image (e : Landing) : Nat :=
  e.dest.file.code + 2 ^ 8 * e.dest.idx + 2 ^ 16 * e.left + 2 ^ 20 * (e.order % 16) + 2 ^ 128 * e.value.toNat

/-- The slots KEEP stands for, in order. -/
def keepSlots : List Nat := [2, 3, 4, 7, 8]

/-- A remembered syllable of 16 bytes. -/
def keepImage (x : Ctx) (slot : Nat) : Nat :=
  match x.keep.find? fun e => e.1 == slot with
  | none => 0
  | some (_, k) =>
    match encode k.instr with
    | none => 0
    | some e => e.word.toNat + 2 ^ 64 + (match e.ext with
      | some y => 2 ^ 32 * y.toNat + 2 ^ 65
      | none => 0)

/-- The 16 words of CSRS; a pending optimiser trap's value takes the place of TRAP_VAL where no trap state is live (R320). -/
def csrImage (x : Ctx) : List Word :=
  let r := x.csr
  [r.fpstat, r.fpctl, r.srseed, r.stepL0, r.stepL1, r.stepSt, r.stepM, r.stepD, r.trapCause, r.trapPc,
   (if x.snapshot = none then x.optTrap.getD r.trapVal else r.trapVal), r.trapHandler, r.ticks, r.stalls, r.segStalls, 0]

/-- The control block (R320). -/
def controlImage (c : Nat) (x : Ctx) : List (Nat × Nat × Nat) :=
  [(0x000, 4, 0x50534C46), (0x004, 4, 1 + 2 ^ 16 * x.queue.length), (0x008, 8, c), (0x010, 8, x.pc),
   (0x018, 4, x.repLeft + 2 ^ 5 * x.optTrap.isSome.toNat + 2 ^ 6 * x.allFailed.toNat + 2 ^ 16 * x.scaleQ.length +
     2 ^ 24 * x.failedStreams.length)] ++
  (List.range 16).map (fun i => (0x020 + 8 * i, 8, atD BitVec.toNat (csrImage x) i)) ++
  (List.range 5).map (fun i => (0x0A0 + 16 * i, 16, keepImage x (keepSlots.getD i 0))) ++
  [(0x0F0, 1, x.nest.dims.foldl (fun v e => v + 2 ^ e.1) 0 + 2 ^ 6 * x.nest.isOpen.toNat), (0x0F4, 4, x.nest.body), (0x0F8, 1, x.nest.pos)] ++
  (List.range 6).map (fun d => (0x100 + 4 * d, 4, (Store.get 0 x.nest.dims d).toNat)) ++
  [(0x130, 8, x.mat.offA.toNat + 2 ^ 16 * x.mat.offB.toNat + 2 ^ 32 * x.mat.advA.toNat + 2 ^ 48 * x.mat.advB.toNat),
   (0x138, 2, x.mat.dpb.toNat + (match x.mat.opb with
     | some b => 2 ^ 6 * b.toNat + 2 ^ 12
     | none => 0)),
   (0x140, 8, x.task), (0x148, 8, x.tile + 2 ^ 32 * x.walker)] ++
  (List.range 32).map (fun i => (0x150 + 4 * i, 4, atD (fun (e : Nat × Nat) => e.1 + 2 ^ 16 * e.2 + 2 ^ 24) x.failedStreams i)) ++
  [(0x1D0, 8, if x.snapshot = none then 0 else (x.optTrap.getD 0).toNat)]

/-- The registers of a context, its binding table, handles, scale queue and landing queue. -/
def ctxImage (x : Ctx) : List (Nat × Nat × Nat) :=
  (List.range 32).map (fun i => (0x400 + 8 * i, 8, (x.sreg i).toNat)) ++
  (List.range 32).map (fun i => (0x500 + 8 * i, 8, (x.areg i).toNat)) ++
  (List.range 8).map (fun i => (0x600 + 16 * i, 16, (x.qreg i).toNat)) ++
  (List.range 16).map (fun i => (0x680 + 16 * i, 16, (x.kreg i).toNat)) ++
  (List.range 8).map (fun i => (0x780 + 4 * i, 4, (x.fmtreg i).toNat)) ++
  [(0x7C0, 1, (List.range 8).foldl (fun v i => v + 2 ^ i * (x.preg i).toNat) 0)] ++
  (List.range 6).map (fun i => (0x7C8 + 4 * i, 4, (Store.get 0 x.lc i).toNat)) ++
  [(0x7E0, 4, x.lk.toNat)] ++
  (List.range 16).map (fun i => (0x800 + 32 * i, 32, atD (fun (b : Binding) =>
    b.base.toNat + 2 ^ 64 * b.len.toNat + 2 ^ 128 * b.obj.toNat + 2 ^ 192 * b.kind + 2 ^ 255) x.binds i)) ++
  (List.range 64).map (fun i => (0xA00 + 8 * i, 8, (x.handle i).word.toNat)) ++
  (List.range 16).map (fun i => (0xC00 + 144 * i, 144, atD (fun (e : ScaleEntry) =>
    e.isB.toNat + 2 * e.ue4m3.toNat + 2 ^ 128 * (Store.get 0 x.scaleData e.id).toNat) x.scaleQ i)) ++
  (List.range 64).map (fun i => (0x2000 + 128 * i, 128, (x.vreg i).toNat)) ++
  (List.range 192).map (fun i => (0x4000 + 144 * i, 144, atD Landing.image x.queue i))

/-- The windows of a partition and its accumulators in mapping order. -/
def State.storageImage (s : State) (c : Nat) (x : Ctx) : List (Nat × Nat × Nat) :=
  let k := coreOf c
  (List.range 3).map (fun g => (0xC000 + 0x8000 * g, 0x8000, s.scratchRead k (windowBase g (partOf c)) 0x8000)) ++
  (List.range 65536).map (fun e => (0x24000 + 4 * e, 4,
    if e / 16384 < x.accMap.length then s.accGet k (4 * partOf c + e / 16384) (e / 128 % 128) (e % 128) else 0))

/-- Every byte of a spill area is written: zeros, then the fields. -/
def State.writeImage (s : State) (area c : Nat) : State :=
  let x := s.ctx c
  (controlImage c x ++ ctxImage x ++ s.storageImage c x).foldl (fun t f => t.homeWriteN (area + f.1) f.2.1 f.2.2)
    (s.homeWriteN area 0x64000 0)

/-! ## Reading an image back (R323) -/

/-- `n` bytes of an image. -/
def State.imageBytes (s : State) (area off n : Nat) : Nat := s.homeRead (area + off) n

/-- The handle of a handle word (R193). -/
def Handle.ofWord (w : Nat) : Handle :=
  { bound := bitsN w 62 1 = 1
    pending := bitsN w 61 1 = 1
    failed := bitsN w 60 1 = 1
    kind := bitsN w 48 3
    roww := bitsN w 40 8
    rows := bitsN w 24 16
    base := bitsN w 0 24 }

/-- A landing entry of an image; the mask of a masked result is the one the device kept (log entry 13). -/
def Landing.ofImage (v : Nat) (mask : VWord) : Landing :=
  { dest := { file := fileOf (bitsN v 0 8), idx := bitsN v 8 8 }
    value := BitVec.ofNat 1024 (v / 2 ^ 128)
    mask := mask
    left := bitsN v 16 4
    order := bitsN v 20 4 }

/-- The remembered syllables of an image. -/
noncomputable def State.imageKeep (s : State) (area : Nat) : Store Kept :=
  (List.range 5).foldl (fun m i =>
    let v := s.imageBytes area (0x0A0 + 16 * i) 16
    let slot := keepSlots.getD i 0
    if bitsN v 64 1 = 0 then m
    else match decodeSyl slot (BitVec.ofNat 32 v) (if bitsN v 65 1 = 1 then some (BitVec.ofNat 32 (v / 2 ^ 32)) else none) with
      | .ok k => Store.put m slot { instr := k }
      | .error _ => m) []

/-- The CSRs of an image: PRIO and STEPID are the tile's own. -/
def State.imageCsrs (s : State) (area : Nat) (old : Csrs) : Csrs :=
  let w := fun (i : Nat) => BitVec.ofNat 64 (s.imageBytes area (0x020 + 8 * i) 8)
  { ticks := w 12, stalls := w 13, segStalls := w 14, prio := old.prio, fpstat := w 0, fpctl := w 1, srseed := w 2, stepid := old.stepid
    stepL0 := w 3, stepL1 := w 4, stepSt := w 5, stepM := w 6, stepD := w 7, trapCause := w 8, trapPc := w 9, trapVal := w 10
    trapHandler := w 11 }

/-- The nest of an image; its loop buffer was discarded (R270). POS has 5 bits, so that a position of 32 comes back as 0 (log entry 103). -/
def State.imageNest (s : State) (area : Nat) : Nest :=
  let d := s.imageBytes area 0x0F0 1
  { dims := (List.range 6).foldl (fun m i =>
      if d / 2 ^ i % 2 = 1 then Store.put m i (BitVec.ofNat 32 (s.imageBytes area (0x100 + 4 * i) 4)) else m) []
    isOpen := bitsN d 6 1 = 1
    body := s.imageBytes area 0x0F4 4
    pos := s.imageBytes area 0x0F8 1 % 32
    buffer := []
    replay := false }

/-- The binding table of an image. -/
def State.imageBinds (s : State) (area : Nat) : List Binding :=
  (List.range 16).filterMap fun i =>
    let v := s.imageBytes area (0x800 + 32 * i) 32
    if bitsN v 255 1 = 1 then
      some { base := BitVec.ofNat 64 v, len := BitVec.ofNat 64 (v / 2 ^ 64), obj := BitVec.ofNat 64 (v / 2 ^ 128), kind := bitsN v 192 63 }
    else none

/-- The context of an image; `old` is what the device kept of it beside the image (log entry 13). -/
noncomputable def State.imageCtx (s : State) (area : Nat) (old : Ctx) : Ctx :=
  let b := fun (o n : Nat) => s.imageBytes area o n
  let m := b 0x018 4
  let cfg := b 0x130 8
  let sel := b 0x138 2
  let sq := (List.range (bitsN m 16 8)).map fun i => (i, b (0xC00 + 144 * i) 144)
  let csr := s.imageCsrs area old.csr
  { old with
    state := .running
    s := (List.range 32).foldl (fun t i => Store.set 0 t i (if i = 0 then 0 else BitVec.ofNat 64 (b (0x400 + 8 * i) 8))) []
    a := (List.range 32).foldl (fun t i => Store.set 0 t i (BitVec.ofNat 64 (b (0x500 + 8 * i) 8))) []
    v := (List.range 64).foldl (fun t i => Store.set 0 t i (BitVec.ofNat 1024 (b (0x2000 + 128 * i) 128))) []
    q := (List.range 8).foldl (fun t i => Store.set 0 t i (if i = 0 then 0 else BitVec.ofNat 128 (b (0x600 + 16 * i) 16))) []
    p := (List.range 8).foldl (fun t i => Store.set false t i (i != 0 && bitsN (b 0x7C0 1) i 1 == 1)) []
    lc := (List.range 6).foldl (fun t i => Store.set 0 t i (BitVec.ofNat 32 (b (0x7C8 + 4 * i) 4))) []
    lk := BitVec.ofNat 32 (b 0x7E0 4)
    fmt := (List.range 8).foldl (fun t i => Store.set 0 t i (BitVec.ofNat 32 (b (0x780 + 4 * i) 4))) []
    k := (List.range 16).foldl (fun t i => Store.set 0 t i (BitVec.ofNat 128 (b (0x680 + 16 * i) 16))) []
    handles := (List.range 64).foldl (fun t i => Store.set Handle.reset t i (Handle.ofWord (b (0xA00 + 8 * i) 8))) []
    csr := csr
    pc := b 0x010 8
    repLeft := bitsN m 0 5
    queue := (List.range (b 0x006 2)).map fun i =>
      Landing.ofImage (b (0x4000 + 144 * i) 144) ((old.queue[i]?.map (·.mask)).getD allV)
    keep := s.imageKeep area
    nest := s.imageNest area
    scaleQ := sq.map fun e => { id := old.nextUnit + e.1, isB := bitsN e.2 0 1 = 1, ue4m3 := bitsN e.2 1 1 = 1 }
    scaleData := sq.map fun e => (old.nextUnit + e.1, BitVec.ofNat 1024 (e.2 / 2 ^ 128))
    nextUnit := old.nextUnit + sq.length
    binds := s.imageBinds area
    mat := { offA := BitVec.ofNat 16 cfg, offB := BitVec.ofNat 16 (cfg / 2 ^ 16), advA := BitVec.ofNat 16 (cfg / 2 ^ 32)
             advB := BitVec.ofNat 16 (cfg / 2 ^ 48), dpb := BitVec.ofNat 6 sel
             opb := if bitsN sel 12 1 = 1 then some (BitVec.ofNat 6 (sel / 2 ^ 6)) else none }
    optTrap := if bitsN m 5 1 = 1 then some csr.trapVal else none
    failedStreams := (List.range (min 32 (bitsN m 24 8))).filterMap fun i =>
      let e := b (0x150 + 4 * i) 4
      if bitsN e 24 1 = 1 then some (bitsN e 0 16, bitsN e 16 8) else none
    allFailed := bitsN m 6 1 = 1
    switching := none
    task := b 0x140 2 % 2 ^ 14
    tile := b 0x148 4
    walker := b 0x14C 1 % 64 }

/-! ## Spill areas (R259, R440) -/

/-- Bytes of a spill area. -/
def areaSize : Nat := 0x64000

/-- The spill areas of the present setting that no image takes, lowest first. -/
def State.freeAreas (s : State) : List Nat :=
  ((List.range s.fe.spill.2).map fun i => s.fe.spill.1 + areaSize * i).filter fun a =>
    s.fe.images.all fun e => decide (e.1 + areaSize ≤ a) || decide (a + areaSize ≤ e.1)

/-- Contexts of the module that are stopped for a switch: each will take an area. -/
def State.switchCount (s : State) : Nat := (s.ctxs.filter fun e => e.2.switching.isSome).length

/-- Is an area free for one more switch? -/
def State.areaFree (s : State) : Bool := decide (s.switchCount < s.freeAreas.length)

/-- Does an area in use lie outside a setting of the spill pool, its base and number of areas (R440)? -/
def State.strayArea (s : State) (p : Nat × Nat) : Bool :=
  s.fe.images.any fun e => !((List.range p.2).any fun i => p.1 + areaSize * i == e.1)

/-- Is a frame beyond the pool-cache partition still in use (R414)? -/
def State.strayFrame (s : State) : Bool := s.fe.frames.any fun e => e.2.valid && decide (32 * s.fe.poolGoal ≤ e.1)

/-- CONFIG packets complete that waited for areas outside the setting that each of them made, or for frames of the shrunk partition (R414, R440,
log entry 96). -/
def State.checkConfig (s : State) : State :=
  if s.strayFrame then s
  else
    let waits := fun (e : PktHdr × Nat × Nat) => s.strayArea e.2
    (s.fe.configWait.filter fun e => !waits e).foldl (fun t e => t.complete e.1 0 0) (s.modFe fun f => { f with configWait := f.configWait.filter waits })

/-- An area becomes free. -/
def State.freeArea (s : State) (area : Nat) : State := (s.modFe fun f => { f with images := Store.del f.images area }).checkConfig

/-! ## Switching (R256 to R260) -/

/-- Is a job one that waits on an agent outside (R258)? -/
def externalWait : Instr → Bool
  | .grpset _ | .gred _ | .gmld _ | .msend _ | .enq _ | .arrive _ | .lacq _ | .realign _ | .mstone _ => true
  | _ => false

/-- Is a RUNNING context an eligible victim of a switch for a priority (R256, R258)? -/
def State.victim (s : State) (prio c : Nat) : Bool :=
  let x := s.ctx c
  x.state == .running && x.switching.isNone && decide (x.csr.prio.toNat < prio) && x.eng.all fun o => !externalWait o.instr

/-- The victim on a core: lowest priority, then highest context number. -/
def State.switchVictim (s : State) (core prio : Nat) : Option Nat :=
  ((ctxsOf core).filter (s.victim prio)).foldl (fun b c =>
    match b with
    | none => some c
    | some d => if (s.ctx c).csr.prio.toNat ≤ (s.ctx d).csr.prio.toNat then some c else some d) none

/-- Has a walker a switch under way, or a partition freed for it? -/
def State.switchUnderway (s : State) (w : Nat) (x : Walker) : Bool :=
  x.offer.isSome || s.ctxs.any fun e => match e.2.switching with
    | some (_, v) => v == some w
    | none => false

/-- CONTEXT_SWITCH_START (R256): a walker with an unissued tile stops the victim of a core of its die with no FREE partition. -/
def execContextSwitchStart (w core : Nat) (s : State) : Out :=
  if 64 ≤ w ∨ 256 ≤ core then .fault .noSuchUnit
  else match s.walkerOf w with
    | none => .next s
    | some x =>
      if core / 64 ≠ w / 16 ∨ x.end_ ≤ x.cur ∨ s.switchUnderway w x ∨ (ctxsOf core).any s.partitionFree ∨ !s.areaFree then .next s
      else match s.switchVictim core (s.walkerPrio x) with
        | some c => .next (s.modCtx c fun y => { y with switching := some ([], some w) })
        | none => .next s

/-- What remains of a context in its slot while its tile is in a spill area. -/
def Ctx.spilledOut : Ctx := { Ctx.reset with state := .spilled }

/-- A freed context is offered to the walker that asked for it. -/
def State.offerTo (s : State) (c : Nat) (w : Option Nat) : State :=
  match w.bind fun w => (s.walkerOf w).map fun y => (w, y) with
  | some (w, y) => s.setWalker w { y with offer := some c }
  | none => s

/-- SPILL_SAVE (R257, steps 2 to 4): once nothing of a stopped context is in flight, its image is written, its partition is FREE, and
what asked for the switch learns of it. -/
def execSpillSave (c : Nat) (s : State) : Out :=
  let x := s.ctx c
  onCtx c (match x.switching, s.freeAreas with
    | some (_, w), area :: _ =>
      if x.state = .running ∧ x.quiet ∧ x.busy = [] ∧ x.pending = [] then
        let s := s.writeImage area c
        let s := s.modFe fun f => { f with images := Store.put f.images area (c, { x with switching := none }) }
        let s := (s.freeCtx c).setCtx c Ctx.spilledOut
        (s.offerTo c w).answerSwitch x 0
      else s
    | _, _ => s)

/-- The image of a context that is refilled first: highest priority, then lowest area. -/
def State.refillImage (s : State) (c : Nat) : Option (Nat × Ctx) :=
  (s.fe.images.filter fun e => e.2.1 == c).foldl (fun b e =>
    match b with
    | none => some (e.1, e.2.2)
    | some d => if d.2.csr.prio.toNat < e.2.2.csr.prio.toNat then some (e.1, e.2.2) else some d) none

/-- Does a refill have to wait: its partition is taken, or offered, or a tile of higher priority may take it (R260)? -/
def State.refillWaits (s : State) (c : Nat) (old : Ctx) : Bool :=
  !s.partitionFree c ||
  s.walkers.any fun e => e.2.offer == some c ||
    (e.1 / 16 == dieOf c && decide (e.2.cur < e.2.end_) && decide (old.csr.prio.toNat < s.walkerPrio e.2) &&
      match s.taskOf e.2.task with
      | some t => s.eligible c t e.2.task (some e.1)
      | none => false)

/-- The storage of a refilled partition is allocated as its handles say, and filled from the image. -/
def State.imageStorage (s : State) (area c : Nat) (x : Ctx) : State :=
  let p := partOf c
  let s := (List.range 3).foldl (fun t g => t.scratchWrite (coreOf c) (windowBase g p) 0x8000 (t.imageBytes area (0xC000 + 0x8000 * g) 0x8000)) s
  let s := s.accRows (coreOf c) (4 * p) 0 (128 * x.accMap.length) ((List.range (128 * x.accMap.length)).map fun r =>
    (List.range 128).map fun j => s.imageBytes area (0x24000 + 4 * (128 * r + j)) 4)
  s.modCore (coreOf c) fun k => { k with alloc := k.alloc ++ (x.handles.filter fun e => e.2.isGroup).map fun e =>
    (e.2.base, 1024 * ceilDiv (e.2.rows * e.2.roww) 64) }

/-- REFILL (R260, R323): a SPILLED context is RUNNING again, and a pending optimiser trap is taken (R310); one whose image does not match is
abandoned. -/
noncomputable def execRefill (c : Nat) (s : State) : Out :=
  onCtx c (let s := s.settleFe
    match s.refillImage c with
    | none => s
    | some (area, old) =>
      if s.refillWaits c old then s
      else
      let s := s.recallRange area areaSize
      if s.imageBytes area 0 4 = 0x50534C46 ∧ s.imageBytes area 4 2 = 1 ∧ s.imageBytes area 8 8 = c then
        let x := s.imageCtx area old
        (((s.imageStorage area c x).setCtx c x).freeArea area).boundary c
      else
        let s := (s.freeArea area).postError 0x0020 0 c
        ((if (s.ctx c).state = .spilled then s.freeCtx c else s).tileEnds old.task true))

/-! ## Resuming and abandoning (R317, R318) -/

/-- The suspended accesses of a context issue again: their messages are made anew (R317, R480). -/
def State.sendAgain (s : State) (c : Nat) : State :=
  { s with fab := { s.fab with sent := s.fab.sent.filter fun j =>
    !(j.1 == c && (s.ctx c).units.any fun u => u.id == j.2 && u.suspended) } }

/-- A frozen context goes on: suspended accesses and jobs issue again, held stores follow, and what was set aside returns; the next
pending cause is then taken (R309, R317). -/
def State.resume (s : State) (c : Nat) : State :=
  let s := (s.sendAgain c).modCtx c fun x => { x with
    units := x.units.map fun u => { u with suspended := false }
    eng := x.eng.map fun o => { o with suspended := false } }
  ((s.modCtx c Ctx.resumed).drain c).boundary c

/-- A sent flit stays, though the job of a context it served is no more. -/
def Placed.orphan (c : Nat) (e : Placed) : Placed :=
  match e.job with
  | some (d, _) => if d = c then { e with job := none } else e
  | none => e

/-- The pool stores of a context that have left the core are those whose message was made: the pool takes each that it accepts. The bytes of
any other, a held or a suspended one, leave the frames that show them. -/
def State.sentStores (s : State) (c : Nat) : State :=
  (s.ctx c).units.foldl (fun t u =>
    match u.op, u.target with
    | .store _, .pool k _ | .atomic _ _, .pool k _ | .cas, .pool k _ =>
      if s.fab.sent.contains (c, u.id) && !u.suspended && s.poolFinding k == 0 then t.poolEffect u else t.unframe c u
    | _, _ => t) s

/-- A job that a page fault stopped after some of its elements has had its write messages taken by the pool; they count for their step (R278, R503). -/
def State.countBegun (s : State) (c : Nat) : State := ((s.ctx c).eng.filter fun o => o.pos != 0).foldl State.countOp s

/-- CONTEXT_ABANDON (R318): what is in flight is cancelled, reports nothing and writes nothing, but for stores that have left the core; the
context is FREE and its storage is released, and its tile is abandoned. A lease that its lacq asked for is no job's any more. The operations of a
FROZEN context that are not suspended are cancelled as well (log entry 115). -/
noncomputable def State.abandon (s : State) (c : Nat) : State :=
  let x := s.ctx c
  let s := ((s.sentStores c).countBegun c).modFe fun f => { f with leases := f.leases.map fun e =>
    match e.2.job with
    | some j => if j.1 = c then (e.1, { e.2 with job := none }) else e
    | none => e }
  let s := { s with fab := { s.fab with
    placed := s.fab.placed.filter fun p => !(p.job.any fun (j : Nat × Nat) => j.1 == c)
    owed := s.fab.owed.filter fun p => !(p.job.any fun (j : Nat × Nat) => j.1 == c)
    sent := s.fab.sent.filter fun j => !(j.1 == c)
    ports := s.fab.ports.map fun (p : Nat × Port) => (p.1, { p.2 with retry := p.2.retry.map (Placed.orphan c) }) } }
  let s := s.modFe fun f => { f with milestones := f.milestones.map fun (m : Nat × Milestone) => (m.1, { m.2 with jobs := m.2.jobs.filter fun (j : Nat × Nat) => !(j.1 == c) }) }
  let s := s.answerSwitch x 0x1A
  (s.freeCtx c).tileEnds x.task true

/-- The image of a SPILLED context is discarded and its area freed, and its tile is abandoned (R318). -/
noncomputable def State.abandonImage (s : State) (area : Nat) : State :=
  match s.fe.images.find? fun e => e.1 == area with
  | none => s
  | some (_, c, old) =>
    let s := s.freeArea area
    (if (s.ctx c).state = .spilled then s.freeCtx c else s).tileEnds old.task true

/-! ## Packets (R440, R447) -/

/-- The function that owns a queue: 0 for PF0, otherwise its VF (R454). -/
def State.ownerOf (s : State) (q : Nat) : Nat := (Store.get (0, 0) s.fe.owner q).1
/-- The function that owns an address space (R453). -/
def State.asidOwner (s : State) (asid : Nat) : Nat := Store.get 0 s.fe.asidOwn asid
/-- A device interface. -/
def State.vf (s : State) (v : Nat) : Vf := Store.get Vf.reset s.host.vfs v
/-- Is a function a VF in CONFIG_LOCKED or RUN (R459)? -/
def State.vfFrozen (s : State) (v : Nat) : Bool := v != 0 && ((s.vf v).state == 1 || (s.vf v).state == 2)

/-- May a queue carry a supervisor packet that names some address spaces: SUPER is set (R439), on a VF's queue they and the queue's own
are that VF's (R455), and on PF0's none belongs to a VF that is locked or runs (R459)? -/
def State.mayAct (s : State) (h : PktHdr) (names : List Nat) : Bool :=
  (s.fe.queue h.queue).super &&
  (if s.ownerOf h.queue = 0 then names.all fun a => !s.vfFrozen (s.asidOwner a)
   else (h.asid :: names).all fun a => s.asidOwner a == s.ownerOf h.queue)

/-- A supervisor packet that names some address spaces acts where it may, and completes with PRIVILEGE otherwise. -/
def supervisorFor (h : PktHdr) (names : List Nat) (s : State) (f : Out) : Out :=
  if s.mayAct h names then f else .next (s.complete h 0x16 0)

/-- A supervisor packet that names no address space. -/
def supervisor (h : PktHdr) (s : State) (f : Out) : Out := supervisorFor h [] s f

/-- The address space that a packet names with a context, where the context runs a tile. -/
def State.asidsOf (s : State) (ctx : Nat) : List Nat :=
  if ctx < 1024 then
    (if (s.ctx ctx).state = .free then [] else if (s.ctx ctx).state = .spilled then
      (s.fe.images.filter fun e => e.2.1 == ctx).map fun e => e.2.2.asid else [(s.ctx ctx).asid])
  else []

/-- A packet that names a context in another state than it needs (R440, R449). -/
def State.notFrozen (s : State) (h : PktHdr) (ctx : Nat) : State := (s.postError 0x0021 (pktWord h) ctx).complete h 0x1A 0

/-- May the registers and the pc be set at this resumption (R447)? -/
def mayReplace (x : Ctx) : Bool := x.csr.trapCause.toNat % 128 == 0x17 || x.csr.trapCause.toNat % 128 == 0x18

/-- RESUME (R317, R447). -/
def execResume (h : PktHdr) (ctx : Nat) (setPc : Bool) (pc : Nat) (regs : List (Nat × Word)) (s : State) : Out :=
  supervisorFor h (s.asidsOf ctx) s (
    let x := s.ctx ctx
    if 1024 ≤ ctx ∨ 6 < regs.length ∨ regs.any (fun r => r.1 == 0 || decide (32 ≤ r.1)) ∨ pc % 16 ≠ 0 ∨ (!setPc ∧ pc ≠ 0) then
      .next (s.complete h 0x15 0)
    else if x.state ≠ .frozen then .next (s.notFrozen h ctx)
    else if (setPc ∨ regs ≠ []) ∧ !mayReplace x then .next (s.complete h 0x15 0)
    else
      let y := regs.foldl (fun (z : Ctx) r => z.put { file := .s, idx := r.1 } (vOf r.2)) x
      let y := if setPc then { y with
          csr := { y.csr with trapPc := BitVec.ofNat 64 pc }
          frozen := y.frozen.map fun n => { n with reps := 0 } } else y
      .next (((s.setCtx ctx y).resume ctx).complete h 0 0))

/-- ABANDON (R318). -/
noncomputable def execAbandon (h : PktHdr) (ctx : Nat) (s : State) : Out :=
  supervisorFor h (s.asidsOf ctx) s (
    if 1024 ≤ ctx then .next (s.complete h 0x15 0)
    else if (s.ctx ctx).state ≠ .frozen then .next (s.notFrozen h ctx)
    else .next ((s.abandon ctx).complete h 0 0))

/-- SWITCH (R256, R258, R259): the context stops, and the packet completes when the spill ends. -/
def execSwitch (h : PktHdr) (ctx : Nat) (s : State) : Out :=
  supervisorFor h (s.asidsOf ctx) s (
    let x := s.ctx ctx
    if 1024 ≤ ctx then .next (s.complete h 0x15 0)
    else if x.state ≠ .running then .next (s.notFrozen h ctx)
    else match x.switching with
      | some (l, w) => .next (s.setCtx ctx { x with switching := some (l ++ [h], w) })
      | none =>
        if s.areaFree then .next (s.setCtx ctx { x with switching := some ([h], none) })
        else .next (s.complete h 0x1B 0))

/-- WSAVE (R351): the walker is saved at the end of the cycle. -/
def execWsave (h : PktHdr) (walker : Nat) (s : State) : Out :=
  supervisor h s (
    if 64 ≤ walker then .next (s.complete h 0x15 0)
    else .next (s.modFe fun f => { f with saves := f.saves ++ [(walker, some h)] }))

end Sys2Proof.Machine
end

