-- ==== Sys2Proof/Machine/Fabric.lean ====
section
/-! DEFINITION. The rotor fabric: placing again (R486, R494), sending and forwarding (R481, R482, R492), time (R484 to R488), ports (R493,
R494), and the messages the module receives (R487, R489). -/

namespace Sys2Proof.Machine

/-! ## Slots and the ends of leases (R423, R477) -/

/-- Slots of a time in ns, rounded up. -/
def slotsOf (ns : Nat) : Nat := ceilDiv ns 256

/-- Slots by which the counter has moved on since a value of it. -/
def State.slotsSince (s : State) (t : Nat) : Nat := sub32 s.fab.slot.toNat t

/-- Has a lease run out, 2 ms less 25 µs after its last answered request was sent (R423)? -/
def State.leaseExpired (s : State) (x : Lease) : Bool := decide (slotsOf 1975000 ≤ s.slotsSince x.sent)

/-- The leases that have run out end before the module does anything else: the counter has moved (R423). -/
noncomputable def State.endExpired (s : State) : State :=
  { s with agenda := ((s.fe.leases.filter fun e => e.2.state != .asked && s.leaseExpired e.2).map fun e => Instr.leaseEnd e.1) ++ s.agenda }

/-! ## What a windowed job asked for (R291) -/

/-- PEER. -/
def mPeer (card : Nat) : Nat := cardBits card 0x80 0 16
/-- STREAM. -/
def mStream (card : Nat) : Nat := cardBits card 0x80 16 8
/-- EARLY. -/
def mEarly (card : Nat) : Nat := cardBits card 0x84 0 32
/-- LATE. -/
def mLate (card : Nat) : Nat := cardBits card 0x88 0 32

/-- Is it msend, enq or arrive? -/
def isMessage : Instr → Bool
  | .msend _ | .enq _ | .arrive _ => true
  | _ => false

/-- A job in flight, by context and number. -/
def State.jobOf (s : State) (j : Nat × Nat) : Option EngOp := (s.ctx j.1).engOp j.2

/-- Give jobs their answer, where they have none. -/
def State.answer (s : State) (c id st : Nat) : State :=
  s.modCtx c fun x => x.modEng id fun o => if o.answer.isNone then { o with answer := some st } else o

/-- Windowed flits of one job that lost their places are placed again inside its window; failing that, the job gets a status and its other
flits are discarded (R486, R494, R506). -/
def State.placeAgain (s : State) (j : Nat × Nat) (flits : List Flit) (fail : Nat) : State :=
  match s.jobOf j with
  | none => s
  | some o =>
    match s.placesFor (mPeer o.card) (mEarly o.card) (mLate o.card) flits.length with
    | some l => s.reserve (some j) l flits
    | none => (s.dropFlits j).answer j.1 j.2 fail

/-- The jobs that the windowed ones of some entries serve, each once. -/
def jobsOf (l : List Placed) : List (Nat × Nat) := ((l.filter Placed.windowed).filterMap (·.job)).eraseDups

/-- Entries that lost their places, or whose flits were lost, find others: those of a job's window in it, all others in a direct slot (R480,
R494). -/
def State.replace (s : State) (lost : List Placed) (fail : Nat) : State :=
  let s := (jobsOf lost).foldl (fun t j => t.placeAgain j ((lost.filter fun e => e.serves j && e.windowed).map (·.flit)) fail) s
  (lost.filter fun e => !(e.windowed && e.job.isSome)).foldl (fun t e => t.placeFlit { e with via := none }) s

/-- The entries `p` names lose their places, and find others (R494). -/
def State.displace (s : State) (p : Placed → Bool) (fail : Nat) : State :=
  let lost := s.fab.placed.filter p
  (s.modFab fun f => { f with placed := f.placed.filter fun e => !p e }).replace lost fail

/-! ## A slot (R477, R479, R481, R482, R492) -/

/-- A slot of 256 ns, in 1/210 ns (R477). -/
def slotLength : Int := 53760

/-- The exchange of phase 2, as a job has one (R485). -/
def exchangeJob : Nat × Nat := (1028, 0)

/-- Free bits: what the endpoints at the other end do. -/
def State.freeBit (s : State) (i : Nat) : Bool := s.free / 2 ^ (i % 64) % 2 == 1

/-- Unacknowledged flits, the module's own or forwarded ones, that the present slot can carry on a port: those of ports that send, whose next
endpoint the slot joins there, CTRL first (R479, R492). -/
def State.toSend (s : State) (q : Nat) (own : Bool) : List Placed :=
  let l := (s.fab.ports.flatMap fun p => if s.portUsable p.1 then p.2.retry else []).filter fun e =>
    (e.flit.src == s.fab.selfId) == own && planeFor s.fab.slot.toNat (distance s.fab.selfId e.hop) == some q
  (l.filter fun e => e.flit.cls == 7) ++ l.filter fun e => e.flit.cls != 7

/-- The flits the present slot carries: of each usable port, its own share and its forwarding share (R479). -/
def State.carried (s : State) : List Placed :=
  (List.range 16).flatMap fun q =>
    if s.portUsable q then (s.toSend q true).take s.shares.2 ++ (s.toSend q false).take s.shares.1 else []

/-- The flit of a lease request or renewal goes out: the lease's end counts from this slot (R423). -/
def State.leaseSent (s : State) (j : Option (Nat × Nat)) : State :=
  let asks := fun (e : Nat × Lease) => j == some (e.2.job.getD (1025, e.1)) || j == some (1026, e.1)
  s.modFe fun f => { f with leases := f.leases.map fun e => if asks e then (e.1, { e.2 with out := s.fab.slot.toNat }) else e }

/-- A flit as it goes out in the present slot: its STAMP is that slot's, each time it is sent (R479). -/
def State.stamped (s : State) (e : Placed) : Placed :=
  { e with
    flit := { e.flit with
      stamp := s.fab.slot.toNat
      tstate := if e.flit.src = s.fab.selfId then s.fab.timing.code else e.flit.tstate } }

/-- A flit goes out of its port, stamped, ahead of the port's others where it is CTRL; where the port is paused or fenced, its retry buffer is full, or CTRL and
re-sent flits take its share of the slot, it waits for another slot (R479, R492, R493). -/
def State.sendFlit (s : State) (e : Placed) : State :=
  let f := s.stamped e
  if !s.portUsable e.port ∨ 768 ≤ (s.port e.port).retry.length ∨ (e.flit.cls ≠ 7 ∧ s.shares.2 ≤ (s.toSend e.port true).length) then
    s.modFab fun b => { b with owed := b.owed ++ [e] }
  else (if e.flit.cls = 7 then s.leaseSent e.job else s).modPort e.port fun p => { p with
    retry := if e.flit.cls = 7 then f :: p.retry else p.retry ++ [f] }

/-- The flits placed in the present slot go out, CTRL first, in order of placement (R479). -/
def State.sendPlaced (s : State) : State :=
  let now := s.fab.slot.toNat
  let l := s.fab.placed.filter fun e => e.slot == now
  ((l.filter fun e => e.flit.cls == 7) ++ l.filter fun e => e.flit.cls != 7).foldl State.sendFlit
    (s.modFab fun f => { f with placed := f.placed.filter fun e => !(e.slot == now) })

/-- The slot carries flits, each stamped with it, and the joined endpoints acknowledge them, or not: each acknowledgement is a choice of the other
end (R479, R492). -/
def State.acknowledge (s : State) : State :=
  if !s.fab.timing.sends s.fab.slot.toNat then s
  else
    let out := s.carried
    (s.modFab fun f => { f with ports := f.ports.map fun p => (p.1, { p.2 with
      retry := ((p.2.retry.zip (List.range p.2.retry.length)).filter fun e => !(out.contains e.1 && s.freeBit e.2)).map fun e =>
        if out.contains e.1 then s.stamped e.1 else e.1 }) }).spend

/-- FLIT_FORWARD (R482, R483): an intermediate sends the flits it holds whose second hop the present slot joins, as its forwarding share
and the port's retry buffer allow, in arrival order. -/
def execFlitForward (s : State) : Out :=
  let now := s.fab.slot.toNat
  let out := fun (x : Flit) =>
    match planeFor now (distance s.fab.selfId x.dst) with
    | some p => if s.portUsable p && s.fab.timing.sends now then some p else none
    | none => none
  let r := s.fab.forward.foldl (fun (t : List Flit × List (Nat × Flit)) x =>
    match out x with
    | some p =>
      let k := (t.2.filter fun e => e.1 == p).length
      if k + (s.toSend p false).length < s.shares.1 ∧ k + (s.port p).retry.length < 768 then (t.1, t.2 ++ [(p, x)]) else (t.1 ++ [x], t.2)
    | none => (t.1 ++ [x], t.2)) ([], [])
  let s := s.modFab fun f => { f with forward := r.1 }
  .next (r.2.foldl (fun t e => t.modPort e.1 fun p => { p with retry := p.retry ++ [
    { slot := now, port := e.1, flit := { e.2 with stamp := now, fwd := false }, job := none, via := none }] }) s)

/-- Jobs that wait for a trim complete (R302, R488). -/
def State.endRealigns (s : State) : State :=
  s.ctxs.foldl (fun t e => e.2.eng.foldl (fun t o => match o.instr with
    | .realign _ => if o.begun ∧ o.pos = 1 then t.answer e.1 o.id 0 else t
    | _ => t) t) s

/-- A frame boundary: trims shift the local slot timing (R488), a relock that slews takes place (R486), and in phase 2, each 64 frames, an exchange begins
(R485). A sample is how far the peer's timing is ahead, so a trim moves the local timing on by as much. -/
noncomputable def State.frameStart (s : State) : State :=
  let s := (s.modFab fun f => { f with
    phase := f.phase + 210 * f.trimNext
    relock := f.relock.map fun r => (r.1, r.2.map fun d => d + 210 * f.trimNext)
    trimNext := 0 }).endRealigns
  let s := if s.fab.timing = .phase2 ∧ s.fab.slot.toNat % 4096 = 0 then s.modFab fun f => { f with
      exchange := true
      samples := f.samples.filter fun e => !(e.1 == exchangeJob) } else s
  match s.fab.relock with
  | some (p, some _) => { s with agenda := .relock p (s.fab.slot.toNat / 64) true :: s.agenda }
  | _ => s

/-! ## Exchanges of samples (R485, R488, R491) -/

/-- May the module exchange samples with a peer: a live one of its domain that is in time, and that its slots join it to (R483, R488)? -/
def State.inTime (s : State) (m : Nat) : Bool :=
  !s.fab.removed && s.fab.members.contains m && m != s.fab.selfId && decide (m / 64 = s.fab.selfId / 64) && decide (Store.get 3 s.fab.tstates m ≤ 2) &&
  (s.fab.timing != .phase2 || decide (distance s.fab.selfId m % 2 = 0))

/-- The peer to exchange samples with on a port in the present slot (R478, R488). -/
def State.partner (s : State) (p : Nat) : Option Nat :=
  let d := (s.fab.slot.toNat % 64 + 64 - 4 * p % 64) % 64
  let m := s.fab.selfId / 64 * 64 + ((s.fab.selfId % 64) ^^^ d)
  if d ≠ 0 ∧ s.portUsable p ∧ s.fab.timing.sends s.fab.slot.toNat ∧ s.inTime m then some m else none

/-- Samples that an exchange has kept on a port. -/
def State.samplesOn (s : State) (j : Nat × Nat) (p : Nat) : Nat := (s.fab.samples.filter fun e => e.1 == j && e.2.1 == p).length

/-- The offsets that an exchange has kept. -/
def State.kept (s : State) (j : Nat × Nat) : List Int := (s.fab.samples.filter fun e => e.1 == j).map fun e => e.2.2

/-- Has an exchange of `n` samples on the ports of a mask all that it can have? A port that joins the module to no peer in time gives none. -/
def State.samplesDone (s : State) (j : Nat × Nat) (mask n : Nat) : Bool :=
  s.fab.timing == .nosync || !s.fab.members.any s.inTime ||
  (List.range 16).all fun p => mask / 2 ^ p % 2 == 0 || !s.portUsable p || decide (n ≤ s.samplesOn j p)

/-- A sample is exchanged with a peer on a port: a CTRL flit goes out, and the offset, which the times at both ends give, is kept; it is a free
value, as they are the peer's and the link's. -/
def State.sample (s : State) (j : Nat × Nat) (p m : Nat) : State :=
  let f : Flit := { stamp := 0, ofs := 0, src := s.fab.selfId, dst := m, tag := Store.get 0 s.fab.msgNo m, cls := 7, rsv := 0, fwd := false
                    tstate := s.fab.timing.code, len := 31, payload := BitVec.ofNat 1920 s.free }
  ((s.modFab fun b => { b with
    msgNo := Store.put b.msgNo m ((Store.get 0 b.msgNo m + 1) % 2 ^ 16)
    samples := b.samples ++ [(j, p, signedN s.free 64)] }).sendFlit { slot := s.fab.slot.toNat, port := p, flit := f, job := none, via := none }).spend

/-- An exchange takes its samples of the present slot. -/
def State.takeSamples (s : State) (j : Nat × Nat) (mask n : Nat) : State :=
  (List.range 16).foldl (fun t p =>
    match t.partner p with
    | some m => if mask / 2 ^ p % 2 = 1 ∧ t.samplesOn j p < n then t.sample j p m else t
    | none => t) s

/-- The exchanges under way take their samples: of realign jobs, and of phase 2, with one sample on every port. -/
def State.exchanges (s : State) : State :=
  let s := s.ctxs.foldl (fun t e => e.2.eng.foldl (fun t o => match o.instr with
    | .realign _ => if o.begun ∧ o.pos = 0 then t.takeSamples (e.1, o.id) (cardBits o.card 0x80 0 16) (cardBits o.card 0x80 16 4) else t
    | _ => t) t) s
  if s.fab.exchange then s.takeSamples exchangeJob 0xFFFF 1 else s

/-- The exchange of phase 2 is complete: it is applied next (R485). -/
noncomputable def State.endExchange (s : State) : State :=
  if s.fab.exchange ∧ s.fab.timing = .phase2 ∧ s.samplesDone exchangeJob 0xFFFF 1 then { s with agenda := .holdoverExchange (s.kept exchangeJob) :: s.agenda } else s

/-- SLOT_BOUNDARY (R477): the slot that ends has carried its flits, and the next one begins. -/
noncomputable def execSlotBoundary (s : State) : Out :=
  let s := s.exchanges
  let s := if s.fab.timing.sends s.fab.slot.toNat then s.sendPlaced else s.displace (fun e => e.slot == s.fab.slot.toNat) 4
  let s := s.acknowledge
  let s := s.modFab fun f => { f with
    slot := f.slot + 1
    phase := f.phase - slotLength
    elapsed := f.elapsed + 1
    holdover := if f.timing == .locked then 0 else f.holdover + 1 }
  let s := if s.fab.slot.toNat % 64 = 0 then s.frameStart else s
  let s := s.placeOwed.endExchange
  .next (if s.fab.forward.isEmpty then s else { s with agenda := .flitForward :: s.agenda }).endExpired

/-! ## Time (R484 to R488) -/

/-- The lowest-numbered healthy port. -/
def State.healthyPort (s : State) : Option Nat := (List.range 16).find? fun p => (s.port p).healthy

/-- Does a pulse with a frame number come within the guard in force of the local start of frame slot 0, in the frame that the counter then
counts (R486)? -/
def State.inGuard (s : State) (frame : Nat) : Bool :=
  let u := s.fab.slot.toNat % 64
  let g : Int := 210 * s.fab.timing.guard
  let now := s.fab.slot.toNat / 64
  (u == 0 && decide (s.fab.phase ≤ g) && frame == now) || (u == 63 && decide (slotLength ≤ s.fab.phase + g) && frame == (now + 1) % 2 ^ 26)

/-- How far local time stands ahead of a pulse that comes now, by the start of frame slot 0 that lies nearest. -/
def State.aheadOf (s : State) : Int := if s.fab.slot.toNat % 64 = 0 then s.fab.phase else s.fab.phase - slotLength

/-- A pulse in holdover or NOSYNC (R486): a port that is healthy ends it, at the next frame boundary where its pulse agrees with the counter, at
its next pulse otherwise. -/
noncomputable def State.relockPulse (s : State) (port : Nat) (valid : Bool) (frame : Nat) : State :=
  match s.fab.relock with
  | some (q, slew) =>
    if !(s.port q).healthy then s.modFab fun f => { f with relock := none }
    else if q = port ∧ valid ∧ slew.isNone then { s with agenda := .relock port frame false :: s.agenda }
    else s
  | none => if valid ∧ (s.port port).healthy then s.modFab fun f => { f with
      relock := some (port, if s.inGuard frame then some s.aheadOf else none) } else s

/-- Does a port's pulse number another frame than the locked module is in, or about to enter (R484; log entry 61)? -/
def State.pulseWrong (s : State) (frame : Nat) : Bool :=
  s.fab.timeSet && s.fab.timing == .locked && decide (frame ≠ s.fab.slot.toNat / 64) && !s.inGuard frame

/-- A port takes its pulse of a frame: four good ones that follow each other make it healthy, a second bad one or a wrong number ends that; a
wrong number is a fabric error (R484, R496). -/
def State.notePulse (s : State) (port : Nat) (valid : Bool) (frame : Nat) : State :=
  let wrong := s.pulseWrong frame
  let p := s.port port
  let good := if p.good ≠ 0 ∧ frame ≠ (p.frame + 1) % 2 ^ 26 then 1 else p.good + 1
  let s := s.modPort port fun p =>
    if !valid then { p with
      good := 0
      bad := p.bad + 1
      healthy := p.healthy && decide (p.bad + 1 < 2) }
    else { p with
      good := good
      bad := 0
      frame := frame
      healthy := !wrong && (p.healthy || decide (4 ≤ good)) }
  if valid && wrong then s.fabricError 0x0343 else s

/-- The counter is set to a slot; what was placed in slots that it passes over or repeats is placed again (R486). -/
def State.setCounter (s : State) (new : Nat) : State :=
  let old := s.fab.slot.toNat
  let ahead := sub32 new old
  let moved := fun (e : Placed) =>
    if ahead < 2 ^ 31 then decide (sub32 e.slot old < ahead) else decide (sub32 e.slot new ≤ sub32 old new)
  (s.modFab fun f => { f with slot := BitVec.ofNat 32 new }).displace moved 5

/-- The locked counter follows a pulse, which is the start of frame slot 0 of its frame: within the guard the slot's time alone moves (R477, R485). -/
def State.followPulse (s : State) (frame : Nat) : State :=
  if s.inGuard frame then s.modFab fun f => { f with phase := f.phase - s.aheadOf }
  else if frame = s.fab.slot.toNat / 64 then (s.modFab fun f => { f with phase := 0 }).setCounter (64 * frame)
  else s

/-- What the pulse does to the timing (R484 to R486): without a healthy port it leaves the lock; the first healthy port sets the slot counter; the
port it is locked to is the lowest healthy one that pulses, and the counter follows its pulses; in holdover the pulse may lock it again. `good` says that the port was healthy. -/
noncomputable def State.timePulse (s : State) (port : Nat) (valid good : Bool) (frame : Nat) : State :=
  match s.healthyPort with
  | none => if s.fab.timing = .locked then s.modFab fun f => { f with
      timing := .phase1
      holdover := 0
      lockPort := none } else s.modFab fun f => { f with relock := none }
  | some q =>
    if !s.fab.timeSet then s.modFab fun f => { f with
      slot := BitVec.ofNat 32 (64 * (s.port q).frame)
      phase := 0
      timeSet := true
      timing := .locked
      lockPort := some q }
    else if s.fab.timing = .locked then
      let s := if (port = q ∧ valid ∧ good) ∨ (s.fab.lockPort.map fun l => (s.port l).healthy) ≠ some true then
        s.modFab fun f => { f with lockPort := some q } else s
      if valid ∧ s.fab.lockPort = some port then s.followPulse frame else s
    else s.relockPulse port valid frame

/-- FRAME_PULSE (R484): a pulse with its time code, or a missing or invalid one, on a port that is in service (R470). The lock moves to
a lower-numbered port at the pulse after the one that made it healthy. -/
noncomputable def execFramePulse (port : Nat) (valid : Bool) (frame : Nat) (s : State) : Out :=
  if 16 ≤ port then .fault .noSuchUnit
  else .next (if !s.portUp port then s
    else ((s.notePulse port valid (frame % 2 ^ 26)).timePulse port valid (s.port port).healthy (frame % 2 ^ 26)).endExpired)

/-- RELOCK (R486): a healthy port ends holdover or NOSYNC, as the relock that is to come says; a counter that agrees slews to its pulse at a frame boundary,
any other is set from the code at the pulse. -/
noncomputable def execRelock (port frame : Nat) (inGuard : Bool) (s : State) : Out :=
  if 16 ≤ port then .fault .noSuchUnit
  else if !(s.port port).healthy ∨ s.fab.timing = .locked ∨ !s.fab.timeSet then .next s
  else match s.fab.relock with
  | none => .next s
  | some (q, slew) =>
    if q ≠ port ∨ slew.isSome ≠ inGuard ∨ (inGuard ∧ s.fab.slot.toNat ≠ 64 * (frame % 2 ^ 26)) then .next s
    else
    let s := s.modFab fun f => { f with
      timing := .locked
      holdover := 0
      lockPort := some port
      relock := none
      exchange := false
      phase := match slew with
        | some d => f.phase - d
        | none => 0
      trimNext := 0 }
    .next ((if inGuard then s else s.setCounter (64 * (frame % 2 ^ 26))).fabricError 0x0342).endExpired

/-- PHASE2_ENTRY (R485); a relock that is to come ends the holdover time (R486). -/
def execPhase2Entry (s : State) : Out :=
  .next (if s.fab.timing = .phase1 ∧ s.fab.relock.isNone ∧ slotsOf 250000000 ≤ s.fab.holdover then
    (s.modFab fun f => { f with timing := .phase2 }).fabricError 0x0340 else s)

/-- Windowed jobs with flits that were not acknowledged get a status, and their flits are discarded; other messages wait (R483, R494). -/
def State.failPlaced (s : State) (st : Nat) : State :=
  (jobsOf (s.fab.placed ++ s.fab.owed ++ s.fab.ports.flatMap fun p => p.2.retry)).foldl (fun t j => (t.dropFlits j).answer j.1 j.2 st) s

/-- Every windowed job that has begun and has no answer gets a status: without a port none can come (R494). -/
def State.failWindowed (s : State) (st : Nat) : State :=
  (s.ctxs.flatMap fun e => (e.2.eng.filter fun o => isMessage o.instr && o.begun && o.answer.isNone).map fun o => (e.1, o.id)).foldl
    (fun t j => (t.dropFlits j).answer j.1 j.2 st) s

/-- NOSYNC_ENTRY (R485). -/
def execNosyncEntry (s : State) : Out :=
  .next (if s.fab.timing = .phase2 ∧ s.fab.relock.isNone ∧ slotsOf 2250000000 ≤ s.fab.holdover then
    ((s.modFab fun f => { f with timing := .nosync }).failPlaced 5).fabricError 0x0341 else s)

/-- Numbers in rising order. -/
def insertInt (x : Int) : List Int → List Int
  | [] => [x]
  | y :: l => if x ≤ y then x :: y :: l else y :: insertInt x l

/-- The trim of some kept offsets: their lower median, clamped (R488). -/
def trimOf (offs : List Int) : Int :=
  let l := offs.foldr insertInt []
  max (-16) (min 16 (l.getD ((l.length - 1) / 2) 0))

/-- HOLDOVER_EXCHANGE (R485, R488): in phase 2, each 64 frames, the exchange is complete, and the trim of the offsets it kept applies at the next
frame boundary. -/
def execHoldoverExchange (offs : List Int) (s : State) : Out :=
  .next (if s.fab.timing = .phase2 ∧ s.fab.exchange ∧ s.samplesDone exchangeJob 0xFFFF 1 ∧ offs = s.kept exchangeJob then
    s.modFab fun f => { f with
      trimNext := if offs = [] then f.trimNext else f.trimNext + trimOf offs
      exchange := false }
  else s)

/-! ## Ports (R493, R494) -/

/-- An event of a port. -/
def onPort (p : Nat) (t : State) : Out := if p < 16 then .next t else .fault .noSuchUnit

/-- PORT_PAUSE (R493): a port that loses optical lock; one that is fenced counts its clean frames anew once it has retrained. -/
def execPortPause (p : Nat) (s : State) : Out :=
  onPort p (s.modPort p fun x =>
    if x.pausedAt.isSome then x
    else { x with
      pausedAt := if x.fenced then none else some s.fab.elapsed
      retrained := false
      cleanSince := none })

/-- PORT_RETRAIN (R493): it sends again, or waits to rejoin where it was fenced. -/
def execPortRetrain (p : Nat) (s : State) : Out :=
  onPort p (s.modPort p fun x => if x.fenced || x.pausedAt.isSome then { x with
    pausedAt := none
    retrained := true
    cleanSince := some s.fab.elapsed } else x)

/-- Slots that have passed since so many had, whatever the counter was set to. -/
def State.passedSince (s : State) (t : Nat) : Nat := s.fab.elapsed - t

/-- Is a paused port to be fenced (R493)? -/
def State.fenceDue (s : State) (p : Nat) : Bool :=
  match (s.port p).pausedAt with
  | some t => !(s.port p).fenced && ((decide (slotsOf 40000 < s.passedSince t) && decide (768 ≤ (s.port p).retry.length)) ||
      decide (slotsOf 1000000 < s.passedSince t))
  | none => false

/-- PORT_FENCE (R493 to R495): the flits of the port are lost with it and sent again; a windowed job whose flits find no place gets
PORT_LOST, and with all 16 ports fenced every one that waits (R494). -/
def execPortFence (p : Nat) (s : State) : Out :=
  onPort p (
    if !s.fenceDue p then s
    else
      let lost := (s.port p).retry
      let s := s.modPort p fun x => { x with
        fenced := true
        retrained := false
        retry := [] }
      let own := fun (e : Placed) => e.flit.src == s.fab.selfId
      let s := s.replace (lost.filter own) 6
      let s := s.modFab fun f => { f with forward := f.forward ++ (lost.filter fun e => !own e).map (·.flit) }
      let s := s.displace (fun e => e.port == p) 6
      (if s.allFenced then s.failWindowed 6 else s).fabricError (0x0300 + p))

/-- May a fenced port rejoin: retrained, with 64 clean frames (R493)? -/
def State.rejoinDue (s : State) (p : Nat) : Bool :=
  (s.port p).fenced && (s.port p).retrained &&
  match (s.port p).cleanSince with
  | some t => decide (4096 ≤ s.passedSince t)
  | none => false

/-- PORT_REJOIN (R493). -/
def execPortRejoin (p : Nat) (s : State) : Out :=
  onPort p (if s.rejoinDue p then (s.modPort p fun x => { x with
    fenced := false
    pausedAt := none }).fabricError (0x0320 + p) else s)

/-! ## Receiving (R487, R489) -/

/-- Is a flit's stamp within four slots of the counter (R487)? -/
def State.stampOk (s : State) (f : Flit) : Bool :=
  let d := sub32 f.stamp s.fab.slot.toNat
  decide (d ≤ 4) || decide (2 ^ 32 ≤ d + 4)

/-- Are the reserved bits of a flit's header zero (R12, R479)? -/
def flitHeaderOk (f : Flit) : Bool := f.rsv == 0 && (f.cls != 4 || f.tag / 256 == 0)


/-- FLIT_RECEIVE (R469, R476, R482, R487): on a port in service a flit is accepted and goes on by its class, or is left unacknowledged; one whose header breaks R479 is refused
as one of a wrong slot is (log entry 85). -/
noncomputable def execFlitReceive (port : Nat) (f : Flit) (s : State) : Out :=
  if 16 ≤ port then .fault .noSuchUnit
  else if !s.fabricUp ∨ !s.portUp port then .next s
  else if s.stampOk f ∧ flitHeaderOk f then
    let s := { s with pow := { s.pow with ps := 0 } }
    let s := s.modFab fun b => { b with tstates := Store.put b.tstates f.src (f.tstate % 4) }
    if f.fwd ∧ f.dst ≠ s.fab.selfId then .next (s.modFab fun b => { b with forward := b.forward ++ [f] })
    else
      let go := fun (i : Instr) => Host.Outcome.next { s with agenda := i :: s.agenda }
      match f.cls with
      | 4 => go (.dataReceive f)
      | 5 => go (.enqReceive f)
      | 6 => go (.arriveReceive f)
      | _ => .next s
  else
    let frame := s.fab.slot.toNat / 64
    if (s.port port).lastRefusal = some frame then .next s
    else .next ((s.modPort port fun p => { p with lastRefusal := some frame }).fabricError (0x0360 + port))

/-- PREFIX of a sender and stream. -/
def State.prefixOf (s : State) (k : Nat) : Nat := Store.get 0 s.fab.prefixes k

/-- Take ranges that touch a count into it. -/
def absorb : Nat → Nat → List (Nat × Nat) → Nat × List (Nat × Nat)
  | 0, n, l => (n, l)
  | fuel + 1, n, l =>
    match l.find? fun e => decide (e.1 ≤ n) with
    | some e => absorb fuel (max n (e.1 + e.2)) (l.erase e)
    | none => (n, l)

/-- Bytes of a stream are written, or count as written: PREFIX moves on as far as it can (R489). -/
def State.countBytes (s : State) (k first len : Nat) : State :=
  let l := (first, len) :: Store.get [] s.fab.beyond k
  let r := absorb l.length (s.prefixOf k) l
  s.modFab fun f => { f with
    prefixes := Store.put f.prefixes k r.1
    beyond := Store.put f.beyond k r.2 }

/-- Has a stream byte been written already? -/
def State.streamHas (s : State) (k i : Nat) : Bool :=
  decide (i < s.prefixOf k) || (Store.get [] s.fab.beyond k).any fun e => decide (e.1 ≤ i) && decide (i < e.1 + e.2)

/-- The 64-bit offset with given low 32 bits that lies nearest a count (R489). -/
def nearest (p low : Nat) : Nat :=
  let a := p / 2 ^ 32 * 2 ^ 32 + low
  let d := fun (x : Nat) => if x ≤ p then p - x else x - p
  let l := [a, a + 2 ^ 32] ++ (if 2 ^ 32 ≤ a then [a - 2 ^ 32] else [])
  l.foldl (fun b x => if d x < d b then x else b) a

/-- STREAM of a message that waits: of its own field where the flit is DATA, else as its payload says (log entry 15). -/
def flitStream (f : Flit) : Nat := if f.cls = 4 then f.tag % 256 else bitsN f.payload.toNat 64 8

/-- The module answers a message (R491). -/
def State.ack (s : State) (src num st : Nat) : State := s.modFab fun f => { f with acks := (src, num, st) :: f.acks }

/-- A message has its answer, and each second copy of it that came while it was held has it too: copies are not acted on (R489, R491). -/
def State.answerMessage (s : State) (m : HeldMsg) (st : Nat) : State :=
  (List.range (m.copies + 1)).foldl (fun t _ => t.ack m.flit.src m.flit.tag st)
    (s.modFab fun f => { f with seen := ((m.flit.src, m.flit.tag) :: f.seen).take 32768 })

/-- Held messages of a stream that `p` names are rejected (R489). -/
def State.rejectHeld (s : State) (src stream : Nat) (p : HeldMsg → Bool) : State :=
  let mine := fun (m : HeldMsg) => m.flit.src == src && flitStream m.flit == stream && p m
  let l := s.fab.held.filter mine
  let s := s.modFab fun f => { f with held := f.held.filter fun m => !mine m }
  l.foldl (fun t m => t.answerMessage m 8) s

/-- Messages of a stream whose count is written are acted on next. -/
noncomputable def State.askRelease (s : State) (src stream : Nat) : State :=
  if s.fab.held.any fun m => m.flit.src == src && flitStream m.flit == stream && decide (m.count ≤ s.prefixOf (streamKey src stream)) then
    { s with agenda := .heldMessageRelease src stream :: s.agenda }
  else s

/-- Bytes of a DATA flit reach the LLC, those that were not there yet; a chunk's poison is cleared once they are all of its poisoned bytes (R330,
R355, R489). -/
def State.writeData (s : State) (k first ia : Nat) (f : Flit) : State :=
  let n := f.len + 1 - 8
  let new := (List.range n).filter fun i => !s.streamHas k (first + i)
  let mask := fun (l : Nat) => new.foldl (fun (m : Word128) i => if (ia + i) / 128 = l then m ||| 1#128 <<< ((ia + i) % 128) else m) 0
  (linesOf ia n).foldl (fun t l => t.llcWrote l (mask l))
    (new.foldl (fun t i => t.homeWriteN (ia + i) 1 (f.payload.toNat / 256 ^ (8 + i) % 256)) s)

/-- The message of a DATA flit of `n` bytes from stream offset `first` on: its first stream offset and the end of its last. They hold the
flit's own bytes, and beyond these they are the sender's (log entry 52); the flits of a message agree on them, and messages do not overlap. -/
def State.messageOf (s : State) (k first n : Nat) : Nat × Nat :=
  let mine := s.fab.messages.filter fun e => e.1 == k
  match mine.find? fun e => decide (e.2.1 ≤ first) && decide (first + n ≤ e.2.2) with
  | some e => e.2
  | none =>
    let m := Config.dataMessage s.fab.epoch k first
    (mine.foldl (fun a e => if e.2.2 ≤ first then max a e.2.2 else a) (min m.1 first),
     mine.foldl (fun b e => if first + n ≤ e.2.1 then min b e.2.1 else b) (max (first + n) (m.1 + m.2)))

/-- The message of a flit that has come is known. -/
def State.noteMessage (s : State) (k first n : Nat) : State :=
  let e := (k, s.messageOf k first n)
  if s.fab.messages.contains e then s else s.modFab fun f => { f with messages := f.messages ++ [e] }

/-- Where the bytes of a DATA flit go; nowhere where its message, from its own first window offset on, passes the end of the stream's window (R292). -/
def State.dataPlace (s : State) (f : Flit) (first : Nat) : Option Nat :=
  let n := f.len + 1 - 8
  let wofs := bitsN f.payload.toNat 0 64
  let m := s.messageOf (streamKey f.src (flitStream f)) first n
  let roff := (wofs + 2 ^ 64 - (first - m.1) % 2 ^ 64) % 2 ^ 64
  match s.fab.windows.find? fun e => e.1 == flitStream f with
  | some (_, ia, len, _) =>
    if roff + (m.2 - m.1) ≤ len then some (ia + wofs) else none
  | none => none

/-- The module acknowledges a DATA message once every byte of it is written (R491). -/
def State.ackData (s : State) (f : Flit) (first : Nat) : State :=
  let k := streamKey f.src (flitStream f)
  let m := s.messageOf k first (f.len + 1 - 8)
  if (List.range (m.2 - m.1)).all fun i => s.streamHas k (m.1 + i) then s.ack f.src (m.2 % 2 ^ 16) 0 else s

/-- DATA_RECEIVE (R292, R489): a flit's bytes are written into the inbound window of its stream, once no page of theirs is under migration;
one whose message passes the window's end is refused, counts as written, and at its first flit rejects the held messages that count on the message. -/
noncomputable def execDataReceive (f : Flit) (s : State) : Out :=
  let k := streamKey f.src (flitStream f)
  let n := f.len + 1 - 8
  let first := nearest (s.prefixOf k) f.ofs
  let known := s.fab.messages.contains (k, s.messageOf k first n)
  let s := (s.modFab fun b => { b with arrived := b.arrived.filter fun g => !(g == f) }).noteMessage k first n
  match s.dataPlace f first with
  | some ia =>
    if s.migOver ia n then .next (s.modFab fun b => { b with arrived := b.arrived ++ [f] })
    else .next ((((s.writeData k first ia f).countBytes k first n).ackData f first).askRelease f.src (flitStream f))
  | none =>
    let m := s.messageOf k first n
    let s := (if known then s else s.rejectHeld f.src (flitStream f) fun h => decide (m.1 < h.count)).ack f.src (m.2 % 2 ^ 16) 8
    .next ((s.countBytes k first n).askRelease f.src (flitStream f))

/-- The address space that an ENQ on a stream acts in: its window's, and 0 where the stream has none (log entry 106). -/
def State.streamAsid (s : State) (stream : Nat) : Nat :=
  match s.fab.windows.find? fun e => e.1 == stream with
  | some (_, _, _, asid) => asid
  | none => 0

/-- An ENQ or ARRIVE is acted on, and answered (R293, R294): the card's fields from 0x90 on stand in the payload from byte 16 on
(log entry 15). -/
def State.actMessage (s : State) (m : HeldMsg) : State :=
  let f := m.flit
  let p := f.payload.toNat
  let w := fun (off lo n : Nat) => bitsN p (8 * (16 + off - 0x90) + lo) n
  let r :=
    if f.cls = 6 then s.decTask (w 0x90 0 14) (w 0x94 0 32)
    else if w 0x90 16 1 = 0 then (if w 0x90 0 16 < 2 ^ 14 then s.zeroTask (w 0x90 0 16) else (s, 0x0E))
    else if w 0x90 0 16 < 1024 then s.enqTemplate (s.streamAsid (flitStream f)) (w 0x90 0 16) (w 0x90 17 3) (w 0x94 0 32) (w 0xA0 0 768)
    else (s, 0x10)
  r.1.answerMessage m r.2

/-- An ENQ or ARRIVE arrives: a second copy is acknowledged and discarded, of one that is held when that one is answered (R491), one that counts on DATA to come is held, any other is acted
on (R489). -/
def State.takeMessage (s : State) (f : Flit) : State :=
  let count := bitsN f.payload.toNat 0 64
  if s.fab.seen.contains (f.src, f.tag) then
    s.ack f.src f.tag (((s.fab.acks.find? fun e => e.1 == f.src && e.2.1 == f.tag).map fun e => e.2.2).getD 0)
  else
    let again := fun (m : HeldMsg) => m.flit.src == f.src && m.flit.tag == f.tag
    let m : HeldMsg := { flit := f, count := count, copies := 0 }
    if s.fab.held.any again then s.modFab fun b => { b with held := b.held.map fun h => if again h then { h with copies := h.copies + 1 } else h }
    else if count ≤ s.prefixOf (streamKey f.src (flitStream f)) then s.actMessage m
    else s.modFab fun b => { b with held := b.held ++ [m] }

/-- ENQ_RECEIVE (R293, R489). -/
def execEnqReceive (f : Flit) (s : State) : Out := .next (s.takeMessage { f with cls := 5 })
/-- ARRIVE_RECEIVE (R294, R489). -/
def execArriveReceive (f : Flit) (s : State) : Out := .next (s.takeMessage { f with cls := 6 })

/-- HELD_MESSAGE_RELEASE (R489): the held messages of a stream whose count is written are acted on once. -/
def execHeldMessageRelease (src stream : Nat) (s : State) : Out :=
  let due := fun (m : HeldMsg) => m.flit.src == src && flitStream m.flit == stream && decide (m.count ≤ s.prefixOf (streamKey src stream))
  let l := s.fab.held.filter due
  .next (l.foldl (fun t m => t.actMessage m) (s.modFab fun f => { f with held := f.held.filter fun m => !due m }))

/-- STREAM_ABORT (R489, R495): PREFIX is raised to the sender's count, and the stream's held messages are rejected. -/
def execStreamAbort (src stream count : Nat) (s : State) : Out :=
  .next (s.fabricArrives fun (s : State) => (s.rejectHeld src stream fun _ => true).countBytes (streamKey src stream) (s.prefixOf (streamKey src stream))
    (count - s.prefixOf (streamKey src stream)))

end Sys2Proof.Machine
end

