-- ==== Sys2Proof/Machine/Messages.lean ====
section
/-! DEFINITION. The message jobs msend, enq and arrive (R291 to R295, R322), and realign (R302, R488). -/

namespace Sys2Proof.Machine

/-! ## Plans (R275, R291 to R294) -/

/-- The shared fields of a message's card hold a value they may not hold. -/
def messageBad (s : State) (card : Nat) : Bool :=
  cardBits card 0x80 24 8 != 0 || mPeer card == s.fab.selfId || mPeer card / 64 != s.fab.selfId / 64 ||
  decide (2 ^ 31 ≤ sub32 (mLate card) (mEarly card)) || cardBits card 0x8C 0 32 != 0

/-- LEN of msend. -/
def msLen (card : Nat) : Nat := cardBits card 0xA0 0 32
/-- SRC of msend. -/
def msSrc (card : Nat) : CardAddr := localAddr (cardBits card 0x90 0 64) 0

/-- The plan of msend. -/
def msendPlan (s : State) (card : Nat) : Option JobPlan :=
  if messageBad s card ∨ !lenOk (msLen card) ∨ !restZero card 0xA4 then none
  else some { JobPlan.plain (msLen card) with
    fixed := [{ field := msSrc card, at_ := msSrc card, len := msLen card, wr := false }] }

/-- The plan of enq. -/
def enqPlan (s : State) (card : Nat) : Option JobPlan :=
  let w := cardBits card 0x90 0 32
  let mode1 := bitsN w 16 1 == 1
  if messageBad s card ∨ bitsN w 20 12 ≠ 0 ∨ cardBits card 0x98 0 64 ≠ 0 ∨
      (!mode1 ∧ (2 ^ 14 ≤ bitsN w 0 16 ∨ bitsN w 17 3 ≠ 0 ∨ !restZero card 0x94)) then none
  else some { JobPlan.plain 16 with after := true }

/-- The plan of arrive. -/
def arrivePlan (s : State) (card : Nat) : Option JobPlan :=
  if messageBad s card ∨ cardBits card 0x90 14 18 ≠ 0 ∨ cardBits card 0x94 0 32 = 0 ∨ !restZero card 0x98 then none
  else some { JobPlan.plain 16 with after := true }

/-- The plan of realign. -/
def realignPlan (card : Nat) : Option JobPlan :=
  if cardBits card 0x80 0 16 = 0 ∨ cardBits card 0x80 16 4 = 0 ∨ cardBits card 0x80 20 12 ≠ 0 ∨ !restZero card 0x84 then none
  else some (JobPlan.plain 16)

/-! ## Failed streams (R295, R322) -/

/-- A peer and stream are marked as failed in a context. -/
def Ctx.markFailed (x : Ctx) (peer stream : Nat) : Ctx :=
  if x.failedStreams.contains (peer, stream) then x
  else if x.failedStreams.length < 32 then { x with failedStreams := x.failedStreams ++ [(peer, stream)] }
  else { x with allFailed := true }

/-- Is a stream failed for a context? -/
def Ctx.streamFailed (x : Ctx) (peer stream : Nat) : Bool := x.allFailed || x.failedStreams.contains (peer, stream)

/-- STREAM_ABORT goes to the peer of a stream, with the sender's count: at payload bytes 0 and 8, the count and the stream (R495, log entry
84); a removed module sends none (R507). -/
def State.sendAbort (s : State) (peer stream : Nat) : State :=
  if s.fab.removed then s
  else s.sendOpen none 7 peer (Store.get 0 s.fab.counts (streamKey peer stream) + 2 ^ 64 * stream) 0

/-- A message job ends; an msend that failed marks its stream, and one lost with a port after it was placed tells its peer (R295, R495). -/
def State.messageEnd (s : State) (c : Nat) (o : EngOp) (st : Nat) : State :=
  let send := match o.instr with
    | .msend _ => true
    | _ => false
  let s := if send && st == 6 && o.begun then s.sendAbort (mPeer o.card) (mStream o.card) else s
  let s := if send && (st == 4 || st == 5 || st == 6 || st == 8) then
      s.modCtx c fun x => x.markFailed (mPeer o.card) (mStream o.card)
    else s
  s.jobEnd c o st

/-! ## Beginning (R291, R481) -/

/-- FORCE of enq and arrive, whose other forms have none. -/
def forced : Instr → Bool
  | .enq o => o.sub.getLsbD 0
  | .arrive o => o.sub.getLsbD 0
  | _ => false

/-- Flits of a message: an enq and an arrive are one flit each (R479). -/
def flitCount (i : Instr) (card : Nat) : Nat :=
  match i with
  | .msend _ => ceilDiv (msLen card) 232
  | _ => 1

/-- The status with which a message job ends before anything is placed, 0 where none of its conditions holds. A job on a failed stream is not
placed at all (R295, R355); of the conditions of placing, the lowest code (R277, R291, R470, R494, R506, R507; log entry 86). -/
def State.messageStop (s : State) (c : Nat) (o : EngOp) : Nat :=
  let card := o.card
  let send := match o.instr with
    | .msend _ => true
    | _ => false
  if !send && !forced o.instr && (s.ctx c).streamFailed (mPeer card) (mStream card) then 7
  else if s.windowPassed (mLate card) then 4
  else if s.fab.timing = .nosync ∨ s.pow.stage < 5 then 5
  else if s.allFenced then 6
  else if (s.placesFor (mPeer card) (mEarly card) (mLate card) (flitCount o.instr card)).isNone then 4
  else if s.fab.removed || !s.fab.members.contains (mPeer card) then 8
  else 0

/-- Does an earlier message job of the context to the same peer and stream wait to be placed (R294)? -/
def Ctx.messageBefore (x : Ctx) (o : EngOp) : Bool :=
  x.eng.any fun p => decide (p.id < o.id) && isMessage p.instr && !p.begun && mPeer p.card == mPeer o.card && mStream p.card == mStream o.card

/-- A flit of a message of this module. -/
def State.flitOf (s : State) (card cls tag ofs len : Nat) (payload : Nat) : Flit :=
  { stamp := 0, ofs := ofs % 2 ^ 32, src := s.fab.selfId, dst := mPeer card, tag := tag, cls := cls, rsv := 0, fwd := false
    tstate := s.fab.timing.code, len := len - 1, payload := BitVec.ofNat 1920 payload }

/-- The flits of an msend of the bytes of `v`: 232 data bytes each, behind their window offset (R479). -/
def State.dataFlits (s : State) (card v : Nat) : List Flit :=
  let n := msLen card
  let count := Store.get 0 s.fab.counts (streamKey (mPeer card) (mStream card))
  (List.range (ceilDiv n 232)).map fun i =>
    let k := min 232 (n - 232 * i)
    s.flitOf card 4 (mStream card) (count + 232 * i) (8 + k)
      ((cardBits card 0x98 0 64 + 232 * i) % 2 ^ 64 + 2 ^ 64 * bitsN v (8 * 232 * i) (8 * k))

/-- The flit of an enq or arrive: the DATA count, and the card's own fields behind it (R294, R479, log entry 15). -/
def State.controlFlit (s : State) (card cls n : Nat) : Flit :=
  let count := Store.get 0 s.fab.counts (streamKey (mPeer card) (mStream card))
  s.flitOf card cls (Store.get 0 s.fab.msgNo (mPeer card)) 0 (16 + n)
    (count + 2 ^ 64 * mStream card + 2 ^ 128 * bitsN card (8 * 0x90) (8 * n))

/-- A message job is placed, or ends where its flits find no place. -/
def State.placeMessage (s : State) (c : Nat) (o : EngOp) (flits : List Flit) (f : Fabric → Fabric) : State :=
  match s.placesFor (mPeer o.card) (mEarly o.card) (mLate o.card) flits.length with
  | none => s.messageEnd c o 4
  | some l => ((s.reserve (some (c, o.id)) l flits).modFab f).modCtx c fun x => x.modEng o.id fun p => { p with begun := true }

/-- An enq or arrive releases the task counter at the peer at fab scope, before its message goes (R279, R397). -/
def State.releaseCounter (s : State) (c : Nat) (o : EngOp) : State :=
  match s.releasedBy o with
  | some (sc, obj) => s.releaseObj c sc obj
  | none => s

/-- A message job begins. -/
def State.messageBegin (s : State) (c : Nat) (o : EngOp) : State :=
  let card := o.card
  let next := fun (f : Fabric) => { f with
    msgNo := Store.put f.msgNo (mPeer card) ((Store.get 0 f.msgNo (mPeer card) + 1) % 2 ^ 16) }
  if (s.ctx c).messageBefore o then s
  else if s.messageStop c o ≠ 0 then s.messageEnd c o (s.messageStop c o)
  else
    match o.instr with
    | .msend _ =>
      let p := (s.ctx c).placeOf card (msSrc card) (msSrc card) false
      (match s.placeStop c { o with scope := 3 } p (msLen card) false with
       | some (.page w u a) => s.jobHold c o w u a
       | some (.ends st) => s.messageEnd c o st
       | none =>
         let (v, s) := s.placeRead c { o with scope := 3 } p (msLen card)
         s.placeMessage c o (s.dataFlits card v) fun f =>
           let k := streamKey (mPeer card) (mStream card)
           { f with counts := Store.put f.counts k ((Store.get 0 f.counts k + msLen card) % 2 ^ 64) })
    | .enq _ => (s.releaseCounter c o).placeMessage c o [s.controlFlit card 5 112] next
    | _ => (s.releaseCounter c o).placeMessage c o [s.controlFlit card 6 8] next

/-! ## The peer's acknowledgement (R291) -/

/-- The statuses a peer may answer with (R292 to R294, R489). -/
def peerStatuses (i : Instr) (card : Nat) : List Nat :=
  match i with
  | .msend _ => [0, 8]
  | .enq _ => if cardBits card 0x90 16 1 = 1 then [0, 0x0F, 0x10, 8] else [0, 0x0E, 8]
  | _ => [0, 0x0E, 8]

/-- A message job runs: it begins, and once its flits are out it ends with the answer of its peer, which is the peer's to choose and comes
when it comes (a free value). -/
def State.messageRun (s : State) (c : Nat) (o : EngOp) : State :=
  match o.answer with
  | some st => s.messageEnd c o st
  | none =>
    if !o.begun then s.messageBegin c o
    else if s.flitsOut (c, o.id) then s
    else
      let v := s.free
      let s := s.spend
      if v % 2 = 0 then s
      else
        let l := peerStatuses o.instr o.card
        s.messageEnd c o (l.getD (v / 2 % l.length) 0)

/-! ## realign (R302, R488) -/

/-- realign runs: its exchange goes on slot by slot; of what it kept, the trim applies at the next frame boundary, where the job ends. -/
def State.realignRun (s : State) (c : Nat) (o : EngOp) : State :=
  let j := (c, o.id)
  let gone := fun (t : State) => t.modFab fun f => { f with samples := f.samples.filter fun e => !(e.1 == j) }
  match o.answer with
  | some st => s.jobEnd c o st
  | none =>
    if !o.begun then (gone s).modCtx c fun x => x.modEng o.id fun p => { p with begun := true }
    else if o.pos = 1 ∨ !s.samplesDone j (cardBits o.card 0x80 0 16) (cardBits o.card 0x80 16 4) then s
    else
      let l := s.kept j
      let s := gone s
      if s.fab.timing = .nosync ∨ l = [] then s.jobEnd c o 5
      else if s.fab.timing = .locked then s.jobEnd c o 0
      else (s.modFab fun f => { f with trimNext := f.trimNext + trimOf l }).modCtx c fun x => x.modEng o.id fun p => { p with pos := 1 }

/-! ## The forms -/

/-- msend. -/
noncomputable def execMsend (o : EJ) (s : State) : Out := issueOp (.msend o) (jobIssue (.msend o) o 11 false msendPlan) s
/-- enq. -/
noncomputable def execEnq (o : EJ) (s : State) : Out := issueOp (.enq o) (jobIssue (.enq o) o 16 false enqPlan) s
/-- arrive. -/
noncomputable def execArrive (o : EJ) (s : State) : Out := issueOp (.arrive o) (jobIssue (.arrive o) o 10 false arrivePlan) s
/-- realign. -/
noncomputable def execRealign (o : EJ) (s : State) : Out :=
  issueOp (.realign o) (jobIssue (.realign o) o 9 false fun _ card => realignPlan card) s

end Sys2Proof.Machine
end

