-- ==== Sys2Proof/Machine/Groups.lean ====
section
/-! DEFINITION. Pool groups: grpset, gred and gmld, the group table, and the completion of a phase (R101, R287 to R290, R518). What other
modules register and contribute is theirs: free values. -/

namespace Sys2Proof.Machine

/-! ## The group table (R518) -/

/-- LEN, RFMT, ROP, ROFF and NMEM of a group as one number, not zero. -/
def groupEntry (len rfmt rop roff nmem : Nat) : Nat :=
  len + 2 ^ 32 * rfmt + 2 ^ 40 * rop + 2 ^ 64 * roff + 2 ^ 128 * nmem + 2 ^ 144

/-- The key of a group of an address space. -/
def groupKey (asid gid : Nat) : Nat := 2 ^ 32 * asid + gid

/-- The table's entry of a group, 0 where it has none. -/
def State.groupOf (s : State) (key : Nat) : Nat :=
  match s.fe.groups.find? fun e => e.1 == key with
  | some (_, len, rfmt, rop, roff, nmem) => groupEntry len rfmt rop roff nmem
  | none => 0

/-- LEN of an entry. -/
def geLen (e : Nat) : Nat := bitsN e 0 32
/-- RFMT of an entry. -/
def geFmt (e : Nat) : Nat := bitsN e 32 5
/-- ROP of an entry. -/
def geRop (e : Nat) : Nat := bitsN e 40 3
/-- ROFF of an entry. -/
def geOff (e : Nat) : Nat := bitsN e 64 64
/-- Is it an entry? -/
def geHas (e : Nat) : Bool := bitsN e 144 1 == 1
/-- Bytes of a phase's results. -/
def geBytes (e : Nat) : Nat := 4 * geLen e / rfmtBytes (geFmt e)

/-- A group as the pool holds it. -/
def State.group (s : State) (key : Nat) : Option Group := (s.pool.groups.find? fun e => e.1 == key).map (·.2)
/-- Replace a group. -/
def State.setGroup (s : State) (key : Nat) (g : Group) : State := { s with pool := { s.pool with groups := Store.put s.pool.groups key g } }

/-! ## Plans -/

/-- GID of gred and gmld. -/
def gGid (card : Nat) : Nat := cardBits card 0x88 0 32
/-- SRC of gred, DST of gmld. -/
def gPlace (card : Nat) : CardAddr := localAddr (cardBits card 0x80 0 64) 0

/-- NMEM of grpset. -/
def gsNmem (card : Nat) : Nat := cardBits card 0x84 0 16
/-- MYIDX. -/
def gsIdx (card : Nat) : Nat := cardBits card 0x84 16 16
/-- RFMT. -/
def gsFmt (card : Nat) : Nat := cardBits card 0x88 0 5
/-- LEN. -/
def gsLen (card : Nat) : Nat := cardBits card 0x8C 0 32
/-- ROFF. -/
def gsOff (card : Nat) : Nat := cardBits card 0x90 0 64
/-- MLIST. -/
def gsList (card : Nat) : CardAddr := localAddr (cardBits card 0x98 0 64) 0

/-- The plan of grpset (R287). -/
def grpsetPlan (k card : Nat) : Option JobPlan :=
  let n := gsNmem card
  let len := gsLen card
  if n < 1 ∨ 1024 < n ∨ n ≤ gsIdx card ∨ cardBits card 0x88 8 24 ≠ 0 ∨ 2 < cardBits card 0x88 5 3 ∨ 2 < gsFmt card ∨
      len % 128 ≠ 0 ∨ len < 128 ∨ 2 ^ 24 < len ∨ !restZero card 0xA0 then none
  else some { JobPlan.plain 16 with
    fixed := [{ field := gsList card, at_ := gsList card, len := 2 * n, wr := false }]
    kN := k
    rights := 0x1B
    ranges := [((gsOff card : Int), 4 * len / rfmtBytes (gsFmt card))] }

/-- The most recent gred to a group among the operations in flight. -/
def lastGred (x : Ctx) (gid : Nat) : Option EngOp :=
  x.eng.foldl (fun n o => match o.instr with
    | .gred _ => if gGid o.card = gid then some o else n
    | _ => n) none

/-- What a gmld keeps of the gred that it follows (R289): the number plus 1 of one that has still to contribute, and otherwise the phase count after
the latest one, which has contributed or left its queue. -/
def gredBefore (x : Ctx) (gid : Nat) : Nat × Nat :=
  match lastGred x gid with
  | some o => if o.begun then (0, o.pos) else (o.id + 1, 0)
  | none => (0, Store.get 0 x.greds gid)

/-- The plan of gred and gmld: with no entry, 16 bytes and no access (R518). A gmld keeps the gred of its context that it follows, or that one's
phase where it has contributed (R289). -/
def groupPlan (red : Bool) (k : Nat) (s : State) (card : Nat) : Option JobPlan :=
  if cardBits card 0x8C 0 32 ≠ 0 ∨ !restZero card 0x90 then none
  else
    let key := groupKey s.pre.asid (gGid card)
    let e := s.groupOf key
    let (link, past) := gredBefore s.now (gGid card)
    let p := { JobPlan.plain 16 with
      kN := k
      rights := if red then 0x18 else 0x11
      vec := e + (if red then 0 else 2 ^ 160 * link + 2 ^ 224 * past) }
    if !geHas e then some p
    else
      let n := if red then geLen e else geBytes e
      some { p with
        total := n
        fixed := [{ field := gPlace card, at_ := gPlace card, len := n, wr := !red }] }

/-! ## grpset (R287) -/

/-- The contexts of an address space forget the greds to a group, which is armed anew (R289). -/
def State.forgetGreds (s : State) (asid gid : Nat) : State :=
  { s with ctxs := s.ctxs.map fun e => if e.2.asid = asid then (e.1, { e.2 with greds := Store.del e.2.greds gid }) else e }

/-- How a phase of a group ended: its status, and its results where it completed; one after the phase that lost a member ends with PEER_LOST (R290). -/
def Group.outcome (g : Group) (phase : Nat) : Nat × Option Nat :=
  if Store.has g.done phase then (Store.get 0 g.done phase, some (Store.get 0 g.results phase)) else (9, none)

/-- What a grpset or a gmld keeps above its card: the member list of a registered grpset, the results of a gmld's phase as twice their value and 1. -/
def gsKept (card : Nat) : Nat := card / 2 ^ 2048

/-- The card, and above it what is kept. -/
def keepAbove (card v : Nat) : Nat := card % 2 ^ 2048 + 2 ^ 2048 * v

/-- What a gred or gmld to an armed group comes to where the group is armed anew while the job is in flight: its phase's outcome, which it keeps as its
answer, the results of a gmld above its card. One that has not contributed is past the phase that lost a member, unless it follows the grpset in its
context (R289, R290). -/
def EngOp.keepOutcome (o : EngOp) (g : Group) (gid : Nat) (follows : Bool) : EngOp :=
  if gGid o.card ≠ gid ∨ o.answer.isSome then o
  else match o.instr with
    | .gred _ =>
      if o.begun then { o with answer := some (g.outcome (o.pos - 1)).1 }
      else if follows ∨ g.lost.isNone then o
      else { o with answer := some 9 }
    | .gmld _ =>
      let phase := if o.pos ≠ 0 then o.pos else bitsN o.vec.toNat 224 64
      if phase ≠ 0 then { o with
        answer := some (g.outcome (phase - 1)).1
        card := keepAbove o.card (match (g.outcome (phase - 1)).2 with
          | some v => 2 * v + 1
          | none => 0) }
      else if follows ∨ g.lost.isNone ∨ bitsN o.vec.toNat 160 64 = 0 then o
      else { o with answer := some 9 }
    | _ => o

/-- The jobs in flight of a group that a grpset arms anew keep what their phases came to. -/
def State.keepOutcomes (s : State) (c id asid gid : Nat) : State :=
  match s.group (groupKey asid gid) with
  | some g => if g.armed then { s with ctxs := s.ctxs.map fun e =>
      if e.2.asid = asid then (e.1, { e.2 with eng := e.2.eng.map fun o => o.keepOutcome g gid (e.1 == c && decide (id < o.id)) }) else e } else s
  | none => s

/-- A group is armed for this member, and the table has its entry (R518). -/
def State.armGroup (s : State) (c : Nat) (o : EngOp) (mlist : List Nat) : State :=
  let card := o.card
  let gid := cardBits card 0x80 0 32
  let key := groupKey (s.ctx c).asid gid
  (((s.keepOutcomes c o.id (s.ctx c).asid gid).forgetGreds (s.ctx c).asid gid).setGroup key
    { armed := true, cap := o.cap, myIdx := gsIdx card, mlist := mlist, phase := 0, lost := none, gone := [], contribs := [], done := []
      results := [] }).modFe fun f => { f with
    groups := Store.put f.groups key (gsLen card, gsFmt card, cardBits card 0x88 5 3, gsOff card, gsNmem card) }

/-- May a group be set up anew: it is not armed, or its last phase completed with PEER_LOST? -/
def Group.mayArm (g : Group) : Bool :=
  !g.armed || match g.lost with
    | some p => Store.has g.done p
    | none => false

/-- Do two grpset cards say the same of a group but for MYIDX (R287)? -/
def gsAgree (a b : Nat) : Bool :=
  cardBits a 0x80 0 32 == cardBits b 0x80 0 32 && gsNmem a == gsNmem b && cardBits a 0x88 0 8 == cardBits b 0x88 0 8 &&
  gsLen a == gsLen b && gsOff a == gsOff b

/-- Does a grpset disagree with one of this module that is registered and whose group is not armed yet (R287)? -/
def State.gsClash (s : State) (c : Nat) (o : EngOp) (v : Nat) : Bool :=
  s.ctxs.any fun e => e.2.asid == (s.ctx c).asid && e.2.eng.any fun p =>
    p.begun && !(e.1 == c && p.id == o.id) &&
    (match p.instr with
     | .grpset _ => cardBits p.card 0x80 0 32 == cardBits o.card 0x80 0 32 && !(gsAgree p.card o.card && gsKept p.card == v && capObj p.cap == capObj o.cap)
     | _ => false)

/-- grpset runs: alone, the member arms the group; with others it waits for the pool, whose answer is a free value, or for the removal of a listed
member, which ends it; one that lists a module which is no member ends so too (R508; log entry 105). -/
def State.grpsetRun (s : State) (c : Nat) (o : EngOp) : State :=
  let card := o.card
  let key := groupKey (s.ctx c).asid (cardBits card 0x80 0 32)
  let p := (s.ctx c).placeOf card (gsList card) (gsList card) false
  if o.answer.isSome then s.jobEnd c o (o.answer.getD 0)
  else if s.poolFinding o.cap ≠ 0 then s.jobEnd c o (s.poolFinding o.cap)
  else if !Store.has s.fe.groups key ∧ 64 ≤ s.fe.groups.length then s.jobEnd c o 0x0A
  else match s.placeStop c o p (2 * gsNmem card) false with
    | some (.page w u a) => s.jobHold c o w u a
    | some (.ends st) => s.jobEnd c o st
    | none =>
      let (v, s) := if o.begun then (gsKept card, s) else s.placeRead c o p (2 * gsNmem card)
      let mlist := (List.range (gsNmem card)).map fun i => bitsN v (16 * i) 16
      if mlist.getD (gsIdx card) 0 ≠ s.fab.selfId ∨ s.gsClash c o v ∨ mlist.any (fun m => m != s.fab.selfId && !s.fab.members.contains m) then
        s.jobEnd c o 0x0A
      else if (match s.group key with
        | some g => !g.mayArm
        | none => false) then s.jobEnd c o 0x0A
      else if gsNmem card = 1 then (s.armGroup c o mlist).jobEnd c o 0
      else
        let w := s.free
        let s := s.spend
        if w % 2 = 0 then s.modCtx c fun x => x.modEng o.id fun q => { q with
            begun := true
            card := keepAbove q.card v }
        else if w / 2 % 2 = 0 then s.jobEnd c o 0x0A
        else (s.armGroup c o mlist).jobEnd c o 0

/-! ## A phase (R101, R288, R290) -/

/-- The fold of an element: contributions in member order, as FP32 codes (R101). -/
def foldElem (rop : Nat) : List Nat → Nat
  | [] => 0
  | c :: l => l.foldl (fun r x =>
      match rop with
      | 1 => fminmax fp32 true r x
      | 2 => fminmax fp32 false r x
      | _ => (faddCode r x).bits) c

/-- RFMT of a contribution. -/
def rfmtOf (code : Nat) : Fmt := if code = 1 then fp16 else if code = 2 then bf16 else fp32

/-- The members whose contributions a phase folds (R101, R290): all, but that the phase current at a removal leaves out a removed member whose
contribution had not reached the pool by then, which is the fabric's to decide (a free value for each member). -/
def State.phaseMembers (s : State) (g : Group) (phase : Nat) : List Nat :=
  (List.range g.mlist.length).filter fun m =>
    !(g.lost == some phase && g.gone.contains m && m != g.myIdx && !(Config.freeWord (s.freeCtr + m)).getLsbD 0)

/-- The contributions of some members to element `i` of a phase: this module's own; any other member's is its own to choose (a free value). -/
def State.phaseElem (s : State) (g : Group) (members : List Nat) (e own : Nat) (i : Nat) : List Nat :=
  let w := rfmtBytes (geFmt e)
  members.map fun m =>
    widen (rfmtOf (geFmt e)) (if m = g.myIdx then bitsN own (8 * w * i) (8 * w)
      else (Config.freeWord (s.freeCtr + i * g.mlist.length + m)).toNat % 2 ^ (8 * w))

/-- GROUP_PHASE_COMPLETE (R288, R290): a phase to which this member has contributed completes, unless an earlier one lost a member; its results
are at the pool, not provisional, and in covering frames (R421). -/
def execGroupPhaseComplete (asid gid phase : Nat) (lost : Bool) (s : State) : Out :=
  let key := groupKey asid gid
  let e := s.groupOf key
  match s.group key with
  | none => .next s
  | some g =>
    if !g.armed ∨ Store.has g.done phase ∨ !Store.has g.contribs phase ∨ !geHas e ∨ g.lost.any (· < phase) then .next s
    else
      let n := geLen e / rfmtBytes (geFmt e)
      let own := Store.get 0 g.contribs phase
      let gone := if lost && g.lost.isNone then some phase else g.lost
      let members := s.phaseMembers { g with lost := gone } phase
      let s := { s with freeCtr := s.freeCtr + g.mlist.length }
      let v := packCodes 32 ((List.range n).map fun i => foldElem (geRop e) (s.phaseElem g members e own i))
      let s := { s with freeCtr := s.freeCtr + n * g.mlist.length }
      let s := s.setGroup key { g with
        lost := gone
        contribs := Store.del g.contribs phase
        done := Store.put g.done phase (if gone = some phase then 9 else 0)
        results := Store.put g.results phase v }
      let s := match s.poolObj (capObj g.cap) with
        | some p => s.setPoolObj (capObj g.cap) { p with
            cur := Memory.writeLE p.cur (geOff e) (4 * n) v
            com := Memory.writeLE p.com (geOff e) (4 * n) v }
        | none => s
      .next (s.frameWrite g.cap (geOff e) (4 * n) v).reFrame

/-- A gred leaves its queue: its context keeps the phase count after it, for the gmlds that follow (R289). -/
def State.gredEnd (s : State) (c : Nat) (o : EngOp) (count status : Nat) : State :=
  (s.jobEnd c o status).modCtx c fun x => { x with greds := Store.set 0 x.greds (gGid o.card) count }

/-- A contribution of this member, which releases the regions bound to the group at fab scope (R397); the gmlds that follow it learn its
phase. -/
def State.contributePhase (s : State) (c : Nat) (o : EngOp) (key : Nat) (g : Group) (v : Nat) : State :=
  ((s.releaseObj c 3 { kind := 4, at_ := gGid o.card, obj := 0 }).setGroup key { g with
    phase := g.phase + 1
    contribs := Store.put g.contribs g.phase v }).modCtx c fun x => { x with
    eng := x.eng.map fun p =>
      if p.id = o.id then { p with
        begun := true
        pos := g.phase + 1 }
      else match p.instr with
        | .gmld _ => if bitsN p.vec.toNat 160 64 = o.id + 1 then { p with pos := g.phase + 1 } else p
        | _ => p }

/-- gred runs (R288). -/
def State.gredRun (s : State) (c : Nat) (o : EngOp) : State :=
  let key := groupKey (s.ctx c).asid (gGid o.card)
  let e := o.vec.toNat
  let before := (s.ctx c).eng.any fun p => decide (p.id < o.id) && !p.begun && (match p.instr with
    | .gred _ => gGid p.card == gGid o.card
    | _ => false)
  if o.answer.isSome then s.jobEnd c o (o.answer.getD 0)
  else match s.group key with
  | none => if before then s else s.jobEnd c o 0x0A
  | some g =>
    if o.begun then
      (if Store.has g.done (o.pos - 1) then s.gredEnd c o o.pos (Store.get 0 g.done (o.pos - 1))
       else if g.lost.any fun q => decide (q < o.pos - 1) then s.gredEnd c o o.pos 9
       else if g.phase < o.pos then s.jobEnd c o 0x0A else s)
    else if before then s
    else if !geHas e then s.jobEnd c o 0x0A
    else if s.poolFinding o.cap ≠ 0 then s.jobEnd c o (s.poolFinding o.cap)
    else if g.armed && g.lost.any fun q => decide (q < g.phase) then s.gredEnd c o (g.phase + 1) 9
    else if !g.armed ∨ capObj g.cap ≠ capObj o.cap then s.jobEnd c o 0x0A
    else
      let p := (s.ctx c).placeOf o.card (gPlace o.card) (gPlace o.card) false
      match s.placeStop c o p (geLen e) false with
      | some (.page w u a) => s.jobHold c o w u a
      | some (.ends st) => s.jobEnd c o st
      | none =>
        let (v, s) := s.placeRead c o p (geLen e)
        s.contributePhase c o key g v

/-- The results of a phase are written, and a gmld ends with its status, which acquires the regions bound to the group at fab scope (R397). -/
def State.gmldWrite (s : State) (c : Nat) (o : EngOp) (status v : Nat) : State :=
  let p := (s.ctx c).placeOf o.card (gPlace o.card) (gPlace o.card) true
  match s.tryWrite c o p (geBytes o.vec.toNat) v with
  | .error (.page w u a) => s.jobHold c o w u a
  | .error (.ends st) => s.jobEnd c o st
  | .ok s => (s.jobEnd c o status).acquireObj c 3 { kind := 4, at_ := gGid o.card, obj := 0 }

/-- gmld runs (R289, R290). -/
def State.gmldRun (s : State) (c : Nat) (o : EngOp) : State :=
  let e := o.vec.toNat
  let link := bitsN e 160 64
  let phase := if o.pos ≠ 0 then o.pos else bitsN e 224 64
  if o.answer.isSome then
    (if gsKept o.card % 2 = 1 then s.gmldWrite c o (o.answer.getD 0) (gsKept o.card / 2) else s.jobEnd c o (o.answer.getD 0))
  else match s.group (groupKey (s.ctx c).asid (gGid o.card)) with
  | none => s.jobEnd c o 0x0A
  | some g =>
    if !geHas e then s.jobEnd c o 0x0A
    else if s.poolFinding o.cap ≠ 0 then s.jobEnd c o (s.poolFinding o.cap)
    else if !g.armed then s.jobEnd c o 0x0A
    else if phase = 0 then
      (if (s.ctx c).eng.any fun p => p.id + 1 == link then s
       else s.jobEnd c o (if link ≠ 0 ∧ g.lost.isSome then 9 else 0x0A))
    else if Store.has g.done (phase - 1) then s.gmldWrite c o (Store.get 0 g.done (phase - 1)) (Store.get 0 g.results (phase - 1))
    else if g.lost.any fun q => decide (q < phase - 1) then s.jobEnd c o 9
    else if g.phase < phase then s.jobEnd c o 0x0A
    else s

/-- A group loses a member (R290): the phase that is current, the first that has not completed, is the last; a member removed while that
phase is still open leaves it too. -/
def Group.lose (g : Group) (id : Nat) : Group :=
  let cur := g.lost.getD (((List.range (g.phase + 1)).find? fun p => !Store.has g.done p).getD g.phase)
  if g.armed && g.mlist.contains id && !Store.has g.done cur then { g with
    lost := some cur
    gone := g.gone ++ (List.range g.mlist.length).filter fun m => g.mlist.getD m 0 == id }
  else g

/-- Does a grpset that waits for its group to be armed list a module (R508)? -/
def EngOp.awaits (o : EngOp) (id : Nat) : Bool :=
  o.begun && match o.instr with
    | .grpset _ => (List.range (gsNmem o.card)).any fun i => bitsN (gsKept o.card) (16 * i) 16 == id
    | _ => false

/-- A member leaves the module's groups; a grpset that waits and lists it is answered with GROUP_ERROR (R290, R508). -/
def State.loseMember (s : State) (id : Nat) : State :=
  { s with
    pool := { s.pool with groups := s.pool.groups.map fun e => (e.1, e.2.lose id) }
    ctxs := s.ctxs.map fun e => (e.1, { e.2 with eng := e.2.eng.map fun o => if o.awaits id then { o with answer := some 0x0A } else o }) }

/-- grpset. -/
noncomputable def execGrpset (o : EJ) (s : State) : Out :=
  issueOp (.grpset o) (jobIssue (.grpset o) o 10 false fun _ card => grpsetPlan o.k.toNat card) s
/-- gred. -/
noncomputable def execGred (o : EJ) (s : State) : Out := issueOp (.gred o) (jobIssue (.gred o) o 9 false (groupPlan true o.k.toNat)) s
/-- gmld. -/
noncomputable def execGmld (o : EJ) (s : State) : Out := issueOp (.gmld o) (jobIssue (.gmld o) o 9 false (groupPlan false o.k.toNat)) s

end Sys2Proof.Machine
end

