-- ==== Sys2Proof/Machine/Leases.lean ====
section
/-! DEFINITION. Leases (R422 to R425), pool-cache frames (R414, R419, R420), the route sheet (R426 to R428, R374), the lacq and lrel jobs
(R301), and the ROUTE, QUOTA and CONFIG packets (R416, R440). -/

namespace Sys2Proof.Machine

/-! ## The route sheet (R426) -/

/-- An entry of a sheet as it stands in memory. -/
structure RouteEntry where
  cap : Word128
  off : Nat
  len : Nat
  recid : Nat
  wlease : Bool
  tier : Nat
  kind : Nat
  ok : Bool
deriving DecidableEq, Repr

/-- Entry i of a sheet at an intermediate address, with its own rules checked. -/
def State.routeEntry (s : State) (ia i : Nat) : RouteEntry :=
  let v := s.homeRead (ia + 0x40 + 64 * i) 64
  let w := bitsN v (8 * 0x1C) 32
  let off := bitsN v (8 * 0x10) 64
  let len := bitsN v (8 * 0x18) 32
  let kind := bitsN w 0 3
  { cap := BitVec.ofNat 128 v, off := off, len := len, recid := bitsN w 16 16, wlease := bitsN w 8 1 = 1, tier := bitsN w 4 2, kind := kind
    ok := bitsN w 9 7 == 0 && bitsN w 6 2 == 0 && bitsN w 3 1 == 0 && decide (bitsN w 4 2 ≤ 1) && bitsN v (8 * 0x20 + 18) 46 == 0 &&
      bitsN v (8 * 0x28) 192 == 0 &&
      (if kind = 0 then off % 0x10000 == 0 && len % 0x10000 == 0 && len != 0 && bitsN w 16 16 == 0
       else kind == 1 && off % 256 == 0 && len == 256) }

/-! ## Frames (R414, R416, R419, R420) -/

/-- A frame. -/
def State.frame (s : State) (f : Nat) : PoolFrame := Store.get PoolFrame.reset s.fe.frames f

/-- FRAME_EVICT (R420): VALID clears, and the LLC keeps nothing of the frame's lines. -/
def State.evictFrame (s : State) (f : Nat) : State :=
  let x := s.frame f
  if !x.valid then s
  else
    let s := s.modQuota x.cls fun q => { q with uhbmp := q.uhbmp - 1 }
    (s.modFe fun e => { e with frames := Store.del e.frames f }).llcForget (frameIa f) 0x10000

/-- Evict the frames that `p` names. -/
def State.evictFrames (s : State) (p : Nat × PoolFrame → Bool) : State :=
  (s.fe.frames.filter p).foldl (fun t e => t.evictFrame e.1) s

/-- Has an access or job sent the pool a write that the pool has not answered? A suspended one has its answer. -/
def State.isSent (s : State) (j : Nat × Nat) (suspended : Bool) : Bool := !suspended && s.fab.sent.contains j

/-- Is a write of the module to bytes of an object sent and not yet acknowledged by the pool: of a store or atomic, one that a frame shows, of a
job or a drain, or of a milestone's record write-backs (R414, R424)? With a token, of those that carry it. -/
def State.writesOut (s : State) (obj lo len : Nat) (token : Option Nat) : Bool :=
  let meets := fun (k : Word128) (off n : Nat) =>
    capObj k == obj && decide (off < lo + len) && decide (lo < off + n) && token.all (· == capToken k)
  s.ctxs.any (fun e =>
    e.2.units.any (fun u => u.isStore && (s.isSent (e.1, u.id) u.suspended || (u.framed && !u.suspended)) && match u.target with
      | .pool k off => meets k off u.size
      | _ => false) ||
    e.2.eng.any fun o => s.isSent (e.1, o.id) o.suspended && o.regions.any fun f =>
      f.2.wr && meets f.1 f.2.base f.2.len) ||
  s.fe.milestones.any fun m => s.flitsOut (1027, m.1) && s.fe.sheets.any fun x =>
    x.1 == (m.1 / 2 ^ 64, m.2.step) && (List.range x.2.count).any fun i =>
      let r := s.routeEntry x.2.ia i
      r.ok && r.kind == 1 && meets r.cap r.off 256

/-- Evict frames in turn, up to the first that holds a write not yet acknowledged by the pool. -/
def State.evictTo (s : State) : List (Nat × PoolFrame) → State
  | [] => s
  | e :: l => if s.writesOut e.2.obj e.2.off 0x10000 (some e.2.token) then s else (s.evictFrame e.1).evictTo l

/-- The partition goes to the size that was set: a larger one at once, a smaller one when the frames beyond it are evicted, highest first, which
wait for the pool's acknowledgement of their writes (R414). -/
def State.shrink (s : State) : State :=
  let beyond := fun (t : State) => t.fe.frames.filter fun e => decide (32 * t.fe.poolGoal ≤ e.1)
  let s := s.evictTo (beyond s).reverse
  if (beyond s).isEmpty then s.modFe fun f => { f with poolSize := f.poolGoal } else s

/-! ## The lease table (R422, R423) -/

/-- A lease. -/
def State.lease (s : State) (l : Nat) : Option Lease := (s.fe.leases.find? fun e => e.1 == l).map (·.2)
/-- Replace a lease. -/
def State.setLease (s : State) (l : Nat) (x : Lease) : State := s.modFe fun f => { f with leases := Store.put f.leases l x }
/-- A lease ends, or is released: its frames are evicted, and its entry is free. -/
def State.dropLease (s : State) (l : Nat) : State :=
  (s.evictFrames fun e => e.2.lease == l).modFe fun f => { f with leases := Store.del f.leases l }
/-- The lowest free entry of the table. -/
def State.freeLease (s : State) : Option Nat := Store.lowestFree s.fe.leases 4096 0

/-- A CTRL message of a lease to the pool: a request, a release, the answer to a recall (R424, R491, R497); a removed module sends none
(R507). -/
def State.leaseMessage (s : State) (job : Option (Nat × Nat)) (cap : Word128) (off : Nat) (step : Word) : State :=
  if s.fab.removed then s else s.sendOpen job 7 (s.poolNode (capObj cap)) (poolBody cap off step 0) 0

/-- The key of the message that releases a lease in the present slot. -/
def State.releaseKey (s : State) (l : Nat) : Nat := 4096 * s.fab.slot.toNat + l

/-- The slot in which a lease lapses at the pool: 2 ms after its grant or renewal (R423). -/
def Lease.lapseSlot (x : Lease) : Nat := (x.granted + slotsOf 2000000) % 2 ^ 32

/-- A lease is released: it ends, and the pool is told (R424, R425, R491). At the pool it lapses still, should that message not come in time (R502). -/
def State.releaseLease (s : State) (l : Nat) : State :=
  match s.lease l with
  | some x =>
    let t := (s.dropLease l).leaseMessage (some (1029, s.releaseKey l)) x.cap x.off ((x.sheet.map (·.1)).getD 0)
    { t with pool := { t.pool with ending := (s.releaseKey l, x.lapseSlot) :: t.pool.ending } }
  | none => s

/-- Who waits for a lease request: the job that made it, or the lease's entry. -/
def Lease.asker (x : Lease) (l : Nat) : Nat × Nat := x.job.getD (1025, l)

/-- Ask the pool for a lease: the entry it takes, and the request, with the step tag of its tile, or the step of its sheet (R497, log entry
84). -/
def State.askLease (s : State) (l asid : Nat) (cap : Word128) (off len : Nat) (write : Bool) (job : Option (Nat × Nat))
    (sheet : Option (Word × Nat)) (step : Word) : State :=
  let now := s.fab.slot.toNat
  let x : Lease := { state := .asked, asid := asid, cap := cap, off := off, len := len, write := write, sent := now, out := now
                     granted := now, job := job, sheet := sheet }
  (s.setLease l x).leaseMessage (some (x.asker l)) cap off step

/-- Does a held lease cover a range for an address space, of the kind asked or a wider one? -/
def Lease.covers (x : Lease) (asid : Nat) (cap : Word128) (off len : Nat) (write : Bool) : Bool :=
  x.state == .held && x.asid == asid && capObj x.cap == capObj cap && capToken x.cap == capToken cap && decide (x.off ≤ off) &&
  decide (off + len ≤ x.off + x.len) && (x.write || !write)

/-! ## lacq and lrel (R301) -/

/-- OFF. -/
def lqOff (card : Nat) : Nat := cardBits card 0x80 0 64
/-- LEN. -/
def lqLen (card : Nat) : Nat := cardBits card 0x88 0 32

/-- The plan of lacq and lrel. -/
def leasePlan (k card : Nat) : Option JobPlan :=
  if lqLen card = 0 ∨ !restZero card 0x8C then none
  else some { JobPlan.plain 16 with
    kN := k
    rights := 0x40
    ranges := [((lqOff card : Int), lqLen card)] }

/-- lacq runs: the request goes out, and the job ends with the pool's answer; a full table asks nothing (R422). -/
def State.lacqRun (s : State) (c : Nat) (o : EngOp) (write : Bool) : State :=
  match o.answer with
  | some st => s.jobEnd c o st
  | none =>
    if o.begun then s
    else if s.fab.removed then s.jobEnd c o 3
    else match s.freeLease with
      | none => s.jobEnd c o 0x11
      | some l =>
        (s.askLease l (s.ctx c).asid o.cap (lqOff o.card) (lqLen o.card) write (some (c, o.id)) none o.stepTag).modCtx c fun x =>
          x.modEng o.id fun p => { p with begun := true }

/-- lrel runs: it releases the module's leases that its range names exactly, of every address space. -/
def State.lrelRun (s : State) (c : Nat) (o : EngOp) : State :=
  let mine := fun (x : Lease) => capObj x.cap == capObj o.cap && x.off == lqOff o.card && x.len == lqLen o.card
  if s.poolFinding o.cap ≠ 0 then s.jobEnd c o (s.poolFinding o.cap)
  else ((s.fe.leases.filter fun e => e.2.state == .held && mine e.2).foldl (fun t e => t.dropLease e.1) s).jobEnd c o 0

/-- lacq. -/
noncomputable def execLacq (o : EJ) (s : State) : Out :=
  issueOp (.lacq o) (jobIssue (.lacq o) o 9 false fun _ card => leasePlan o.k.toNat card) s
/-- lrel. -/
noncomputable def execLrel (o : EJ) (s : State) : Out :=
  issueOp (.lrel o) (jobIssue (.lrel o) o 9 false fun _ card => leasePlan o.k.toNat card) s

/-! ## The prefetch engine (R420, R426, R427) -/

/-- May the prefetch engine read bytes: their leaf is valid and was accessed (R393)? -/
def State.prefetchOk (s : State) (ia n : Nat) : Bool :=
  (s.homeFault ia n false).isNone && match s.leafFor ia false with
    | some l => l.word.getLsbD 5
    | none => false

/-- The sheet of an address space and step. -/
def State.sheetOf (s : State) (asid : Nat) (step : Word) : Option Sheet := (s.fe.sheets.find? fun e => e.1 == (asid, step)).map (·.2)
/-- Replace a sheet. -/
def State.setSheet (s : State) (asid : Nat) (step : Word) (x : Sheet) : State :=
  s.modFe fun f => { f with sheets := f.sheets.filter (fun e => !(e.1 == (asid, step))) ++ [((asid, step), x)] }

/-- Does the sheet of a step name a record and its place? -/
def State.sheetNamesRec (s : State) (asid : Nat) (step : Word) (e : Nat × Word128 × Nat) : Bool :=
  match s.sheetOf asid step with
  | none => false
  | some x => (List.range x.count).any fun i =>
      let r := s.routeEntry x.ia i
      r.ok && r.kind == 1 && r.recid == e.1 && capObj r.cap == capObj e.2.1 && r.off == e.2.2

/-- The device writes STATE and CAUSE of an entry; bits [23:18] stay as they stand (R426). -/
def State.entryMark (s : State) (ia i state cause : Nat) : State :=
  let a := ia + 0x40 + 64 * i + 0x20
  s.homeWriteN a 3 (cause + 2 ^ 16 * (state + 4 * (s.homeRead (a + 2) 1 / 4)))

/-- STATE and CAUSE of an entry are written; a failed entry counts as a dropped prefetch, and one of a retried record entry stops the
dispatch of its step (R427, R428). -/
def State.entryDone (s : State) (asid : Nat) (step : Word) (i state cause : Nat) : State :=
  match s.sheetOf asid step with
  | none => s
  | some x =>
    let s := s.entryMark x.ia i state cause
    let stuck := state == 2 && x.retried.contains i && (s.routeEntry x.ia i).kind == 1
    let s := s.setSheet asid step { x with
      states := Store.put x.states i (state, cause)
      blocked := x.blocked || stuck }
    let s := if state = 2 then s.dropPrefetch 0 else s
    if stuck then s.postError 0x0030 i step.toNat else s

/-- The oldest step of an address space that has not committed: the least of its tasks' steps, CURSTEP without a task. -/
def State.oldestStep (s : State) (asid : Nat) : Word :=
  let cur := match s.fe.aspaces.find? fun e => e.1 == asid with
    | some (_, a) => a.curStep
    | none => 0
  s.fe.tasks.foldl (fun b e => if e.2.asid = asid ∧ e.2.step.toNat < b.toNat then e.2.step else b) cur

/-- Does the prefetch engine work on a step of an address space (R427)? -/
def State.prefetchable (s : State) (asid : Nat) (step : Word) : Bool :=
  let o := (s.oldestStep asid).toNat
  decide (o + 1 ≤ step.toNat) && decide (step.toNat ≤ o + 8)

/-- Does an entry of a sheet of a step to come name bytes that a frame holds (R420)? -/
def State.frameNamed (s : State) (x : PoolFrame) : Bool :=
  s.fe.sheets.any fun e => e.1.1 == x.asid && decide ((s.oldestStep x.asid).toNat ≤ e.1.2.toNat) &&
    (List.range e.2.count).any fun i =>
      let r := s.routeEntry e.2.ia i
      r.ok && r.kind == 0 && capObj r.cap == x.obj && decide (r.off ≤ x.off) && decide (x.off < r.off + r.len)

/-- The oldest fill of a class that no entry names. -/
def State.evictable (s : State) (cls : Nat) : Option Nat :=
  ((s.fe.frames.filter fun e => e.2.valid && e.2.cls == cls && !s.frameNamed e.2).foldl (fun (b : Option (Nat × PoolFrame)) e =>
    match b with
    | none => some e
    | some d => if e.2.filled < d.2.filled then some e else some d) none).map (·.1)

/-- A free frame for a class: within its limit and the partition. -/
def State.frameIn (s : State) (cls : Nat) : Option Nat :=
  if (s.quotaOf cls).uhbmp < 32 * (s.quotaOf cls).qhbmp then Store.lowestFree s.fe.frames (32 * min s.fe.poolSize s.fe.poolGoal) 0 else none

/-- Make room for a frame of a class, evicting `n` frames of it at most that no entry names, oldest fill first (R420). What was evicted stays so
where none is left to take: then the frame is none, QUOTA. -/
def State.frameRoom (s : State) (cls : Nat) : Nat → Option Nat × State
  | 0 => (s.frameIn cls, s)
  | n + 1 =>
    match s.frameIn cls, s.evictable cls with
    | some f, _ => (some f, s)
    | none, some v => (s.evictFrame v).frameRoom cls n
    | none, none => (none, s)

/-- Make room for a frame of a class. -/
def State.takeFrame (s : State) (cls : Nat) : Option Nat × State := s.frameRoom cls s.fe.frames.length

/-- A TIER 1 entry fills the lines of a frame of it into the LLC, charged to the class of its address space (R418, R427). -/
def State.tierFill (s : State) (asid : Nat) (r : RouteEntry) (f : Nat) : State :=
  if r.tier = 1 then (List.range 512).foldl (fun t i => t.llcFill (frameIa f / 128 + i) (s.classOf asid)) s else s

/-- Fill the frame of one page of an entry for a step, unless a VALID one holds it; false: QUOTA. The stores that frames show stand in it too
(R421). -/
def State.fillFrame (s : State) (asid lease : Nat) (step : Word) (r : RouteEntry) (off : Nat) : Bool × State :=
  match s.frameFor asid r.cap off 0x10000 with
  | some f => (true, s.tierFill asid r f)
  | none =>
    match s.takeFrame (s.classOf asid) with
    | (none, s) => (false, s)
    | (some f, s) =>
      let bytes := match s.poolObj (capObj r.cap) with
        | some o => Store.slice o.cur off 0x10000
        | none => []
      let s := s.modQuota (s.classOf asid) fun q => { q with uhbmp := q.uhbmp + 1 }
      (true, ((((s.modFe fun e => { e with
        frames := Store.put e.frames f { asid := asid, obj := capObj r.cap, off := off, token := capToken r.cap, lease := lease,
                                         cls := s.classOf asid, valid := true, bytes := bytes, filled := e.fills }
        fills := e.fills + 1 }).reFrame).poolSaw (capObj r.cap) step).tierFill asid r f))

/-- Fill the pages of an entry from number `i` on, until one finds no room. -/
def State.fillPages (s : State) (asid lease : Nat) (step : Word) (r : RouteEntry) : Nat → Nat → Bool × State
  | 0, _ => (true, s)
  | n + 1, i =>
    match s.fillFrame asid lease step r (r.off + 0x10000 * i) with
    | (true, t) => t.fillPages asid lease step r n (i + 1)
    | (false, t) => (false, t)

/-- An entry fails: the frames that it names are evicted (R420), and its cause is written. -/
def State.failEntry (s : State) (asid : Nat) (step : Word) (i : Nat) (r : RouteEntry) (cause : Nat) : State :=
  (s.evictFrames fun e => r.kind == 0 && e.2.asid == asid && e.2.obj == capObj r.cap && decide (r.off ≤ e.2.off) &&
    decide (e.2.off < r.off + r.len)).entryDone asid step i 2 cause

/-- A record is loaded from its place in the pool, closed half first (R374). Its POLICY is the byte that stands in the closed half, whatever its value and
the byte in the open half (log entry 108). -/
def State.fetchRecord (s : State) (asid : Nat) (step : Word) (r : RouteEntry) : State :=
  let v := match s.poolObj (capObj r.cap) with
    | some o => Memory.readLE o.cur r.off 256
    | none => 0
  (s.poolSaw (capObj r.cap) step).setRec r.recid {
    half0 := Half.ofBytes v, half1 := Half.ofBytes (v / 2 ^ 1024), open1 := true, policy := policyOf v, asid := asid
    origin := .route r.cap r.off, reload := false }

/-- A record entry loads its record (R374). One that its address space already holds from the same place is kept, unless the pool discarded the
step it served: then the committed copy is loaded (R375, R504). False: QUOTA. -/
def State.loadRecord (s : State) (asid : Nat) (step : Word) (r : RouteEntry) : Bool × State :=
  match s.records.find? fun e => e.1 == r.recid with
  | some (_, x) =>
    (match x.origin with
     | .route k off =>
       if x.asid = asid ∧ capObj k = capObj r.cap ∧ off = r.off then (true, if x.reload then s.fetchRecord asid step r else s) else (false, s)
     | _ => (false, s))
  | none => if s.recQuotaOk asid then (true, s.fetchRecord asid step r) else (false, s)

/-- An entry whose lease is held is carried out, by a BULK message to the pool (R427, R491). -/
def State.fillEntry (s : State) (asid : Nat) (step : Word) (i lease : Nat) (r : RouteEntry) : State :=
  let fin := fun (u : Bool × State) => if u.1 then u.2.entryDone asid step i 1 0 else u.2.failEntry asid step i r 0x0D
  s.viaMessage (2048 + asid, 4096 * step.toNat + i) 2 (s.poolNode (capObj r.cap)) (poolBody r.cap r.off step 0) 0 fun t =>
    if t.poolFinding r.cap ≠ 0 then t.failEntry asid step i r (t.poolFinding r.cap)
    else fin (if r.kind = 0 then t.fillPages asid lease step r (r.len / 0x10000) 0 else t.loadRecord asid step r)

/-- Was a lease asked for an entry as it stands? -/
def Lease.asksFor (x : Lease) (asid : Nat) (step : Word) (i : Nat) (r : RouteEntry) : Bool :=
  x.sheet == some (step, i) && x.asid == asid && x.cap == r.cap && x.off == r.off && x.len == r.len && x.write == r.wlease

/-- One entry of a sheet (R427); the pool is asked by the request alone (R422), and by none of a removed module, whose entries fail with
STALE_TOKEN as its jobs do (R507). -/
def State.doEntry (s : State) (asid : Nat) (step : Word) (x : Sheet) (i : Nat) : State :=
  let r := s.routeEntry x.ia i
  if x.bad ∨ !r.ok then s.failEntry asid step i r 0x0100
  else if !capOk r.cap (0x51 + 2 * r.wlease.toNat) r.off r.len then s.failEntry asid step i r 2
  else if s.fab.removed then s.failEntry asid step i r 3
  else match s.fe.leases.find? fun e => e.2.covers asid r.cap r.off r.len r.wlease with
    | some (l, _) => s.fillEntry asid step i l r
    | none =>
      if s.fe.leases.any fun e => e.2.state == .asked && e.2.asksFor asid step i r then s
      else match s.freeLease with
        | none => s.failEntry asid step i r 0x0101
        | some l => s.askLease l asid r.cap r.off r.len r.wlease none (some (step, i)) step

/-- ROUTE_SHEET_ENTRY (R427, R428): the prefetch engine takes up a pending entry of a step it works on, or the front end a record entry of the
oldest step; one whose bytes may not be prefetched is dropped for now (R393, log entry 87). -/
def execRouteSheetEntry (asid step entry : Nat) (s : State) : Out :=
  let w : Word := BitVec.ofNat 64 step
  match s.sheetOf asid w with
  | none => .next s
  | some x =>
    let due := s.prefetchable asid w || (s.oldestStep asid == w && (s.routeEntry x.ia entry).kind == 1)
    if entry < x.count ∧ (Store.get (0, 0) x.states entry).1 = 0 ∧ due then
      .next (if s.prefetchOk (x.ia + 0x40 + 64 * entry) 64 then s.doEntry asid w x entry else s.dropPrefetch 0)
    else .next s

/-- The device writes STATE pending into entries that it has to carry out (R426). -/
def State.entriesPending (s : State) (ia : Nat) (l : List Nat) : State :=
  l.foldl (fun t i => t.entryMark ia i 0 0) s

/-- ROUTE_RECORD_RETRY (R428): each failed record entry of the step that is next to commit is tried once more. -/
def execRouteRecordRetry (asid step : Nat) (s : State) : Out :=
  let w : Word := BitVec.ofNat 64 step
  match s.sheetOf asid w with
  | none => .next s
  | some x =>
    let again := fun (e : Nat × Nat × Nat) => e.2.1 == 2 && (s.routeEntry x.ia e.1).kind == 1 && !x.retried.contains e.1
    if s.oldestStep asid ≠ w ∨ (x.states.filter again).isEmpty then .next s
    else .next ((s.entriesPending x.ia ((x.states.filter again).map (·.1))).setSheet asid w { x with
      retried := x.retried ++ (x.states.filter again).map (·.1)
      states := x.states.filter fun e => !again e })

/-- ROUTE (R426): a sheet is published, in place of an earlier one of its step; a header that fails its rules marks every entry failed, an entry
that fails its own rules is marked alone, and the others are pending.
One whose header cannot be read completes with BAD_PACKET (log entry 100). -/
def execRoute (h : PktHdr) (sheet : Nat) (s : State) : Out :=
  let s := s.settleFe
  if (s.homeFault sheet 64 false).isSome then .next (s.complete h 0x15 0)
  else
    let s := s.feRead sheet 64
    let v := s.homeRead sheet 64
    let count := bitsN v 32 16
    let asid := bitsN v 48 13
    let step : Word := BitVec.ofNat 64 (v / 2 ^ 64)
    let ok := bitsN v 0 32 == 0x53485452 && bitsN v 61 3 == 0 && decide (count ≤ 4096) && bitsN v 128 384 == 0 && asid == h.asid
    let s := s.setSheet h.asid step { ia := sheet, count := min count 4096, states := [], retried := [], bad := !ok, blocked := false }
    let l := List.range (min count 4096)
    let s := if ok then s.entriesPending sheet l else s
    let s := (l.filter fun i => !ok || !(s.routeEntry sheet i).ok).foldl (fun t i => t.failEntry h.asid step i (t.routeEntry sheet i) 0x0100) s
    .next (s.complete h 0 0)

/-! ## Answers of the pool (R422 to R424) -/

/-- A lease request has its answer: 0 granted, or the status it ends with. -/
noncomputable def State.leaseAnswer (s : State) (l : Nat) (x : Lease) (st : Nat) : State :=
  let s := if st = 0 then s.setLease l { x with
      state := .held
      sent := x.out
      granted := s.fab.slot.toNat } else s.modFe fun f => { f with leases := Store.del f.leases l }
  let s := match x.job with
    | some (c, id) => s.answer c id st
    | none => s
  match x.sheet with
  | some (step, i) =>
    if st = 0 then { s with agenda := .routeSheetEntry x.asid step.toNat i :: s.agenda }
    else
      (match s.sheetOf x.asid step with
       | some sh =>
         let r := s.routeEntry sh.ia i
         if x.asksFor x.asid step i r && (Store.get (0, 0) sh.states i).1 == 0 then s.failEntry x.asid step i r st else s
       | none => s)
  | none => s

/-- LEASE_GRANT (R422): the pool grants a lease that was asked for, or refuses it; a request whose capability it rejects gets its finding (R427,
R498). The answer is a CTRL message (R475, R491). -/
noncomputable def execLeaseGrant (lease : Nat) (granted : Bool) (s : State) : Out :=
  match s.lease lease with
  | none => .next s
  | some x =>
    if x.state ≠ .asked ∨ s.flitsOut (x.asker lease) then .next s
    else .next (s.fabricArrives fun (s : State) =>
      s.leaseAnswer lease x (if s.poolFinding x.cap ≠ 0 then s.poolFinding x.cap else if granted then 0 else 0x11))

/-- Is a lease due for renewal, 1 ms after its grant or renewal (R423)? -/
def State.renewalDue (s : State) (x : Lease) : Bool := x.state == .held && decide (slotsOf 1000000 ≤ s.slotsSince x.granted)

/-- May a recall be answered: no write to the lease's range is still to be acknowledged (R424)? -/
def State.recallReady (s : State) (x : Lease) : Bool := x.state == .recalled && !s.writesOut (capObj x.cap) x.off x.len none

/-- Has a lease ended: it has run out, the module is removed, or its recall may be answered (R423, R424, R507)? -/
def State.leaseOver (s : State) (x : Lease) : Bool :=
  x.state != .asked && (s.fab.removed || s.leaseExpired x || s.recallReady x)

/-- LEASE_RENEWAL (R423): a renewal is sent when it is due, and answered; a lease whose renewal is refused ends at once, and no answer revives
one that has ended. The pool refuses one whose capability it would reject (R498). -/
def execLeaseRenewal (lease : Nat) (accepted : Bool) (s : State) : Out :=
  match s.lease lease with
  | none => .next s
  | some x =>
    if !s.renewalDue x ∨ s.leaseOver x then .next s
    else .next (s.viaMessage (1026, lease) 7 (s.poolNode (capObj x.cap)) (poolBody x.cap x.off ((x.sheet.map (·.1)).getD 0) 0) 0 fun t =>
      t.fabricArrives fun (t : State) =>
        if accepted ∧ t.poolFinding x.cap = 0 then t.setLease lease { x with
          sent := x.out
          granted := t.fab.slot.toNat }
        else t.dropLease lease)

/-! ## What the pool discards (R499, R501, R502) -/

/-- Did the module write an object in a step that has not committed? -/
def PoolObj.openWrites (o : PoolObj) : Bool := !o.writers.isEmpty

/-- Did a party read or write an object under its current token? -/
def PoolObj.hasParty (o : PoolObj) (p : Nat × Word) : Bool := o.writers.contains p || o.readers.contains p

/-- Are two parties entangled over an object: did one of them write it, and the other read or write it (R501)? -/
def PoolObj.entangles (o : PoolObj) (p q : Nat × Word) : Bool := (o.writers.contains p && o.hasParty q) || (o.writers.contains q && o.hasParty p)

/-- The parties that the pool knows. -/
def State.parties (s : State) : List (Nat × Word) := (s.pool.objs.flatMap fun e => e.2.writers ++ e.2.readers).eraseDups

/-- Some parties with all that are entangled with them, directly or through others (R501, R502). -/
def State.entangled (s : State) : Nat → List (Nat × Word) → List (Nat × Word)
  | 0, l => l
  | n + 1, l =>
    let more := s.parties.filter fun q => !l.contains q && l.any fun p => s.pool.objs.any fun e => e.2.entangles p q
    if more.isEmpty then l else s.entangled n (l ++ more)

/-- A party of the module with all that are entangled with it. -/
def State.partyOf (s : State) (step : Word) : List (Nat × Word) := s.entangled s.parties.length [(s.fab.selfId, step)]

/-- The steps of the module whose parties may stand open: those that read or wrote at the pool or contribute to a held fold, of a milestone under
way, or of a live task (log entry 88). -/
def State.openSteps (s : State) : List Word :=
  ((s.parties.filter fun p => p.1 == s.fab.selfId).map (·.2) ++ s.pool.held.map (·.step) ++ s.fe.milestones.map (fun e => e.2.step) ++
    (s.fe.tasks.filter fun e => e.2.state != .done).map fun e => e.2.step).eraseDups

/-- The writes of some parties leave an object, each byte going back to the writes that remain; where one of them wrote it, its token
advances (R499, R502). -/
def PoolObj.drop (o : PoolObj) (l : List (Nat × Word)) : PoolObj :=
  if l.any o.writers.contains then
    let provs := o.provs.filter fun p => !l.contains (p.writer, p.step)
    { o with
      token := (o.token + 1) % 2 ^ 32
      cur := provs.foldl (fun m p => Memory.write m p.at_ p.byte) o.com
      provs := provs
      writers := []
      readers := [] }
  else { o with readers := o.readers.filter fun p => !l.contains p }

/-- The pool discards some parties: their uncommitted writes go, the token of every object they wrote advances, and a commit of one of the module's
is answered with STALE_TOKEN, for each address space (R499, R502). The frames of those objects are evicted, and the records that a sheet of a
discarded step names are to be loaded again (R375, R410, R504). -/
def State.discardParties (s : State) (l : List (Nat × Word)) : State :=
  let t := s.evictFrames fun e => (s.poolObj e.2.obj).any fun o => l.any o.writers.contains
  let mine := (l.filter fun p => p.1 == s.fab.selfId).map (·.2)
  { t with
    records := t.records.map fun e => match e.2.origin with
      | .route k off => if mine.any fun x => s.sheetNamesRec e.2.asid x (e.1, k, off) then (e.1, { e.2 with reload := true }) else e
      | _ => e
    fe := { t.fe with tagged := t.fe.tagged.filter fun x => !mine.any fun y => y.toNat == x.1 }
    pool := { t.pool with
      objs := t.pool.objs.map fun e => (e.1, e.2.drop l)
      held := t.pool.held.filter fun c => !mine.contains c.step
      counts := t.pool.counts.filter fun x => !mine.any fun y => y.toNat == x.1
      committed := t.pool.committed.filter fun x => !mine.contains x
      discarded := ((s.fe.aspaces.flatMap fun a => mine.map fun x => (a.1, x)) ++ t.pool.discarded).eraseDups } }

/-- The pool discards every party of the module, with those entangled with them (R502). -/
def State.discardAll (s : State) : State :=
  s.discardParties (s.entangled s.parties.length (s.openSteps.map fun x => (s.fab.selfId, x)))

/-- The pool removes the module from its membership: it discards the parties that it knows of the module, with those entangled with them; no lease of
the module lapses any more (R4, R502). -/
def State.poolRemoves (s : State) : State :=
  let own := (s.parties.filter fun p => p.1 == s.fab.selfId) ++ s.pool.held.map fun c => (s.fab.selfId, c.step)
  let t := s.discardParties (s.entangled s.parties.length own.eraseDups)
  { t with pool := { t.pool with
    lapses := []
    ending := [] } }

/-- The releases that have not come to the pool. -/
def State.endingOut (s : State) : List (Nat × Nat) := s.pool.ending.filter fun e => s.flitsOut (1029, e.1)

/-- The pool's clock: the first lease that lapses, which the module let end without a release or whose release has not come, has the module's parties
discarded (R423, R502). -/
def State.poolLapses (s : State) : State :=
  let due := fun (t : Nat) => decide (s.slotsSince t < 2 ^ 31)
  let t := if s.pool.lapses.any due || s.endingOut.any (fun e => due e.2) then s.discardAll else s
  { t with pool := { t.pool with
    lapses := t.pool.lapses.filter fun l => !due l
    ending := s.endingOut.filter fun e => !due e.2 } }

/-- A lease has run out, unreleased and its recall unanswered: the module gives it up, and at the pool it lapses 2 ms after its grant or renewal. -/
def State.runOut (s : State) (l : Nat) (x : Lease) : State :=
  let t := s.dropLease l
  { t with pool := { t.pool with lapses := x.lapseSlot :: t.pool.lapses } }

/-- LEASE_END (R423, R424): a lease that has ended goes; a recall is answered, unless the lease has run out by then. What has lapsed at the pool is
discarded there (R502). -/
def execLeaseEnd (lease : Nat) (s : State) : Out :=
  let s := s.poolLapses
  match s.lease lease with
  | none => .next s
  | some x =>
    .next (if !s.leaseOver x then s
      else if s.fab.removed then s.dropLease lease
      else if s.leaseExpired x then s.runOut lease x
      else s.releaseLease lease)

/-- LEASE_RECALL (R424): frames go first; the lease is released, and the recall answered, once the module's writes to its range are
acknowledged. -/
def execLeaseRecall (objid lo len : Nat) (s : State) : Out :=
  .next (s.fabricArrives fun (s : State) => (s.fe.leases.filter fun e => e.2.state == .held && capObj e.2.cap == objid && decide (e.2.off < lo + len) &&
      decide (lo < e.2.off + e.2.len)).foldl (fun t e =>
    if t.writesOut objid e.2.off e.2.len none then
      (t.evictFrames fun f => f.2.lease == e.1).setLease e.1 { e.2 with state := .recalled }
    else t.releaseLease e.1) s)

/-! ## Packets (R414, R416, R440) -/

/-- A word of a class's entry, as the driver reads it (R416): word 0 to word 3. -/
def QuotaClass.word (q : QuotaClass) : Nat → Word
  | 0 => BitVec.ofNat 64 (q.qllc + 2 ^ 32 * q.qhbmr)
  | 1 => BitVec.ofNat 64 (q.qhbmp + 2 ^ 32 * q.qcar)
  | 2 => BitVec.ofNat 64 (q.ullc + 2 ^ 32 * q.uhbmr)
  | _ => BitVec.ofNat 64 (q.uhbmp + 2 ^ 32 * q.ucar)

/-- The entry of a class, as the driver reads it back (R416). -/
def State.quotaEntry (s : State) (cls : Nat) : List Word := (List.range 4).map (s.quotaOf cls).word

/-- QUOTA. -/
def execQuota (h : PktHdr) (cls : Nat) (w0 w1 : Word) (s : State) : Out :=
  supervisor h s (
    if 256 ≤ cls then .next (s.complete h 0x15 0)
    else if 3056 < w0.toNat % 2 ^ 32 then .next ((s.postError 0x0011 (pktWord h) cls).complete h 0x15 0)
    else .next ((s.modQuota cls fun q => { q with
      qllc := w0.toNat % 2 ^ 32
      qhbmr := w0.toNat / 2 ^ 32
      qhbmp := w1.toNat % 2 ^ 32
      qcar := w1.toNat / 2 ^ 32 }).complete h 0 0))

/-- CONFIG: the partition is resized and the spill pool set; the packet completes once nothing outside the setting is in use. -/
def execConfig (h : PktHdr) (size spillBase areas : Nat) (s : State) : Out :=
  supervisor h s (
    if 131072 < size ∨ 2 ^ 16 ≤ areas ∨ 2 ^ 52 ≤ spillBase then .next (s.complete h 0x15 0)
    else .next ((s.modFe fun f => { f with
      poolGoal := size
      spill := (spillBase, areas)
      configWait := f.configWait ++ [(h, spillBase, areas)] }).shrink.checkConfig))

end Sys2Proof.Machine
end

