-- ==== Sys2Proof/Machine/Milestones.lean ====
section
/-! DEFINITION. The milestone of a step (R286, R303, R374, R425, R503), what the pool commits and discards (R499, R502), the answers of
the pool to single accesses (R421, R498), and membership (R490, R505 to R507). -/

namespace Sys2Proof.Machine

/-! ## Reductions folded at a milestone (R286) -/

/-- One contribution joins a fold: FP32 codes for the floating formats, 32-bit codes for INT32 (8) and UINT32 (9). -/
def foldHeld (r : Nat) (c : Contribution) : Nat :=
  if c.rfmt = 8 then
    (match c.rop with
     | 0 => (r + c.value) % 2 ^ 32
     | 1 => if signedN r 32 < signedN c.value 32 then c.value else r
     | _ => if signedN c.value 32 < signedN r 32 then c.value else r)
  else if c.rfmt = 9 then
    (match c.rop with
     | 0 => (r + c.value) % 2 ^ 32
     | 1 => max r c.value
     | _ => min r c.value)
  else
    let x := widen (rfmtOf c.rfmt) c.value
    match c.rop with
    | 0 => (faddCode r x).bits
    | 1 => fminmax fp32 true r x
    | _ => fminmax fp32 false r x

/-- A location after the fold: its old code, the contributions in ascending CIDX, all of one format. -/
def foldLocation (rfmt old : Nat) (l : List Contribution) : Nat :=
  if rfmt = 8 ∨ rfmt = 9 then l.foldl foldHeld old
  else (roundTo (rfmtOf rfmt) (decodeVal fp32 (l.foldl foldHeld (widen (rfmtOf rfmt) old))) 0 false 0).bits

/-- Insert by CIDX. -/
def insertCidx (c : Contribution) : List Contribution → List Contribution
  | [] => [c]
  | d :: l => if c.cidx < d.cidx then c :: d :: l else d :: insertCidx c l

/-- The format of an element of RFMT. -/
def rfmtVal (code : Nat) : Fmt := if code = 8 then sintFmt 32 else if code = 9 then uintFmt 32 else rfmtOf code

/-- A folded location: object, offset, format, code, and the records that receive its statistics with their address spaces. -/
structure Folded where
  obj : Nat
  off : Nat
  rfmt : Nat
  code : Nat
  recs : List (Nat × Nat)
deriving DecidableEq, Repr

/-- The committed bytes of an object with the plain writes of some steps applied, in coherence order. -/
def PoolObj.stepped (o : PoolObj) (l : List Word) : Memory :=
  (o.provs.filter fun p => l.contains p.step).foldl (fun m p => Memory.write m p.at_ p.byte) o.com

/-- The folds of a step, location by location and format by format, in the order of their first contributions; contributions of two formats to one
location fold apart, each from the old value, and the later fold is written over the earlier (log entry 95). -/
def State.folds (s : State) (step : Word) : List Folded :=
  let mine := s.pool.held.filter fun c => c.step == step
  ((mine.map fun c => (c.obj, c.off, c.rfmt)).eraseDups).map fun e =>
    let l := (mine.filter fun c => c.obj == e.1 && c.off == e.2.1 && c.rfmt == e.2.2).foldr insertCidx []
    let old := match s.poolObj e.1 with
      | some o => Memory.readLE (o.stepped [step]) e.2.1 (rfmtBytes e.2.2)
      | none => 0
    { obj := e.1, off := e.2.1, rfmt := e.2.2, code := foldLocation e.2.2 old l
      recs := (l.filterMap fun c => c.drec.map fun d => (c.asid, d)).eraseDups }

/-- PREPARE of an address space: the deltas of the folds reach its own records (R286, R503; log entry 109). -/
def State.foldDeltas (s : State) (asid : Nat) (step : Word) : State :=
  (s.folds step).foldl (fun t f => (f.recs.filter fun r => r.1 == asid).foldl (fun u r =>
    u.sendDelta r.1 r.2 (statsOf [decodeVal (rfmtVal f.rfmt) f.code])) t) s

/-! ## Commit and discard (R502) -/

/-- The writes of some steps of a module become committed, and its parties of those steps are no more. -/
def PoolObj.commit (o : PoolObj) (id : Nat) (l : List Word) : PoolObj :=
  let done := fun (p : Nat × Word) => p.1 == id && l.contains p.2
  { o with
    com := o.stepped l
    provs := o.provs.filter fun p => !l.contains p.step
    writers := o.writers.filter fun p => !done p
    readers := o.readers.filter fun p => !done p }

/-- A folded location is written: committed, and current where no later write stands. -/
def PoolObj.applyFold (o : PoolObj) (f : Folded) : PoolObj :=
  (List.range (rfmtBytes f.rfmt)).foldl (fun p i =>
    let b : Byte := BitVec.ofNat 8 (f.code / 256 ^ i)
    { p with
      com := Memory.write p.com (f.off + i) b
      cur := if p.provs.any fun e => e.at_ == f.off + i then p.cur else Memory.write p.cur (f.off + i) b }) o

/-- A folded location reaches the frames that hold it under the object's token (R421). -/
def State.foldFrames (s : State) (token : Nat) (f : Folded) : State :=
  s.modFe fun e => { e with frames := e.frames.map fun x =>
    if x.2.valid && x.2.obj == f.obj && x.2.token == token then (x.1, x.2.write f.off (rfmtBytes f.rfmt) f.code) else x }

/-- The held contributions of a step are folded into their locations (R286). -/
def State.applyFolds (s : State) (step : Word) : State :=
  (s.folds step).foldl (fun t f => match t.poolObj f.obj with
    | some o => (t.setPoolObj f.obj (o.applyFold f)).foldFrames o.token f
    | none => t) { s with pool := { s.pool with held := s.pool.held.filter fun c => !(c.step == step) } }

/-- Insert a step in ascending order. -/
def insertStep (x : Word) : List Word → List Word
  | [] => [x]
  | y :: l => if x.toNat < y.toNat then x :: y :: l else y :: insertStep x l

/-- The pool commits some steps of the module, all of them at once: their writes become committed, and the held contributions of each are folded,
in ascending step (R286, R502). -/
def State.commitSteps (s : State) (l : List Word) : State :=
  let held := fun (step : Word) => s.pool.held.filter fun c => c.step == step
  let done := fun (m : Store Nat) => l.foldl (fun m x => Store.del m x.toNat) m
  let t := { s.modFe (fun f => { f with tagged := done f.tagged }) with
    pool := { s.pool with
      objs := s.pool.objs.map fun e => (e.1, e.2.commit s.fab.selfId l)
      committed := l ++ s.pool.committed.filter fun x => !l.contains x
      counts := done s.pool.counts } }
  (l.foldr insertStep []).foldl (fun u x => if (held x).isEmpty then u else u.applyFolds x) t

/-! ## The milestone (R303, R374, R503) -/

/-- The key of the milestone of a step of an address space. -/
def milestoneKey (asid : Nat) (step : Word) : Nat := 2 ^ 64 * asid + step.toNat
/-- The milestone in progress of a step of an address space. -/
def State.milestone (s : State) (asid : Nat) (step : Word) : Option Milestone :=
  (s.fe.milestones.find? fun e => e.1 == milestoneKey asid step).map (·.2)
/-- Replace it. -/
def State.setMilestone (s : State) (asid : Nat) (m : Milestone) : State :=
  s.modFe fun f => { f with milestones := Store.put f.milestones (milestoneKey asid m.step) m }
/-- Change an address space that is installed. -/
def State.modAspace (s : State) (asid : Nat) (f : Aspace → Aspace) : State :=
  s.modFe fun e => { e with aspaces := e.aspaces.map fun a => if a.1 = asid then (a.1, f a.2) else a }

/-- Has a step of an address space committed (R303)? -/
def State.hasCommitted (s : State) (asid : Nat) (step : Word) : Bool := (Store.get [] s.fe.committed asid).contains step

/-- Is a pool write with a step's tag still to be acknowledged? -/
def State.taggedOut (s : State) (asid : Nat) (step : Word) : Bool :=
  s.ctxs.any fun e => e.2.asid == asid &&
    (e.2.units.any (fun u => u.isStore && u.stepTag == step && match u.target with
      | .pool _ _ => true
      | _ => false) ||
     e.2.eng.any fun o => o.stepTag == step && o.foot.any fun f => f.space == 2 && f.wr)

/-- The record entries of a step's sheet that were carried out: record id, capability and offset. -/
def State.sheetRecs (s : State) (asid : Nat) (step : Word) : List (Nat × Word128 × Nat) :=
  match s.sheetOf asid step with
  | none => []
  | some x => (x.states.filter fun e => e.2.1 == 1 && (s.routeEntry x.ia e.1).kind == 1).map fun e =>
      let r := s.routeEntry x.ia e.1
      (r.recid, r.cap, r.off)

/-- The records that a step's milestone closes (R374). -/
def State.milestoneRecs (s : State) (asid : Nat) (step : Word) : List Nat :=
  ((s.fe.stepRecs.filter fun e => e.1 == (asid, step)).map (·.2) ++ (s.sheetRecs asid step).map (·.1)).eraseDups

/-- Close records; those whose closed half has DEFER set, in order (R373, R374). -/
def State.closeAll (s : State) (asid : Nat) (l : List Nat) : State × List Nat :=
  l.foldl (fun (t : State × List Nat) id =>
    let (u, e) := t.1.closeRec asid id
    (u, if e = 0x13 then t.2 ++ [id] else t.2)) (s, [])

/-- A record is written back to its pool location, in one message: closed half, then open half; a message that the pool rejects writes nothing
(R374, R497, R498). -/
def State.writeBackRec (s : State) (asid : Nat) (step : Word) (e : Nat × Word128 × Nat) : State :=
  match s.recOf asid e.1 with
  | none => s
  | some r =>
    let v := r.closed.bytes r.policy + 2 ^ 1024 * r.opened.bytes r.policy
    let t := s.sendOpen (some (1027, milestoneKey asid step)) 2 (s.poolNode (capObj e.2.1)) (poolBody e.2.1 e.2.2 step v) 256
    if s.poolFinding e.2.1 ≠ 0 then t else (t.poolPut e.2.1 e.2.2 256 v step).countWrites step 1

/-- A CTRL message to the pool's commit service (R497, R503): PREPARE of a step, or COMMIT with the count of its writes. -/
def State.commitMessage (s : State) (asid : Nat) (step : Word) (count : Option Nat) : State :=
  s.sendOpen (some (1027, milestoneKey asid step)) 7 (s.poolNode (2 ^ 40 + asid)) (poolBody 0 asid step (match count with
    | none => 0
    | some n => 1 + 2 * n)) 0

/-- The write messages tagged with a step that the pool has acknowledged to the module: what COMMIT counts. -/
def State.sentWrites (s : State) (step : Word) : Nat := Store.get 0 s.fe.tagged step.toNat

/-- The write messages that the pool holds with a step's tag. -/
def State.writesOf (s : State) (step : Word) : Nat := Store.get 0 s.pool.counts step.toNat

/-- Steps 2 to 4: PREPARE, the closes and write-backs, COMMIT with the count of the step's writes, the write-backs among them. -/
def State.sendCommit (s : State) (asid : Nat) (m : Milestone) : State :=
  let s := (s.commitMessage asid m.step none).foldDeltas asid m.step
  let (s, l) := s.closeAll asid (s.milestoneRecs asid m.step)
  let s := (s.sheetRecs asid m.step).foldl (fun t e => t.writeBackRec asid m.step e) s
  (s.commitMessage asid m.step (some (s.sentWrites m.step))).setMilestone asid { m with
    stage := 4
    count := s.sentWrites m.step
    deferred := (l.head?, l.length) }

/-- Do the steps of a milestone wait for the fabric (R503)? -/
def State.fabricWaits (s : State) : Bool := s.fab.timing == .nosync || s.allFenced

/-- A milestone goes on once the step's writes are acknowledged. -/
def State.stepMilestone (s : State) (asid : Nat) (m : Milestone) : State :=
  if m.stage = 1 ∧ !s.fabricWaits ∧ !s.taggedOut asid m.step then s.sendCommit asid m else s

/-- mstone waits for the milestone. -/
def State.joinMilestone (s : State) (c : Nat) (o : EngOp) (m : Milestone) : State :=
  if o.begun then s
  else (s.setMilestone (s.ctx c).asid { m with jobs := m.jobs ++ [(c, o.id)] }).modCtx c fun x =>
    x.modEng o.id fun p => { p with begun := true }

/-- mstone runs: the first of a step starts its milestone, later ones wait for it or end with the status it ended with (R303). -/
def State.mstoneRun (s : State) (c : Nat) (o : EngOp) : State :=
  let asid := (s.ctx c).asid
  let step : Word := BitVec.ofNat 64 (cardBits o.card 0x80 0 64)
  match o.answer with
  | some st => s.jobEnd c o st
  | none =>
    if s.hasCommitted asid step then s.jobEnd c o 0
    else if s.fab.removed ∨ s.fe.stale.contains (asid, step) then s.jobEnd c o 3
    else match s.milestone asid step with
      | some m => s.joinMilestone c o m
      | none =>
        if s.fabricWaits then s
        else (s.modAspace asid fun a => { a with openStep := step + 1 }).joinMilestone c o
          { step := step, stage := 1, count := 0, deferred := (none, 0), jobs := [] }

/-- mstone (R303): STEP must equal STEPID. -/
noncomputable def execMstone (o : EJ) (s : State) : Out :=
  issueOp (.mstone o) (jobIssue (.mstone o) o 9 false fun s card =>
    if cardBits card 0x80 0 64 ≠ s.pre.csr.stepid.toNat ∨ !restZero card 0x88 then none
    else some { JobPlan.plain 16 with after := true }) s

/-! ## The answer to COMMIT (R425, R503) -/

/-- Does the sheet of a step name a lease (R425)? -/
def State.sheetNames (s : State) (asid : Nat) (step : Word) (l : Lease) : Bool :=
  match s.sheetOf asid step with
  | none => false
  | some x => (List.range x.count).any fun i =>
      let r := s.routeEntry x.ia i
      r.ok && l.covers asid r.cap r.off r.len r.wlease

/-- The route-sheet leases that the sheet of the next step does not name are released. -/
def State.endSheetLeases (s : State) (asid : Nat) (next : Word) : State :=
  (s.fe.leases.filter fun e => e.2.asid == asid && e.2.sheet.isSome && e.2.state == .held && !s.sheetNames asid next e.2).foldl
    (fun t e => t.releaseLease e.1) s

/-- The entries of an address space's later sheets that count a record as loaded are pending again: the record is freed (R374, R427, log entry 110). -/
def State.reloadEntries (s : State) (asid : Nat) (step : Word) (e : Nat × Word128 × Nat) : State :=
  (s.fe.sheets.filter fun x => x.1.1 == asid && decide (step.toNat < x.1.2.toNat)).foldl (fun t x =>
    let l := (x.2.states.filter fun p => p.2.1 == 1 &&
      (let r := s.routeEntry x.2.ia p.1
       r.ok && r.kind == 1 && r.recid == e.1 && capObj r.cap == capObj e.2.1 && r.off == e.2.2)).map (·.1)
    if l.isEmpty then t
    else (t.entriesPending x.2.ia l).setSheet asid x.1.2 { x.2 with states := x.2.states.filter fun p => !l.contains p.1 }) s

/-- The records of a committed step are freed: those of SRECA, and those of its sheet that the next step does not name (R374); a later step that
names one loads it again. -/
def State.freeStepRecs (s : State) (asid : Nat) (step : Word) : State :=
  let gone := (s.sheetRecs asid step).filter fun e => !s.sheetNamesRec asid (step + 1) e
  let s := gone.foldl (fun t e => match t.recOf asid e.1 with
    | some r => (match r.origin with
      | .route _ _ => (t.freeRec e.1).reloadEntries asid step e
      | _ => t)
    | none => t) s
  let s := { s with records := s.records.filter fun e => !(e.2.asid == asid && e.2.origin == RecOrigin.launch step) }
  s.modFe fun f => { f with stepRecs := f.stepRecs.filter fun e => !(e.1 == (asid, step)) }

/-- A milestone ends: its record is posted, unless its address space's interface is in ERROR, and its mstone jobs have their answer; one that ended
STALE_TOKEN is remembered, and the pool's answer is given (R303, R448, R460, R503). -/
def State.endMilestone (s : State) (asid : Nat) (m : Milestone) (status : Nat) : State :=
  let d := if status = 3 then (none, 0) else m.deferred
  let s := s.modFe fun f => { f with
    milestones := Store.del f.milestones (milestoneKey asid m.step)
    stale := if status = 3 then (asid, m.step) :: f.stale else f.stale }
  let s := { s with pool := { s.pool with discarded := s.pool.discarded.filter fun t => !(t == (asid, m.step)) } }
  let s := if s.asidInError asid then s else s.postRecord [BitVec.ofNat 64 (0x02000000 + status), BitVec.ofNat 64 (asid + 2 ^ 16 * d.1.getD 0 + 2 ^ 32 * d.2), m.step, 0, 0, 0, 0]
  m.jobs.foldl (fun t j => t.answer j.1 j.2 (if status = 3 then 3 else 0)) s

/-- Has the pool a read, a write or a held contribution of a step of the module that is not committed? -/
def State.partyOpen (s : State) (step : Word) : Bool :=
  s.parties.contains (s.fab.selfId, step) || s.pool.held.any fun c => c.step == step

/-- Has a party of the module asked to commit: is COMMIT of every milestone of its step out (R502, R503)? -/
def State.hasAsked (s : State) (step : Word) : Bool :=
  let l := s.fe.milestones.filter fun e => e.2.step == step
  !l.isEmpty && l.all fun e => e.2.stage == 4 && !s.flitsOut (1027, e.1)

/-- The steps of the module that commit together with one: those entangled with it (R501, R502). -/
def State.together (s : State) (step : Word) : List Word := ((s.partyOf step).filter fun p => p.1 == s.fab.selfId).map (·.2)

/-- The answer OK (R503): leases and records of the step go, CURSTEP follows, and the milestone's record is posted. -/
def State.endCommitted (s : State) (asid : Nat) (m : Milestone) : State :=
  let s := ((s.endSheetLeases asid (m.step + 1)).freeStepRecs asid m.step).modAspace asid fun a => { a with
    curStep := if a.curStep.toNat < m.step.toNat + 1 then m.step + 1 else a.curStep }
  let s := s.modFe fun f => { f with committed := Store.put f.committed asid (m.step :: Store.get [] f.committed asid) }
  s.endMilestone asid m (if m.deferred.2 = 0 then 0 else 0x13)

/-- The pool takes a COMMIT up (R502, R503): a discarded party's is answered with STALE_TOKEN, and what it wrote since goes too; a committed
one's with OK. Otherwise the pool holds it until it has the writes that COMMIT counts and every entangled party of the module has asked, and the
module sends it again until it has its answer; then all of them commit, or the pool has discarded the party with those entangled with it. -/
def State.commitTaken (s : State) (asid : Nat) (m : Milestone) (ok : Bool) : State :=
  if s.pool.discarded.contains (asid, m.step) then (s.discardParties (s.partyOf m.step)).endMilestone asid m 3
  else if s.pool.committed.contains m.step ∧ !s.partyOpen m.step then s.endCommitted asid m
  else if !ok then (s.discardParties (s.partyOf m.step)).endMilestone asid m 3
  else if s.writesOf m.step < m.count ∨ !(s.together m.step).all s.hasAsked then s.commitMessage asid m.step (some m.count)
  else (s.commitSteps (s.together m.step)).endCommitted asid m

/-- COMMIT_ANSWER (R502, R503): a milestone goes on while its first steps wait; once its messages are out, the pool answers COMMIT, or still
holds it. -/
def execCommitAnswer (asid : Nat) (step : Word) (ok : Bool) (s : State) : Out :=
  match s.milestone asid step with
  | none => .next s
  | some m =>
    .next (if m.stage ≠ 4 then s.stepMilestone asid m
      else if s.fabricWaits ∨ s.flitsOut (1027, milestoneKey asid step) then s
      else s.fabricArrives fun (t : State) => t.commitTaken asid m ok)

/-! ## The pool's answers to single accesses (R421, R498) -/

/-- A unit is suspended by a fault, and its context freezes (R168, R169). -/
def State.suspendUnit (s : State) (c : Nat) (u : MemUnit) (cause sub faddr uaddr objid : Nat) : State :=
  ((s.unframe c u).modCtx c fun x => { x with units := x.units.map fun e => if e.id = u.id then { e with suspended := true } else e }).freeze c
    { cause := cause, sub := sub, val := BitVec.ofNat 64 (slotCode u.slot 0 u.isStore), faddr := faddr, uaddr := uaddr, objid := objid } 0

/-- A unit of a context that may be performed, by its number. -/
def State.unitDue (s : State) (c id : Nat) : Option MemUnit :=
  (s.ctx c).units.find? fun u => u.id == id && !u.suspended && unitReady (s.ctx c).units u && !s.unitHeld c u

/-- A unit is answered by the pool with a rejection. -/
def State.rejectUnit (s : State) (c : Nat) (u : MemUnit) : State :=
  match u.target with
  | .pool k off => if s.unitFinding c u = 0 then s else s.suspendUnit c u cCap 1 off off (capObj k)
  | _ => s

/-- POOL_WRITE_ACKNOWLEDGEMENT (R421): a pool write is in the pool and in the frames that cover it; what waited for it goes on. -/
def execPoolWriteAcknowledgement (c id : Nat) (s : State) : Out :=
  onCtx c (match s.unitDue c id with
    | some u =>
      (match u.target with
       | .pool _ _ => if u.inStoreQueue && s.unitFinding c u == 0 then s.unitMessage c u fun t => (((t.perform c u).drain c).shrink).checkConfig else s
       | _ => s)
    | none => s)

/-! ## Membership (R490, R505 to R507) -/

/-- A change of membership is applied where its epoch is above the last one's (R505). -/
def State.epochNext (s : State) (epoch : Nat) : Bool := decide (s.fab.epoch < epoch)

/-- An error record of a membership change. -/
def State.memberRecord (s : State) (code epoch : Nat) : State := s.postError code 0 epoch

/-- Keep the entries of a map by 256 x peer + stream whose peer `p` keeps. -/
def keepPeers {α : Type} (p : Nat → Bool) (m : Store α) : Store α := m.filter fun e => p (e.1 / 256)

/-- The stream state towards and from the peers that `p` names starts anew (R490). -/
def Fabric.clearPeers (f : Fabric) (p : Nat → Bool) : Fabric :=
  { f with
    counts := keepPeers (fun x => !p x) f.counts
    prefixes := keepPeers (fun x => !p x) f.prefixes
    beyond := keepPeers (fun x => !p x) f.beyond
    arrived := f.arrived.filter fun m => !p m.src
    messages := f.messages.filter fun e => !p (e.1 / 256)
    held := f.held.filter fun m => !p m.flit.src }

/-- Insert a number in ascending order, once. -/
def insertNat (x : Nat) : List Nat → List Nat
  | [] => [x]
  | y :: l => if x < y then x :: y :: l else if x = y then y :: l else y :: insertNat x l

/-- An ADD is applied (R490, R505, R507). One that names the module while it treats itself as removed, since a start of it or a REMOVE, follows its
removal at the pool, which has discarded its parties (R4, R502). -/
def State.applyAdd (s : State) (epoch id : Nat) : State :=
  if !s.epochNext epoch then s
  else
    let s := s.modFab fun f => { f with epoch := epoch }
    let s := if id = s.fab.selfId then
        ((if s.fab.removed then s.poolRemoves else s).modFab fun f => { f.clearPeers (fun _ => true) with removed := false }).modFe fun e => { e with
          aspaces := e.aspaces.map fun a => (a.1, { a.2 with openStep := 0 }) }
      else s.modFab fun f => { f.clearPeers (fun p => p == id) with members := insertNat id f.members }
    s.memberRecord 0x0402 epoch

/-- MEMBERSHIP_ADD, a CTRL message (R491). -/
def execMembershipAdd (epoch id : Nat) (s : State) : Out := .next (s.fabricArrives fun (s : State) => s.applyAdd epoch id)

/-- The jobs of the module in flight that `p` names, by context and number. -/
def State.jobsThat (s : State) (p : EngOp → Bool) : List (Nat × Nat) :=
  s.ctxs.flatMap fun e => (e.2.eng.filter p).map fun o => (e.1, o.id)

/-- Message jobs that `p` names end with REMOTE_REJECT, and their flits are discarded (R506, R507). -/
def State.rejectJobs (s : State) (p : EngOp → Bool) : State :=
  (s.jobsThat fun o => isMessage o.instr && o.begun && p o).foldl (fun t j => (t.dropFlits j).answer j.1 j.2 8) s

/-- A peer is removed (R506). -/
def State.removePeer (s : State) (id : Nat) : State :=
  let s := s.modFab fun f => { f with members := f.members.filter fun m => !(m == id) }
  let s := s.rejectJobs fun o => mPeer o.card == id
  let s := s.displace (fun e => e.via == some id) 4
  let late := s.fab.owed.filter fun e => e.via == some id
  let s := (s.modFab fun f => { f with owed := f.owed.filter fun e => !(e.via == some id) }).replace late 4
  let s := s.modFab fun f => { f with
    held := f.held.filter fun m => !(m.flit.src == id)
    prefixes := keepPeers (fun p => !(p == id)) f.prefixes
    beyond := keepPeers (fun p => !(p == id)) f.beyond
    messages := f.messages.filter fun e => !(e.1 / 256 == id)
    arrived := f.arrived.filter fun m => !(m.src == id) }
  s.loseMember id

/-- Lease requests that were not answered end, and every lease ends (R423, R507). -/
def State.endLeases (s : State) : State :=
  s.fe.leases.foldl (fun t e =>
    let t := match e.2.state, e.2.job with
      | .asked, some j => t.answer j.1 j.2 3
      | _, _ => t
    t.dropLease e.1) s

/-- The module itself is removed (R502, R507). -/
def State.removeSelf (s : State) : State :=
  let s := (s.modFab fun f => { f with removed := true }).rejectJobs fun _ => true
  let s := s.endLeases
  let s := s.discardAll
  let s := { s with pool := { s.pool with
    lapses := []
    ending := [] } }
  s.fe.milestones.foldl (fun t e => t.endMilestone (e.1 / 2 ^ 64) e.2 3) s

/-- A REMOVE is applied (R505 to R507). -/
def State.applyRemove (s : State) (epoch id : Nat) : State :=
  if !s.epochNext epoch then s
  else
    let s := s.modFab fun f => { f with epoch := epoch }
    if id = s.fab.selfId then s.removeSelf.memberRecord 0x0400 epoch else (s.removePeer id).memberRecord 0x0401 epoch

/-- MEMBERSHIP_REMOVE, a CTRL message (R491). -/
def execMembershipRemove (epoch id : Nat) (s : State) : Out := .next (s.fabricArrives fun (s : State) => s.applyRemove epoch id)

end Sys2Proof.Machine
end

