-- ==== Sys2Proof/Machine/Completion.lean ====
section
/-! DEFINITION. What completes after issue: hidden results (R32), engine jobs (R276), page faults and rejections (R168, R169, R278, R498),
pending hallocs and freed storage (R194). -/

namespace Sys2Proof.Machine

/-! ## Engine jobs (R276, R277) -/

/-- Is it a job whose end another member of a group or the pool decides? -/
def isGroupJob : Instr → Bool
  | .grpset _ | .gred _ | .gmld _ => true
  | _ => false

/-- A job that may run, runs: as far as it gets now, and to its end where nothing outside the module is awaited. -/
def State.runJob (s : State) (c : Nat) (o : EngOp) : State :=
  if s.fab.removed && o.begun && isGroupJob o.instr then s.jobEnd c o 3
  else match o.instr with
  | .cpy _ => s.cpyRun c o
  | .cpyq _ => s.cpyqRun c o
  | .gath _ => s.gatherRun c o true none
  | .scat _ => s.gatherRun c o false none
  | .gathK e => s.gatherRun c o true (some e.k.toNat)
  | .scatK e => s.gatherRun c o false (some e.k.toNat)
  | .bget e => s.bulkRun c o .get e.k.toNat
  | .bwr e => s.bulkRun c o .write e.k.toNat
  | .bred e => s.bulkRun c o .reduce e.k.toNat
  | .gred _ => s.gredRun c o
  | .gmld _ => s.gmldRun c o
  | .grpset _ => s.grpsetRun c o
  | .msend _ => s.messageRun c o
  | .enq _ => s.messageRun c o
  | .arrive _ => s.messageRun c o
  | .tdec _ => s.tdecRun c o
  | .tspawn e => s.tspawnRun c o e
  | .sclose _ => s.scloseRun c o
  | .sread e => s.sreadRun c o e false
  | .sreadO e => s.sreadRun c o e true
  | .salloc e => s.sallocRun c o e
  | .sfree _ => s.sfreeRun c o
  | .lacq e => s.lacqRun c o (e.sub.getLsbD 0)
  | .lrel _ => s.lrelRun c o
  | .realign _ => s.realignRun c o
  | .mstone _ => s.mstoneRun c o
  | .wmarm _ => s.wmarmEnd c o
  | _ => s

/-- ENGINE_JOB_COMPLETE (R276): what the job wrote and released lets accesses of its context go on. -/
def execEngineJobComplete (c id : Nat) (s : State) : Out := completing c id .e s fun o => (s.runJob c o).drain c

/-! ## Hidden results (R32) -/

/-- Does a unit return a result, or reserve an entry that waits for it? -/
def MemUnit.returns (u : MemUnit) : Bool :=
  match u.op with
  | .value | .reseal | .check => true
  | .fence => false
  | _ => !u.inStoreQueue

/-- HIDDEN_RESULT_WRITE (R32): an access that may be performed and does not fault is performed whole, and its result written. -/
def execHiddenResultWrite (c id : Nat) (s : State) : Out :=
  onCtx c (match s.unitDue c id with
    | some u => if u.returns && u.toBarrier.isNone && (s.unitFault c u).isNone && s.unitFinding c u == 0 then s.unitMessage c u fun t => ((t.perform c u).drain c).shrink.checkConfig else s
    | none => s)

/-! ## Faults after issue (R168, R169, R278) -/

/-- Run an operation of the D or E engine, and keep what it did only where a fault suspended it. -/
def State.faultOp (s : State) (c id : Nat) : State :=
  match (s.ctx c).engOp id with
  | none => s
  | some o =>
    if !(s.ctx c).engReady o ∨ s.opHeld c o ∨ (o.msgClass.isSome ∧ !s.messageDone (c, id)) then s
    else
      let t := match o.engine with
        | .e => s.runJob c o
        | .d => (match execDrainOpComplete c id s with
          | .next t => t
          | _ => s)
        | _ => s
      match (t.ctx c).engOp id with
      | some p => if p.suspended then t else s
      | none => s

/-- PAGE_FAULT (R169): an access or an engine operation meets a page fault; it is suspended, and its context freezes. -/
def execPageFault (c id : Nat) (s : State) : Out :=
  onCtx c (match s.unitDue c id with
    | some u =>
      (match s.unitFault c u, u.target with
       | some f, .ia a => s.suspendUnit c u cPage 0 f a 0
       | _, _ => s)
    | none => s.faultOp c id)

/-- Does an engine operation use a capability that the pool rejects? -/
def State.opRejected (s : State) (o : EngOp) : Bool :=
  o.regions.any fun e => s.poolFinding e.1 != 0

/-- POOL_REJECT (R498): an access faults; a job of the E engine ends with the pool's finding (R278); a drain.m or fill.m is suspended
(R239). -/
def execPoolReject (c id : Nat) (s : State) : Out :=
  onCtx c (match s.unitDue c id with
    | some u => if s.unitFinding c u = 0 then s else s.unitMessage c u fun t => t.rejectUnit c u
    | none =>
      match (s.ctx c).engOp id with
      | some o =>
        if !s.opRejected o ∨ !(s.ctx c).engReady o then s
        else if o.engine = .e then s.opMessage c o fun t => t.runJob c o
        else s.faultOp c id
      | none => s)

/-! ## Handles (R194, R202) -/

/-- A halloc completes: bound to zeroed storage of the partition's window, or unbound with FAILED. -/
def State.bindHandle (s : State) (c : Nat) (e : Nat × Nat × Nat × Nat) : State :=
  let (h, kind, rows, roww) := e
  let s := s.modCtx c fun x => { x with hallocs := x.hallocs.filter fun p => !(p == e) }
  match (if rows = 0 ∨ roww = 0 ∨ 64 < roww then none else allocPlace (s.core (coreOf c)).alloc kind (partOf c) rows roww) with
  | some (base, size) =>
    (s.modCore (coreOf c) fun k => k.take base size).modCtx c fun x => x.setHandle h
      { bound := true, pending := false, failed := false, kind := kind, roww := roww, rows := rows, base := base }
  | none => s.modCtx c fun x => x.setHandle h { Handle.reset with failed := true }

/-- HALLOC_COMPLETE (R194). -/
def execHallocComplete (c h : Nat) (s : State) : Out :=
  onCtx c (match (s.ctx c).hallocs.find? fun e => e.1 == h with
    | some e => s.bindHandle c e
    | none => s)

/-- HANDLE_STORAGE_RELEASE (R194): the storage in place h of those freed returns once the operations it waits for have finished. -/
def execHandleStorageRelease (c h : Nat) (s : State) : Out :=
  onCtx c (match (s.ctx c).releasing[h]? with
    | some (base, _, ops) =>
      if ops.any fun n => (s.ctx c).eng.any fun o => o.id == n then s
      else (s.modCore (coreOf c) fun k => k.release base).modCtx c fun x => { x with releasing := x.releasing.eraseIdx h }
    | none => s)

end Sys2Proof.Machine
end

