-- ==== Sys2Proof/Machine/CoreEvents.lean ====
section
/-! DEFINITION. The events of a core: landings, the loop-end mark, segment marks, misses and copies (R28, R53, R110, R271 to R273), and the
junction (R247 to R252). -/

namespace Sys2Proof.Machine

/-! ## Events of one context -/

/-- LANDING (R28): the entries with no tick left are written, in order. -/
def execLanding (c : Nat) (s : State) : Out := onCtx c (s.modCtx c Ctx.land)

/-- LOOP_END_MARK (R110): the counters step, and the body runs again or the nest closes. -/
def execLoopEndMark (c : Nat) (s : State) : Out := onCtx c (s.modCtx c fun x => x.loopEnd.replayPc)

/-- SEGMENT_BOUNDARY_MARK (R53): for the segment of the context's bundle. -/
def execSegmentBoundaryMark (c : Nat) (s : State) : Out := onCtx c (s.boundaryMark c (s.ctx c).pc)

/-- SEGMENT_MISS (R273): a context whose next bundle lies in a segment that is not resident stalls, and a copy is under way; an invalid
segment, or a word beyond CODESIZE, raises the segment fault. -/
def execSegmentMiss (c : Nat) (s : State) : Out :=
  onCtx c (match s.fetch c with
    | .miss _ n => (s.modCtx c fun x => x.stalled true).startMiss c n
    | .fault a => (s.modCtx c fun x => { x with pc := a }).freeze c (plainCause cSeg 1 0) 0
    | _ => s)

/-- A copy ends: the frame holds the segment, or nothing where its source has no translation that serves; a copy that nothing waits for is
then a dropped prefetch (R393, R514). -/
def State.endCopy (s : State) (k f : Nat) : State :=
  let fr := (s.core k).frame f
  match s.segmentBytes fr.needed fr.src (fr.seg.elim 0 fun g => s.segmentLen g.1 g.2) with
  | some m => (s.codeRead fr.src (fr.seg.elim 0 fun g => s.segmentLen g.1 g.2)).modCore k fun x => { x with frames := Store.put x.frames f { (x.frame f) with
      copying := false
      bytes := m } }
  | none => (if fr.needed then s else s.dropPrefetch (k / 64)).modCore k fun x => { x with frames := Store.del x.frames f }

/-- A context that waits for a segment whose copy has failed raises the segment fault at the first bundle it needs there (R305, R514); one
that replays its loop buffer fetches nothing (R113), and one stopped for a switch fetches when it runs again. -/
def State.missFail (s : State) (code n c : Nat) : State :=
  let x := s.ctx c
  if (x.state ≠ .running ∧ x.state ≠ .handler) ∨ x.switching.isSome ∨ x.code ≠ code then s
  else match s.fetch c with
    | .miss a m => if m = n then (s.modCtx c fun x => { x with pc := a }).freeze c (plainCause cSeg 1 0) 0 else s
    | _ => s

/-- The contexts of a core that wait for a segment whose copy has failed (R514). -/
def State.missFails (s : State) (k code n : Nat) : State := (ctxsOf k).foldl (fun t c => t.missFail code n c) s

/-- SEGMENT_COPY_COMPLETE (R271). -/
def execSegmentCopyComplete (core frame : Nat) (s : State) : Out :=
  if 256 ≤ core ∨ 4 ≤ frame then .fault .noSuchUnit
  else
    let fr := (s.core core).frame frame
    match fr.seg with
    | none => .next s
    | some (code, n) =>
      if !fr.copying then .next s
      else
        let t := s.endCopy core frame
        .next (if ((t.core core).resident code n).isSome || !fr.needed then t else t.missFails core code n)

/-! ## The junction (R247 to R252) -/

/-- What a context does in a cycle. -/
inductive Turn where
  /-- It is not RUNNING or HANDLER, or is stopped for a switch. -/
  | out
  /-- It stalls: for a segment, or for another reason. -/
  | stall (seg : Option Nat)
  /-- It takes a trap at decode or at fetch: cause, SUB and address. -/
  | trap (cause sub addr : Nat)
  /-- It is a candidate with this bundle. -/
  | ready (b : Bundle)
deriving DecidableEq, Repr

/-- The turn of a context. -/
noncomputable def State.turn (s : State) (c : Nat) : Turn :=
  let x := s.ctx c
  if (x.state ≠ .running ∧ x.state ≠ .handler) ∨ x.switching.isSome then .out
  else match s.fetch c with
    | .illegal a code => .trap 0x10 code a
    | .fault a => .trap cSeg 1 a
    | .miss _ n => .stall (some n)
    | .bundle a h syls after words =>
      let b := bundleOf x a after h syls words
      match lowest (s.illegalCodes x b) with
      | some code => .trap 0x10 code a
      | none => if s.stalls c b then .stall none else .ready b

/-- A context that is no candidate stalls or takes its trap. -/
def State.idleTurn (s : State) (c : Nat) : Turn → State
  | .stall none => s.modCtx c fun x => x.stalled false
  | .stall (some n) => (s.modCtx c fun x => x.stalled true).startMiss c n
  | .trap cause sub a => (s.modCtx c fun x => { x with pc := a }).freeze c (plainCause cause sub 0) 0
  | _ => s

/-- A candidate: its context and its bundle. -/
abbrev Candidate := Nat × Bundle

/-- Has a context starved (R250)? -/
def State.starved (s : State) (c : Nat) : Bool := decide (1020 ≤ (s.ctx c).starve)
/-- Is a context yielded (R123)? -/
def State.yielded (s : State) (c : Nat) : Bool := decide (s.cycles.toNat ≤ (s.ctx c).yieldUntil)

/-- Does candidate `a` come before `b` (R248)? `rp` is the rotation pointer. -/
def State.before (s : State) (rp a b : Nat) : Bool :=
  if s.starved a ≠ s.starved b then s.starved a
  else if s.starved a then
    let x := (s.ctx a).starve
    let y := (s.ctx b).starve
    if x ≠ y then decide (y < x) else decide (a < b)
  else
    let p := (s.ctx a).csr.prio.toNat % 8
    let q := (s.ctx b).csr.prio.toNat % 8
    if p ≠ q then decide (q < p) else decide ((a % 4 + 4 - rp) % 4 < (b % 4 + 4 - rp) % 4)

/-- Insert a candidate in the order of R248. -/
def State.insertCand (s : State) (rp : Nat) (e : Candidate) : List Candidate → List Candidate
  | [] => [e]
  | d :: l => if s.before rp e.1 d.1 then e :: d :: l else d :: s.insertCand rp e l

/-- Are two bundles mergeable (R251)? -/
def mergeable (a b : Bundle) : Bool :=
  let sa := a.ops.map fun i => (infoOf i).slot
  let sb := b.ops.map fun i => (infoOf i).slot
  let hasScope := fun (l : List Nat) => l.contains 12
  let mem := fun (l : List Nat) => l.any fun k => k == 2 || k == 3 || k == 4 || k == 10 || k == 11
  !(sa.any sb.contains) && !(hasScope sa && mem sb) && !(hasScope sb && mem sa)

/-- The primary and the secondary among candidates in order (R248, R252). -/
def State.choose (s : State) (l : List Candidate) : List Nat :=
  let open_ := fun (e : Candidate) => s.starved e.1 || !s.yielded e.1
  match (if l.length = 1 then l.head? else l.find? open_) with
  | none => []
  | some p =>
    p.1 :: (((l.filter fun e => !(e.1 == p.1)).find? fun e => open_ e && mergeable p.2 e.2).map (·.1)).toList

/-- The starvation counts after a cycle (R250). -/
def State.countStarved (s : State) (core : Nat) (cands issued : List Nat) : State :=
  (ctxsOf core).foldl (fun t c =>
    let n := if cands.contains c && !issued.contains c then (t.ctx c).starve + 1 else 0
    if n = (t.ctx c).starve then t else t.modCtx c fun x => { x with starve := n }) s

/-- JUNCTION_CYCLE (R247, R248): stalls and traps of the core's contexts, and the choice of the contexts that issue. -/
noncomputable def execJunctionCycle (core : Nat) (s : State) : Out :=
  if 256 ≤ core then .fault .noSuchUnit
  else
    let turns := (ctxsOf core).map fun c => (c, s.turn c)
    let cands := turns.foldr (fun e l => match e.2 with
      | .ready b => s.insertCand (s.core core).rp (e.1, b) l
      | _ => l) []
    let chosen := s.choose cands
    let t := turns.foldl (fun t e => t.idleTurn e.1 e.2) s
    let t := t.countStarved core (cands.map (·.1)) chosen
    let t := match chosen with
      | p :: _ => t.modCore core fun k => { k with rp := (p + 1) % 4 }
      | [] => t
    .next { t with
      round := t.round.erase core
      issueQ := t.issueQ ++ chosen }

/-- ROTATION_REBASE (R249): in a cycle with CYCLES mod 64 = 0. -/
def execRotationRebase (core : Nat) (s : State) : Out :=
  if 256 ≤ core then .fault .noSuchUnit
  else if s.cycles.toNat % 64 = 0 then .next (s.modCore core fun k => { k with rp := s.cycles.toNat / 64 % 4 })
  else .next s

end Sys2Proof.Machine
end

