-- ==== Sys2Proof/Machine/MemoryEvents.lean ====
section
/-! DEFINITION. The events of the clusters and the memory side: barriers (R336), writebacks and soft errors (R328, R330, R383, R415), the
placement of atomics (R385), invalidations and migrations (R388, R390), hint windows (R392). -/

namespace Sys2Proof.Machine

/-! ## Barriers (R336) -/

/-- A CONFIG write. -/
def Barrier.configure (b : Barrier) : Barrier :=
  match b.config with
  | none => b
  | some e => { b with
      err := b.pend != 0
      expect := e
      pend := 0
      drops := 0
      config := none }

/-- Arrivals and drops of the cycle. -/
def Barrier.count (b : Barrier) : Barrier :=
  let a := b.arrivals
  let d := b.dropsNow
  let b := { b with
    arrivals := 0
    dropsNow := 0 }
  if b.expect = 0 then { b with err := b.err || decide (0 < a + d) }
  else
    let p := b.pend + a + d
    let k := b.drops + d
    if b.expect ≤ p then { b with
      err := b.err || decide (b.expect < p)
      phase := (b.phase + 1) % 2 ^ 32
      expect := b.expect - k
      pend := 0
      drops := 0 }
    else { b with
      pend := p
      drops := k }

/-- The accesses of a context that one update of a barrier takes, in program order: those that nothing holds back, up to a CONFIG write that does
not come first or finds another one taken (log entry 93). -/
def inputsOf (taken : Bool) : List MemUnit → List MemUnit
  | [] => []
  | u :: l =>
    let config := fun (v : MemUnit) => v.toBarrier.any fun e => e.2 == 0x18
    if config u && taken then [] else u :: l.takeWhile fun v => !config v

/-- The accesses that reach a barrier in its update: those of the cluster's contexts, rising, with one CONFIG write at most (R336). -/
def State.barrierInputs (s : State) (cl b : Nat) : List (Nat × MemUnit) :=
  (List.range 32).foldl (fun l i =>
    let c := 32 * cl + i
    let us := (s.ctx c).units
    let mine := us.filter fun u => (u.toBarrier.any fun e => e.1 == b) && !u.suspended && unitReady us u && !s.unitHeld c u
    l ++ (inputsOf (l.any fun e => e.2.toBarrier.any fun f => f.2 == 0x18) mine).map fun u => (c, u)) []

/-- An access reaches the barrier: a CONFIG value, an arrival or a drop (R334). -/
def Barrier.take (b : Barrier) (u : MemUnit) : Barrier :=
  match u.toBarrier with
  | some (_, w) =>
    if w = 0x18 then { b with config := some u.data }
    else if w = 8 then { b with arrivals := b.arrivals + 1 }
    else if w = 0x10 then { b with dropsNow := b.dropsNow + 1 }
    else b
  | none => b

/-- The releases of the accesses that a barrier takes (R337). -/
def State.releaseInputs (s : State) (l : List (Nat × MemUnit)) : State :=
  l.foldl (fun t e => if e.2.isRelease then t.releaseObj e.1 e.2.scope e.2.obj else t) s

/-- An access that a barrier has taken is performed: its context receives PHASE as it stood before, and its acquire acts (R335, R337). -/
def State.inputDone (s : State) (phase : Nat) (e : Nat × MemUnit) : State :=
  let t := s.modCtx e.1 fun x => (x.deliver e.2 phase).endUnit e.2.id
  if e.2.isAcquire then t.acquireObj e.1 e.2.scope e.2.obj else t

/-- One cycle of a barrier: it takes what reaches it, and each of those accesses is then performed (R333, R335 to R337). -/
def State.updateBarrier (s : State) (cl b : Nat) : State :=
  let l := s.barrierInputs cl b
  let phase := (s.barrier cl b).phase
  l.foldl (fun t e => t.inputDone phase e)
    ((s.releaseInputs l).modBarrier cl b fun x => ((l.map (·.2)).foldl Barrier.take x).configure.count)

/-- BARRIER_UPDATE (R336). -/
def execBarrierUpdate (cl b : Nat) (s : State) : Out :=
  if 32 ≤ cl ∨ 16 ≤ b then .fault .noSuchUnit else .next (s.updateBarrier cl b)

/-! ## The cluster cache (R328, R330) -/

/-- CLUSTER_CACHE_WRITEBACK (R328): the dirty bytes of a line go out. -/
def execClusterCacheWriteback (cl line : Nat) (s : State) : Out :=
  if 32 ≤ cl then .fault .noSuchUnit else .next (s.writeback cl line)

/-- CLUSTER_CACHE_ECC_ERROR (R330): a corrected error is counted; an uncorrectable one poisons the dirty bytes of its chunk, and invalidates
what the line holds clean where the chunk has none. -/
def execClusterCacheEccError (cl line chunk : Nat) (correctable : Bool) (s : State) : Out :=
  if 32 ≤ cl ∨ 8 ≤ chunk then .fault .noSuchUnit
  else match s.line cl line with
    | none => .next s
    | some l =>
      if correctable then .next (s.modCluster cl fun x => { x with corrected := x.corrected + 1 })
      else
        let d := l.dirty &&& chunkMask chunk
        if d ≠ 0 then .next (s.setLine cl line { l with poison := l.poison ||| d })
        else if l.dirty = 0 then .next (s.dropLine cl line)
        else .next (s.setLine cl line { l with valid := l.dirty })

/-! ## The LLC and carrier memory (R383, R385, R415) -/

/-- LLC_ECC_ERROR (R383): an uncorrectable error poisons the dirty bytes of a chunk that a slice holds; a clean chunk is fetched again. -/
def execLlcEccError (line chunk : Nat) (correctable : Bool) (s : State) : Out :=
  if 8 ≤ chunk then .fault .noSuchUnit
  else
    let x := s.llcLine line
    .next (if correctable || !x.present || x.dirty &&& chunkMask chunk == 0 then s
      else s.modLlc line fun y => { y with poison := y.poison ||| (y.dirty &&& chunkMask chunk) })

/-- CARRIER_MEMORY_ECC_ERROR (R415): of a chunk of carrier memory, by an intermediate address that maps it, with the outcomes of R383; which
bytes of a chunk with an uncorrectable error no other copy can restore is not stated, so the bytes that become poisoned are a free value (log entry 5). -/
def execCarrierMemoryEccError (ia : Nat) (correctable : Bool) (s : State) : Out :=
  match s.walk ia with
  | some l => .next (if correctable || l.tier != 2 then s
      else (s.modLlc (ia / 128) fun x => { x with poison := x.poison |||
        (BitVec.ofNat 128 (s.free % 2 ^ 16 * 2 ^ (16 * (ia % 128 / 16))) &&& chunkMask (ia % 128 / 16)) }).spend)
  | none => .next s

/-- ATOMIC_PLACEMENT_NEAR (R385): eight atomics in a row from one cluster make a line NEAR and lend it. -/
def execAtomicPlacementNear (line cl : Nat) (s : State) : Out :=
  if 32 ≤ cl then .fault .noSuchUnit
  else
    let x := s.llcLine line
    let host := match s.walk (128 * line) with
      | some l => l.tier == 3
      | none => true
    if !host ∧ !x.mode ∧ x.run.1 = cl ∧ 8 ≤ x.run.2 then
      .next (s.modLlc line fun x => { x with
        mode := true
        near := some cl })
    else .next s

/-- OWNERSHIP_RECALL (R385). -/
def execOwnershipRecall (line : Nat) (s : State) : Out := .next (s.recallLine line)

/-! ## Invalidations (R388) -/

/-- The packet of an invalidation that every slice has acknowledged completes. -/
def State.endInvals (s : State) : State :=
  let ended := s.invals.filter fun e => e.waiting == 0
  ended.foldl (fun t e => match e.hdr with
    | some h => t.complete h 0 e.value
    | none => t) { s with invals := s.invals.filter fun e => !(e.waiting == 0) }

/-- TRANSLATION_INVALIDATE_ACK (R388): every access the slice translated under the old entries is complete, and it caches none of their
lines. -/
def execTranslationInvalidateAck (slice : Nat) (s : State) : Out :=
  if 128 ≤ slice then .fault .noSuchUnit
  else
    let mine := (s.invals.filter fun e => e.waiting.getLsbD slice).flatMap fun e => e.lines
    let ack := fun (e : Inval) => { e with waiting := e.waiting &&& ~~~(1#128 <<< slice) }
    .next (State.endInvals { s with
      tlb := s.tlb.filter fun e => !(e.1 / 2 ^ 42 == slice && mine.any fun k => e.1 / 2 ^ 40 % 4 == k.1 && e.1 % 2 ^ 40 / 16 == k.2 / 16)
      invals := s.invals.map ack })

/-- The sharers of some page-table lines, by directory key, whose bitmaps are cleared. -/
def State.takeSharers (s : State) (l : List Nat) : Word128 × State :=
  l.foldl (fun (t : Word128 × State) k =>
    (t.1 ||| Store.get 0 t.2.sharers k, { t.2 with sharers := Store.del t.2.sharers k })) (0, s)

/-- The directory keys of some entries. -/
def State.dirKeys (s : State) (l : List (Nat × Nat)) : List Nat := (l.map fun e => s.dirKey e.1 e.2).eraseDups

/-- A command that wrote page-table lines completes after the last acknowledgement; with no sharer, at once. -/
def State.invalidate (s : State) (l : List (Nat × Nat)) (keys : List Nat) (hdr : Option PktHdr) (value ia : Nat) : State :=
  let (w, s) := s.takeSharers keys
  State.endInvals { s with invals := s.invals ++ [({ waiting := w, hdr := hdr, value := value, ia := ia, lines := l } : Inval)] }

/-! ## Pages (R386, R387, R390) -/

/-- A charge of a page moves from one tier to another of a class, in 64 KiB units (R416, R417). -/
def QuotaClass.charge (q : QuotaClass) (tier n : Nat) (add : Bool) : QuotaClass :=
  let f := fun (u : Nat) => if add then u + n else u - n
  match tier with
  | 0 => { q with uhbmr := f q.uhbmr }
  | 1 => { q with uhbmp := f q.uhbmp }
  | 2 => { q with ucar := f q.ucar }
  | _ => q

/-- MIGRATION_COPY_COMPLETE (R390): once every slice has acknowledged MIG, the page is copied and its leaf rewritten; once every slice has
acknowledged that, the held writes apply. -/
def execMigrationCopyComplete (ia : Nat) (s : State) : Out :=
  match s.migrations.find? fun m => m.ia == ia with
  | some m =>
    let gone := leafKeys m.size ia
    .next (if s.invals.any fun e => e.hdr.isNone && e.ia == ia then s
      else if m.copied then s.endMigration m
      else (s.copyPage m).invalidate gone (s.dirKeys gone) none 0 ia)
  | none => .next s

/-! ## Hints (R392) -/

/-- HINT_WINDOW_CHECK (R392): a window of 4,096 lookups of a slice, which `State.countLookup` counts, posts the one report of its task and
entry where it contradicts the hint. -/
def execHintWindowCheck (slice task entry misses : Nat) (s : State) : Out :=
  if 128 ≤ slice then .fault .noSuchUnit
  else
    let s := { s with closed := s.closed.erase (slice, task, entry, misses) }
    match s.taskOf task with
    | none => .next s
    | some t =>
      match t.hints[entry]? with
      | none => .next s
      | some (base, _, reuse) =>
        if (misses ≤ 4096 ∧ 3072 ≤ misses ∧ 2 ≤ reuse) ∨ (misses ≤ 1024 ∧ reuse = 0) then
          (if s.fe.hinted.contains (task, entry) then .next s
           else .next ((s.modFe fun f => { f with hinted := f.hinted ++ [(task, entry)] }).postHint
             (task + 2 ^ 16 * entry + 2 ^ 24 * reuse + 2 ^ 32 * slice) misses base))
        else .next s

end Sys2Proof.Machine
end

