-- ==== Sys2Proof/Machine/Pages.lean ====
section
/-! DEFINITION. The packets that describe address spaces, pages and code: ASPACE (R381, R419, R444), MAP, UNMAP, PROTECT, MIGRATE
(R388, R390, R417, R516) and SEGTAB (R446). -/

namespace Sys2Proof.Machine

/-! ## Charges and capacities (R413, R416, R417) -/

/-- 64 KiB units of a page by its size code. -/
def pageUnits (code : Nat) : Nat := pageBytes code / 65536

/-- The charge of a page goes. -/
def State.uncharge (s : State) (ia : Nat) : State :=
  match s.fe.charges.find? fun e => e.1 == ia / 65536 with
  | none => s
  | some (_, _, cls, tier, code) =>
    (s.modQuota cls fun q => q.charge tier (pageUnits code) false).modFe fun f => { f with charges := Store.del f.charges (ia / 65536) }

/-- A page is charged to the class of an address space. -/
def State.chargePage (s : State) (ia asid tier code : Nat) : State :=
  (s.modQuota (s.classOf asid) fun q => q.charge tier (pageUnits code) true).modFe fun f => { f with
    charges := Store.put f.charges (ia / 65536) (asid, s.classOf asid, tier, code) }

/-- What a class uses of a tier, in 64 KiB units. -/
def QuotaClass.used (q : QuotaClass) (tier : Nat) : Nat :=
  match tier with
  | 0 => q.uhbmr
  | 1 => q.uhbmp
  | 2 => q.ucar
  | _ => 0

/-- Its limit of a tier, in 64 KiB units. -/
def QuotaClass.limit (q : QuotaClass) (tier : Nat) : Nat :=
  match tier with
  | 0 => 32 * q.qhbmr
  | 1 => 32 * q.qhbmp
  | _ => 32 * q.qcar

/-- The capacity of a tier, in 64 KiB units (R413). -/
def State.tierSize (s : State) (tier : Nat) : Nat :=
  match tier with
  | 0 => 8388608 - 32 * s.fe.poolSize
  | 1 => 32 * s.fe.poolSize
  | _ => 16777216

/-- Does one more page fit under the limit of a class and in its tier (R417)? Host memory has neither. -/
def State.pageFits (s : State) (asid tier code : Nat) : Bool :=
  tier == 3 ||
  (decide ((s.quotaOf (s.classOf asid)).used tier + pageUnits code ≤ (s.quotaOf (s.classOf asid)).limit tier) &&
   decide (s.fe.classes.foldl (fun n e => n + e.2.used tier) 0 + pageUnits code ≤ s.tierSize tier))

/-! ## Leaves of a range (R516) -/

/-- The pages mapped by valid leaves of the table, each once: a CONT group is one page. -/
def State.pages (s : State) : List (Nat × Nat) :=
  (s.leaves.filterMap leafPage).filter fun e =>
    match s.tableWalk e.1 with
    | some l => l.valid && decide (l.size = pageBytes e.2) && decide (e.1 % l.size = 0)
    | none => false

/-- The pages that share a byte with a range. -/
def State.pagesIn (s : State) (ia n : Nat) : List (Nat × Nat) :=
  s.pages.filter fun e => decide (e.1 < ia + n) && decide (ia < e.1 + pageBytes e.2)

/-- Does every one of them lie wholly inside the range? -/
def allInside (l : List (Nat × Nat)) (ia n : Nat) : Bool := l.all fun e => decide (ia ≤ e.1) && decide (e.1 + pageBytes e.2 ≤ ia + n)

/-- The dirty bytes that cluster caches and slices hold of a page are written back to its old PA, and the lines invalidated (R388, R516). -/
def State.flushPage (s : State) (e : Nat × Nat) : State :=
  (s.clusters.foldl (fun t k => (k.2.cache.filter fun l => decide (e.1 / 128 ≤ l.1) && decide (l.1 < (e.1 + pageBytes e.2) / 128)).foldl
    (fun u l => u.flush k.1 l.1) t) s).llcDrop e.1 (pageBytes e.2)

/-- A migration that a later command overtakes is finished first. -/
def State.settle (s : State) (ia n : Nat) : State :=
  (s.migrations.filter fun m => decide (m.ia < ia + n) && decide (ia < m.ia + pageBytes m.size)).foldl State.finishMigration s

/-- A page is unmapped. What was known of poison at its lines went with it. -/
def State.dropPage (s : State) (e : Nat × Nat) : State :=
  (((s.flushPage e).llcForget e.1 (pageBytes e.2)).setLeaves e.2 e.1 fun _ => 0).uncharge e.1

/-- The page-table lines of some pages. -/
def linesOfPages (l : List (Nat × Nat)) : List (Nat × Nat) := l.flatMap fun e => leafKeys e.2 e.1

/-! ## MAP, UNMAP, PROTECT, MIGRATE (R390, R417, R516) -/

/-- Does a page lie in an HBM stack that is not yet in service (R470)? The eight stacks are taken to be consecutive runs of 64 GiB (log
entry 22). -/
def State.stackOut (s : State) (pa tier : Nat) : Bool := decide (tier ≤ 1) && decide (s.pow.stage < 6) && decide (2 ^ 37 ≤ pa)

/-- The pointer entries above a new page that its MAP wrote. -/
def State.nodesMade (s t : State) (size ia : Nat) : List (Nat × Nat) :=
  ((leafKeys size ia).flatMap fun e => ptesAbove e.1 e.2).eraseDups.filter fun e => s.pte e.1 e.2 != t.pte e.1 e.2

/-- MAP: pages wholly inside the new one give way to it; one that reaches outside refuses the packet. -/
def execMap (h : PktHdr) (ia pa size tier : Nat) (r w : Bool) (asid : Nat) (s : State) : Out :=
  supervisorFor h [asid] s (
    let n := pageBytes size
    if 4 ≤ size ∨ ia % n ≠ 0 ∨ 2 ^ 52 < ia + n ∨ pa % n ≠ 0 ∨ 2 ^ 52 < pa + n ∨ 4 ≤ tier ∨ 8192 ≤ asid ∨ s.stackOut pa tier then .next (s.complete h 0x15 0)
    else
      let s := s.settle ia n
      let old := s.pagesIn ia n
      if !allInside old ia n then .next (s.complete h 0x15 0)
      else
        let t := old.foldl State.dropPage s
        if !t.pageFits asid tier size then .next (s.complete h 0x0D 0)
        else
          let t := (t.setLeaves size ia fun i => leafWord size pa tier i r w).chargePage ia asid tier size
          let gone := linesOfPages old
          let new := leafKeys size ia ++ s.nodesMade t size ia
          .next (t.invalidate (gone ++ new) (s.dirKeys gone ++ t.dirKeys new) (some h) 0 ia))

/-- UNMAP: the packet names the address space of its ASID field (R455, R459). VALUE counts leaf entries: sixteen of a CONT group (log entry 101). -/
def execUnmap (h : PktHdr) (ia size : Nat) (s : State) : Out :=
  supervisorFor h [h.named] s (
    let n := pageBytes size
    if 4 ≤ size ∨ 2 ^ 52 < ia + n then .next (s.complete h 0x15 0)
    else
      let s := s.settle ia n
      let l := s.pagesIn ia n
      if !allInside l ia n then .next (s.complete h 0x15 0)
      else .next ((l.foldl State.dropPage s).invalidate (linesOfPages l) (s.dirKeys (linesOfPages l)) (some h) (linesOfPages l).length ia))

/-- The rights of a page change. -/
def State.rightsChange (s : State) (r w : Bool) (e : Nat × Nat) : Bool :=
  match s.tableWalk e.1 with
  | none => false
  | some l => l.word.getLsbD 3 != r || l.word.getLsbD 4 != w

/-- New rights of a page, in each leaf of a CONT group: where one is taken away, its dirty bytes go out first. -/
def State.protectPage (s : State) (r w : Bool) (e : Nat × Nat) : State :=
  match s.tableWalk e.1 with
  | none => s
  | some l =>
    let s := if (l.word.getLsbD 3 && !r) || (l.word.getLsbD 4 && !w) then s.flushPage e else s
    (leafKeys e.2 e.1).foldl (fun t k => t.setLeaf k.1 k.2 ((t.pte k.1 k.2 &&& ~~~0x18#64) ||| BitVec.ofNat 64 (8 * r.toNat + 16 * w.toNat))) s

/-- PROTECT: it names the address space of its ASID field (R455, R459). VALUE counts leaf entries (log entry 101). -/
def execProtect (h : PktHdr) (ia size : Nat) (r w : Bool) (s : State) : Out :=
  supervisorFor h [h.named] s (
    let n := pageBytes size
    if 4 ≤ size ∨ 2 ^ 52 < ia + n then .next (s.complete h 0x15 0)
    else
      let s := s.settle ia n
      let l := s.pagesIn ia n
      if !allInside l ia n then .next (s.complete h 0x15 0)
      else
        let l := l.filter fun e => s.rightsChange r w e
        .next ((l.foldl (fun t e => t.protectPage r w e) s).invalidate (linesOfPages l) (s.dirKeys (linesOfPages l)) (some h) (linesOfPages l).length ia))

/-- MIGRATE: MIG is set, and once every slice knows it the copy runs. -/
def execMigrate (h : PktHdr) (ia pa size tier asid : Nat) (s : State) : Out :=
  supervisorFor h [asid] s (
    let n := pageBytes size
    if 4 ≤ size ∨ ia % n ≠ 0 ∨ 2 ^ 52 < ia + n ∨ pa % n ≠ 0 ∨ 2 ^ 52 < pa + n ∨ 3 ≤ tier ∨ 8192 ≤ asid then .next (s.complete h 0x15 0)
    else
      let s := s.settle ia n
      match s.tableWalk ia with
      | none => .next (s.complete h 0x15 0)
      | some l =>
        if !l.valid ∨ l.size ≠ n ∨ l.tier = 3 then .next (s.complete h 0x15 0)
        else
          let s := (s.setLeaf l.level l.key (l.word ||| 0x800#64)).uncharge ia
          let s := s.chargePage ia asid tier size
          .next (State.invalidate { s with migrations := s.migrations ++
            [({ ia := ia, pa := pa, size := size, tier := tier, held := [], copied := false, hdr := h } : Migration)] } (leafKeys size ia) (s.dirKeys (leafKeys size ia))
            none 0 ia))

/-! ## SEGTAB (R446) -/

/-- An entry of a segment table, as a 128-bit number; none: malformed. -/
def segEntryOf (v : Nat) : Option SegEntry :=
  if bitsN v 52 12 ≠ 0 ∨ bitsN v 77 51 ≠ 0 ∨ bitsN v 0 16 ≠ 0 then none
  else some { src := bitsN v 0 52, next := bitsN v 64 12, valid := bitsN v 76 1 = 1 }

/-- SEGTAB. -/
def execSegtab (h : PktHdr) (code table count : Nat) (s : State) : Out :=
  supervisor h s (
    if count = 0 ∨ 4096 < count ∨ 2 ^ 52 ≤ code ∨ !s.pagesOk table (16 * count) then .next (s.complete h 0x15 0)
    else
      let s := s.feRead table (16 * count)
      let l := (List.range count).map fun i => segEntryOf (s.homeRead (table + 16 * i) 16)
      if l.any Option.isNone then .next (s.complete h 0x15 0)
      else .next ((s.modFe fun f => { f with segtabs := Store.put f.segtabs code (l.filterMap id) }).complete h 0 0))

/-! ## ASPACE (R381, R419, R444) -/

/-- A range descriptor of 16 bytes; none where [127:118] is not zero. -/
def rangeOf (asid v : Nat) : Option Range :=
  if bitsN v 118 10 ≠ 0 then none
  else some { va := bitsN v 0 40, len := bitsN v 40 40, ia := bitsN v 80 36, asid := asid, w := bitsN v 117 1 = 1, r := bitsN v 116 1 = 1 }

/-- May one register be part of a description: within VA and IA, and clear of the frames' window (R381, R419)? -/
def Range.ok (r : Range) : Bool :=
  decide (r.va + r.len ≤ 2 ^ 40) && decide (r.ia + r.len ≤ 2 ^ 36) &&
  !(decide (r.ia < 0xE00000000 + 2 ^ 22) && decide (0xE00000000 < r.ia + r.len))

/-- Do two registers share a virtual address? -/
def Range.meets (r q : Range) : Bool := decide (r.va < q.va + q.len) && decide (q.va < r.va + r.len)

/-- Is a list of used registers a description the front end accepts? -/
def rangesOk : List Range → Bool
  | [] => true
  | r :: l => r.ok && !l.any r.meets && rangesOk l

/-- The descriptors at an intermediate address, by number. -/
def State.rangesAt (s : State) (asid desc : Nat) : List (Option Range) :=
  (List.range 16).map fun i => rangeOf asid (s.homeRead (desc + 16 * i) 16)

/-- Install an address space: a new one starts at step 0, and the open step is 0 (R497). -/
def State.install (s : State) (asid cls recQuota : Nat) (l : List Range) : State :=
  s.modFe fun f =>
    let old := Store.get { ranges := [], recQuota := 0, curStep := 0, openStep := 0 } f.aspaces asid
    { f with
      aspaces := Store.put f.aspaces asid { old with
        ranges := (List.range 16).zip l
        recQuota := recQuota
        openStep := 0 }
      classMap := Store.set 0 f.classMap asid cls }

/-- What a teardown takes from an address space with no live task: records, leases, frames, templates, groups and sheets (R444, R518). -/
def State.tearDown (s : State) (asid : Nat) : State :=
  let s := (s.fe.leases.filter fun e => e.2.asid == asid).foldl (fun t e => t.releaseLease e.1) s
  let s := s.evictFrames fun e => e.2.asid == asid
  { s with records := s.records.filter fun e => !(e.2.asid == asid) }.modFe fun f => { f with
    aspaces := Store.del f.aspaces asid
    templates := f.templates.filter fun e => !(e.1 / 1024 == asid)
    groups := f.groups.filter fun e => !(e.1 / 2 ^ 32 == asid)
    sheets := f.sheets.filter fun e => !(e.1.1 == asid)
    stepRecs := f.stepRecs.filter fun e => !(e.1.1 == asid)
    committed := Store.del f.committed asid
    stale := f.stale.filter fun e => !(e.1 == asid) }

/-- ASPACE: a teardown waits for the last task, and its rights are not looked at again; a description that is refused, for its ranges or a reserved bit, posts its error record and
leaves the earlier one (R381, R419, R444, R449). -/
def execAspace (h : PktHdr) (asid cls : Nat) (teardown : Bool) (recQuota desc : Nat) (s : State) : Out :=
  if s.fe.teardownsDue.contains (asid, h) then
    .next (((s.modFe fun f => { f with teardownsDue := f.teardownsDue.erase (asid, h) }).tearDown asid).complete h 0 0)
  else supervisorFor h [asid] s (
    if 8192 ≤ asid ∨ 256 ≤ cls then .next (s.complete h 0x15 0)
    else if teardown then
      (if s.asidLive asid then .next (s.modFe fun f => { f with teardowns := f.teardowns ++ [(asid, h)] })
       else .next ((s.tearDown asid).complete h 0 0))
    else if !s.pagesOk desc 256 then .next (s.complete h 0x15 0)
    else
      let s := s.feRead desc 256
      let l := s.rangesAt asid desc
      if l.any Option.isNone || !rangesOk ((l.filterMap id).filter fun r => r.len != 0) then
        .next ((s.postError 0x0010 (pktWord h) asid).complete h 0x15 0)
      else .next ((s.install asid cls recQuota (l.filterMap id)).complete h 0 0))

end Sys2Proof.Machine
end

