-- ==== Sys2Proof/Machine/Interfaces.lean ====
section
/-! DEFINITION. The host interface: the host-coherence agent (R456), host accesses to device memory (R457), the device interfaces (R458 to
R462), and the SPDM responder (R463). -/

namespace Sys2Proof.Machine

/-! ## Answers and owners -/

/-- Change the host interface. -/
def State.modHost (s : State) (f : HostIf → HostIf) : State := { s with host := f s.host }
/-- The answer to a request: 1 accepted, 2 an error, with its bytes. -/
def State.answerHost (s : State) (code : Nat) (bytes : List Byte) : State := s.modHost fun h => { h with answer := (code, bytes) }
/-- Replace a device interface. -/
def State.setVf (s : State) (v : Nat) (x : Vf) : State := s.modHost fun h => { h with vfs := Store.set Vf.reset h.vfs v x }

/-- The queues of a VF, ascending (R454). -/
def State.queuesOf (s : State) (v : Nat) : List Nat := (List.range 128).filter fun q => s.ownerOf q == v
/-- The address spaces of a VF, ascending (R453). -/
def State.asidsOfVf (s : State) (v : Nat) : List Nat := (List.range 8192).filter fun a => s.asidOwner a == v
/-- The live tasks of a VF. -/
def State.tasksOfVf (s : State) (v : Nat) : List (Nat × Task) := s.fe.tasks.filter fun e => s.asidOwner e.2.asid == v

/-- The bytes of a number, lowest first. -/
def leBytes : Nat → Nat → List Byte
  | 0, _ => []
  | n + 1, v => BitVec.ofNat 8 v :: leBytes n (v / 256)

/-! ## Queue resets and errors (R438, R460) -/

/-- A queue is reset (R438). What it fetched runs on. -/
def Queue.resetQueue (x : Queue) : Queue :=
  { x with
    state := 0
    fetched := 0
    lastHint := 0
    phase := true
    errcode := 0 }

/-- A queue enters ERROR. -/
def Queue.error (x : Queue) (code : Nat) : Queue :=
  { x with
    state := 3
    errcode := code }

/-! ## An interface in ERROR (R459, R460) -/

/-- A task of an interface in ERROR ends: what of it has not retired is abandoned (R318, R460; log entry 41). -/
noncomputable def State.endTask (s : State) (id : Nat) : State :=
  match s.taskOf id with
  | none => s
  | some t =>
    if t.state = .done then s else
    let s := { s with walkers := s.walkers.filter fun w => !(w.2.task == id) }
    let s := s.modFe fun f => { f with
      ready := f.ready.map fun e => (e.1, e.2.filter fun i => !(i == id))
      aged := f.ready.foldl (fun m e => if e.2.head? = some id then Store.set 0 m e.1 0 else m) f.aged }
    let s := s.setTask id { t with
      state := .done
      saved := []
      aborted := t.tiles - t.retired
      status := if t.status = 0 then 0x18 else t.status }
    { s with agenda := s.agenda ++ [.taskDone id] }

/-- Contexts that run a tile of a VF. -/
def State.ctxsOfVf (s : State) (v : Nat) : List Nat :=
  (List.range 1024).filter fun c => (s.ctx c).resident && s.asidOwner (s.ctx c).asid == v

/-- Spill areas that hold a tile of a VF. -/
def State.areasOfVf (s : State) (v : Nat) : List Nat := (s.fe.images.filter fun e => s.asidOwner e.2.2.asid == v).map (·.1)

/-- No completion and no event record is written for the tasks of a VF (R460). -/
def State.silence (s : State) (v : Nat) : State :=
  let own := s.asidOwner
  let held := s.ctxsOfVf v
  s.modFe fun f => { f with
    tasks := f.tasks.map fun (e : Nat × Task) => if own e.2.asid = v then (e.1, { e.2 with silent := true }) else e
    ring := { f.ring with heldFaults := f.ring.heldFaults.filter fun (r : EvRecord) => !held.contains r.ctx } }

/-- Every tile of a VF is abandoned, and its tasks end (R318, R460). -/
noncomputable def State.endTasks (s : State) (v : Nat) : State :=
  let s := s.silence v
  let s := (s.ctxsOfVf v).foldl (fun t c => t.abandon c) s
  let s := (s.areasOfVf v).foldl (fun t a => t.abandonImage a) s
  (s.tasksOfVf v).foldl (fun t e => t.endTask e.1) s

/-- An interface enters ERROR (R460). -/
noncomputable def State.interfaceError (s : State) (v : Nat) : State :=
  let s := s.setVf v { s.vf v with
    state := 3
    ide := false
    nonce := none }
  ((s.queuesOf v).foldl (fun t q => t.modQueue q fun x => x.error 2) s).endTasks v

/-- A frozen item of a VF is written (R459): an interface that is locked or runs enters ERROR. -/
noncomputable def State.frozenWrite (s : State) (v : Nat) : State := if s.vfFrozen v then s.interfaceError v else s

/-- A request names a VF, PF0, or no function; none is answered before step 4 of a start (R469). -/
def onVf (v : Nat) (s : State) (f : Out) : Out := if 16 < v then .fault .noSuchUnit else if s.serving then f else .next s

/-- FROZEN_ITEM_WRITE (R459): the write is dropped. -/
noncomputable def execFrozenItemWrite (vf : Nat) (s : State) : Out := onVf vf s (.next (s.frozenWrite vf))

/-- IDE_INTEGRITY_FAILURE (R458). -/
noncomputable def execIdeIntegrityFailure (vf : Nat) (s : State) : Out := onVf vf s (.next (s.frozenWrite vf))

/-- FUNCTION_LEVEL_RESET (R458): of a VF that is not locked, its queues are reset and it stays unlocked (log entry 41). -/
noncomputable def execFunctionLevelReset (vf : Nat) (s : State) : Out :=
  onVf vf s (.next (if s.vfFrozen vf then s.interfaceError vf
    else if vf ≠ 0 ∧ (s.vf vf).state = 0 then (s.queuesOf vf).foldl (fun t q => t.modQueue q Queue.resetQueue) s
    else s))

/-! ## TDISP requests (R458, R461, R462) -/

/-- LOCK_INTERFACE_REQUEST (R458): the nonce it returns is a free value. -/
def execLockInterfaceRequest (vf : Nat) (s : State) : Out :=
  onVf vf s (let x := s.vf vf
    if vf ≠ 0 ∧ x.state = 0 ∧ x.ide then
      .next (((s.setVf vf { x with
        state := 1
        nonce := some (BitVec.ofNat 64 s.free) }).spend).answerHost 1 (leBytes 8 s.free))
    else .next (s.answerHost 2 []))

/-- START_INTERFACE_REQUEST (R458). -/
def execStartInterfaceRequest (vf : Nat) (nonce : Word) (s : State) : Out :=
  onVf vf s (let x := s.vf vf
    if vf ≠ 0 ∧ x.state = 1 ∧ !x.stopping ∧ x.nonce = some nonce then
      .next ((s.setVf vf { x with
        state := 2
        nonce := none }).answerHost 1 [])
    else .next (s.answerHost 2 []))

/-- The lines of a page leave every cluster cache and lose their poison. -/
def State.forgetLines (s : State) (ia n : Nat) : State :=
  State.llcForget { s with
    clusters := s.clusters.map fun (k : Nat × Cluster) => (k.1, { k.2 with cache := k.2.cache.filter fun e => !lineIn ia n e.1 }) } ia n

/-- A page reads as zero, and is unmapped (R461). -/
def State.scrubPage (s : State) (ia code : Nat) : State :=
  let n := pageBytes code
  let s := s.settle ia n
  match s.walk ia with
  | none => s.uncharge ia
  | some l =>
    let pa := pteAddr l.word
    let s := (s.forgetLines ia n).recallRange ia n
    let s := if l.tier = 3 then { s with
        hostMem := Store.clear s.hostMem pa n
        host := { s.host with agent := Store.clear s.host.agent (pa / 64) (n / 64) } }
      else { s with mem := Store.clear s.mem pa n }
    ((s.takeSharers (s.dirKeys (leafKeys code ia))).2.dropPage (ia, code)).forgetLeaves (leafKeys code ia)

/-- An interface is scrubbed (R461): its pages, then its address spaces. -/
def State.scrub (s : State) (v : Nat) : State :=
  let mine := s.fe.charges.filter fun e => s.asidOwner e.2.1 == v
  let s := mine.foldl (fun t e => t.scrubPage (65536 * e.1) e.2.2.2.2) s
  (s.asidsOfVf v).foldl (fun t a => t.tearDown a) s

/-- STOP_INTERFACE_REQUEST (R458, R461): the queues are reset, and it completes once no task of the interface is live and the scrub is
done. -/
noncomputable def execStopInterfaceRequest (vf : Nat) (s : State) : Out :=
  onVf vf s (let x := s.vf vf
    if vf = 0 ∨ x.state = 0 then .next (s.answerHost 2 [])
    else
      let s := (s.queuesOf vf).foldl (fun t q => t.modQueue q Queue.resetQueue) s
      let s := if x.state = 3 then s.endTasks vf else s
      if !(s.tasksOfVf vf).isEmpty then .next (s.setVf vf { x with stopping := true })
      else .next (((s.scrub vf).setVf vf { x with
        state := 0
        nonce := none
        stopping := false }).answerHost 1 []))

/-- The device interface report (R462). -/
def State.deviceReport (s : State) (v : Nat) : List Byte :=
  let q := s.queuesOf v
  let a := s.asidsOfVf v
  leBytes 2 3 ++ leBytes 2 (Config.msixControl v).toNat ++ leBytes 4 0 ++ leBytes 4 1 ++ leBytes 8 (Config.bar0Page v).toNat ++
  leBytes 4 32 ++ leBytes 4 (0x60 + 2 * q.length + 2 * a.length) ++ leBytes 2 q.length ++ leBytes 2 a.length ++
  leBytes 64 (Config.firmwareDigest s.fe.image).toNat ++ (q ++ a).flatMap (leBytes 2)

/-- GET_DEVICE_INTERFACE_REPORT (R458, R462). -/
def execGetDeviceInterfaceReport (vf : Nat) (s : State) : Out :=
  onVf vf s (.next (if s.vfFrozen vf then s.answerHost 1 (s.deviceReport vf) else s.answerHost 2 []))

/-- Which IDE streams the host has keyed inside a secure session (R452, R463): its choice, a bit for each VF that is not locked. -/
def State.keyStreams (s : State) : State :=
  ((List.range 17).drop 1).foldl (fun t v => if (t.vf v).state = 0 then t.setVf v { t.vf v with ide := s.free / 2 ^ v % 2 == 1 } else t) s

/-- SPDM_ALGORITHM_NEGOTIATION (R463): code 1 of each kind names the listed algorithm, and every other offer is refused. -/
def execSpdmAlgorithmNegotiation (sig hash kex aead : Nat) (s : State) : Out :=
  if !s.serving then .next s
  else if sig = 1 ∧ hash = 1 ∧ kex = 1 ∧ aead = 1 then .next ((s.keyStreams.spend).answerHost 1 [])
  else .next (s.answerHost 2 [])

/-! ## Certificates and measurements (R464) -/

/-- The certificate chain of a slot: in slot 0 Odvan's root, its product CA and the device identity key; in slot 1 the alias key of the image that
the last start took up, certified by the identity key. -/
def State.certChain (s : State) : Nat → List (BitVec 512)
  | 0 => [Config.rootKey, Config.productCaKey, Config.identityKey]
  | 1 => [Config.rootKey, Config.productCaKey, Config.identityKey, Config.aliasKey (Config.firmwareDigest s.host.alias_)]
  | _ => []

/-- A measurement by its index: ROM loader, running firmware image, firmware security version, fused hardware configuration. -/
def State.measurement (s : State) : Nat → Option (BitVec 512)
  | 1 => some Config.romDigest
  | 2 => some (Config.firmwareDigest s.fe.image)
  | 3 => some (Config.versionDigest s.fe.image)
  | 4 => some Config.fusedDigest
  | _ => none

/-! ## Host snoops and evictions (R456) -/

/-- The data of a granule in M go to host memory. -/
def State.returnData (s : State) (g : Nat) : State :=
  match s.granule g with
  | some x => if x.mesi = .m then { s with hostMem := Memory.writeLE s.hostMem (64 * g) 64 x.data.toNat } else s
  | none => s

/-- A granule is in I. -/
def State.dropGranule (s : State) (g : Nat) : State := s.modHost fun h => { h with agent := Store.del h.agent g }

/-- SNPINV (R456). -/
def execSnpinv (granule : Nat) (s : State) : Out := .next ((s.returnData granule).dropGranule granule)

/-- SNPDATA (R456). -/
def execSnpdata (granule : Nat) (s : State) : Out :=
  .next (match s.granule granule with
    | some x => (s.returnData granule).modHost fun h => { h with agent := Store.put h.agent granule { x with mesi := .s } }
    | none => s)

/-- CXL_CAPACITY_EVICTION (R456): DirtyEvict or CleanEvict. -/
def execCxlCapacityEviction (granule : Nat) (s : State) : Out := .next ((s.returnData granule).dropGranule granule)

/-! ## Host accesses to device memory (R457) -/

/-- The host caches a line that it read: the snoop filter tracks it, and a full filter recalls its oldest. -/
def State.trackLine (s : State) (line : Nat) : State :=
  s.modHost fun h =>
    let l := h.filter.filter fun k => !(k == line)
    { h with filter := (if 65536 ≤ l.length then l.drop 1 else l) ++ [line] }

/-- The intermediate address of `n` bytes at a host physical address, where the HDM decoder maps them. -/
def State.hdmIa (s : State) (hpa n : Nat) : Option Nat :=
  if hpa < s.host.hdm.1 ∨ s.host.hdm.1 + s.host.hdm.2.2 < hpa + n ∨ 128 < n ∨ n = 0 then none else some (s.host.hdm.2.1 + (hpa - s.host.hdm.1))

/-- A host access at an intermediate address: performed at the LLC. Without a valid translation a read returns poisoned data and a write is
dropped; a write to a page under migration is held with the page's others (R390), and a read of bytes that it holds is to be made again. -/
def State.hostAccess (s : State) (write : Bool) (ia n : Nat) (data : VWord) : Out :=
  if (List.range n).any fun i => (s.leafFor (ia + i) write).isNone then
    .next ((s.postError 0x0040 write.toNat ia).answerHost (if write then 0 else 2) [])
  else if !write && s.heldBy agentFe ia n then .next (s.answerHost 3 [])
  else
    let s := (linesOf ia n).foldl (fun t l => t.recallLine l) s
    if write then .next (s.homeWriteN ia n data.toNat)
    else
      let s := s.homeTouch ia n false
      if (s.homeFault ia n false).isSome then .next (s.answerHost 2 [])
      else .next (((linesOf ia n).foldl (fun t l => t.trackLine l) s).answerHost 1 (leBytes n (s.homeRead ia n)))

/-- HOST_HDM_ACCESS (R457): an access to a host physical address that the HDM decoder maps. -/
def execHostHdmAccess (write : Bool) (hpa n : Nat) (data : VWord) (s : State) : Out :=
  if !s.serving then .next s else
  match s.hdmIa hpa n with
  | some ia => s.hostAccess write ia n data
  | none => .next s

end Sys2Proof.Machine
end

