-- ==== Sys2Proof/Machine/Queues.lean ====
section
/-! DEFINITION. Command queues and the front-end window: fetching (R436, R438, R450), hints, resets and enables (R435, R437), register writes
and reads (R453 to R455, R459, R519), the event ring (R448), the firmware core's failures (R450), FENCE, NOP and FWUPDATE (R440, R451). -/

namespace Sys2Proof.Machine

/-! ## Service and wake (R469, R475) -/

/-- A BAR0 write wakes the module (R475). -/
def State.wake (s : State) : State := { s with pow := { s.pow with ps := if s.pow.ps = 4 then 4 else 0 } }

/-! ## Fetching (R436, R438, R450) -/

/-- Entries of a ring. -/
def Queue.size (x : Queue) : Nat := 2 ^ x.log2n
/-- The phase expected at the head (R436). -/
def Queue.expected (x : Queue) : Bool := x.fetched / x.size % 2 == 0
/-- The ring entry at the head. -/
def Queue.head (x : Queue) : Nat := x.fetched % x.size
/-- Its intermediate address. -/
def Queue.headIa (x : Queue) : Nat := 128 * x.base + 128 * x.head

/-- A packet is taken from the head. -/
def Queue.take (x : Queue) : Queue :=
  let y := { x with
    fetched := (x.fetched + 1) % 2 ^ 32
    taken := x.taken + 1
    open_ := x.open_ ++ [65536 * x.taken + x.head] }
  { y with phase := y.expected }

/-- A ring read without a valid translation (R438): ERROR, and an error record. -/
def State.ringFault (s : State) (q : Nat) : State :=
  let x := s.fe.queue q
  (s.modQueue q fun y => y.error 3).postError 0x0002 (q + 65536 * x.head) x.headIa

/-- A visit of a queue's stop: up to `n` packets are taken in ring order; the ones to begin. One that is refused at its fetch completes here, so
behind a packet that is to begin it waits for the next visit (R441). -/
noncomputable def State.visit (s : State) (q : Nat) (behind : Bool) : Nat → List Instr × State
  | 0 => ([], s)
  | n + 1 =>
    let x := s.fe.queue q
    if x.state ≠ 1 then ([], s)
    else if (s.leafFor x.headIa false).isNone then ([], s.ringFault q)
    else
    let s := s.settleFe.feRead x.headIa 8
    if (s.homeByte x.headIa).getLsbD 7 != x.expected then ([], s)
    else
      let b : VWord := BitVec.ofNat 1024 (s.homeRead x.headIa 128)
      let t := s.modQueue q Queue.take
      match decodePacket q (65536 * x.taken + x.head) x.asid x.super b with
      | .ok i => let r := t.visit q true n; (i :: r.1, r.2)
      | .bad h => if behind then ([], s) else (t.complete h 0x15 0).visit q false n
      | .denied h => if behind then ([], s) else (t.complete h 0x16 0).visit q false n

/-- QUEUE_FETCH (R436, R450): one visit takes up to four packets. -/
noncomputable def execQueueFetch (q : Nat) (s : State) : Out :=
  if 128 ≤ q then .fault .noSuchUnit
  else if s.fe.stopped ∨ !s.serving then .next s
  else
    let r := s.visit q false 4
    .next { r.2 with agenda := r.1 ++ r.2.agenda }

/-! ## The queue block (R435, R437, R438) -/

/-- A HINT write, in any state of the queue; an overrun leaves ERROR, which only RESET leaves, as it is (R437, R438, log entry 90). -/
def State.hintWrite (s : State) (q v : Nat) : State :=
  let x := s.fe.queue q
  if 2 ^ 31 ≤ sub32 v x.lastHint then s
  else if x.size < sub32 v x.fetched then
    (s.modQueue q fun y => if y.state = 3 then y else { y with
      state := 2
      errcode := 1 }).postError 0x0001 q v
  else s.modQueue q fun y => { y with lastHint := v }

/-- A write to BAR0 acts where the window answers, in PS0 (R469, R475). -/
def State.bar0 (s : State) (act : State → State) : State := if s.serving then act s.wake else s

/-- QUEUE_HINT_WRITE (R437). -/
def execQueueHintWrite (q : Nat) (v : Word32) (s : State) : Out :=
  if 128 ≤ q then .fault .noSuchUnit else .next (s.bar0 fun (s : State) => s.hintWrite q v.toNat)

/-- QUEUE_RESET (R438). -/
def execQueueReset (q : Nat) (s : State) : Out :=
  if 128 ≤ q then .fault .noSuchUnit else .next (s.bar0 fun (s : State) => s.modQueue q Queue.resetQueue)

/-- An EN write (R435, R455). -/
def State.enWrite (s : State) (q : Nat) (en : Bool) : State :=
  let x := s.fe.queue q
  if x.state = 2 ∨ x.state = 3 then s
  else if !en then s.modQueue q fun y => { y with state := 0 }
  else if x.state = 1 then s
  else if x.log2n < 4 ∨ 15 < x.log2n ∨ (s.ownerOf q ≠ 0 ∧ s.asidOwner x.asid ≠ s.ownerOf q) then s.modQueue q fun y => y.error 2
  else s.modQueue q fun y => { y with state := 1 }

/-- QUEUE_EN_WRITE (R435). -/
def execQueueEnWrite (q : Nat) (en : Bool) (s : State) : Out :=
  if 128 ≤ q then .fault .noSuchUnit else .next (s.bar0 fun (s : State) => s.enWrite q en)

/-- The RW fields of the word at +8, where STATE is DISABLED; SUPER and ASID only through PF0's window. -/
def Queue.configure (x : Queue) (v : Nat) (pf : Bool) : Queue :=
  if x.state ≠ 0 then x
  else
    let y := { x with
      log2n := v / 2 ^ 4 % 16
      super := if pf then v / 2 ^ 31 % 2 == 1 else x.super
      asid := if pf then v / 2 ^ 16 % 2 ^ 13 else x.asid }
    { y with phase := y.expected }

/-- Would a write of the word at +8 change a frozen field (R459)? -/
def Queue.changes (x : Queue) (v : Nat) (pf : Bool) : Bool :=
  v / 2 ^ 4 % 16 != x.log2n || (pf && ((v / 2 ^ 31 % 2 == 1) != x.super || v / 2 ^ 16 % 2 ^ 13 != x.asid))

/-- A write of a queue block's word at an offset. -/
noncomputable def State.blockWrite (s : State) (q r : Nat) (v : Nat) (pf : Bool) : State :=
  let x := s.fe.queue q
  let owner := s.ownerOf q
  match r with
  | 0x00 =>
    if s.vfFrozen owner then s.interfaceError owner
    else if x.state ≠ 0 then s
    else s.modQueue q fun y => { y with base := v / 2 ^ 7 % 2 ^ 45 }
  | 0x08 =>
    if s.vfFrozen owner && x.changes v pf then s.interfaceError owner
    else
      let s := s.modQueue q fun y => y.configure v pf
      if v / 2 % 2 = 1 then s.modQueue q Queue.resetQueue else s.enWrite q (v % 2 == 1)
  | 0x10 => s.hintWrite q (v % 2 ^ 32)
  | _ => s

/-! ## QOWNER and ASIDOWN (R453, R454, R459) -/

/-- Is a function PF0, or a VF that is not locked? -/
def State.unlocked (s : State) (f : Nat) : Bool := f == 0 || (s.vf f).state == 0

/-- Would a VF have two queues with one LOCAL? -/
def State.localTaken (s : State) (q func l : Nat) : Bool :=
  func != 0 && (List.range 128).any fun p => p != q && Store.get (0, 0) s.fe.owner p == (func, l)

/-- A QOWNER write. -/
noncomputable def State.ownerWrite (s : State) (q v : Nat) : State :=
  let func := v % 32
  let l := v / 2 ^ 8 % 128
  let old := s.ownerOf q
  if s.vfFrozen old then s.interfaceError old
  else if 17 ≤ func ∨ (s.fe.queue q).state ≠ 0 ∨ !s.unlocked old ∨ !s.unlocked func ∨ s.localTaken q func l then s
  else s.modFe fun f => { f with owner := Store.set (0, 0) f.owner q (func, l) }

/-- QOWNER_WRITE (R454, R459). -/
noncomputable def execQownerWrite (q : Nat) (v : Word) (s : State) : Out :=
  if 128 ≤ q then .fault .noSuchUnit else .next (s.bar0 fun (s : State) => s.ownerWrite q v.toNat)

/-- An ASIDOWN write. -/
noncomputable def State.asidOwnWrite (s : State) (asid v : Nat) : State :=
  if s.vfFrozen (s.asidOwner asid) then s.interfaceError (s.asidOwner asid)
  else s.modFe fun f => { f with asidOwn := Store.set 0 f.asidOwn asid (v % 32) }

/-! ## The event ring (R448, R519) -/

/-- A write of EVBASE or EVLOG2N. -/
def State.ringConfig (s : State) (log2n : Bool) (v : Nat) : State :=
  s.modFe fun f => { f with ring := { f.ring with
    base := if log2n then f.ring.base else v / 2 ^ 6 % 2 ^ 46
    log2n := if log2n then v % 16 else f.ring.log2n
    head := 0
    tail := 0 } }

/-- EVENT_RING_CONFIG_WRITE (R519). -/
def execEventRingConfigWrite (log2n : Bool) (v : Word) (s : State) : Out :=
  .next (s.bar0 fun (s : State) => s.ringConfig log2n v.toNat)

/-- The oldest held fault record is written where the ring has room. -/
def State.writeHeld (s : State) : State :=
  match s.fe.ring.heldFaults with
  | [] => s
  | r :: l =>
    if s.fe.ring.room then (s.modFe fun f => { f with ring := { f.ring with heldFaults := l } }).writeRecord r.words else s

/-- HELD_FAULT_RECORD_WRITE (R448). -/
def execHeldFaultRecordWrite (s : State) : Out := .next s.writeHeld

/-! ## The front-end window (R453 to R455, R460) -/

/-- The queue whose QOWNER names a VF with an index, if any. -/
def State.localQueue (s : State) (vf j : Nat) : Option Nat := (List.range 128).find? fun q => Store.get (0, 0) s.fe.owner q == (vf, j)

/-- The queue whose block stands at an offset of a function's window, and the offset in it. -/
def State.blockAt (s : State) (func off : Nat) : Option (Nat × Nat) :=
  let j := (off - 0x10000) / 0x40
  if off < 0x10000 ∨ 128 ≤ j then none
  else if func = 0 then some (j, off % 0x40)
  else (s.localQueue func j).map fun q => (q, off % 0x40)

/-- A write to PF0's window outside the queue blocks. -/
noncomputable def State.pf0Write (s : State) (off v : Nat) : State :=
  if off = 0x100 then s.ringConfig false v
  else if off = 0x108 then s.ringConfig true v
  else if off = 0x110 then s.modFe fun f => { f with ring := { f.ring with head := v % 2 ^ 32 } }
  else if 0x1000 ≤ off ∧ off < 0x1400 ∧ off % 8 = 0 then s.ownerWrite ((off - 0x1000) / 8) v
  else if 0x4000 ≤ off ∧ off < 0x6000 then s.asidOwnWrite (off - 0x4000) (v % 256)
  else s

/-- A write through a function's window; the window of an interface in ERROR drops it (R460). -/
noncomputable def State.windowWrite (s : State) (func off v : Nat) : State :=
  if func ≠ 0 ∧ (s.vf func).state = 3 then s
  else match s.blockAt func off with
    | some (q, r) => s.blockWrite q r v (func == 0)
    | none => if func = 0 then s.pf0Write off v else s

/-- A write to PF0's power DVSEC at an offset of R473: the fields of the pushed image are set; TOL, WARM and GO act through events of
their own. -/
def State.dvsecWrite (s : State) (off v : Nat) : State :=
  let p := s.pow
  if off = 0x14 then { s with pow := { p with img := BitVec.ofNat 64 (p.img.toNat / 2 ^ 32 * 2 ^ 32 + v % 2 ^ 32) } }
  else if off = 0x18 then { s with pow := { p with img := BitVec.ofNat 64 (p.img.toNat % 2 ^ 32 + 2 ^ 32 * (v % 2 ^ 32)) } }
  else if off = 0x1C then { s with pow := { p with imgLen := BitVec.ofNat 32 v } }
  else s

/-- REGISTER_WRITE (R11, R435, R453, R473, R519): an offset below 2^20 lies in the function's BAR0; from there on it counts, for PF0, from
the first byte of the DVSEC (log entry 66). -/
noncomputable def execRegisterWrite (func off : Nat) (v : Word) (s : State) : Out :=
  if 17 ≤ func then .fault .noSuchUnit
  else if func = 0 ∧ 2 ^ 20 ≤ off then .next (s.dvsecWrite (off - 2 ^ 20) v.toNat)
  else .next (s.bar0 fun (s : State) => s.windowWrite func off v.toNat)

/-- A word of a queue block as it reads (R435): write-only and reserved bits are zero, EN is STATE = ACTIVE. -/
def Queue.word (x : Queue) (r : Nat) : Nat :=
  match r with
  | 0x00 => x.base * 2 ^ 7
  | 0x08 => x.super.toNat * 2 ^ 31 + x.asid * 2 ^ 16 + x.log2n * 2 ^ 4 + (x.state == 1).toNat
  | 0x18 => x.lastHint * 2 ^ 32 + x.fetched
  | 0x20 => x.errcode * 2 ^ 8 + x.phase.toNat * 2 ^ 2 + x.state
  | _ => 0

/-- PF0's window outside the queue blocks, as it reads. -/
def State.pf0Read (s : State) (off : Nat) : Nat :=
  let r := s.fe.ring
  if off = 0 then 0x7200 + 2 ^ 16 * Config.stepping.toNat
  else if off = 0x100 then r.base * 2 ^ 6
  else if off = 0x108 then r.log2n
  else if off = 0x110 then r.head
  else if off = 0x118 then r.tail
  else if off = 0x120 then r.drop
  else if 0x1000 ≤ off ∧ off < 0x1400 ∧ off % 8 = 0 then
    (let o := Store.get (0, 0) s.fe.owner ((off - 0x1000) / 8)
     o.2 * 2 ^ 8 + o.1)
  else if 0x2000 ≤ off ∧ off < 0x2088 ∧ off % 8 = 0 then (s.vf ((off - 0x2000) / 8)).state
  else if 0x4000 ≤ off ∧ off < 0x6000 then s.asidOwner (off - 0x4000)
  else 0

/-- What a read of a function's window returns (R435, R453, R460). -/
def State.windowRead (s : State) (func off : Nat) : Word :=
  if func ≠ 0 ∧ (s.vf func).state = 3 then BitVec.allOnes 64
  else BitVec.ofNat 64 (match s.blockAt func off with
    | some (q, r) => (s.fe.queue q).word r
    | none => if func = 0 ∨ off = 0 then s.pf0Read off else 0)

/-- A word of the power DVSEC as it reads (R473): write-only and reserved bits are zero. -/
def State.dvsecRead (s : State) (off : Nat) : Nat :=
  let p := s.pow
  if off = 0x0C then p.tol.toNat
  else if off = 0x10 then
    2 ^ 16 * p.temp.toNat + 2 ^ 8 * p.stage + 2 ^ 5 * p.failcnt + 2 ^ 4 * p.recovery.toNat + 2 ^ 3 * p.throttle.toNat + p.ps
  else if off = 0x14 then p.img.toNat % 2 ^ 32
  else if off = 0x18 then p.img.toNat / 2 ^ 32
  else if off = 0x1C then p.imgLen.toNat
  else if off = 0x20 then 2 * p.result
  else 0

/-- What a register read returns, at the offsets that a register write names (R11, R453, R473; log entry 66); none where only the DVSEC answers
(R469). -/
def State.registerRead (s : State) (func off : Nat) : Option Word :=
  if func = 0 ∧ 2 ^ 20 ≤ off then some (BitVec.ofNat 64 (s.dvsecRead (off - 2 ^ 20)))
  else if s.serving then some (s.windowRead func off)
  else none

/-! ## The firmware core (R450) -/

/-- Fetching stops on every queue, and the module awaits a warm start, where the firmware circuit runs (R470, R472). -/
def State.firmwareStops (s : State) (stop : Nat) : State :=
  s.served fun (s : State) =>
  let s := (s.modFe fun f => { f with stopped := true }).postError 0xFFFF 0 stop
  { s with pow := { s.pow with warmAsked := true } }

/-- WATCHDOG_EXPIRY (R450). -/
def execWatchdogExpiry (stop : Nat) (s : State) : Out := .next (s.firmwareStops stop)
/-- PARITY_ERROR (R450). -/
def execParityError (stop : Nat) (s : State) : Out := .next (s.firmwareStops stop)

/-! ## FENCE, NOP, FWUPDATE (R440, R451) -/

/-- FENCE: once every earlier packet of its queue has completed. -/
def execFencePacket (h : PktHdr) (s : State) : Out :=
  if (s.fe.queue h.queue).open_.any fun e => decide (e < h.entry) then
    .next (s.modQueue h.queue fun x => { x with fences := x.fences ++ [(h.entry, h)] })
  else .next (s.complete h 0 0)

/-- NOP. -/
def execNopPacket (h : PktHdr) (s : State) : Out := .next (s.complete h 0 0)

/-- Is a VF locked or running (R451, R473)? -/
def State.anyFrozen (s : State) : Bool := (List.range 17).any s.vfFrozen

/-- The store takes an image, and an update is pending. -/
def State.storeImage (s : State) : State :=
  s.modFe fun f => { f with
    pendingImage := some (f.images_ + 1)
    images_ := f.images_ + 1
    imageWrite := []
    imageBad := false }

/-- The images that FWUPDATEs write are in the store, and the packets complete in turn (R451). -/
def State.imageWritten (s : State) : State :=
  s.fe.imageWrite.foldl (fun t h => t.storeImage.complete h 0 0) s

/-- FWUPDATE (R451, R459): an image that passes the check is written, which takes until the next cycle (log entry 97). -/
def execFwupdate (h : PktHdr) (image bytes : Nat) (s : State) : Out :=
  supervisor h s (
    if s.anyFrozen then .next (s.complete h 0x16 0)
    else if bytes = 0 ∨ 2 ^ 52 < image + bytes ∨ !s.pagesOk image bytes then .next (s.complete h 0x15 0)
    else
      let s := s.feRead image bytes
      if Config.signatureOk (s.homeRead image bytes) bytes then .next (s.modFe fun f => { f with imageWrite := f.imageWrite ++ [h] })
      else .next (s.complete h 0x15 0))

end Sys2Proof.Machine
end

