-- ==== Sys2Proof/Machine/Power.lean ====
section
/-! DEFINITION. The start sequence, recovery mode, power states and thermal limits of the package (R469 to R476). -/

namespace Sys2Proof.Machine

/-- Change the power registers. -/
def State.modPow (s : State) (f : Power → Power) : State := { s with pow := f s.pow }

/-! ## Starts (R469, R471, R472) -/

/-- The front end as a start leaves it: only what the non-volatile store holds stays; a write of the image that was under way is interrupted
(R451, R471). -/
def FrontEnd.restart (f : FrontEnd) : FrontEnd :=
  { FrontEnd.reset with
    pendingImage := f.pendingImage
    image := f.image
    storedImage := f.storedImage
    images_ := f.images_
    imageBad := f.imageBad || !f.imageWrite.isEmpty }

/-- The registers of the DVSEC and the power state as a start leaves them (R473): step 1 is done. -/
def Power.restart (p : Power) (warm : Bool) : Power :=
  { Power.reset with
    temp := p.temp
    failcnt := p.failcnt
    recovery := p.recovery
    stored := p.stored
    start := some warm
    coldAsked := false }

/-- The leases that the module held when it started lapse at the pool, which discards its parties (R423, R471, R502, log entry 88). -/
def State.forgoLeases (s : State) : State :=
  if s.fe.leases.any (fun e => e.2.state != .asked) || !s.pool.lapses.isEmpty || !s.endingOut.isEmpty then
    let t := s.discardAll
    { t with pool := { t.pool with
      lapses := []
      ending := [] } }
  else s

/-- The state a start leaves (R471): HBM and carrier memory keep some values, but for the page table, which maps nothing, the pool is untouched but for what lapses, host memory is, and
CYCLES counts from the cold start (R21). -/
def State.restart (s : State) (warm : Bool) : State :=
  { State.reset with
    cycles := if warm then s.cycles else 0
    mem := Store.clear s.mem State.reset.ptbase.toNat 0x8000
    hostMem := s.hostMem
    pool := s.forgoLeases.pool
    freeCtr := s.freeCtr
    fe := s.fe.restart
    fab := { Fabric.reset with selfId := s.fab.selfId }
    host := { HostIf.reset with hdm := s.host.hdm, alias_ := s.host.alias_ }
    pow := s.pow.restart warm }

/-- Full service: the running image's digest is stored, the pending mark and FAILCNT are cleared, and recovery mode ends (R469, R472). -/
def State.fullService (s : State) : State :=
  let s := s.modFe fun f => { f with
    storedImage := f.image
    pendingImage := none }
  { s with
    pow := { s.pow with
      stage := 6
      failcnt := 0
      recovery := false
      start := none
      stored := true } }

/-- The next step of a start is done: at step 2 the store's image is the running one, and the alias key is derived (R451, R464), or no
valid image is found and the ROM loader is entered (R451, log entry 97); step 5 is done
once timing has locked on port 0 or 1 (R469). -/
def State.nextStage (s : State) : State :=
  let n := s.pow.stage + 1
  if n = 2 ∧ s.fe.imageBad then s.modPow fun p => { p with
      recovery := true
      start := none }
  else if n = 2 then
    let s := (s.modFe fun f => { f with image := f.pendingImage.getD f.image }).modPow fun p => { p with stage := 2 }
    { s with host := { s.host with alias_ := s.fe.image } }
  else if n = 5 ∧ s.fab.timing ≠ .locked then s
  else if 6 ≤ n then s.fullService
  else s.modPow fun p => { p with stage := n }

/-- A cold start fails (R472): it is counted, and either another follows or the module stays in recovery mode, where nothing of what the start
had brought up runs. -/
def State.failCold (s : State) : State :=
  (s.restart false).modPow fun p => { p with
    failcnt := min 3 (p.failcnt + 1)
    recovery := p.recovery || decide (2 ≤ p.failcnt)
    start := none
    coldAsked := decide (p.failcnt < 2) && !p.recovery }

/-- COLD_START (R469): power-on, or the next step of the cold start under way; `ok` says whether the step is done or has failed. -/
def execColdStart (ok : Bool) (s : State) : Out :=
  if s.pow.coldAsked ∨ !s.pow.on then .next (if ok then s.restart false else s.failCold)
  else if s.pow.start = some false then .next (if ok then s.nextStage else s.failCold)
  else .next s

/-- Must a warm start give way to a cold one at its second step: a digest that is not the stored one with no update pending, or a missing
stored value (R469)? -/
def State.warmBroken (s : State) : Bool :=
  (s.fe.pendingImage.isNone && s.fe.image != s.fe.storedImage) || !s.pow.stored

/-- WARM_START (R469): a warm start that was asked for, or its next step; one that fails performs a cold start. -/
def execWarmStart (ok : Bool) (s : State) : Out :=
  if s.pow.warmAsked ∧ s.pow.on then
    .next (if ok then s.restart true
      else (s.restart true).modPow fun p => { p with
        start := none
        coldAsked := true })
  else if s.pow.start = some true then
    .next (if ok ∧ !(s.pow.stage = 1 ∧ s.warmBroken) then s.nextStage
      else s.modPow fun p => { p with
        start := none
        coldAsked := true })
  else .next s

/-- WARM (R473): ignored in recovery mode and while a device interface is locked or runs. -/
def execWarm (s : State) : Out :=
  if s.pow.recovery ∨ s.anyFrozen then .next s else .next (s.modPow fun p => { p with warmAsked := true })

/-- GO (R474): in recovery mode, the pushed image is read and checked; an accepted one is stored, and a cold start follows. -/
def execGo (s : State) : Out :=
  if !s.pow.recovery then .next s
  else
    let n := s.pow.imgLen.toNat
    if Config.signatureOk (Memory.readLE s.hostMem s.pow.img.toNat n) n then
      .next (s.storeImage.modPow fun p => { p with
        result := 2
        coldAsked := true })
    else .next (s.modPow fun p => { p with result := 3 })

/-- START_TIMEOUT (R472): a cold start that is not at full service in time has failed. -/
def execStartTimeout (s : State) : Out :=
  if s.pow.start = some false then .next s.failCold else .next s

/-! ## Power states (R475) -/

/-- Exit latency of a power state in µs. -/
def exitLatency (ps : Nat) : Nat :=
  match ps with
  | 0 => 0
  | 1 => 2
  | 2 => 150
  | 3 => 20000
  | _ => 1500000

/-- Does the entry condition of a power state hold? -/
def State.mayEnter (s : State) : Nat → Bool
  | 0 => true
  | 1 => s.ctxs.all fun e => (e.2.state == .free || e.2.state == .spilled) && e.2.eng.isEmpty
  | 2 => s.mayEnter 1 && s.fe.images.isEmpty && s.ctxs.all fun e => e.2.state == .free
  | 3 => s.mayEnter 2 && s.fe.tasks.isEmpty && (s.fe.leases.all fun e => e.2.state == .asked) && s.fe.frames.all fun e => !e.2.valid
  | 4 => s.mayEnter 3 && s.fe.aspaces.isEmpty && s.fe.queues.all fun e => e.2.state == 0
  | _ => false

/-- The deepest state whose exit latency the tolerance allows and whose entry condition holds. -/
def State.deepest (s : State) : Nat :=
  ([4, 3, 2, 1].find? fun p => decide (exitLatency p ≤ s.pow.tol.toNat) && s.mayEnter p).getD 0

/-- POWER_STATE_ENTRY (R475). -/
def execPowerStateEntry (s : State) : Out :=
  if s.pow.tol = 0 ∨ !s.serving ∨ s.pow.ps = 4 then .next s else .next (s.modPow fun p => { p with ps := s.deepest })

/-- The module returns to PS0; from PS4 by a warm start. -/
def State.wakeUp (s : State) : State :=
  if s.pow.ps = 4 then s.modPow fun p => { p with warmAsked := true } else s.modPow fun p => { p with ps := 0 }

/-- TOL_WRITE (R475): a change of TOL wakes PS1 to PS3, a value below the exit latency any state; R475 then chooses again. -/
def execTolWrite (v : Word32) (s : State) : Out :=
  let wakes := if s.pow.ps = 4 then decide (v.toNat < exitLatency 4) else v != s.pow.tol || decide (v.toNat < exitLatency s.pow.ps)
  let s := s.modPow fun p => { p with tol := v }
  .next (if wakes then s.wakeUp else s)

/-- POWER_STATE_WAKE (R475): by a BAR0 write, by a fabric message, or, with neither, by the host link leaving its low-power state in PS4. -/
def execPowerStateWake (bar0 fabric : Bool) (s : State) : Out :=
  let wakes := match s.pow.ps with
    | 0 => false
    | 3 => bar0
    | 4 => !bar0 && !fabric
    | _ => bar0 || fabric
  .next (if wakes then s.wakeUp else s)

/-! ## Thermal limits (R476) -/

/-- THROTTLE_STEP (R476): every 1 ms the clock steps down at 100 °C and above, and back up below 95 °C. -/
def execThrottleStep (temp : BitVec 8) (s : State) : Out :=
  let t := temp.toNat
  .next (s.modPow fun p =>
    let clock := if 100 ≤ t then max 500 (p.clock - 250) else if t < 95 then min 2000 (p.clock + 250) else p.clock
    { p with
      temp := temp
      clock := clock
      throttle := decide (100 ≤ t) || (p.throttle && clock != 2000) })

/-- Every live context is abandoned (R318, R476). -/
noncomputable def State.abandonAll (s : State) : State :=
  let s := ((List.range 1024).filter fun c => (s.ctx c).resident).foldl (fun t c => t.abandon c) s
  (s.fe.images.map (·.1)).foldl (fun t a => t.abandonImage a) s

/-- THERMAL_TRIP (R476): at 110 °C fetching stops, every live context is abandoned, and power is removed except from the
host link: nothing of the cycle follows, the host-coherence agent holds no granule, and only a cold start restores service. -/
noncomputable def execThermalTrip (temp : BitVec 8) (s : State) : Out :=
  if temp.toNat < 110 then .next (s.modPow fun p => { p with temp := temp })
  else
    let s := (s.modPow fun p => { p with temp := temp }).postError 0xFFFE 0 temp.toNat
    let s := (s.modFe fun f => { f with stopped := true }).abandonAll
    .next { s.modPow (fun p => { p with
      on := false
      start := none
      warmAsked := false
      coldAsked := false
      stage := 1
      ps := 0 }) with
      host := { s.host with agent := [] }
      agenda := []
      late := []
      round := []
      issueQ := [] }

end Sys2Proof.Machine
end

