-- ==== Sys2Proof/Machine/Cycle.lean ====
section
/-! DEFINITION. The model's schedule (log entry 1): which events the module brings about of itself in a cycle, in which order, and what a
step executes next. Each event is guarded by its own meaning, so an event that is listed and not due changes nothing. -/

namespace Sys2Proof.Machine

/-! ## Events of a context -/

/-- The events that may end an access in flight. -/
noncomputable def unitEvents (c : Nat) (u : MemUnit) : List Instr :=
  match u.target with
  | .pool _ _ => [if u.inStoreQueue then .poolWriteAcknowledgement c u.id else .hiddenResultWrite c u.id, .poolReject c u.id]
  | _ => (if u.returns then [Instr.hiddenResultWrite c u.id] else []) ++ [.pageFault c u.id]

/-- The event that completes an engine operation. -/
noncomputable def engineEvents (c : Nat) (o : EngOp) : List Instr :=
  match o.engine with
  | .m => [.matrixOpComplete c o.id]
  | .d => [.drainOpComplete c o.id, .pageFault c o.id, .poolReject c o.id]
  | .o => [.optimiserOpComplete c o.id, .optimiserTrapTaken c]
  | .e => [.engineJobComplete c o.id]

/-- The events of a context beside its issue. -/
noncomputable def ctxEvents (e : Nat × Ctx) : List Instr :=
  e.2.units.flatMap (unitEvents e.1) ++ e.2.eng.flatMap (engineEvents e.1) ++
  e.2.hallocs.map (fun h => Instr.hallocComplete e.1 h.1) ++
  ((List.range e.2.releasing.length).reverse.map fun i => Instr.handleStorageRelease e.1 i) ++
  (if e.2.optTrap.isSome then [Instr.optimiserTrapTaken e.1] else []) ++
  (if e.2.state = .retiring then [Instr.tileRetired e.1] else []) ++
  (if e.2.switching.isSome then [Instr.spillSave e.1] else [])

/-! ## Events of the parts of the module -/

/-- Segment copies that end. -/
noncomputable def State.copyEvents (s : State) : List Instr :=
  s.cores.flatMap fun k => (k.2.frames.filter fun f => f.2.copying).map fun f => Instr.segmentCopyComplete k.1 f.1

/-- The barriers that accesses in flight go to: each is updated once in the cycle (R336). -/
noncomputable def State.barrierEvents (s : State) : List Instr :=
  ((s.ctxs.flatMap fun e => e.2.units.filterMap fun u => u.toBarrier.map fun b => (clusterOf e.1, b.1)).eraseDups).map
    fun e => Instr.barrierUpdate e.1 e.2

/-- The walkers of a die: highest priority first, then lowest number (R345). -/
def State.walkerOrder (s : State) (die : Nat) : List Nat :=
  [7, 6, 5, 4, 3, 2, 1, 0].flatMap fun p => (s.walkers.filter fun w => decide (w.1 / 16 = die) && s.walkerPrio w.2 == p).map (·.1)

/-- The first core of its die where a walker may start a switch. -/
def State.switchCore (s : State) (w : Nat × Walker) : Option Nat :=
  ((List.range 64).map (64 * (w.1 / 16) + ·)).find? fun k => !(ctxsOf k).any s.partitionFree && (s.switchVictim k (s.walkerPrio w.2)).isSome

/-- The tasks, walkers and contexts of a cycle (R345 to R352, R256, R260, R445). -/
noncomputable def State.walkerEvents (s : State) : List Instr :=
  ((List.range 4).flatMap fun d => (s.walkerOrder d).map Instr.walkerUpdate) ++
  (if s.walkers = [] then [] else (List.range 4).map Instr.forkRequest) ++
  (s.walkers.filterMap fun w => (s.switchCore w).map fun k => Instr.contextSwitchStart w.1 k) ++
  ((s.walkers.map (·.1)) ++ (s.fe.saves.map (·.1)).filter fun w => !Store.has s.walkers w).map Instr.walkerSave ++
  (if s.fe.ready.all fun e => e.2.isEmpty then [] else [Instr.dispatch]) ++
  s.fe.images.map fun e => Instr.refill e.2.1

/-- The memory side: acknowledgements, copies, placement, hint windows, deltas. -/
noncomputable def State.memoryEvents (s : State) : List Instr :=
  let waiting := s.invals.foldl (fun (w : Word128) e => w ||| e.waiting) 0
  (((List.range 128).filter waiting.getLsbD).map Instr.translationInvalidateAck) ++
  (s.migrations.map fun m => Instr.migrationCopyComplete m.ia) ++
  ((s.llc.filter fun e => !e.2.mode && decide (8 ≤ e.2.run.2)).map fun e => Instr.atomicPlacementNear e.1 e.2.run.1) ++
  (s.closed.map fun w => Instr.hintWindowCheck w.1 w.2.1 w.2.2.1 w.2.2.2) ++ s.deltas.map fun _ => Instr.deltaMerge 0

/-- Insert a sheet by its step (R427). -/
def insertSheet (x : (Nat × Word) × Sheet) : List ((Nat × Word) × Sheet) → List ((Nat × Word) × Sheet)
  | [] => [x]
  | y :: l => if x.1.2.toNat < y.1.2.toNat then x :: y :: l else y :: insertSheet x l

/-- What the pool and the lease table bring; the answers of the pool are free bits, and sheets go in ascending step (R427). -/
noncomputable def State.poolEvents (s : State) : List Instr :=
  (s.pool.groups.flatMap fun g => g.2.contribs.map fun p => Instr.groupPhaseComplete (g.1 / 2 ^ 32) (g.1 % 2 ^ 32) p.1 g.2.lost.isSome) ++
  (s.fe.milestones.map fun m => Instr.commitAnswer (m.1 / 2 ^ 64) m.2.step (s.freeBit 1)) ++
  ((s.fe.leases.filter fun e => e.2.state == .asked).map fun e => Instr.leaseGrant e.1 (s.freeBit (2 + e.1))) ++
  ((s.fe.leases.filter fun e => s.renewalDue e.2).map fun e => Instr.leaseRenewal e.1 (s.freeBit (2 + e.1))) ++
  (s.fe.leases.map fun e => Instr.leaseEnd e.1) ++ (if s.pool.lapses.isEmpty && s.pool.ending.isEmpty then [] else [.leaseEnd 0]) ++
  ((s.fe.sheets.foldr insertSheet []).flatMap fun x => Instr.routeRecordRetry x.1.1 x.1.2.toNat ::
    (List.range x.2.count).map fun i => Instr.routeSheetEntry x.1.1 x.1.2.toNat i)

/-- The front end; a task that is DONE and had to wait tries again. -/
noncomputable def State.frontEvents (s : State) : List Instr :=
  ((s.fe.tasks.filter fun t => t.2.state == .done).map fun t => Instr.taskDone t.1) ++
  (s.fe.ring.heldFaults.map fun _ => Instr.heldFaultRecordWrite) ++
  ((s.fe.queues.filter fun q => q.2.state == 1).map fun q => Instr.queueFetch q.1)

/-- Time of a cycle at the present clock, in 1/210 ns: a whole number at each clock from 500 MHz to 2.0 GHz in steps of 250 MHz (R476). -/
def State.cycleTime (s : State) : Nat := 210000 / s.pow.clock

/-- The slot's time goes on by a cycle (R477). -/
def State.slotTime (s : State) : State := s.modFab fun f => { f with phase := f.phase + s.cycleTime }

/-- The fabric, at the end of a slot, which comes by its own time, whatever the core clock does (R477). -/
noncomputable def State.slotEvents (s : State) : List Instr :=
  (s.fab.held.map fun m => Instr.heldMessageRelease m.flit.src (flitStream m.flit)) ++
  (s.fab.arrived.map Instr.dataReceive) ++
  (if s.fab.phase < slotLength then []
   else [.slotBoundary, .phase2Entry, .nosyncEntry] ++ ((s.fab.ports.filter fun p => p.2.pausedAt.isSome || p.2.fenced).flatMap fun p =>
     [.portFence p.1, .portRejoin p.1]))

/-- A reading of the hottest sensor, a free value. -/
def State.sensor (s : State) : BitVec 8 := BitVec.ofNat 8 (s.free / 2 ^ 8)

/-- Power and heat; the temperature is a free value. -/
noncomputable def State.powerEvents (s : State) : List Instr :=
  (if s.pow.tol ≠ 0 ∧ s.pow.ps ≠ s.deepest then [Instr.powerStateEntry] else []) ++
  (if s.cycles.toNat % (1000 * s.pow.clock) = 0 then [.throttleStep s.sensor, .thermalTrip s.sensor] else [])

/-- The starts: whether a step is done is a free bit. -/
noncomputable def State.startEvents (s : State) : List Instr :=
  if s.pow.warmAsked ∨ s.pow.start = some true then [.warmStart (s.freeBit 0)]
  else if s.pow.coldAsked ∨ s.pow.start = some false then [.coldStart (s.freeBit 0)]
  else []

/-- The events of a cycle after its issue; in recovery mode only the ROM loader runs (R472). -/
noncomputable def State.lateEvents (s : State) : List Instr :=
  if !s.pow.on then []
  else if s.pow.recovery then s.startEvents
  else
    s.ctxs.flatMap ctxEvents ++ s.copyEvents ++ s.barrierEvents ++ s.walkerEvents ++ s.memoryEvents ++ s.poolEvents ++ s.frontEvents ++
    s.slotEvents ++ s.powerEvents ++ s.startEvents

/-! ## A cycle -/

/-- Does a context take part in the junction? -/
def Ctx.issues (x : Ctx) : Bool := x.state == .running || x.state == .handler

/-- The cores with a context that may issue, rising. -/
def State.activeCores (s : State) : List Nat :=
  if !s.pow.on || s.pow.recovery then [] else (List.range 256).filter fun k => s.ctxs.any fun e => coreOf e.1 == k && e.2.issues

/-- A context that may not issue is not starved: its count is 0 (R250). -/
def State.restCounts (s : State) : State :=
  { s with ctxs := s.ctxs.map fun e => if e.2.issues then e else (e.1, { e.2 with starve := 0 }) }

/-- The accesses of every context that can complete of themselves do so. -/
def State.drainAll (s : State) : State := s.ctxs.foldl (fun t e => if e.2.units.isEmpty then t else t.drain e.1) s

/-- A new cycle (R21, R249, R346): CYCLES counts, rotation pointers are re-based, a shrink of the pool cache goes on (R414), and the cores'
junctions come first. Without power nothing but CYCLES goes on (R476). -/
noncomputable def State.newCycle (s : State) : State :=
  if !s.pow.on then { s.spend with cycles := s.cycles + 1 }
  else
  let s := (State.drainAll { s.dropWalkers with cycles := s.cycles + 1 }).settleSent.restCounts.slotTime.imageWritten
  let s := if s.fe.configWait.isEmpty && s.fe.poolSize == s.fe.poolGoal then s else s.shrink.checkConfig
  { s.spend with
    cores := s.cores.map fun e => (e.1, { e.2 with slotted := [] })
    agenda := if s.cycles.toNat % 64 = 0 then (List.range 256).map Instr.rotationRebase else []
    round := s.activeCores
    late := s.lateEvents }

/-- What a step does: the next event of the agenda, the next bundle, the next junction, the late events, or a new cycle. -/
noncomputable def nextStep (run : Instr → State → Out) (s : State) : Out :=
  match s.agenda with
  | i :: l => run i { s with agenda := l }
  | [] =>
    match s.issueQ with
    | c :: l => issueNext run c { s with issueQ := l }
    | [] =>
      match s.round with
      | k :: l => run (.junctionCycle k) { s with round := l }
      | [] =>
        match s.late with
        | i :: l => .next { s with agenda := i :: l, late := [] }
        | [] => .next s.newCycle

/-! ## Placing an instruction where the next step fetches it -/

/-- The words of a bundle that holds one table word and its extension word, in the first slot in which it decodes (log entry 2). -/
noncomputable def tableBundle (nbits w : Nat) : List Word32 :=
  let w := w % 2 ^ nbits
  let slot := firstSlot (tableWord w) (tableExt w) tableSlots
  let h : Header := if slot = 12 then { Header.empty with xp := true } else { Header.empty with pres := 1#12 <<< slot }
  encodeHead h :: tableWord w :: (tableExt w).toList

/-- Code words as bytes of a segment, from an address on. -/
def wordBytes : Nat → List Word32 → Memory → Memory
  | _, [], m => m
  | a, w :: l, m => wordBytes (a + 4) l (Memory.writeLE m a 4 w.toNat)

/-- A code object of one segment, with device latencies. -/
def loadedCode : CodeObj := { codeSize := 0x10000, codeOff := 128, segCount := 1, latency := 0x48524131, fmts := [], decls := [] }

/-- The context at hand issues the words next: it runs at the first byte of a resident segment that holds them (log entry 23). -/
def State.loadWords (s : State) (l : List Word32) : State :=
  let c := s.cur % 1024
  let x := s.ctx c
  let s := s.setCtx c { x with
    state := if x.state = .handler then .handler else .running
    switching := none
    pc := 0
    repLeft := 0
    nest := Nest.reset }
  let s := s.modCore (coreOf c) fun k => { k with
    frames := Store.put (k.frames.filter fun f => !(f.2.seg == some (x.code, 0))) 0
      { seg := some (x.code, 0), copying := false, src := 0, needed := false, bytes := wordBytes 0 l [] } }
  let s := s.modFe fun f => { f with
    codes := Store.put f.codes x.code loadedCode
    segtabs := Store.del f.segtabs x.code }
  { s with
    agenda := []
    late := []
    round := []
    issueQ := [c]
    cur := c
    issue := Issue.reset }

end Sys2Proof.Machine
end

