-- ==== Sys2Proof/Machine/Dispatch.lean ====
section
/-! DEFINITION. The meaning of every instruction and event: one arm each, one direct call of its own definition. -/

namespace Sys2Proof.Machine

open Sys2Proof.Machine in noncomputable
def exec (i : Instr) (s : State) : Host.Outcome State Fault Refusal :=
  match i with
  | .nop o => Sys2Proof.Machine.execNop o s
  | .br o => Sys2Proof.Machine.execBr o s
  | .brp o => Sys2Proof.Machine.execBrp o s
  | .brl o => Sys2Proof.Machine.execBrl o s
  | .ret o => Sys2Proof.Machine.execRet o s
  | .jmp o => Sys2Proof.Machine.execJmp o s
  | .jmpL o => Sys2Proof.Machine.execJmpL o s
  | .loop o => Sys2Proof.Machine.execLoop o s
  | .loopn o => Sys2Proof.Machine.execLoopn o s
  | .fmtw o => Sys2Proof.Machine.execFmtw o s
  | .csrr o => Sys2Proof.Machine.execCsrr o s
  | .csrw o => Sys2Proof.Machine.execCsrw o s
  | .csrwI o => Sys2Proof.Machine.execCsrwI o s
  | .pand o => Sys2Proof.Machine.execPand o s
  | .por o => Sys2Proof.Machine.execPor o s
  | .pxor o => Sys2Proof.Machine.execPxor o s
  | .pnot o => Sys2Proof.Machine.execPnot o s
  | .trapC o => Sys2Proof.Machine.execTrapC o s
  | .sysc o => Sys2Proof.Machine.execSysc o s
  | .rft o => Sys2Proof.Machine.execRft o s
  | .retire o => Sys2Proof.Machine.execRetire o s
  | .yield o => Sys2Proof.Machine.execYield o s
  | .wait o => Sys2Proof.Machine.execWait o s
  | .waitc o => Sys2Proof.Machine.execWaitc o s
  | .waitb o => Sys2Proof.Machine.execWaitb o s
  | .waitt o => Sys2Proof.Machine.execWaitt o s
  | .scope o => Sys2Proof.Machine.execScope o s
  | .add o => Sys2Proof.Machine.execAdd o s
  | .sub o => Sys2Proof.Machine.execSub o s
  | .mul o => Sys2Proof.Machine.execMul o s
  | .mulh o => Sys2Proof.Machine.execMulh o s
  | .mulhu o => Sys2Proof.Machine.execMulhu o s
  | .div_ o => Sys2Proof.Machine.execDiv o s
  | .divu o => Sys2Proof.Machine.execDivu o s
  | .rem o => Sys2Proof.Machine.execRem o s
  | .remu o => Sys2Proof.Machine.execRemu o s
  | .and_ o => Sys2Proof.Machine.execAnd o s
  | .or_ o => Sys2Proof.Machine.execOr o s
  | .xor_ o => Sys2Proof.Machine.execXor o s
  | .andn o => Sys2Proof.Machine.execAndn o s
  | .shl o => Sys2Proof.Machine.execShl o s
  | .shr o => Sys2Proof.Machine.execShr o s
  | .sra o => Sys2Proof.Machine.execSra o s
  | .rol o => Sys2Proof.Machine.execRol o s
  | .clz o => Sys2Proof.Machine.execClz o s
  | .ctz o => Sys2Proof.Machine.execCtz o s
  | .popc o => Sys2Proof.Machine.execPopc o s
  | .min_ o => Sys2Proof.Machine.execMin o s
  | .max_ o => Sys2Proof.Machine.execMax o s
  | .minu o => Sys2Proof.Machine.execMinu o s
  | .maxu o => Sys2Proof.Machine.execMaxu o s
  | .sel o => Sys2Proof.Machine.execSel o s
  | .cmp o => Sys2Proof.Machine.execCmp o s
  | .addW o => Sys2Proof.Machine.execAddW o s
  | .subW o => Sys2Proof.Machine.execSubW o s
  | .mulW o => Sys2Proof.Machine.execMulW o s
  | .divW o => Sys2Proof.Machine.execDivW o s
  | .divuW o => Sys2Proof.Machine.execDivuW o s
  | .remW o => Sys2Proof.Machine.execRemW o s
  | .remuW o => Sys2Proof.Machine.execRemuW o s
  | .shlW o => Sys2Proof.Machine.execShlW o s
  | .shrW o => Sys2Proof.Machine.execShrW o s
  | .sraW o => Sys2Proof.Machine.execSraW o s
  | .addi o => Sys2Proof.Machine.execAddi o s
  | .andI o => Sys2Proof.Machine.execAndI o s
  | .orI o => Sys2Proof.Machine.execOrI o s
  | .xorI o => Sys2Proof.Machine.execXorI o s
  | .shlI o => Sys2Proof.Machine.execShlI o s
  | .shrI o => Sys2Proof.Machine.execShrI o s
  | .sraI o => Sys2Proof.Machine.execSraI o s
  | .rolI o => Sys2Proof.Machine.execRolI o s
  | .cmpI o => Sys2Proof.Machine.execCmpI o s
  | .movi o => Sys2Proof.Machine.execMovi o s
  | .movhi o => Sys2Proof.Machine.execMovhi o s
  | .xmovSl o => Sys2Proof.Machine.execXmovSl o s
  | .xmovLs o => Sys2Proof.Machine.execXmovLs o s
  | .xmovSv o => Sys2Proof.Machine.execXmovSv o s
  | .xmovVs o => Sys2Proof.Machine.execXmovVs o s
  | .fadd o => Sys2Proof.Machine.execFadd o s
  | .fmul o => Sys2Proof.Machine.execFmul o s
  | .fcmp o => Sys2Proof.Machine.execFcmp o s
  | .fma o => Sys2Proof.Machine.execFma o s
  | .aadd o => Sys2Proof.Machine.execAadd o s
  | .aaddi o => Sys2Proof.Machine.execAaddi o s
  | .xmova o => Sys2Proof.Machine.execXmova o s
  | .lds8 o => Sys2Proof.Machine.execLds8 o s
  | .lds16 o => Sys2Proof.Machine.execLds16 o s
  | .lds32 o => Sys2Proof.Machine.execLds32 o s
  | .lds64 o => Sys2Proof.Machine.execLds64 o s
  | .ldv o => Sys2Proof.Machine.execLdv o s
  | .ldvt o => Sys2Proof.Machine.execLdvt o s
  | .ldg8 o => Sys2Proof.Machine.execLdg8 o s
  | .ldg16 o => Sys2Proof.Machine.execLdg16 o s
  | .ldg32 o => Sys2Proof.Machine.execLdg32 o s
  | .ldg64 o => Sys2Proof.Machine.execLdg64 o s
  | .ldgV o => Sys2Proof.Machine.execLdgV o s
  | .ldk32 o => Sys2Proof.Machine.execLdk32 o s
  | .ldk64 o => Sys2Proof.Machine.execLdk64 o s
  | .ldacq32 o => Sys2Proof.Machine.execLdacq32 o s
  | .ldacq64 o => Sys2Proof.Machine.execLdacq64 o s
  | .ldsc o => Sys2Proof.Machine.execLdsc o s
  | .halloc o => Sys2Proof.Machine.execHalloc o s
  | .hfree o => Sys2Proof.Machine.execHfree o s
  | .hinfo o => Sys2Proof.Machine.execHinfo o s
  | .kderiveLd o => Sys2Proof.Machine.execKderiveLd o s
  | .kderiveRs o => Sys2Proof.Machine.execKderiveRs o s
  | .kderiveSt o => Sys2Proof.Machine.execKderiveSt o s
  | .kchk o => Sys2Proof.Machine.execKchk o s
  | .pf o => Sys2Proof.Machine.execPf o s
  | .sts8 o => Sys2Proof.Machine.execSts8 o s
  | .sts16 o => Sys2Proof.Machine.execSts16 o s
  | .sts32 o => Sys2Proof.Machine.execSts32 o s
  | .sts64 o => Sys2Proof.Machine.execSts64 o s
  | .stv o => Sys2Proof.Machine.execStv o s
  | .stvt o => Sys2Proof.Machine.execStvt o s
  | .stg8 o => Sys2Proof.Machine.execStg8 o s
  | .stg16 o => Sys2Proof.Machine.execStg16 o s
  | .stg32 o => Sys2Proof.Machine.execStg32 o s
  | .stg64 o => Sys2Proof.Machine.execStg64 o s
  | .stk32 o => Sys2Proof.Machine.execStk32 o s
  | .stk64 o => Sys2Proof.Machine.execStk64 o s
  | .strel32 o => Sys2Proof.Machine.execStrel32 o s
  | .strel64 o => Sys2Proof.Machine.execStrel64 o s
  | .amoAdd32 o => Sys2Proof.Machine.execAmoAdd32 o s
  | .amoAdd64 o => Sys2Proof.Machine.execAmoAdd64 o s
  | .amoAnd32 o => Sys2Proof.Machine.execAmoAnd32 o s
  | .amoAnd64 o => Sys2Proof.Machine.execAmoAnd64 o s
  | .amoOr32 o => Sys2Proof.Machine.execAmoOr32 o s
  | .amoOr64 o => Sys2Proof.Machine.execAmoOr64 o s
  | .amoXor32 o => Sys2Proof.Machine.execAmoXor32 o s
  | .amoXor64 o => Sys2Proof.Machine.execAmoXor64 o s
  | .amoMin32 o => Sys2Proof.Machine.execAmoMin32 o s
  | .amoMin64 o => Sys2Proof.Machine.execAmoMin64 o s
  | .amoMax32 o => Sys2Proof.Machine.execAmoMax32 o s
  | .amoMax64 o => Sys2Proof.Machine.execAmoMax64 o s
  | .amoMinu32 o => Sys2Proof.Machine.execAmoMinu32 o s
  | .amoMinu64 o => Sys2Proof.Machine.execAmoMinu64 o s
  | .amoMaxu32 o => Sys2Proof.Machine.execAmoMaxu32 o s
  | .amoMaxu64 o => Sys2Proof.Machine.execAmoMaxu64 o s
  | .amoSwap32 o => Sys2Proof.Machine.execAmoSwap32 o s
  | .amoSwap64 o => Sys2Proof.Machine.execAmoSwap64 o s
  | .cas32 o => Sys2Proof.Machine.execCas32 o s
  | .cas64 o => Sys2Proof.Machine.execCas64 o s
  | .cas128 o => Sys2Proof.Machine.execCas128 o s
  | .redAdd32 o => Sys2Proof.Machine.execRedAdd32 o s
  | .redAdd64 o => Sys2Proof.Machine.execRedAdd64 o s
  | .redAnd32 o => Sys2Proof.Machine.execRedAnd32 o s
  | .redAnd64 o => Sys2Proof.Machine.execRedAnd64 o s
  | .redOr32 o => Sys2Proof.Machine.execRedOr32 o s
  | .redOr64 o => Sys2Proof.Machine.execRedOr64 o s
  | .redXor32 o => Sys2Proof.Machine.execRedXor32 o s
  | .redXor64 o => Sys2Proof.Machine.execRedXor64 o s
  | .redMin32 o => Sys2Proof.Machine.execRedMin32 o s
  | .redMin64 o => Sys2Proof.Machine.execRedMin64 o s
  | .redMax32 o => Sys2Proof.Machine.execRedMax32 o s
  | .redMax64 o => Sys2Proof.Machine.execRedMax64 o s
  | .redMinu32 o => Sys2Proof.Machine.execRedMinu32 o s
  | .redMinu64 o => Sys2Proof.Machine.execRedMinu64 o s
  | .redMaxu32 o => Sys2Proof.Machine.execRedMaxu32 o s
  | .redMaxu64 o => Sys2Proof.Machine.execRedMaxu64 o s
  | .redFadd32 o => Sys2Proof.Machine.execRedFadd32 o s
  | .fence o => Sys2Proof.Machine.execFence o s
  | .fenceRel o => Sys2Proof.Machine.execFenceRel o s
  | .fenceAcq o => Sys2Proof.Machine.execFenceAcq o s
  | .bind o => Sys2Proof.Machine.execBind o s
  | .unbind o => Sys2Proof.Machine.execUnbind o s
  | .vadd o => Sys2Proof.Machine.execVadd o s
  | .vsub o => Sys2Proof.Machine.execVsub o s
  | .vmul o => Sys2Proof.Machine.execVmul o s
  | .vmulh o => Sys2Proof.Machine.execVmulh o s
  | .vand o => Sys2Proof.Machine.execVand o s
  | .vor o => Sys2Proof.Machine.execVor o s
  | .vxor o => Sys2Proof.Machine.execVxor o s
  | .vandn o => Sys2Proof.Machine.execVandn o s
  | .vshl o => Sys2Proof.Machine.execVshl o s
  | .vshr o => Sys2Proof.Machine.execVshr o s
  | .vsra o => Sys2Proof.Machine.execVsra o s
  | .vmin o => Sys2Proof.Machine.execVmin o s
  | .vmax o => Sys2Proof.Machine.execVmax o s
  | .vminu o => Sys2Proof.Machine.execVminu o s
  | .vmaxu o => Sys2Proof.Machine.execVmaxu o s
  | .vabs o => Sys2Proof.Machine.execVabs o s
  | .vneg o => Sys2Proof.Machine.execVneg o s
  | .vcmp o => Sys2Proof.Machine.execVcmp o s
  | .vaddSat o => Sys2Proof.Machine.execVaddSat o s
  | .vsubSat o => Sys2Proof.Machine.execVsubSat o s
  | .vfadd o => Sys2Proof.Machine.execVfadd o s
  | .vfsub o => Sys2Proof.Machine.execVfsub o s
  | .vfmul o => Sys2Proof.Machine.execVfmul o s
  | .vfma o => Sys2Proof.Machine.execVfma o s
  | .vfms o => Sys2Proof.Machine.execVfms o s
  | .vfmin o => Sys2Proof.Machine.execVfmin o s
  | .vfmax o => Sys2Proof.Machine.execVfmax o s
  | .vfabs o => Sys2Proof.Machine.execVfabs o s
  | .vfneg o => Sys2Proof.Machine.execVfneg o s
  | .vfcmp o => Sys2Proof.Machine.execVfcmp o s
  | .vrcp o => Sys2Proof.Machine.execVrcp o s
  | .vrsq o => Sys2Proof.Machine.execVrsq o s
  | .vsqrt o => Sys2Proof.Machine.execVsqrt o s
  | .vexp2 o => Sys2Proof.Machine.execVexp2 o s
  | .vlog2 o => Sys2Proof.Machine.execVlog2 o s
  | .vfaddH o => Sys2Proof.Machine.execVfaddH o s
  | .vfsubH o => Sys2Proof.Machine.execVfsubH o s
  | .vfmulH o => Sys2Proof.Machine.execVfmulH o s
  | .vfmaH o => Sys2Proof.Machine.execVfmaH o s
  | .vfmsH o => Sys2Proof.Machine.execVfmsH o s
  | .vfminH o => Sys2Proof.Machine.execVfminH o s
  | .vfmaxH o => Sys2Proof.Machine.execVfmaxH o s
  | .vfabsH o => Sys2Proof.Machine.execVfabsH o s
  | .vfnegH o => Sys2Proof.Machine.execVfnegH o s
  | .vfcmpH o => Sys2Proof.Machine.execVfcmpH o s
  | .vcvt o => Sys2Proof.Machine.execVcvt o s
  | .vcvtRs o => Sys2Proof.Machine.execVcvtRs o s
  | .vqnt o => Sys2Proof.Machine.execVqnt o s
  | .vdqnt o => Sys2Proof.Machine.execVdqnt o s
  | .vrsum o => Sys2Proof.Machine.execVrsum o s
  | .vrmax o => Sys2Proof.Machine.execVrmax o s
  | .vrmin o => Sys2Proof.Machine.execVrmin o s
  | .vscan o => Sys2Proof.Machine.execVscan o s
  | .vrsumF o => Sys2Proof.Machine.execVrsumF o s
  | .vrmaxF o => Sys2Proof.Machine.execVrmaxF o s
  | .vrminF o => Sys2Proof.Machine.execVrminF o s
  | .vscanF o => Sys2Proof.Machine.execVscanF o s
  | .vperm o => Sys2Proof.Machine.execVperm o s
  | .vbcast o => Sys2Proof.Machine.execVbcast o s
  | .vslide o => Sys2Proof.Machine.execVslide o s
  | .vsel o => Sys2Proof.Machine.execVsel o s
  | .vmov o => Sys2Proof.Machine.execVmov o s
  | .vsplat o => Sys2Proof.Machine.execVsplat o s
  | .vlane o => Sys2Proof.Machine.execVlane o s
  | .vstat o => Sys2Proof.Machine.execVstat o s
  | .mopaNf o => Sys2Proof.Machine.execMopaNf o s
  | .mopaInt4 o => Sys2Proof.Machine.execMopaInt4 o s
  | .mopaInt8 o => Sys2Proof.Machine.execMopaInt8 o s
  | .mopaUint8 o => Sys2Proof.Machine.execMopaUint8 o s
  | .mopaF16 o => Sys2Proof.Machine.execMopaF16 o s
  | .mopaBf16 o => Sys2Proof.Machine.execMopaBf16 o s
  | .mopaF32 o => Sys2Proof.Machine.execMopaF32 o s
  | .mopsNf o => Sys2Proof.Machine.execMopsNf o s
  | .mopsInt4 o => Sys2Proof.Machine.execMopsInt4 o s
  | .mopsInt8 o => Sys2Proof.Machine.execMopsInt8 o s
  | .mopsUint8 o => Sys2Proof.Machine.execMopsUint8 o s
  | .mopsF16 o => Sys2Proof.Machine.execMopsF16 o s
  | .mopsBf16 o => Sys2Proof.Machine.execMopsBf16 o s
  | .mopsF32 o => Sys2Proof.Machine.execMopsF32 o s
  | .mzero o => Sys2Proof.Machine.execMzero o s
  | .mcfg o => Sys2Proof.Machine.execMcfg o s
  | .mfence o => Sys2Proof.Machine.execMfence o s
  | .drain o => Sys2Proof.Machine.execDrain o s
  | .drainM o => Sys2Proof.Machine.execDrainM o s
  | .drainv o => Sys2Proof.Machine.execDrainv o s
  | .fill o => Sys2Proof.Machine.execFill o s
  | .fillM o => Sys2Proof.Machine.execFillM o s
  | .fillv o => Sys2Proof.Machine.execFillv o s
  | .dzero o => Sys2Proof.Machine.execDzero o s
  | .oadamF32 o => Sys2Proof.Machine.execOadamF32 o s
  | .oadamBf16 o => Sys2Proof.Machine.execOadamBf16 o s
  | .oadamwF32 o => Sys2Proof.Machine.execOadamwF32 o s
  | .oadamwBf16 o => Sys2Proof.Machine.execOadamwBf16 o s
  | .olionF32 o => Sys2Proof.Machine.execOlionF32 o s
  | .olionBf16 o => Sys2Proof.Machine.execOlionBf16 o s
  | .osgdmF32 o => Sys2Proof.Machine.execOsgdmF32 o s
  | .osgdmBf16 o => Sys2Proof.Machine.execOsgdmBf16 o s
  | .oclip o => Sys2Proof.Machine.execOclip o s
  | .oscale o => Sys2Proof.Machine.execOscale o s
  | .cpy o => Sys2Proof.Machine.execCpy o s
  | .cpyq o => Sys2Proof.Machine.execCpyq o s
  | .gath o => Sys2Proof.Machine.execGath o s
  | .scat o => Sys2Proof.Machine.execScat o s
  | .gathK o => Sys2Proof.Machine.execGathK o s
  | .scatK o => Sys2Proof.Machine.execScatK o s
  | .bget o => Sys2Proof.Machine.execBget o s
  | .bwr o => Sys2Proof.Machine.execBwr o s
  | .bred o => Sys2Proof.Machine.execBred o s
  | .gred o => Sys2Proof.Machine.execGred o s
  | .gmld o => Sys2Proof.Machine.execGmld o s
  | .grpset o => Sys2Proof.Machine.execGrpset o s
  | .msend o => Sys2Proof.Machine.execMsend o s
  | .enq o => Sys2Proof.Machine.execEnq o s
  | .arrive o => Sys2Proof.Machine.execArrive o s
  | .tdec o => Sys2Proof.Machine.execTdec o s
  | .tspawn o => Sys2Proof.Machine.execTspawn o s
  | .sclose o => Sys2Proof.Machine.execSclose o s
  | .sread o => Sys2Proof.Machine.execSread o s
  | .sreadO o => Sys2Proof.Machine.execSreadO o s
  | .salloc o => Sys2Proof.Machine.execSalloc o s
  | .sfree o => Sys2Proof.Machine.execSfree o s
  | .lacq o => Sys2Proof.Machine.execLacq o s
  | .lrel o => Sys2Proof.Machine.execLrel o s
  | .realign o => Sys2Proof.Machine.execRealign o s
  | .mstone o => Sys2Proof.Machine.execMstone o s
  | .wmarm o => Sys2Proof.Machine.execWmarm o s
  | .landing c => Sys2Proof.Machine.execLanding c s
  | .loopEndMark c => Sys2Proof.Machine.execLoopEndMark c s
  | .segmentBoundaryMark c => Sys2Proof.Machine.execSegmentBoundaryMark c s
  | .segmentMiss c => Sys2Proof.Machine.execSegmentMiss c s
  | .segmentCopyComplete core frame => Sys2Proof.Machine.execSegmentCopyComplete core frame s
  | .junctionCycle core => Sys2Proof.Machine.execJunctionCycle core s
  | .rotationRebase core => Sys2Proof.Machine.execRotationRebase core s
  | .hiddenResultWrite c id => Sys2Proof.Machine.execHiddenResultWrite c id s
  | .hallocComplete c h => Sys2Proof.Machine.execHallocComplete c h s
  | .handleStorageRelease c h => Sys2Proof.Machine.execHandleStorageRelease c h s
  | .matrixOpComplete c id => Sys2Proof.Machine.execMatrixOpComplete c id s
  | .drainOpComplete c id => Sys2Proof.Machine.execDrainOpComplete c id s
  | .optimiserOpComplete c id => Sys2Proof.Machine.execOptimiserOpComplete c id s
  | .optimiserTrapTaken c => Sys2Proof.Machine.execOptimiserTrapTaken c s
  | .engineJobComplete c id => Sys2Proof.Machine.execEngineJobComplete c id s
  | .waymarkReport core addr bytes status => Sys2Proof.Machine.execWaymarkReport core addr bytes status s
  | .pageFault c id => Sys2Proof.Machine.execPageFault c id s
  | .tileRetired c => Sys2Proof.Machine.execTileRetired c s
  | .contextSwitchStart w core => Sys2Proof.Machine.execContextSwitchStart w core s
  | .spillSave c => Sys2Proof.Machine.execSpillSave c s
  | .refill c => Sys2Proof.Machine.execRefill c s
  | .walkerAssign task => Sys2Proof.Machine.execWalkerAssign task s
  | .walkerUpdate w => Sys2Proof.Machine.execWalkerUpdate w s
  | .forkRequest die => Sys2Proof.Machine.execForkRequest die s
  | .walkerSave w => Sys2Proof.Machine.execWalkerSave w s
  | .walkerRestore task => Sys2Proof.Machine.execWalkerRestore task s
  | .taskDone task => Sys2Proof.Machine.execTaskDone task s
  | .dispatch => Sys2Proof.Machine.execDispatch s
  | .clusterCacheWriteback cl line => Sys2Proof.Machine.execClusterCacheWriteback cl line s
  | .clusterCacheEccError cl line chunk correctable => Sys2Proof.Machine.execClusterCacheEccError cl line chunk correctable s
  | .barrierUpdate cl b => Sys2Proof.Machine.execBarrierUpdate cl b s
  | .atomicPlacementNear line cl => Sys2Proof.Machine.execAtomicPlacementNear line cl s
  | .ownershipRecall line => Sys2Proof.Machine.execOwnershipRecall line s
  | .llcEccError line chunk correctable => Sys2Proof.Machine.execLlcEccError line chunk correctable s
  | .translationInvalidateAck slice => Sys2Proof.Machine.execTranslationInvalidateAck slice s
  | .migrationCopyComplete ia => Sys2Proof.Machine.execMigrationCopyComplete ia s
  | .hintWindowCheck slice task entry misses => Sys2Proof.Machine.execHintWindowCheck slice task entry misses s
  | .deltaMerge n => Sys2Proof.Machine.execDeltaMerge n s
  | .leaseGrant lease granted => Sys2Proof.Machine.execLeaseGrant lease granted s
  | .leaseRenewal lease accepted => Sys2Proof.Machine.execLeaseRenewal lease accepted s
  | .leaseEnd lease => Sys2Proof.Machine.execLeaseEnd lease s
  | .leaseRecall objid lo len => Sys2Proof.Machine.execLeaseRecall objid lo len s
  | .routeSheetEntry asid step entry => Sys2Proof.Machine.execRouteSheetEntry asid step entry s
  | .routeRecordRetry asid step => Sys2Proof.Machine.execRouteRecordRetry asid step s
  | .queueFetch q => Sys2Proof.Machine.execQueueFetch q s
  | .queueHintWrite q v => Sys2Proof.Machine.execQueueHintWrite q v s
  | .queueReset q => Sys2Proof.Machine.execQueueReset q s
  | .queueEnWrite q en => Sys2Proof.Machine.execQueueEnWrite q en s
  | .registerWrite func off v => Sys2Proof.Machine.execRegisterWrite func off v s
  | .launch h lrec id any step => Sys2Proof.Machine.execLaunch h lrec id any step s
  | .ready h id => Sys2Proof.Machine.execReady h id s
  | .dec h id n => Sys2Proof.Machine.execDec h id n s
  | .template h tid lrec tcmpl => Sys2Proof.Machine.execTemplate h tid lrec tcmpl s
  | .route h sheet => Sys2Proof.Machine.execRoute h sheet s
  | .aspace h asid cls teardown recQuota desc => Sys2Proof.Machine.execAspace h asid cls teardown recQuota desc s
  | .quota h cls w0 w1 => Sys2Proof.Machine.execQuota h cls w0 w1 s
  | .config h size spillBase areas => Sys2Proof.Machine.execConfig h size spillBase areas s
  | .map h ia pa size tier r w asid => Sys2Proof.Machine.execMap h ia pa size tier r w asid s
  | .unmap h ia size => Sys2Proof.Machine.execUnmap h ia size s
  | .protect h ia size r w => Sys2Proof.Machine.execProtect h ia size r w s
  | .migrate h ia pa size tier asid => Sys2Proof.Machine.execMigrate h ia pa size tier asid s
  | .segtab h code table count => Sys2Proof.Machine.execSegtab h code table count s
  | .recAlloc h recid any policy => Sys2Proof.Machine.execRecAlloc h recid any policy s
  | .recFree h recid => Sys2Proof.Machine.execRecFree h recid s
  | .resume h ctx setPc pc regs => Sys2Proof.Machine.execResume h ctx setPc pc regs s
  | .abandon h ctx => Sys2Proof.Machine.execAbandon h ctx s
  | .switch h ctx => Sys2Proof.Machine.execSwitch h ctx s
  | .wsave h walker => Sys2Proof.Machine.execWsave h walker s
  | .fencePacket h => Sys2Proof.Machine.execFencePacket h s
  | .nopPacket h => Sys2Proof.Machine.execNopPacket h s
  | .fwupdate h image bytes => Sys2Proof.Machine.execFwupdate h image bytes s
  | .eventRingConfigWrite log2n v => Sys2Proof.Machine.execEventRingConfigWrite log2n v s
  | .heldFaultRecordWrite => Sys2Proof.Machine.execHeldFaultRecordWrite s
  | .watchdogExpiry stop => Sys2Proof.Machine.execWatchdogExpiry stop s
  | .parityError stop => Sys2Proof.Machine.execParityError stop s
  | .qownerWrite q v => Sys2Proof.Machine.execQownerWrite q v s
  | .lockInterfaceRequest vf => Sys2Proof.Machine.execLockInterfaceRequest vf s
  | .startInterfaceRequest vf nonce => Sys2Proof.Machine.execStartInterfaceRequest vf nonce s
  | .stopInterfaceRequest vf => Sys2Proof.Machine.execStopInterfaceRequest vf s
  | .getDeviceInterfaceReport vf => Sys2Proof.Machine.execGetDeviceInterfaceReport vf s
  | .ideIntegrityFailure vf => Sys2Proof.Machine.execIdeIntegrityFailure vf s
  | .functionLevelReset vf => Sys2Proof.Machine.execFunctionLevelReset vf s
  | .spdmAlgorithmNegotiation sig hash kex aead => Sys2Proof.Machine.execSpdmAlgorithmNegotiation sig hash kex aead s
  | .snpinv granule => Sys2Proof.Machine.execSnpinv granule s
  | .snpdata granule => Sys2Proof.Machine.execSnpdata granule s
  | .cxlCapacityEviction granule => Sys2Proof.Machine.execCxlCapacityEviction granule s
  | .hostHdmAccess write ia n data => Sys2Proof.Machine.execHostHdmAccess write ia n data s
  | .coldStart ok => Sys2Proof.Machine.execColdStart ok s
  | .warmStart ok => Sys2Proof.Machine.execWarmStart ok s
  | .warm => Sys2Proof.Machine.execWarm s
  | .go => Sys2Proof.Machine.execGo s
  | .startTimeout => Sys2Proof.Machine.execStartTimeout s
  | .tolWrite v => Sys2Proof.Machine.execTolWrite v s
  | .powerStateEntry => Sys2Proof.Machine.execPowerStateEntry s
  | .powerStateWake bar0 fabric => Sys2Proof.Machine.execPowerStateWake bar0 fabric s
  | .throttleStep temp => Sys2Proof.Machine.execThrottleStep temp s
  | .thermalTrip temp => Sys2Proof.Machine.execThermalTrip temp s
  | .slotBoundary => Sys2Proof.Machine.execSlotBoundary s
  | .flitReceive port f => Sys2Proof.Machine.execFlitReceive port f s
  | .flitForward => Sys2Proof.Machine.execFlitForward s
  | .framePulse port valid frame => Sys2Proof.Machine.execFramePulse port valid frame s
  | .relock port frame inGuard => Sys2Proof.Machine.execRelock port frame inGuard s
  | .phase2Entry => Sys2Proof.Machine.execPhase2Entry s
  | .nosyncEntry => Sys2Proof.Machine.execNosyncEntry s
  | .holdoverExchange offs => Sys2Proof.Machine.execHoldoverExchange offs s
  | .portPause p => Sys2Proof.Machine.execPortPause p s
  | .portRetrain p => Sys2Proof.Machine.execPortRetrain p s
  | .portFence p => Sys2Proof.Machine.execPortFence p s
  | .portRejoin p => Sys2Proof.Machine.execPortRejoin p s
  | .dataReceive f => Sys2Proof.Machine.execDataReceive f s
  | .enqReceive f => Sys2Proof.Machine.execEnqReceive f s
  | .arriveReceive f => Sys2Proof.Machine.execArriveReceive f s
  | .heldMessageRelease src stream => Sys2Proof.Machine.execHeldMessageRelease src stream s
  | .streamAbort src stream count => Sys2Proof.Machine.execStreamAbort src stream count s
  | .membershipAdd epoch id => Sys2Proof.Machine.execMembershipAdd epoch id s
  | .membershipRemove epoch id => Sys2Proof.Machine.execMembershipRemove epoch id s
  | .groupPhaseComplete asid gid phase lost => Sys2Proof.Machine.execGroupPhaseComplete asid gid phase lost s
  | .poolReject c id => Sys2Proof.Machine.execPoolReject c id s
  | .commitAnswer asid step ok => Sys2Proof.Machine.execCommitAnswer asid step ok s
  | .frozenItemWrite vf => Sys2Proof.Machine.execFrozenItemWrite vf s
  | .poolWriteAcknowledgement c id => Sys2Proof.Machine.execPoolWriteAcknowledgement c id s
  | .carrierMemoryEccError ia correctable => Sys2Proof.Machine.execCarrierMemoryEccError ia correctable s

end Sys2Proof.Machine
end

