-- ==== Sys2Proof/Machine/Step.lean ====
section
/-! DEFINITION. One step of the machine, and a table word placed where the next step fetches it. -/

namespace Sys2Proof.Machine

/-- One step: the next event, bundle or junction of the schedule, or the start of a cycle (Machine/Cycle.lean). -/
noncomputable def step (s : State) : Host.Outcome State Fault Refusal := nextStep exec s

/-- The state with a table word placed so that the next step fetches and runs exactly it (log entry 23). -/
noncomputable def State.withFetchWord (s : State) (nbits w : Nat) : State := s.loadWords (tableBundle nbits w)

end Sys2Proof.Machine
end

