-- ==== Sys2Proof/Safety.lean ====
section
/-! DEFINITION. The terms that claims about the SLZ-7200 are stated in: what a safe run is, the invariant of the memories, and when a
syllable issues. -/

namespace Sys2Proof.Machine

/-- The byte memories are in canonical form: HBM and carrier memory, host memory, and every core's scratchpad. -/
def State.memInv (s : State) : Bool :=
  Memory.wf s.mem && Memory.wf s.hostMem && s.cores.all fun k => Memory.wf k.2.scratch

/-- The slots of a bundle run, and the guard of the syllable reads 1 (R56). -/
def State.runs (s : State) (g : BitVec 3) : Prop := s.issue.active = true ∧ s.pre.preg g.toNat = true

/-- No bundle is being issued: an instruction that runs now is a bundle of its own. -/
def State.between (s : State) : Prop := s.issue.active = false

/-- A step is safe: the machine goes on. -/
def State.safeStep (s : State) : Prop := ∃ t, step s = .next t

/-- The state with another record of the bundle being issued. -/
def State.withIssue (s : State) (i : Issue) : State := { s with issue := i }

end Sys2Proof.Machine
end

