-- ==== Sys2Proof/Certificates/Slice0/Obligations.lean ====
section
/-! DEFINITION. The statements about the SLZ-7200's model, one Prop each, for the provers. Each docstring names the rules of spec/ that the
statement formalises, or says that it is derived. -/

open Sys2Proof Sys2Proof.Machine

/-! ## Encoding -/

/-- Words written out from the encodings of R55, R58, R75 and R44 decode to the instructions they stand for. -/
def Obligations.WordsDecode : Prop :=
  decodeSyl 1 0x01008C80 none = .ok (.add { g := 0, d := 1, a := 3, b := 4, c := 0, ext := none }) ∧
  decodeSyl 1 0x40A28000 (some 0x12345678) = .ok (.movi { g := 2, d := 5, imm := 0, ext := some 0x12345678 }) ∧
  decodeSyl 0 0x01100010 none = .ok (.br { g := 1, off := 0x10, ext := none }) ∧
  decodeSyl 1 0x01008C81 none = .error 6 ∧ decodeSyl 1 0xFF000000 none = .error 4 ∧
  decodeHead 0xF0000000 = .padding ∧
  decodeHead 0x08400002 = .header { lend := true, segb := false, rep := 2, sticky := 0, xp := false, pres := 2 } ∧
  decodeHead 0x10000000 = .bad 1 ∧ decodeHead 0x00002000 = .bad 2

/-- Decoding the syllable of a well-formed instruction gives it back, for every instruction with an encoding (derived). -/
def Obligations.DecodeOfEncode : Prop :=
  ∀ (i : Instr) (e : Enc), i.wellFormed = true → encode i = some e → decodeSyl e.slot e.word e.ext = .ok i

/-- A syllable has one meaning and one spelling: what decodes in a slot encodes to the same slot, word and extension word (derived).
A bundle header is the word that encodes it, and every header word encodes what it decodes to (derived from R44). -/
def Obligations.OneSpelling : Prop :=
  (∀ (slot : Nat) (w : Word32) (ext : Option Word32) (i : Instr),
    hasExt w = ext.isSome → decodeSyl slot w ext = .ok i →
      i.wellFormed = true ∧ encode i = some { slot := slot, word := w, ext := ext }) ∧
  ((∀ h : Header, decodeHead (encodeHead h) = .header h) ∧
  (∀ (w : Word32) (h : Header), decodeHead w = .header h → encodeHead h = w))

/-- The packets of a queue (R439, R440), by the bits of their header and by the number that their body of 112 bytes is, the fields at their body
offsets: which instruction each is; a header with a bit outside its fields or a completion address off its limits, an OPC that is not listed, and a
field off its limits are BAD_PACKET, and a supervisor's packet on another queue is denied. That an intermediate address of 2^52 or more is off its
limits is R12 and R386. -/
def Obligations.PacketDecoding : Prop :=
  ∀ (q e asid : Nat) (super : Bool) (b : VWord),
    let f := fun (lo len : Nat) => (b.extractLsb' lo len).toNat
    let body := f 128 896
    let opc := f 0 7
    let h : PktHdr := { queue := q, entry := e, opc := opc, tag := f 16 16, cmpl := f 64 64, asid := asid }
    let p := decodePacket q e asid super b
    let headOk : Prop := f 8 8 = 0 ∧ f 32 32 = 0 ∧ f 64 64 % 16 = 0 ∧ f 64 64 < 2 ^ 52
    let bit := fun (x : Bool) (n : Nat) => if x then 2 ^ n else 0
    let supers := fun (i : Instr) => p = if super then .ok i else .denied h
    (¬headOk → p = .bad h) ∧ (opc = 0 ∨ 22 < opc → p = .bad h) ∧
    (headOk →
      (opc = 0x15 ∨ opc = 0x14 → body ≠ 0 → p = .bad h) ∧
      (body = 0 → (opc = 0x15 → p = .ok (.nopPacket h)) ∧ (opc = 0x14 → p = .ok (.fencePacket h))) ∧
      (opc = 0x02 ∨ opc = 0x0E ∨ opc = 0x0F ∨ opc = 0x11 ∨ opc = 0x12 ∨ opc = 0x13 → 2 ^ 32 ≤ body → p = .bad h) ∧
      (∀ id, body = id → (opc = 0x02 → id < 2 ^ 14 → p = .ok (.ready h id)) ∧ (opc = 0x0F → id < 2 ^ 16 → p = .ok (.recFree h id)) ∧
        (opc = 0x11 → id < 2 ^ 10 → supers (.abandon h id)) ∧ (opc = 0x12 → id < 2 ^ 10 → supers (.switch h id)) ∧
        (opc = 0x13 → id < 2 ^ 6 → supers (.wsave h id)) ∧ (opc = 0x05 → id < 2 ^ 52 → p = .ok (.route h id)) ∧
        (opc = 0x05 → 2 ^ 52 ≤ id → p = .bad h)) ∧
      (∀ id n, opc = 0x03 → id < 2 ^ 14 → n < 2 ^ 32 → body = id + 2 ^ 32 * n → p = if 0 < n then .ok (.dec h id n) else .bad h) ∧
      (∀ a id any step, opc = 0x01 → a < 2 ^ 64 → id < 2 ^ 14 → step < 2 ^ 64 → body = a + 2 ^ 64 * (id + bit any 15) + 2 ^ 128 * step →
        p = if a % 128 = 0 ∧ a < 2 ^ 52 then .ok (.launch h a id any (BitVec.ofNat 64 step)) else .bad h) ∧
      (∀ t a k, opc = 0x04 → t < 2 ^ 10 → a < 2 ^ 64 → k < 2 ^ 64 → body = t + 2 ^ 64 * a + 2 ^ 128 * k →
        p = if a % 128 = 0 ∧ a < 2 ^ 52 ∧ k % 16 = 0 ∧ k < 2 ^ 52 then .ok (.template h t a k) else .bad h) ∧
      (∀ id any n, opc = 0x0E → id < 2 ^ 16 → n < 2 ^ 8 → body = id + bit any 16 + 2 ^ 24 * n → p = .ok (.recAlloc h id any (BitVec.ofNat 8 n))) ∧
      (∀ n c td rq a, opc = 0x06 → n < 2 ^ 13 → c < 2 ^ 8 → rq < 2 ^ 16 → a < 2 ^ 52 →
        body = n + 2 ^ 16 * c + bit td 24 + 2 ^ 32 * rq + 2 ^ 64 * a → supers (.aspace h n c td rq a)) ∧
      (∀ c w x, opc = 0x07 → c < 2 ^ 8 → w < 2 ^ 64 → x < 2 ^ 64 → body = c + 2 ^ 64 * w + 2 ^ 128 * x →
        supers (.quota h c (BitVec.ofNat 64 w) (BitVec.ofNat 64 x))) ∧
      (∀ n a k, opc = 0x08 → n ≤ 131072 → a < 2 ^ 52 → k < 2 ^ 16 → body = n + 2 ^ 64 * a + 2 ^ 128 * k → supers (.config h n a k)) ∧
      (∀ a k n, opc = 0x0D → a < 2 ^ 52 → k < 2 ^ 52 → n < 2 ^ 13 → body = a + 2 ^ 64 * k + 2 ^ 128 * n →
        (0 < n → n ≤ 4096 → supers (.segtab h a k n)) ∧ (n = 0 ∨ 4096 < n → p = .bad h)) ∧
      (∀ ia pa size tier r w n, ia < 2 ^ 52 → ia % 2 ^ 16 = 0 → pa < 2 ^ 64 → pa % 2 ^ 12 = 0 → size < 4 → tier < 8 → n < 2 ^ 13 →
        let l := size + 2 ^ 4 * tier + bit r 8 + bit w 9 + 2 ^ 16 * n
        (body = ia + 2 ^ 64 * pa + 2 ^ 128 * l → (opc = 0x09 → supers (.map h ia pa size tier r w n)) ∧
          (opc = 0x0C → supers (.migrate h ia pa size tier n))) ∧
        (body = ia + 2 ^ 128 * l → tier = 0 →
          (opc = 0x0A → r = false → w = false → supers (.unmap { h with named := n } ia size)) ∧
          (opc = 0x0B → supers (.protect { h with named := n } ia size r w)))) ∧
      (∀ c pc, opc = 0x10 → c < 2 ^ 10 → pc < 2 ^ 32 → pc % 16 = 0 → (body = c → supers (.resume h c false 0 [])) ∧
        (body = c + 2 ^ 16 + 2 ^ 64 * pc → supers (.resume h c true pc [])) ∧
        (∀ r v, r < 32 → v < 2 ^ 64 → body = c + 2 ^ 20 + 2 ^ 128 * r + 2 ^ 192 * v →
          (0 < r → supers (.resume h c false 0 [(r, BitVec.ofNat 64 v)])) ∧ (r = 0 → p = .bad h))) ∧
      (∀ a n, opc = 0x16 → a < 2 ^ 52 → n < 2 ^ 32 → body = a + 2 ^ 64 * n → supers (.fwupdate h a n)))

/-! ## The state -/

/-- What R435, R416, R473, R490, R471 and R519 state of the machine after reset: every field of a queue's registers, of a quota class and CLASSMAP, of
the DVSEC and of the event ring that they give a reset value, and the empty tables.
The memories of the state after reset are in canonical form (derived).
The model's choices it rests on: log entries 4 and 14. -/
def Obligations.ResetState : Prop :=
  (let s := State.reset
  (∀ c, (s.ctx c).state = .free) ∧ s.cycles = 0 ∧ s.walkers = [] ∧ s.records = [] ∧ s.fe.tasks = [] ∧ s.fe.leases = [] ∧
  s.fe.frames = [] ∧ (∀ k, (s.core k).alloc = []) ∧
  (∀ q, (s.fe.queue q).state = 0 ∧ (s.fe.queue q).phase = true ∧ (s.fe.queue q).fetched = 0 ∧ (s.fe.queue q).errcode = 0 ∧
    (s.fe.queue q).base = 0 ∧ (s.fe.queue q).super = false ∧ (s.fe.queue q).asid = 0 ∧ (s.fe.queue q).log2n = 0 ∧ (s.fe.queue q).lastHint = 0) ∧
  (∀ asid, s.classOf asid = 0) ∧
  (∀ n, (s.quotaOf n).qllc = 0 ∧ (s.quotaOf n).qhbmr = 0 ∧ (s.quotaOf n).qhbmp = 0 ∧ (s.quotaOf n).qcar = 0 ∧ (s.quotaOf n).ullc = 0 ∧
    (s.quotaOf n).uhbmr = 0 ∧ (s.quotaOf n).uhbmp = 0 ∧ (s.quotaOf n).ucar = 0) ∧
  s.fe.ring.base = 0 ∧ s.fe.ring.log2n = 0 ∧ s.fe.ring.tail = 0 ∧ s.fe.ring.head = 0 ∧ s.fe.ring.drop = 0 ∧
  s.pow.stage = 1 ∧ s.pow.tol = 0 ∧ s.pow.result = 0 ∧ s.pow.recovery = false ∧ s.pow.throttle = false ∧ s.pow.ps = 0 ∧ s.pow.img = 0 ∧
  s.pow.imgLen = 0 ∧
  s.fab.removed = true ∧ (∀ c h, (s.ctx c).handle h = Handle.reset)) ∧
  (State.reset.memInv = true)

/-- s0, p0 and q0 (R17): they read as zero, 1 and all ones; a write that lands or is hidden changes no register; no busy bit is set; an
exposed operation makes no landing-queue entry; a hidden result for s0 sets no busy bit and is discarded when it returns. -/
def Obligations.FixedRegisters : Prop :=
  (∀ x : Ctx, x.sreg 0 = 0 ∧ x.preg 0 = true ∧ x.qreg 0 = BitVec.allOnes 128) ∧
  (∀ (d : Dest), d = rS 0 ∨ d = rP 0 ∨ d = rQ 0 →
    (∀ (x : Ctx) (v m : VWord), x.put d v = x ∧ x.putMasked d v m = x ∧ x.setBusy d = x ∧
      x.writeHidden d v = { x with busy := x.busy.filter fun e => !(e == d) }) ∧
    (∀ (s : State) (l : Machine.Lat) (v m : VWord), s.landMask d l v m = s)) ∧
  (∀ (s : State) (n : Nat), ((s.hidden (rS 0) n).ctx s.cur).busy = (s.ctx s.cur).busy ∧
    ((s.hidden (rS 0) n).ctx s.cur).units.map (·.dest) = (s.ctx s.cur).units.map (·.dest) ++ [none])

/-- A register other than the fixed ones holds what is written to it, and the write changes no other register (derived from R16); lk is one
register, whatever its number. -/
def Obligations.RegisterWrite : Prop :=
  ∀ (x : Ctx) (d e : Dest) (v : VWord), d.fixed = false →
    ((x.put d v).get d = match d.file with
      | .s | .a => vOf (v.setWidth 64)
      | .v => v
      | .q | .k => vOf (v.setWidth 128)
      | .p => (if v.getLsbD 0 then 1 else 0)
      | .lc | .fmt | .lk => vOf (v.setWidth 32)) ∧
    (e ≠ d → d.file ≠ .lk ∨ e.file ≠ .lk → (x.put d v).get e = x.get e)

/-- One tick of a landing queue, of any length (R28, R29): every count falls by one; the entries that reach zero land in the order of the queue and
leave it, the others stay. Of one entry alone the value lands, under the entry's lane mask, exactly when its count reaches zero.
A tick changes no register but those of the entries whose count reaches zero (R28). -/
def Obligations.LandingQueue : Prop :=
  (∀ (x : Ctx), (∀ e ∈ x.queue, 0 < e.left) →
    (x.tick = (x.queue.filter fun e => e.left == 1).foldl (fun y e => y.putMasked e.dest e.value e.mask)
      { x with queue := (x.queue.filter fun e => e.left != 1).map fun e => { e with left := e.left - 1 } }) ∧
    (∀ (e : Landing) (n : Nat), x.queue = [e] → e.left = n + 1 →
      (n ≠ 0 → x.tick = { x with queue := [{ e with left := n }] }) ∧
      (n = 0 → x.tick = ({ x with queue := [] } : Ctx).putMasked e.dest e.value e.mask)) ∧
    (∀ (d : Dest) (v m : VWord), d.file = .v →
      (x.putMasked d v m).vreg d.idx = (x.vreg d.idx &&& ~~~m) ||| (v &&& m) ∧ (x.putMasked d v m).queue = x.queue)) ∧
  (∀ (x : Ctx) (d : Dest), (∀ e ∈ x.queue, e.left ≤ 1 → e.dest ≠ d ∧ (d.file = .lk → e.dest.file ≠ .lk)) → x.tick.get d = x.get d)

/-- A hidden result (R32, R34): issuing it sets the busy bit and discards pending landings of its register; its arrival writes the
register and clears the bit. -/
def Obligations.HiddenResult : Prop :=
  ∀ (x : Ctx) (d : Dest) (v : VWord), d.fixed = false →
    (x.setBusy d).isBusy d = true ∧ (∀ e ∈ (x.setBusy d).queue, e.dest ≠ d) ∧
    (∀ e ∈ x.queue, e.dest ≠ d → e ∈ (x.setBusy d).queue) ∧
    (x.writeHidden d v).isBusy d = false ∧ (x.writeHidden d v).get d = (x.put d v).get d ∧
    (∀ e, e ≠ d → (x.writeHidden d v).isBusy e = x.isBusy e)

/-- Every step that goes on keeps the memories in canonical form: HBM and carrier memory, host memory and every scratchpad (derived).
The model's choices it rests on: log entries 4 and 14. -/
def Obligations.StepKeepsMemories : Prop :=
  ∀ s t : State, s.memInv = true → step s = .next t → t.memInv = true

/-- A memory returns what was written last and nothing else changes; the canonical form is kept (derived from R9).
Little-endian words (R9): the low n bytes of what is written are read back, and a byte outside them is unchanged. -/
def Obligations.MemoryBytes : Prop :=
  (∀ (m : Memory) (a b : Nat) (v : Byte), Memory.wf m = true →
    Memory.wf (Memory.write m a v) = true ∧
    Memory.read (Memory.write m a v) b = if b = a then v else Memory.read m b) ∧
  (∀ (m : Memory) (a n v : Nat),
    Memory.readLE (Memory.writeLE m a n v) a n = v % 2 ^ (8 * n) ∧
    ∀ b, b < a ∨ a + n ≤ b → Memory.read (Memory.writeLE m a n v) b = Memory.read m b)

/-! ## Issue, traps and the nest -/

/-- A step runs the decoded instructions: with no event due and a context whose next bundle is fetched, the step is the issue of that
bundle, whose slots run `exec` one after another (derived from R26, R47).
The model's choices it rests on: log entry 1.
A step runs the next due event (derived).
The model's choices it rests on: log entry 1. -/
def Obligations.StepRunsDecoded : Prop :=
  (∀ (s : State) (c : Nat) (l : List Nat) (a after : Nat) (h : Header) (syls : List (Nat × Word32 × Option Word32)) (words : List Word32),
    s.agenda = [] → s.issueQ = c :: l →
    ({ s with issueQ := l } : State).fetch c = .bundle a h syls after words →
    let s0 : State := { s with issueQ := l }
    let b := bundleOf (s0.ctx c) a after h syls words
    let s1 := (s0.enterSegment c a).modCtx c fun x => { x with pc := a }
    step s = issueWith (runOps exec b.ops) c b s1) ∧
  (∀ (s : State) (i : Instr) (l : List Instr), s.agenda = i :: l → step s = exec i { s with agenda := l })

/-- A syllable that runs between bundles is a bundle of its own: where no code of R64 applies and nothing holds it back, its slot runs
and the bundle ends (derived from R26, R33, R64).
The model's choices it rests on: log entries 1 and 18.
An illegal bundle issues nothing: its context freezes with ILLEGAL_BUNDLE and the lowest code that applies (R64, R305).
A legal bundle that must wait has no effect but a stalled cycle (R33): STALLS counts it.
The model's choices it rests on: log entry 18. -/
def Obligations.SoloBundle : Prop :=
  (∀ (i : Instr) (s : State), (infoOf i).slot < 13 → s.issue.active = false →
    let c := s.cur
    let b := soloBundle (s.ctx c) i
    lowest (s.illegalCodes (s.ctx c) b) = none → s.stalls c b = false →
    ∀ t, exec i (s.begin c b) = .next t → exec i s = .next (s.finish c b t)) ∧
  (∀ (i : Instr) (s : State) (code : Nat), (infoOf i).slot < 13 → s.issue.active = false →
    lowest (s.illegalCodes (s.ctx s.cur) (soloBundle (s.ctx s.cur) i)) = some code →
    exec i s = .next (s.freeze s.cur (plainCause 0x10 code 0) 0)) ∧
  (∀ (i : Instr) (s : State), (infoOf i).slot < 13 → s.issue.active = false →
    lowest (s.illegalCodes (s.ctx s.cur) (soloBundle (s.ctx s.cur) i)) = none →
    s.stalls s.cur (soloBundle (s.ctx s.cur) i) = true →
    exec i s = .next (s.modCtx s.cur fun x => { x with csr := { x.csr with stalls := x.csr.stalls + 1 } }))

/-- A syllable whose guard reads 0 has no effect in its bundle (R56). -/
def Obligations.GuardOff : Prop :=
  ∀ (i : Instr) (s : State), (infoOf i).slot < 13 → s.issue.active = true → s.pre.preg (infoOf i).guard = false →
    exec i s = .next s

/-- An issue check that failed leaves no effect of the bundle: the state before it takes the system-class trap (R309). -/
def Obligations.FailedCheck : Prop :=
  ∀ (s0 s : State) (c : Nat) (b : Bundle) (p : PendCause), s.issue.raised = some p → 16 ≤ p.cause →
    s0.finish c b s = s0.freeze c p 0

/-- A user cause taken by a RUNNING context whose TRAP_HANDLER.EN is 1 (R311): TRAP_CAUSE, TRAP_PC and TRAP_VAL are written, the landing
queue, the repetitions and the nest are saved and set aside, and the context runs its handler in HANDLER state. With EN = 0 the cause is
the system cause UNHANDLED_USER, 0x18, whose SUB is the cause. -/
def Obligations.UserTrapEntry : Prop :=
  ∀ (s : State) (c also : Nat) (p : PendCause),
    let x := s.ctx c
    let y := (s.takeTrap c p also).ctx c
    p.cause < 16 → x.state = .running →
    (x.csr.trapHandler.getLsbD 0 = true → y.state = .handler ∧ y.csr.trapCause = causeWord p.cause p.sub also ∧ y.csr.trapPc = BitVec.ofNat 64 x.pc ∧
    y.csr.trapVal = p.val ∧ y.pc = (x.csr.trapHandler.extractLsb' 4 28).toNat * 16 ∧ y.queue = [] ∧ y.repLeft = 0 ∧
    y.nest = Nest.reset ∧ y.lc = x.lc ∧
    y.snapshot = some { queue := x.queue, reps := x.repLeft, nest := x.nest.dropBuffer, lc := x.lc } ∧
    y.s = x.s ∧ y.a = x.a ∧ y.v = x.v ∧ y.q = x.q ∧ y.p = x.p ∧ y.k = x.k ∧ y.fmt = x.fmt ∧ y.lk = x.lk ∧ y.handles = x.handles ∧
    y.csr.fpstat = x.csr.fpstat ∧ y.csr.fpctl = x.csr.fpctl ∧ y.units = x.units ∧ y.eng = x.eng) ∧
    (x.csr.trapHandler.getLsbD 0 = false → s.takeTrap c p also = s.freeze c { p with
      cause := 0x18
      sub := p.cause } also)

/-- A system-class cause freezes a context that is not yet FROZEN (R314, R515): its registers stay, its running part is set aside, the
state it froze from is kept, and while a handler is frozen the handler's trap registers are held.
The model's choices it rests on: log entry 38.
A frozen context resumes in the state it froze from, with what the freeze set aside (R317, R515).
The model's choices it rests on: log entry 38.
The fault record of a freeze (R314, R315, R448, R519): TRAP_CAUSE and the context, PC, VAL, FADDR, UADDR, the address space and pool object, the
task and walker, and SEQ, written at EVTAIL where the ring has room and no record is held, EVTAIL and the count rising by one; otherwise it is held,
after those held before it.
A further fault of a context that is frozen posts its record, in the same way, and changes nothing of the context: its TRAP registers keep the
first cause (R316).
The model's choices it rests on: log entry 64. -/
def Obligations.FreezeAndResume : Prop :=
  (∀ (x : Ctx) (cause val : Word), x.state ≠ .frozen →
    let y := x.freeze cause val
    y.state = .frozen ∧ y.from_ = x.state ∧ y.csr.trapCause = cause ∧ y.csr.trapPc = BitVec.ofNat 64 x.pc ∧ y.csr.trapVal = val ∧
    y.frozen = some { queue := x.queue, reps := x.repLeft, nest := x.nest.dropBuffer, lc := x.lc } ∧
    (x.state = .handler → y.held = some (x.csr.trapCause, x.csr.trapPc, x.csr.trapVal)) ∧
    y.s = x.s ∧ y.a = x.a ∧ y.v = x.v ∧ y.q = x.q ∧ y.p = x.p ∧ y.k = x.k ∧ y.handles = x.handles ∧ y.units = x.units ∧ y.eng = x.eng) ∧
  (∀ (x : Ctx) (cause val : Word), x.state ≠ .frozen → x.pc < 2 ^ 32 →
    let y := (x.freeze cause val).resumed
    y.state = x.state ∧ y.pc = x.pc ∧ y.queue = x.queue ∧ y.repLeft = x.repLeft ∧ y.nest = x.nest.dropBuffer ∧ y.lc = x.lc ∧
    y.frozen = none ∧ (x.state = .handler → y.csr = x.csr ∧ y.held = none)) ∧
  (∀ (s : State) (c also : Nat) (p : PendCause),
    let x := s.ctx c
    let r := s.fe.ring
    let cause := causeWord p.cause p.sub also
    let u := s.setCtx c (x.freeze cause p.val)
    let words : List Word := [BitVec.ofNat 64 (cause.toNat % 2 ^ 32 + 2 ^ 32 * c), BitVec.ofNat 64 x.pc, p.val, BitVec.ofNat 64 p.faddr,
      BitVec.ofNat 64 p.uaddr, BitVec.ofNat 64 (x.asid + 65536 * p.objid), BitVec.ofNat 64 (x.task + 2 ^ 32 * x.walker)]
    x.state ≠ .frozen → x.switching = none →
      (r.room = true → r.heldFaults = [] → s.freeze c p also =
        (u.writeWords (64 * r.base + 64 * (r.tail % 2 ^ r.log2n)) (words ++ [BitVec.ofNat 64 (r.seq + 1)])).modFe fun f => { f with
          ring := { f.ring with
            tail := (f.ring.tail + 1) % 2 ^ 32
            seq := f.ring.seq + 1 } }) ∧
      (r.room = false ∨ r.heldFaults ≠ [] → s.freeze c p also = u.modFe fun f => { f with
        ring := { f.ring with heldFaults := f.ring.heldFaults ++ [{ words := words, ctx := c }] } })) ∧
  (∀ (s : State) (c also : Nat) (p : PendCause),
    let x := s.ctx c
    let r := s.fe.ring
    let words : List Word := [BitVec.ofNat 64 ((causeWord p.cause p.sub also).toNat % 2 ^ 32 + 2 ^ 32 * c), BitVec.ofNat 64 x.pc, p.val,
      BitVec.ofNat 64 p.faddr, BitVec.ofNat 64 p.uaddr, BitVec.ofNat 64 (x.asid + 65536 * p.objid), BitVec.ofNat 64 (x.task + 2 ^ 32 * x.walker)]
    x.state = .frozen →
      (s.freeze c p also).ctxs = s.ctxs ∧
      (r.room = true → r.heldFaults = [] → s.freeze c p also =
        (s.writeWords (64 * r.base + 64 * (r.tail % 2 ^ r.log2n)) (words ++ [BitVec.ofNat 64 (r.seq + 1)])).modFe fun f => { f with
          ring := { f.ring with
            tail := (f.ring.tail + 1) % 2 ^ 32
            seq := f.ring.seq + 1 } }) ∧
      (r.room = false ∨ r.heldFaults ≠ [] → s.freeze c p also = s.modFe fun f => { f with
        ring := { f.ring with heldFaults := f.ring.heldFaults ++ [{ words := words, ctx := c }] } }))

/-- The return from a user handler (R121, R313): every landing of the handler lands, in the order of its counts and within a tick in that of the
queue, what the trap set aside comes back, but for the repetitions where the handler wrote TRAP_PC, and the context runs on at TRAP_PC; every register
but the counters, which are the snapshot's, is as the landings leave it, and every CSR, handle and access as the handler left it.
A trap and its return with nothing in between give the context back, but for the trap registers and the loop buffer (derived from
R311, R313): the invariant that a handler sees the state it interrupted.
The model's choices it rests on: log entry 38. -/
def Obligations.HandlerReturn : Prop :=
  ((∀ (x : Ctx) (n : Snapshot), x.snapshot = some n →
    let y := x.returnFromTrap
    let z := x.landAll
    y.state = .running ∧ y.pc = (x.csr.trapPc.extractLsb' 0 32).toNat ∧ y.queue = n.queue ∧
    y.repLeft = (if x.pcReplaced then 0 else n.reps) ∧ y.nest = n.nest ∧ y.lc = n.lc ∧ y.snapshot = none ∧ y.pcReplaced = false ∧
    y.s = z.s ∧ y.a = z.a ∧ y.v = z.v ∧ y.q = z.q ∧ y.p = z.p ∧ y.k = z.k ∧ y.fmt = z.fmt ∧ y.lk = z.lk ∧
    (∀ d : Dest, d.file ≠ .lc → y.get d = z.get d) ∧
    y.csr = x.csr ∧ y.handles = x.handles ∧ y.busy = x.busy ∧ y.units = x.units ∧ y.eng = x.eng) ∧
  (∀ (x : Ctx), (∀ e ∈ x.queue, e.left ≤ 8) →
    x.landAll = ((List.range 9).flatMap fun n => x.queue.filter fun e => e.left == n).foldl (fun y e => y.putMasked e.dest e.value e.mask)
      { x with queue := [] } ∧
    (∀ e, x.queue = [e] → x.landAll = ({ x with queue := [] } : Ctx).putMasked e.dest e.value e.mask) ∧
    (∀ e f, x.queue = [e, f] → e.left ≤ f.left →
      x.landAll = (({ x with queue := [] } : Ctx).putMasked e.dest e.value e.mask).putMasked f.dest f.value f.mask) ∧
    (∀ e f, x.queue = [e, f] → f.left < e.left →
      x.landAll = (({ x with queue := [] } : Ctx).putMasked f.dest f.value f.mask).putMasked e.dest e.value e.mask) ∧
    (∀ d : Dest, (∀ e ∈ x.queue, e.dest ≠ d ∧ (d.file = .lk → e.dest.file ≠ .lk)) → x.landAll.get d = x.get d))) ∧
  (∀ (x : Ctx) (cause val : Word), x.state = .running → x.pc < 2 ^ 32 → x.snapshot = none → x.pcReplaced = false →
    (x.enterHandler cause val).returnFromTrap =
      { x with
        nest := x.nest.dropBuffer
        csr := { x.csr with
          trapCause := cause
          trapPc := BitVec.ofNat 64 x.pc
          trapVal := val } })

/-! ## What each syllable records in its bundle. `s.runs g`: its bundle's slots run and its guard g reads 1. -/

/-- The register forms of slot S (R124, R126): the result of the two sources lands in sd, under class 1 for products and class 0
otherwise.
clz, ctz and popc (R124): the count of leading zeros, of trailing zeros and of ones of sa. -/
def Obligations.ScalarRegisterForms : Prop :=
  (∀ (o : SR) (s : State), s.runs o.g →
    let a := s.pre.sreg o.a.toNat
    let b := s.pre.sreg o.b.toNat
    let al : Word32 := a.setWidth 32
    let bl : Word32 := b.setWidth 32
    let res := fun (l : Nat) (v : Word) => (.next (s.landW (rS o.d) (.cls l) v) : Out)
    exec (.add o) s = res 0 (a + b) ∧ exec (.sub o) s = res 0 (a - b) ∧ exec (.mul o) s = res 1 (a * b) ∧
    exec (.mulh o) s = res 1 (BitVec.ofInt 64 (a.toInt * b.toInt / 2 ^ 64)) ∧
    exec (.mulhu o) s = res 1 (BitVec.ofNat 64 (a.toNat * b.toNat / 2 ^ 64)) ∧
    exec (.and_ o) s = res 0 (a &&& b) ∧ exec (.or_ o) s = res 0 (a ||| b) ∧ exec (.xor_ o) s = res 0 (a ^^^ b) ∧
    exec (.andn o) s = res 0 (a &&& ~~~b) ∧
    exec (.shl o) s = res 0 (a <<< (b.toNat % 64)) ∧ exec (.shr o) s = res 0 (a >>> (b.toNat % 64)) ∧
    exec (.sra o) s = res 0 (a.sshiftRight (b.toNat % 64)) ∧ exec (.rol o) s = res 0 (a.rotateLeft (b.toNat % 64)) ∧
    exec (.min_ o) s = res 0 (if b.toInt < a.toInt then b else a) ∧ exec (.max_ o) s = res 0 (if a.toInt < b.toInt then b else a) ∧
    exec (.minu o) s = res 0 (if b.toNat < a.toNat then b else a) ∧ exec (.maxu o) s = res 0 (if a.toNat < b.toNat then b else a) ∧
    exec (.sel o) s = res 0 (if s.pre.preg (o.c.toNat % 8) then a else b) ∧
    exec (.addW o) s = res 0 ((al + bl).signExtend 64) ∧ exec (.subW o) s = res 0 ((al - bl).signExtend 64) ∧
    exec (.mulW o) s = res 1 ((al * bl).signExtend 64) ∧
    exec (.shlW o) s = res 0 ((al <<< (bl.toNat % 32)).signExtend 64) ∧
    exec (.shrW o) s = res 0 ((al >>> (bl.toNat % 32)).signExtend 64) ∧
    exec (.sraW o) s = res 0 ((al.sshiftRight (bl.toNat % 32)).signExtend 64)) ∧
  (∀ (o : SR) (s : State), s.runs o.g →
    let a := (s.pre.sreg o.a.toNat).toNat
    (∃ n, exec (.clz o) s = .next (s.landW (rS o.d) (.cls 0) (BitVec.ofNat 64 n)) ∧ n ≤ 64 ∧ a < 2 ^ (64 - n) ∧
      (n < 64 → 2 ^ (63 - n) ≤ a)) ∧
    (∃ n, exec (.ctz o) s = .next (s.landW (rS o.d) (.cls 0) (BitVec.ofNat 64 n)) ∧ n ≤ 64 ∧ a % 2 ^ n = 0 ∧
      (n < 64 → a / 2 ^ n % 2 = 1)) ∧
    exec (.popc o) s = .next (s.landW (rS o.d) (.cls 0)
      (BitVec.ofNat 64 ((List.range 64).filter fun i => (s.pre.sreg o.a.toNat).getLsbD i).length)))

/-- Division (R125, R126): a hidden result; a zero divisor raises DZ, gives all ones for a quotient and the dividend for a remainder. -/
def Obligations.ScalarDivision : Prop :=
  ∀ (o : SR) (s : State), s.runs o.g →
    let a := s.pre.sreg o.a.toNat
    let b := s.pre.sreg o.b.toNat
    let al : Word32 := a.setWidth 32
    let bl : Word32 := b.setWidth 32
    let res := fun (z : Bool) (v : Word) => (.next ((if z then s.flag flagDZ else s).hidden (rS o.d) v.toNat) : Out)
    exec (.div_ o) s = res (b == 0) (if b = 0 then BitVec.allOnes 64 else BitVec.ofInt 64 (a.toInt.tdiv b.toInt)) ∧
    exec (.divu o) s = res (b == 0) (if b = 0 then BitVec.allOnes 64 else BitVec.ofNat 64 (a.toNat / b.toNat)) ∧
    exec (.rem o) s = res (b == 0) (if b = 0 then a else BitVec.ofInt 64 (a.toInt.tmod b.toInt)) ∧
    exec (.remu o) s = res (b == 0) (if b = 0 then a else BitVec.ofNat 64 (a.toNat % b.toNat)) ∧
    exec (.divW o) s = res (bl == 0#32)
      ((if bl = 0 then BitVec.allOnes 32 else BitVec.ofInt 32 (al.toInt.tdiv bl.toInt)).signExtend 64) ∧
    exec (.divuW o) s = res (bl == 0#32)
      ((if bl = 0 then BitVec.allOnes 32 else BitVec.ofNat 32 (al.toNat / bl.toNat)).signExtend 64) ∧
    exec (.remW o) s = res (bl == 0#32) ((if bl = 0 then al else BitVec.ofInt 32 (al.toInt.tmod bl.toInt)).signExtend 64) ∧
    exec (.remuW o) s = res (bl == 0#32) ((if bl = 0 then al else BitVec.ofNat 32 (al.toNat % bl.toNat)).signExtend 64)

/-- Comparisons, immediate forms and moves between files (R127 to R130, R19).
Scalar FP32 (R131, R132): one rounding of the exact result, its flags recorded, the code landing under class 7.
The model's choices it rests on: log entry 7. -/
def Obligations.ScalarImmediateAndFloatForms : Prop :=
  (∀ (s : State),
    (∀ o : SR, s.runs o.g → exec (.cmp o) s = .next (s.landP (o.d.setWidth 3) (.cls 0)
      (icond o.c.toNat 64 (s.pre.sreg o.a.toNat).toNat (s.pre.sreg o.b.toNat).toNat))) ∧
    (∀ o : SC, s.runs o.g → exec (.cmpI o) s = .next (s.landP o.pd (.cls 0)
      (icond o.cond.toNat 64 (s.pre.sreg o.a.toNat).toNat (wordOf (immS 5 o.imm.toNat o.ext)).toNat))) ∧
    (∀ o : SI, s.runs o.g →
      let a := s.pre.sreg o.a.toNat
      let b : Word := match o.ext with
        | none => o.imm.signExtend 64
        | some e => e.signExtend 64
      let res := fun (v : Word) => (.next (s.landW (rS o.d) (.cls 0) v) : Out)
      exec (.addi o) s = res (a + b) ∧ exec (.andI o) s = res (a &&& b) ∧ exec (.orI o) s = res (a ||| b) ∧ exec (.xorI o) s = res (a ^^^ b) ∧
      exec (.shlI o) s = res (a <<< (b.toNat % 64)) ∧ exec (.shrI o) s = res (a >>> (b.toNat % 64)) ∧
      exec (.sraI o) s = res (a.sshiftRight (b.toNat % 64)) ∧ exec (.rolI o) s = res (a.rotateLeft (b.toNat % 64))) ∧
    (∀ o : MV, s.runs o.g →
      let b : Word := match o.ext with
        | none => o.imm.signExtend 64
        | some e => e.signExtend 64
      exec (.movi o) s = .next (s.landW (rS o.d) (.cls 0) b) ∧
      exec (.movhi o) s = .next (s.landW (rS o.d) (.cls 0) (b.setWidth 32 ++ (s.pre.sreg o.d.toNat).setWidth 32))) ∧
    (∀ o : XV, s.runs o.g →
      exec (.xmovSl o) s = .next (s.landW (rA o.d.toNat) (.fixed 2) (s.pre.sreg o.a.toNat)) ∧
      exec (.xmovLs o) s = .next (s.landW (rS (o.d.setWidth 5)) (.fixed 2) (s.pre.areg o.a.toNat)) ∧
      exec (.xmovSv o) s = .next (s.landTo (rV o.d) (.fixed 3) (splat (8 * 2 ^ o.sel.toNat) (s.pre.sreg o.a.toNat).toNat)) ∧
      exec (.xmovVs o) s = .next (s.landW (rS (o.d.setWidth 5)) (.fixed 3) ((s.pre.vreg o.a.toNat).extractLsb' (64 * o.sel.toNat) 64)))) ∧
  (∀ (o : SR) (s : State), s.runs o.g →
    let m := o.c.toNat % 8
    let a := decodeVal fp32 ((s.pre.sreg o.a.toNat).toNat % 2 ^ 32)
    let b := decodeVal fp32 ((s.pre.sreg o.b.toNat).toNat % 2 ^ 32)
    let c := decodeVal fp32 ((s.pre.sreg o.c.toNat).toNat % 2 ^ 32)
    let res := fun (r : Rounded) => (.next ((s.flag r.flags).landW (rS o.d) (.cls 7) (BitVec.ofNat 64 r.bits)) : Out)
    exec (.fadd o) s = res (roundNV fp32 (FVal.add m a b) m false) ∧
    exec (.fmul o) s = res (roundNV fp32 (FVal.mul a b) m false) ∧
    exec (.fma o) s = res (roundNV fp32 (FVal.fma 0 a b c) 0 false) ∧
    exec (.fcmp o) s = .next ((s.flag (fcond o.c.toNat a b).2).landP (o.d.setWidth 3) (.cls 7) (fcond o.c.toNat a b).1))

/-- Transfers of control inside the code section (R102 to R106): the target is recorded, lk lands after 1 tick; a target outside the
code section raises the segment fault, for every form (what the bundle does then is the failed check's, R309). -/
def Obligations.ControlTransfers : Prop :=
  ∀ (s : State),
    let size : Int := (s.codeOf s.pre).codeSize
    let base : Int := (s.pre.pc / 16 * 16 : Nat)
    let go := fun (t : Int) => s.withIssue { s.issue with target := some t.toNat }
    let link := fun (t : State) => t.landTo rLk (.fixed 1) (BitVec.ofNat 1024 ((s.issue.after + 15) / 16 * 16))
    (∀ o : BO, s.runs o.g →
      let t := base + 16 * immS 20 o.off.toNat o.ext
      (0 ≤ t ∧ t < size → exec (.br o) s = .next (go t) ∧ exec (.brl o) s = .next (link (go t))) ∧
      (t < 0 ∨ size ≤ t → exec (.br o) s = .next (s.fail cSeg 0 0) ∧ exec (.brl o) s = .next (link (s.fail cSeg 0 0)))) ∧
    (∀ o : BP, s.runs o.g →
      let t := base + 16 * immS 16 o.off.toNat o.ext
      (s.pre.preg o.p.toNat = decide (o.sense = 1) → 0 ≤ t ∧ t < size → exec (.brp o) s = .next (go t)) ∧
      (s.pre.preg o.p.toNat = decide (o.sense = 1) → t < 0 ∨ size ≤ t → exec (.brp o) s = .next (s.fail cSeg 0 0)) ∧
      (s.pre.preg o.p.toNat ≠ decide (o.sense = 1) → exec (.brp o) s = .next s)) ∧
    (∀ o : NO, s.runs o.g → exec (.nop o) s = .next s ∧
      ((s.pre.lk.toNat : Int) < size → exec (.ret o) s = .next (go s.pre.lk.toNat)) ∧
      (size ≤ (s.pre.lk.toNat : Int) → exec (.ret o) s = .next (s.fail cSeg 0 0))) ∧
    (∀ o : RG, s.runs o.g →
      let v := (s.pre.sreg o.s.toNat).toNat
      (v < 2 ^ 32 → (v : Int) < size → exec (.jmp o) s = .next (go v) ∧ exec (.jmpL o) s = .next (link (go v))) ∧
      (2 ^ 32 ≤ v ∨ size ≤ (v : Int) → exec (.jmp o) s = .next (s.fail cSeg 0 0) ∧ exec (.jmpL o) s = .next (link (s.fail cSeg 0 0)))) ∧
    ((s.issue.raised = none → (s.fail cSeg 0 0).issue.raised =
        some { cause := cSeg, sub := 0, val := 0, faddr := 0, uaddr := 0, objid := 0 }) ∧
      (∀ p, s.issue.raised = some p → s.fail cSeg 0 0 = s))

/-- Predicates, formats and CSR reads (R116, R117, R119), and what each CSR reads as (R21, R22, R25, R380): the context's own number, its counters,
its trap state and its range registers, as they stand when the bundle issues. -/
def Obligations.PredicatesFormatsCsrReads : Prop :=
  ∀ (s : State),
    (∀ o : PL, s.runs o.g →
      let a := s.pre.preg o.pa.toNat
      let b := s.pre.preg o.pb.toNat
      let res := fun (v : Bool) => (.next (s.landTo (rP o.pd) (.fixed 1) (if v then 1 else 0)) : Out)
      exec (.pand o) s = res (a && b) ∧ exec (.por o) s = res (a || b) ∧ exec (.pxor o) s = res (a ^^ b) ∧ exec (.pnot o) s = res (!a)) ∧
    (∀ o : FW, s.runs o.g → exec (.fmtw o) s = .next (s.landTo (rFmt o.fmt) (.fixed 4)
      (match o.ext with
        | some e => vOf e
        | none => vOf ((s.pre.sreg o.s.toNat).setWidth 32)))) ∧
    (∀ o : CS, s.runs o.g →
      exec (.csrr o) s = .next (s.landW (rS o.s) (.cls 0) (s.csrRead s.pre o.num.toNat))) ∧
    (∀ x : Ctx,
      let r := fun (n : Nat) => s.csrRead x n
      r 0x000 = BitVec.ofNat 64 s.cur ∧ r 0x001 = x.csr.ticks ∧ r 0x002 = s.cycles ∧ r 0x003 = x.csr.stalls ∧ r 0x004 = x.csr.segStalls ∧
      r 0x008 = x.csr.prio ∧ r 0x010 = x.csr.fpstat ∧ r 0x011 = x.csr.fpctl ∧ r 0x012 = x.csr.srseed ∧ r 0x013 = x.csr.stepid ∧
      r 0x018 = x.csr.stepL0 ∧ r 0x019 = x.csr.stepL1 ∧ r 0x01A = x.csr.stepSt ∧ r 0x01B = x.csr.stepM ∧ r 0x01C = x.csr.stepD ∧
      r 0x020 = x.csr.trapCause ∧ r 0x021 = x.csr.trapPc ∧ r 0x022 = x.csr.trapVal ∧ r 0x023 = x.csr.trapHandler ∧
      (∀ n, n < 16 →
        let g := Store.get Range.reset x.ranges n
        r (0x100 + 4 * n) = BitVec.ofNat 64 (g.va * 2 ^ 16) ∧ r (0x101 + 4 * n) = BitVec.ofNat 64 g.len ∧
        r (0x102 + 4 * n) = BitVec.ofNat 64 (g.ia * 2 ^ 16) ∧
        r (0x103 + 4 * n) = BitVec.ofNat 64 (g.asid * 2 ^ 16 + (if g.w then 2 else 0) + if g.r then 1 else 0)))

/-- Writes of CSRs at their access codes (R21, R23, R118, R308): FPCTL keeps its assigned bits, each of the five STEP registers and TRAP_PC 32 bits,
FPSTAT clears the flags of the value after the bundle's own; a write of one CSR leaves every other and the rest of the context, but for the note that
TRAP_PC was written; a read-only CSR is not writable by a legal csrw.
The flags a bundle leaves in FPSTAT (R23, R118): a flag it raised is set whatever was there, a csrw to FPSTAT clears afterwards, and
reserved bits read 0. -/
def Obligations.CsrWrites : Prop :=
  (∀ (o : CS) (s : State), s.runs o.g →
    let v := s.pre.sreg o.s.toNat
    let e : Word := match o.ext with
      | none => wordOf (immS 1 0 none)
      | some e => e.signExtend 64
    exec (.csrw o) s = .next (s.csrWrite o.num.toNat v) ∧ exec (.csrwI o) s = .next (s.csrWrite o.num.toNat e) ∧
    (∀ w, (s.csrWrite 0x010 w).issue.clear = s.issue.clear ||| w) ∧
    (∀ w, ((s.csrWrite 0x011 w).ctx s.cur).csr.fpctl = w &&& fpctlMask) ∧
    (∀ w, ((s.csrWrite 0x012 w).ctx s.cur).csr.srseed = w) ∧
    (∀ w, ((s.csrWrite 0x018 w).ctx s.cur).csr.stepL0 = (w.setWidth 32).setWidth 64) ∧
    (∀ w, ((s.csrWrite 0x019 w).ctx s.cur).csr.stepL1 = (w.setWidth 32).setWidth 64) ∧
    (∀ w, ((s.csrWrite 0x01A w).ctx s.cur).csr.stepSt = (w.setWidth 32).setWidth 64) ∧
    (∀ w, ((s.csrWrite 0x01B w).ctx s.cur).csr.stepM = (w.setWidth 32).setWidth 64) ∧
    (∀ w, ((s.csrWrite 0x01C w).ctx s.cur).csr.stepD = (w.setWidth 32).setWidth 64) ∧
    (∀ n w,
      let x := (s.ctx s.cur).csr
      let y := ((s.csrWrite n w).ctx s.cur).csr
      (n ≠ 0x011 → y.fpctl = x.fpctl) ∧ (n ≠ 0x012 → y.srseed = x.srseed) ∧ (n ≠ 0x018 → y.stepL0 = x.stepL0) ∧
      (n ≠ 0x019 → y.stepL1 = x.stepL1) ∧ (n ≠ 0x01A → y.stepSt = x.stepSt) ∧ (n ≠ 0x01B → y.stepM = x.stepM) ∧
      (n ≠ 0x01C → y.stepD = x.stepD) ∧ (n ≠ 0x021 → y.trapPc = x.trapPc) ∧ (n ≠ 0x023 → y.trapHandler = x.trapHandler) ∧
      y.ticks = x.ticks ∧ y.stalls = x.stalls ∧ y.segStalls = x.segStalls ∧ y.prio = x.prio ∧ y.fpstat = x.fpstat ∧ y.stepid = x.stepid ∧
      y.trapCause = x.trapCause ∧ y.trapVal = x.trapVal ∧
      (s.csrWrite n w).ctx s.cur = { s.ctx s.cur with
        csr := y
        pcReplaced := (s.ctx s.cur).pcReplaced || decide (n = 0x021) } ∧
      (n ≠ 0x010 → (s.csrWrite n w).issue = s.issue)) ∧
    (∀ w, ((s.csrWrite 0x021 w).ctx s.cur).csr.trapPc = (w.setWidth 32).setWidth 64) ∧
    (∀ w, ((s.csrWrite 0x023 w).ctx s.cur).csr.trapHandler = w &&& 0xFFFFFFF1) ∧
    (∀ n w, csrWritable n = false → s.csrWrite n w = s)) ∧
  (∀ (old clear : Word) (fl : Nat), fpstatAfter old fl clear = ((old ||| BitVec.ofNat 64 fl) &&& 0x7F) &&& ~~~clear)

/-- loop and loopn complete in every bundle whose guard reads 1 (R107, R108, R111): loopn declares a dimension with its trip count; loop also opens
the nest: each declared counter takes its own trip count after 1 tick, in the order of the dimensions, and the body begins at the next bundle, past
any padding; a zero trip count asks for the skip.
The loop-end mark of an open nest (R110): where d is the innermost dimension not at its last trip, its counter falls by one, the
counters of the dimensions inside it take their trip counts again, no other counter changes and the body starts again.
The loop-end mark when every dimension is at its last trip (R110): the nest closes, every counter of D is 0 and the context goes
on past the body. -/
def Obligations.Loops : Prop :=
  (∀ (o : LP) (s : State), s.runs o.g →
    let n : Word32 := (s.pre.sreg o.s.toNat).setWidth 32 + BitVec.ofNat 32 (immU o.imm.toNat o.ext)
    let dims := Store.put (s.ctx s.cur).nest.dims o.lc.toNat n
    let declared := s.upd fun x => { x with nest := { x.nest with dims := dims } }
    exec (.loopn o) s = .next declared ∧ exec (.loop o) s = .next declared.openNest ∧
    (let t := declared.openNest
     (t.ctx s.cur).nest.isOpen = true ∧ (t.ctx s.cur).nest.dims = dims ∧
      (t.ctx s.cur).nest.body = (dims.foldl (fun (u : State) d => u.landTo { file := .lc, idx := d.1 } (.fixed 1) (vOf d.2)) declared).bundleFrom
        s.cur s.issue.after ∧
      (t.ctx s.cur).nest.pos = 0 ∧ t.issue.skip = dims.any (fun d => d.2 == 0) ∧
      Store.get 0 dims o.lc.toNat = n ∧ (∀ d, d ≠ o.lc.toNat → Store.get 0 dims d = Store.get 0 (s.ctx s.cur).nest.dims d) ∧
      (∃ l : List Landing, (t.ctx s.cur).queue = (s.ctx s.cur).queue ++ l ∧ l.map (fun e => (e.dest, e.value, e.mask, e.left)) =
        dims.map (fun d => (({ file := .lc, idx := d.1 } : Dest), vOf d.2, allV, 1))))) ∧
  (∀ (x : Ctx) (d : Nat) (t : Word32) (inner rest : Store Word32),
    x.nest.isOpen = true → x.nest.dims = inner ++ (d, t) :: rest → Store.rising x.nest.dims = true →
    (∀ e ∈ inner, Store.get 0 x.lc e.1 = 1) → Store.get 0 x.lc d ≠ 1 →
    (x.loopEnd).pc = x.nest.body ∧ (x.loopEnd).nest.isOpen = true ∧ (x.loopEnd).nest.dims = x.nest.dims ∧
    Store.get 0 (x.loopEnd).lc d = Store.get 0 x.lc d - 1 ∧ (∀ e ∈ inner, Store.get 0 (x.loopEnd).lc e.1 = e.2) ∧
    (∀ e, e ≠ d → (∀ f ∈ inner, f.1 ≠ e) → Store.get 0 (x.loopEnd).lc e = Store.get 0 x.lc e) ∧ (x.loopEnd).csr = x.csr) ∧
  (∀ (x : Ctx), x.nest.isOpen = true → (∀ e ∈ x.nest.dims, Store.get 0 x.lc e.1 = 1) → Store.rising x.nest.dims = true →
    (x.loopEnd).pc = x.pc ∧ (x.loopEnd).nest = Nest.reset ∧ (∀ e ∈ x.nest.dims, Store.get 0 (x.loopEnd).lc e.1 = 0))

/-- trap, sysc, rft, retire and yield (R120 to R123): what they ask of the end of their bundle; waits whose condition gated the bundle,
and the scope prefix (R133 to R139): a wait acquires, at its scope, the lines bound to its object as its bundle issues, a waitc on a task every
line (R401, R409).
What the endings do once their bundle has committed (R121 to R123): rft returns, retire leaves RETIRING with its landings, nest,
snapshot and scale queue gone and its bindings kept, yield steps back for 64 cycles.
The model's choices it rests on: log entry 19. -/
def Obligations.EndingsAndWaits : Prop :=
  (∀ (s : State),
    (∀ o : TC, s.runs o.g →
      exec (.trapC o) s = .next (s.withIssue { s.issue with software := some (o.code.setWidth 64) }) ∧
      exec (.sysc o) s = .next (s.withIssue { s.issue with sysc := some (o.code.setWidth 64) })) ∧
    (∀ o : NO, s.runs o.g →
      exec (.rft o) s = .next (s.withIssue { s.issue with ending := 1 }) ∧
      exec (.retire o) s = .next (s.withIssue { s.issue with ending := 2 }) ∧
      exec (.yield o) s = .next (s.withIssue { s.issue with ending := 3 })) ∧
    (∀ o : WT, s.runs o.g →
      let v := (s.pre.sreg o.s.toNat).toNat
      exec (.waitb o) s = .next s ∧ exec (.waitt o) s = .next s ∧
      ((s.pre.handle o.h.toNat).isWaymark = true →
        exec (.wait o) s = .next (s.acquire s.cur s.issue.scope fun l => s.pre.lineBound { kind := 1, at_ := o.h.toNat, obj := 0 } l)) ∧
      ((s.pre.handle o.h.toNat).isWaymark = false → exec (.wait o) s = .next (s.fail cOperand 11 0)) ∧
      (v < 2 ^ 14 → exec (.waitc o) s = .next (s.acquire s.cur s.issue.scope fun _ => true)) ∧
      (∀ b < 16, v = 2 ^ 60 + b →
        exec (.waitc o) s = .next (s.acquire s.cur s.issue.scope fun l => s.pre.lineBound { kind := 2, at_ := b, obj := 0 } l)) ∧
      (2 ^ 14 ≤ v → (∀ b < 16, v ≠ 2 ^ 60 + b) → exec (.waitc o) s = .next (s.fail cOperand 11 0))) ∧
    (∀ o : SP, s.issue.active = true → exec (.scope o) s = .next (s.withIssue { s.issue with scope := o.scope.toNat }))) ∧
  (∀ (s : State) (c : Nat) (b : Bundle) (i : Issue),
    (i.ending = 1 → s.ending c b i = s.modCtx c Ctx.returnFromTrap) ∧
    (i.ending = 3 → s.ending c b i = s.modCtx c fun x => { x with yieldUntil := s.cycles.toNat + 64 }) ∧
    (i.ending = 2 →
      let y := (s.ending c b i).ctx c
      y.state = .retiring ∧ y.queue = [] ∧ y.nest = Nest.reset ∧ y.snapshot = none ∧ y.scaleQ = [] ∧ y.binds = (s.ctx c).binds ∧
      y.units = (s.ctx c).units ∧ y.eng = (s.ctx c).eng ∧ y.handles = (s.ctx c).handles))

/-- Address arithmetic and scratch fetches (R171 to R173, R209, R210, R212): a result under class 2, a fetch under class 3 of a row's bytes or of the
words of a column; a handle of another group is an operand-format fault, but that lds.32 and lds.64 read a waymark word, a column off its grid is a
bank conflict, and rows or bytes outside the handle are a protection fault. A fetch reads the scratchpad, but for bytes that a window store of its
context, of an earlier slot, still has to write.
The model's choices it rests on: log entries 28 and, for those bytes, 92. -/
def Obligations.AddressAndScratchLoads : Prop :=
  ∀ (s : State),
    (∀ o : LA, s.runs o.g →
      let r := fun (i : BitVec 4) => s.pre.areg (i.toNat + if o.l1 then 16 else 0)
      let m := wordOf (immS 8 o.imm.toNat o.ext)
      let res := fun (v : Word) => (.next (s.landW (lA o.l1 o.d) (.cls 2) v) : Out)
      exec (.aadd o) s = res (r o.a + r o.b + m) ∧ exec (.aaddi o) s = res (r o.a + m) ∧ exec (.xmova o) s = res (r o.a)) ∧
    (∀ o : LT, s.runs o.g →
      let h := s.pre.handle o.h.toNat
      let row := ltRow s.pre o
      let at_ := fun (u : Nat) => h.base + 16 * h.roww * row + ltCol o u
      let fits := fun (u n : Nat) => row < h.rows ∧ ltCol o u + n ≤ 16 * h.roww
      let res := fun (n : Nat) => (.next (s.landW (lA o.l1 (o.d.setWidth 4)) (.cls 3) (BitVec.ofNat 64 (s.slotRead (at_ n) n))) : Out)
      let no := fun (cause a : Nat) => (.next (s.fail cause (slotCode (if o.l1 then 3 else 2) 0 false) a) : Out)
      (h.isGroup = true → (fits 1 1 → exec (.lds8 o) s = res 1) ∧ (fits 2 2 → exec (.lds16 o) s = res 2) ∧
        (fits 16 128 → exec (.ldv o) s = .next (s.landTo (rV o.d) (.cls 3) (BitVec.ofNat 1024 (s.slotRead (at_ 16) 128)))) ∧
        (¬fits 1 1 → exec (.lds8 o) s = no cProt (at_ 1)) ∧ (¬fits 2 2 → exec (.lds16 o) s = no cProt (at_ 2)) ∧
        (¬fits 16 128 → exec (.ldv o) s = no cProt (at_ 16))) ∧
      (h.isGroup = true ∨ h.isWaymark = true → (fits 4 4 → exec (.lds32 o) s = res 4) ∧ (fits 8 8 → exec (.lds64 o) s = res 8) ∧
        (¬fits 4 4 → exec (.lds32 o) s = no cProt (at_ 4)) ∧ (¬fits 8 8 → exec (.lds64 o) s = no cProt (at_ 8))) ∧
      (h.isGroup = false → exec (.lds8 o) s = no cOperand 0 ∧ exec (.lds16 o) s = no cOperand 0 ∧ exec (.ldv o) s = no cOperand 0 ∧
        exec (.ldvt o) s = no cOperand 0 ∧
        (h.isWaymark = false → exec (.lds32 o) s = no cOperand 0 ∧ exec (.lds64 o) s = no cOperand 0)) ∧
      (h.isGroup = true → h.roww ≠ 8 → h.roww ≠ 16 → h.roww ≠ 32 → h.roww ≠ 64 → exec (.ldvt o) s = no cOperand 0) ∧
      (h.isGroup = true → h.roww = 8 ∨ h.roww = 16 ∨ h.roww = 32 ∨ h.roww = 64 →
        (row % (64 / h.roww) ≠ 0 → exec (.ldvt o) s = no cBank 0) ∧
        (row % (64 / h.roww) = 0 → row + 8 ≤ h.rows → ltCol o 16 + 16 ≤ 16 * h.roww →
          exec (.ldvt o) s = .next (s.landTo (rV o.d) (.cls 3) (s.columnRead h row (ltCol o 16)))) ∧
        (row % (64 / h.roww) = 0 → h.rows < row + 8 ∨ 16 * h.roww < ltCol o 16 + 16 → exec (.ldvt o) s = no cProt (at_ 16)))) ∧
    (∀ h row col, ∀ i < 8, elemAt (s.columnRead h row col) (128 * i) 128 = s.slotRead (h.base + 16 * h.roww * (row + i) + col) 16) ∧
    (∀ a n, (s.comingStores a n = [] → s.slotRead a n = s.scratchRead (coreOf s.cur) a n) ∧
      (∀ b m v, s.comingStores a n = [(b, m, v)] → ∀ i < n, s.slotRead a n / 256 ^ i % 256 =
        if b ≤ a + i ∧ a + i < b + m then v / 256 ^ (a + i - b) % 256 else s.scratchRead (coreOf s.cur) (a + i) 1))

/-- Scratch stores (R174, R206): the bytes at the address that the meaning computes, inside one bound handle's storage and outside the
waymark areas; elsewhere the protection fault. A column store's shape and bank are checked first (R209, R210). A store that overlaps a window access
of the bundle's own loads goes the window's way behind it (R182).
The model's choices it rests on: log entries 28 and, for that way, 92.
A scratch store and its frame: the stored bytes hold the low bytes of the value; in the scratchpad of the context's core only they change, and
nothing else of the state does but the note, for engine accesses of the same cycle, of which bytes the slot wrote and of what they held (derived from
R174, R199). -/
def Obligations.ScratchStores : Prop :=
  (∀ (o : SM) (s : State), s.runs o.g →
    let k := coreOf s.cur
    let ok := fun (a n u : Nat) => a % u = 0 ∧ s.pre.scratchOk a n = true ∧ touchesWaymarks a n = false
    let st := fun (n : Nat) => (.next (s.slotStore (stsAddr s.pre o n) n (mValue s.pre o.data n)) : Out)
    let no := fun (a : Nat) => (.next (s.fail cProt (slotCode 4 0 true) a) : Out)
    (ok (stsAddr s.pre o 1) 1 1 → exec (.sts8 o) s = st 1) ∧ (ok (stsAddr s.pre o 2) 2 2 → exec (.sts16 o) s = st 2) ∧
    (ok (stsAddr s.pre o 4) 4 4 → exec (.sts32 o) s = st 4) ∧ (ok (stsAddr s.pre o 8) 8 8 → exec (.sts64 o) s = st 8) ∧
    (ok (stsAddr s.pre o 16) 128 16 →
      exec (.stv o) s = .next (s.slotStore (stsAddr s.pre o 16) 128 (s.pre.vreg o.data.toNat).toNat)) ∧
    (∀ a n v, (∀ u ∈ (s.ctx s.cur).units, ∀ b, ownScratch s.cur u = some b → a + n ≤ b ∨ b + u.size ≤ a) → s.slotStore a n v = s.slotWrite k a n v) ∧
    (∀ a n v, ∀ u ∈ (s.ctx s.cur).units, ∀ b, ownScratch s.cur u = some b → b < a + n → a < b + u.size →
      s.slotStore a n v = s.addUnit { s.unitOf 4 (.store false) (.ia (2 ^ 52 - 2 ^ 24 + k % 8 * 0x80000 + a)) n with data := v }) ∧
    (¬ ok (stsAddr s.pre o 1) 1 1 → exec (.sts8 o) s = no (stsAddr s.pre o 1)) ∧
    (¬ ok (stsAddr s.pre o 2) 2 2 → exec (.sts16 o) s = no (stsAddr s.pre o 2)) ∧
    (¬ ok (stsAddr s.pre o 4) 4 4 → exec (.sts32 o) s = no (stsAddr s.pre o 4)) ∧
    (¬ ok (stsAddr s.pre o 8) 8 8 → exec (.sts64 o) s = no (stsAddr s.pre o 8)) ∧
    (¬ ok (stsAddr s.pre o 16) 128 16 → exec (.stv o) s = no (stsAddr s.pre o 16)) ∧
    (s.pre.handleAt (stsAddr s.pre o 16) = none → exec (.stvt o) s = no (stsAddr s.pre o 16)) ∧
    (∀ h, s.pre.handleAt (stsAddr s.pre o 16) = some h →
      let a := stsAddr s.pre o 16
      let row := (a - h.base) / (16 * h.roww)
      (columnShape h = false → exec (.stvt o) s = .next (s.fail cOperand (slotCode 4 0 true) 0)) ∧
      (columnShape h = true → row % (64 / h.roww) ≠ 0 → exec (.stvt o) s = .next (s.fail cBank (slotCode 4 0 true) 0)) ∧
      (columnShape h = true → row % (64 / h.roww) = 0 → a % 16 ≠ 0 ∨ h.rows < row + 8 → exec (.stvt o) s = no a) ∧
      (columnShape h = true → row % (64 / h.roww) = 0 → a % 16 = 0 → row + 8 ≤ h.rows →
        exec (.stvt o) s = .next ((columnPieces s.pre o a h).foldl (fun (t : State) e => t.slotStore e.1 16 e.2) s) ∧
        (columnPieces s.pre o a h).length = 8 ∧
        ∀ i < 8, (columnPieces s.pre o a h)[i]? = some (a + 16 * h.roww * i, elemAt (s.pre.vreg o.data.toNat) (128 * i) 128)))) ∧
  (∀ (s : State) (k a n v b j : Nat),
    let t := s.slotWrite k a n v
    t.scratchRead k a n = v % 2 ^ (8 * n) ∧
    (b < a ∨ a + n ≤ b ∨ j ≠ k → Memory.read (t.core j).scratch b = Memory.read (s.core j).scratch b) ∧
    (t.core j).acc = (s.core j).acc ∧ (t.core j).alloc = (s.core j).alloc ∧ (t.core j).frames = (s.core j).frames ∧
    (t.core k).slotted = (a, n, s.scratchRead k a n) :: (s.core k).slotted ∧ t = { s with cores := t.cores })

/-- Loads (R175 to R178): with a target, an access joins the context's accesses in flight, and its destination becomes busy; ldsc also
reserves an entry of the scale queue. A window load of the own core's scratch that no earlier access holds back takes its value as it issues.
The model's choice it rests on, in that last sentence alone: log entry 92.
ldg.v, ldsc and pf (R170, R175, R177, R178, R393): a line whose leaf is invalid or has ACC = 0 is not prefetched; another comes into the LLC, and
under pf.cc into the cluster cache.
The model's choices it rests on: log entries 25, 72, 73 and 94. -/
def Obligations.MemoryLoads : Prop :=
  (∀ (o : LM) (s : State) (t : Target), s.runs o.g →
    let slot := if o.l1 then 3 else 2
    let base := s.pre.areg (o.base.toNat + if o.l1 then 16 else 0)
    let at_ := fun (n align kind : Nat) => s.pre.targetOf s.cur base (immS 10 o.off.toNat o.ext * n)
      { size := n, align := align, cap := 1, rd := true, wr := false, kind := kind, data := 0 }
    let cat := fun (n : Nat) => s.pre.capTarget o.base.toNat (immS 10 o.off.toNat o.ext * n)
      { size := n, align := n, cap := 1, rd := true, wr := false, kind := 0, data := 0 }
    let ld := fun (acq : Bool) (n : Nat) (d : Option Dest) =>
      (.next (s.addLoad { s.unitOf slot (.load acq) t n with
        dest := d
        order := if acq then 1 else 0 }) : Out)
    let ldk := fun (n : Nat) (d : Option Dest) => (.next (s.addUnit { s.unitOf slot (.load false) t n with dest := d }) : Out)
    let d := destOf (sDest o.l1 o.d)
    (∀ u, ownScratch s.cur u = none → s.addLoad u = s.addUnit u) ∧
    (∀ u a, ownScratch s.cur u = some a →
      ((∃ e ∈ (s.ctx s.cur).units, u.after e = true) → s.addLoad u = s.addUnit u) ∧
      ((∀ e ∈ (s.ctx s.cur).units, u.after e = false) →
        s.addLoad u = s.addUnit { u with taken := some (s.scratchRead (coreOf s.cur) a u.size) })) ∧
    (at_ 1 1 0 = .ok t → exec (.ldg8 o) s = ld false 1 d) ∧ (at_ 2 2 0 = .ok t → exec (.ldg16 o) s = ld false 2 d) ∧
    (at_ 4 4 0 = .ok t → exec (.ldg32 o) s = ld false 4 d) ∧ (at_ 8 8 0 = .ok t → exec (.ldg64 o) s = ld false 8 d) ∧
    (cat 4 = .ok t → exec (.ldk32 o) s = ldk 4 d) ∧ (cat 8 = .ok t → exec (.ldk64 o) s = ldk 8 d) ∧
    (at_ 4 4 2 = .ok t → exec (.ldacq32 o) s = ld true 4 d) ∧ (at_ 8 8 2 = .ok t → exec (.ldacq64 o) s = ld true 8 d) ∧
    (∀ e, at_ 8 8 0 = .error e → exec (.ldg64 o) s = .next (s.fail e.1 (slotCode slot 0 false) e.2))) ∧
  (∀ (o : LM) (s : State) (t : Target), s.runs o.g →
    let slot := if o.l1 then 3 else 2
    let base := s.pre.areg (o.base.toNat + if o.l1 then 16 else 0)
    let at_ := fun (n align kind unit : Nat) => s.pre.targetOf s.cur base (immS 10 o.off.toNat o.ext * unit)
      { size := n, align := align, cap := 1, rd := true, wr := false, kind := kind, data := 0 }
    (at_ 128 8 0 8 = .ok t → exec (.ldgV o) s = .next (s.addLoad { s.unitOf slot (.load false) t 128 with dest := some (rV o.d) })) ∧
    (s.issue.raised = none → at_ 128 16 9 128 = .ok t →
      exec (.ldsc o) s = .next ((s.addLoad (s.unitOf slot (.scale (s.ctx s.cur).nextUnit) t 128)).upd fun x => { x with
        scaleQ := x.scaleQ ++ [{ id := (s.ctx s.cur).nextUnit, isB := o.d.getLsbD 0, ue4m3 := o.d.getLsbD 1 }] })) ∧
    (∀ e, at_ 1 1 9 128 = .error e → exec (.pf o) s = .next s.dropPf) ∧
    (∀ a, at_ 1 1 9 128 = .ok (.ia a) → isWindow a = true → exec (.pf o) s = .next s) ∧
    (∀ a, at_ 1 1 9 128 = .ok (.ia a) → isWindow a = false →
      exec (.pf o) s = .next (s.prefetchLine s.cur (a / 128) (o.d.toNat % 4 == 0)) ∧
      (s.leafFor (128 * (a / 128)) false = none → exec (.pf o) s = .next s.dropPf) ∧
      (∀ l, s.leafFor (128 * (a / 128)) false = some l → l.word.getLsbD 5 = false → exec (.pf o) s = .next s.dropPf) ∧
      (∀ l, s.leafFor (128 * (a / 128)) false = some l → l.word.getLsbD 5 = true → s.homeFault (128 * (a / 128)) 128 false = none →
        (o.d.toNat % 4 = 0 → exec (.pf o) s = .next (s.fillBy s.cur (a / 128) fun t => t.llcBring s.cur (a / 128))) ∧
        (o.d.toNat % 4 ≠ 0 → exec (.pf o) s = .next ((s.cacheLeaf l l.word (128 * (a / 128))).llcBring s.cur (a / 128))))) ∧
    (∀ k off, at_ 1 1 9 128 = .ok (.pool k off) → exec (.pf o) s = .next (s.prefetchPool s.cur k off)))

/-- Stores (R180): with a target, a store joins the store queue; a pool store is in the covering frames at once (R421).
The model's choices it rests on: log entry 9. -/
def Obligations.MemoryStores : Prop :=
  ∀ (o : SM) (s : State) (t : Target), s.runs o.g →
    let v := fun (n : Nat) => mValue s.pre o.data n
    let at_ := fun (n kind : Nat) => s.pre.targetOf s.cur (s.pre.areg o.base.toNat) (immS 6 o.off.toNat o.ext * n)
      { size := n, align := n, cap := 2, rd := false, wr := true, kind := kind, data := v n }
    let cat := fun (n : Nat) => s.pre.capTarget (o.base.toNat % 16) (immS 6 o.off.toNat o.ext * n)
      { size := n, align := n, cap := 2, rd := false, wr := true, kind := 1, data := v n }
    let st := fun (rel : Bool) (n : Nat) => (.next (s.addStore { s.unitOf 4 (.store rel) t n with
      data := v n
      order := if rel then 2 else 0 }) : Out)
    (at_ 1 1 = .ok t → exec (.stg8 o) s = st false 1) ∧ (at_ 2 1 = .ok t → exec (.stg16 o) s = st false 2) ∧
    (at_ 4 1 = .ok t → exec (.stg32 o) s = st false 4) ∧ (at_ 8 1 = .ok t → exec (.stg64 o) s = st false 8) ∧
    (cat 4 = .ok t → exec (.stk32 o) s = st false 4) ∧ (cat 8 = .ok t → exec (.stk64 o) s = st false 8) ∧
    (at_ 4 8 = .ok t → exec (.strel32 o) s = st true 4) ∧ (at_ 8 8 = .ok t → exec (.strel64 o) s = st true 8) ∧
    (∀ e, at_ 8 1 = .error e → exec (.stg64 o) s = .next (s.fail e.1 (slotCode 4 0 true) e.2))

/-- Atomics, reductions and compare-and-swap (R183 to R187): with a target, one unit with its operation, operands and destination. The
operation numbers are those of `amoNew`.
The new value of a word under an atomic of n bytes (R184, R186), for an old value and an operand below 2^(8n). -/
def Obligations.Atomics : Prop :=
  (∀ (o : AT) (s : State) (t : Target), s.runs o.g →
    let off := fun (n : Nat) => match o.ext with
      | none => (0 : Int)
      | some e => (e.extractLsb' 8 24).toInt * n
    let low := fun (r : BitVec 5) (n : Nat) => (s.pre.sreg r.toNat).toNat % 2 ^ (8 * n)
    let at_ := fun (n cap kind v : Nat) => s.pre.targetOf s.cur (s.pre.areg o.base.toNat) (off n)
      { size := n, align := n, cap := cap, rd := true, wr := true, kind := kind, data := v }
    let d := destOf (rS o.d)
    let unit := fun (op : UnitOp) (n v v2 : Nat) (d d2 : Option Dest) => (.next (s.addUnit { s.unitOf 4 op t n with
      data := v
      data2 := v2
      dest := d
      dest2 := d2
      order := o.ord.toNat }) : Out)
    let amo := fun (op n : Nat) => unit (.atomic op d.isSome) n (low o.data n) 0 d none
    let red := fun (op n : Nat) => unit (.atomic op false) n (low o.data n) 0 none none
    let A := fun (n kind : Nat) => at_ n 4 kind (low o.data n) = .ok t
    let R := fun (n kind : Nat) => at_ n 8 kind (low o.data n) = .ok t
    (A 4 3 → exec (.amoAdd32 o) s = amo 0 4) ∧ (A 8 3 → exec (.amoAdd64 o) s = amo 0 8) ∧
    (A 4 5 → exec (.amoAnd32 o) s = amo 1 4 ∧ exec (.amoOr32 o) s = amo 2 4 ∧ exec (.amoXor32 o) s = amo 3 4 ∧
      exec (.amoMin32 o) s = amo 4 4 ∧ exec (.amoMax32 o) s = amo 5 4 ∧ exec (.amoMinu32 o) s = amo 6 4 ∧
      exec (.amoMaxu32 o) s = amo 7 4 ∧ exec (.amoSwap32 o) s = amo 8 4) ∧
    (A 8 5 → exec (.amoAnd64 o) s = amo 1 8 ∧ exec (.amoOr64 o) s = amo 2 8 ∧ exec (.amoXor64 o) s = amo 3 8 ∧
      exec (.amoMin64 o) s = amo 4 8 ∧ exec (.amoMax64 o) s = amo 5 8 ∧ exec (.amoMinu64 o) s = amo 6 8 ∧
      exec (.amoMaxu64 o) s = amo 7 8 ∧ exec (.amoSwap64 o) s = amo 8 8) ∧
    (R 4 4 → exec (.redAdd32 o) s = red 0 4) ∧ (R 8 4 → exec (.redAdd64 o) s = red 0 8) ∧
    (R 4 6 → exec (.redFadd32 o) s = red 9 4) ∧
    (R 4 5 → exec (.redAnd32 o) s = red 1 4 ∧ exec (.redOr32 o) s = red 2 4 ∧ exec (.redXor32 o) s = red 3 4 ∧
      exec (.redMin32 o) s = red 4 4 ∧ exec (.redMax32 o) s = red 5 4 ∧ exec (.redMinu32 o) s = red 6 4 ∧ exec (.redMaxu32 o) s = red 7 4) ∧
    (R 8 5 → exec (.redAnd64 o) s = red 1 8 ∧ exec (.redOr64 o) s = red 2 8 ∧ exec (.redXor64 o) s = red 3 8 ∧
      exec (.redMin64 o) s = red 4 8 ∧ exec (.redMax64 o) s = red 5 8 ∧ exec (.redMinu64 o) s = red 6 8 ∧ exec (.redMaxu64 o) s = red 7 8) ∧
    (A 4 5 → exec (.cas32 o) s = unit .cas 4 (low o.data 4) (low (BitVec.ofNat 5 (AT.newReg o)) 4) d none) ∧
    (A 8 5 → exec (.cas64 o) s = unit .cas 8 (low o.data 8) (low (BitVec.ofNat 5 (AT.newReg o)) 8) d none) ∧
    (at_ 16 4 6 (sPair s.pre o.data) = .ok t →
      exec (.cas128 o) s = unit .cas 16 (sPair s.pre o.data) (sPair s.pre (BitVec.ofNat 5 (AT.newReg o))) d
        (if d.isSome then some (rS (o.d + 1)) else none))) ∧
  (∀ (n old d : Nat), n = 4 ∨ n = 8 → old < 2 ^ (8 * n) → d < 2 ^ (8 * n) →
    amoNew 0 n old d = (old + d) % 2 ^ (8 * n) ∧ amoNew 1 n old d = old &&& d ∧ amoNew 2 n old d = old ||| d ∧
    amoNew 3 n old d = old ^^^ d ∧ amoNew 6 n old d = min old d ∧ amoNew 7 n old d = max old d ∧ amoNew 8 n old d = d ∧
    signedN (amoNew 4 n old d) (8 * n) = min (signedN old (8 * n)) (signedN d (8 * n)) ∧
    signedN (amoNew 5 n old d) (8 * n) = max (signedN old (8 * n)) (signedN d (8 * n)) ∧ (∀ op < 9, amoNew op n old d < 2 ^ (8 * n)))

/-- Fences and bindings (R191, R192, R406): a binding of no bytes is an operand-format fault, one that is there already stays.
The model's choices it rests on: log entries 26, 32 and 74.
Handles and capabilities (R193 to R196).
The model's choices it rests on: log entries 24, 25, 31 and 63. -/
def Obligations.FencesBindingsHandles : Prop :=
  (∀ (o : FB) (s : State), s.runs o.g →
    let b := bindingOf s.pre o
    exec (.fenceRel o) s = .next (s.release s.cur s.issue.scope fun _ => true) ∧
    exec (.fenceAcq o) s = .next (s.addUnit (s.unitOf 4 .fence .none 0)) ∧
    exec (.fence o) s = .next (let t := s.release s.cur s.issue.scope fun _ => true
      t.addUnit (t.unitOf 4 .fence .none 0)) ∧
    (b.len ≠ 0 → s.pre.objOk b.kind b.obj = true → s.pre.binds.length < 16 ∨ b ∈ s.pre.binds →
      b.kind ≠ 0 ∨ (∃ t, s.pre.targetOf s.cur b.obj 0 { size := 8, align := 8, cap := 1, rd := true, wr := false, kind := 0, data := 0 } = .ok t) →
      exec (.bind o) s = .next (s.upd fun x => if x.binds.contains b then x else { x with binds := x.binds ++ [b] })) ∧
    (b.len = 0 → exec (.bind o) s = .next (s.fail cOperand 4 0)) ∧
    (s.pre.objOk b.kind b.obj = true →
      b.kind ≠ 0 ∨ (∃ t, s.pre.targetOf s.cur b.obj 0 { size := 8, align := 8, cap := 1, rd := true, wr := false, kind := 0, data := 0 } = .ok t) →
      exec (.unbind o) s = .next (s.upd fun x =>
        { x with binds := x.binds.filter fun e => !(e.base == b.base && e.obj == b.obj && e.kind == b.kind) }))) ∧
  (∀ (o : LH) (s : State), s.runs o.g →
    let slot := if o.l1 then 3 else 2
    let own := s.pre.areg (o.a.toNat + if o.l1 then 16 else 0)
    let n := hallocSize s.pre o
    let k := s.pre.kreg (o.h.toNat % 16)
    ((s.pre.handle o.d.toNat).bound = false → (s.now.handle o.d.toNat).pending = false → n < 2 ^ 24 →
      exec (.halloc o) s = .next (s.upd fun x => { x.setHandle o.d.toNat { Handle.reset with pending := true } with
        hallocs := x.hallocs ++ [(o.d.toNat, o.sub.toNat, n % 65536, n / 65536 % 256)] })) ∧
    ((s.pre.handle o.d.toNat).bound = true ∨ (s.now.handle o.d.toNat).pending = true → exec (.halloc o) s = .next (s.fail cOperand (slotCode slot 0 false) 0)) ∧
    exec (.hfree o) s = .next (s.upd fun x => x.hfree o.d.toNat) ∧
    exec (.hinfo o) s = .next (s.hidden (rS (o.d.setWidth 5)) (s.pre.handle o.h.toNat).word.toNat) ∧
    (own.toNat < 2 ^ 14 → k.getLsbD 5 = true →
      ∃ u, exec (.kderiveRs o) s = .next (s.addUnit u) ∧ u.op = .reseal ∧ u.target = .pool k 0 ∧ u.data = own.toNat ∧
        u.dest = some (rK (o.d.toNat % 16))) ∧
    (∀ a, s.pre.targetOf s.cur own 0 { size := 16, align := 16, cap := 1, rd := true, wr := false, kind := 9, data := 0 } = .ok (.ia a) →
      exec (.kderiveLd o) s = .next (s.addLoad { s.unitOf slot (.load false) (.ia a) 16 with dest := some (rK (o.d.toNat % 16)) })) ∧
    (∀ a, s.pre.targetOf s.cur own 0 { size := 16, align := 16, cap := 2, rd := false, wr := true, kind := 9, data := k.toNat } = .ok (.ia a) →
      exec (.kderiveSt o) s = .next (s.addStore { s.unitOf slot (.store false) (.ia a) 16 with data := k.toNat })) ∧
    exec (.kchk o) s = .next (s.addUnit { s.unitOf slot .check (.pool k 0) 0 with dest := destOf (rS (o.d.setWidth 5)) }))

/-! ## Vector syllables: their lane mask is the guard field's q register -/

/-- Integer lanes (R141, R145, R146): element i of the result is computed from elements i of the sources, for the enabled elements. -/
def Obligations.VectorIntegerForms : Prop :=
  ∀ (o : VA) (s : State), s.issue.active = true →
    let w := fmtWidth (fun _ => 0) o.ty.toNat
    let a := fun (i : Nat) => elemAt (s.pre.vreg o.va.toNat) (w * i) w
    let b := fun (i : Nat) => elemAt (s.pre.vreg o.vb.toNat) (w * i) w
    let res := fun (c : Nat) (f : Nat → Nat) => (.next (plainOp o c w f s) : Out)
    exec (.vadd o) s = res 4 (fun i => a i + b i) ∧ exec (.vsub o) s = res 4 (fun i => a i + 2 ^ w - b i) ∧
    exec (.vmul o) s = res 5 (fun i => a i * b i) ∧
    exec (.vmulh o) s = res 5 (fun i => ((tyVal o.ty w (a i) * tyVal o.ty w (b i) / (2 : Int) ^ w) % (2 : Int) ^ w).toNat) ∧
    exec (.vand o) s = res 4 (fun i => a i &&& b i) ∧ exec (.vor o) s = res 4 (fun i => a i ||| b i) ∧
    exec (.vxor o) s = res 4 (fun i => a i ^^^ b i) ∧ exec (.vandn o) s = res 4 (fun i => a i &&& (2 ^ w - 1 - b i)) ∧
    exec (.vshl o) s = res 4 (fun i => a i * 2 ^ (b i % w)) ∧ exec (.vshr o) s = res 4 (fun i => a i / 2 ^ (b i % w)) ∧
    exec (.vsra o) s = res 4 (fun i => ((signedN (a i) w / (2 : Int) ^ (b i % w)) % (2 : Int) ^ w).toNat) ∧
    exec (.vmin o) s = res 4 (fun i => if signedN (b i) w < signedN (a i) w then b i else a i) ∧
    exec (.vmax o) s = res 4 (fun i => if signedN (a i) w < signedN (b i) w then b i else a i) ∧
    exec (.vminu o) s = res 4 (fun i => min (a i) (b i)) ∧ exec (.vmaxu o) s = res 4 (fun i => max (a i) (b i)) ∧
    exec (.vabs o) s = res 4 (fun i => (((signedN (a i) w).natAbs : Int) % (2 : Int) ^ w).toNat) ∧
    exec (.vneg o) s = res 4 (fun i => 2 ^ w - a i) ∧
    exec (.vcmp o) s = .next (laneCmp o w (fun i => (icond (o.mod.toNat % 32) w (a i) (b i), 0)) s) ∧
    exec (.vaddSat o) s = .next (vsat o (fun x y => x + y) s) ∧ exec (.vsubSat o) s = .next (vsat o (fun x y => x - y) s)

/-- What lands from a lane operation (R142): element i of the mask and value written is element i of the list, low w bits, and no bit
outside the listed elements is written. -/
def Obligations.LaneWrites : Prop :=
  ∀ (w base : Nat) (l : List (Nat × Nat)), 0 < w → (l.map (·.1)).Nodup → (∀ e ∈ l, base + w * (e.1 + 1) ≤ 1024) →
    (∀ e ∈ l, elemAt (packLanes base w l).1 (base + w * e.1) w = e.2 % 2 ^ w) ∧
    (∀ b, b < 1024 → ((packLanes base w l).2.getLsbD b = true ↔ ∃ e ∈ l, base + w * e.1 ≤ b ∧ b < base + w * (e.1 + 1)))

/-- Floating-point lanes (R147 to R149): each enabled element is the exact result rounded once under the mode of mod, its flags
recorded; the forms of suffix .h act alike on FP16 and BF16. -/
def Obligations.VectorFloatForms : Prop :=
  ∀ (o : VA) (s : State), s.issue.active = true →
    let t := tyFmt o.ty
    let mode := o.mod.toNat % 8
    let e := fun (r : BitVec 6) (i : Nat) => decodeVal t (elemAt (s.pre.vreg r.toNat) (t.w * i) t.w)
    let c := fun (r : BitVec 6) (i : Nat) => elemAt (s.pre.vreg r.toNat) (t.w * i) t.w
    let res := fun (f : Nat → FVal × Bool) => (.next (laneOp o 5 (1024 / t.w) 0 t.w
      (fun i => ((roundNV t (f i) mode false).bits, (roundNV t (f i) mode false).flags)) s) : Out)
    let code := fun (f : Nat → Nat) => (.next (plainOp o 4 t.w f s) : Out)
    let sum := fun (i : Nat) => FVal.add mode (e o.va i) (e o.vb i)
    let dif := fun (i : Nat) => FVal.add mode (e o.va i) (e o.vb i).negate
    let pro := fun (i : Nat) => FVal.mul (e o.va i) (e o.vb i)
    let fma := fun (i : Nat) => FVal.fma mode (e o.va i) (e o.vb i) (e o.vc i)
    let fms := fun (i : Nat) => FVal.fma mode (e o.va i) (e o.vb i) (e o.vc i).negate
    let abs := fun (i : Nat) => if (e o.va i).isNan then t.canonNan else c o.va i % 2 ^ (t.w - 1)
    let neg := fun (i : Nat) => if (e o.va i).isNan then t.canonNan else c o.va i ^^^ 2 ^ (t.w - 1)
    let cmp := (.next (laneCmp o t.w (fun i => fcond (o.mod.toNat % 32) (e o.va i) (e o.vb i)) s) : Out)
    exec (.vfadd o) s = res sum ∧ exec (.vfaddH o) s = res sum ∧ exec (.vfsub o) s = res dif ∧ exec (.vfsubH o) s = res dif ∧
    exec (.vfmul o) s = res pro ∧ exec (.vfmulH o) s = res pro ∧ exec (.vfma o) s = res fma ∧ exec (.vfmaH o) s = res fma ∧
    exec (.vfms o) s = res fms ∧ exec (.vfmsH o) s = res fms ∧
    exec (.vfmin o) s = code (fun i => fminmax t false (c o.va i) (c o.vb i)) ∧
    exec (.vfminH o) s = code (fun i => fminmax t false (c o.va i) (c o.vb i)) ∧
    exec (.vfmax o) s = code (fun i => fminmax t true (c o.va i) (c o.vb i)) ∧
    exec (.vfmaxH o) s = code (fun i => fminmax t true (c o.va i) (c o.vb i)) ∧
    exec (.vfabs o) s = code abs ∧ exec (.vfabsH o) s = code abs ∧ exec (.vfneg o) s = code neg ∧ exec (.vfnegH o) s = code neg ∧
    exec (.vfcmp o) s = cmp ∧ exec (.vfcmpH o) s = cmp

/-- Special functions, conversions, quantisation and statistics (R150 to R158): the conversions complete where both formats are valid
ones, the quantisation where its scale word keeps its reserved bits zero; the least integer of a signed format needs no rounding.
The model's choices it rests on: log entries 7, 8 and 42. -/
def Obligations.VectorConversions : Prop :=
  ∀ (o : VA) (s : State) (a b : Fmt), s.issue.active = true →
    let v := s.pre.vreg o.va.toNat
    let sp := fun (op : Nat) => (.next (laneOp o 6 32 0 32 (fun i =>
      let r := specialFn op (decodeVal fp32 (elemAt v (32 * i) 32))
      let q := roundTo fp32 r.1 (o.mod.toNat % 8) false 0
      (q.bits, q.flags ||| r.2)) s) : Out)
    let cv := fun (c : Nat) (f : Nat → FVal → Rounded) => laneOp o c (cvtCount a b) (cvtTo o a b) b.w (fun i =>
      let r := f i (decodeVal a (elemAt v (cvtFrom o a b + a.w * i) a.w))
      (r.bits, r.flags)) s
    exec (.vrcp o) s = sp 0 ∧ exec (.vrsq o) s = sp 1 ∧ exec (.vsqrt o) s = sp 2 ∧ exec (.vexp2 o) s = sp 3 ∧ exec (.vlog2 o) s = sp 4 ∧
    (fmtOf s.pre.fmtreg o.ty.toNat = some a → fmtOf s.pre.fmtreg (cvtFmt o) = some b →
      exec (.vcvt o) s = .next (cv 4 fun _ x => cvtRound b x (cvtMode o) (cvtSat o) 0) ∧
      exec (.vcvtRs o) s = .next (cv 4 fun i x => cvtRound b x 4 (cvtSat o) (vcvtDraw s.pre o i)) ∧
      (∀ x m sat r, (b.isLeast x = true → cvtRound b x m sat r = { bits := 2 ^ (b.w - 1), flags := 0, ovf := false }) ∧
        (b.isLeast x = false → cvtRound b x m sat r = roundTo b x m sat r)) ∧
      exec (.vdqnt o) s = .next (cv 5 fun _ x =>
        let q := dqnt x (decodeVal fp32 (elemAt (s.pre.vreg o.vb.toNat) 0 32))
        { roundTo b q.1 (cvtMode o) false 0 with flags := (roundTo b q.1 (cvtMode o) false 0).flags ||| q.2 }) ∧
      (scaleBad (s.pre.vreg o.vb.toNat) = false →
        let sc := decodeVal fp32 (elemAt (s.pre.vreg o.vb.toNat) 0 32)
        exec (.vqnt o) s = .next ((cv 5 fun _ x => qntRound b sc (cvtMode o) x).overflowed o
          ((lanesOn s.pre o (cvtCount a b)).filter fun i =>
            (qntRound b sc (cvtMode o) (decodeVal a (elemAt v (cvtFrom o a b + a.w * i) a.w))).ovf)))) ∧
    (fmtOf s.pre.fmtreg o.ty.toNat = none → exec (.vcvt o) s = .next (s.fail cOperand (if o.v1 then 6 else 5) 0)) ∧
    (fmtOf s.pre.fmtreg o.ty.toNat = some a →
      exec (.vstat o) s = .next (s.sendDelta s.pre.asid (elemAt (s.pre.vreg o.vb.toNat) 64 16)
        (statsOf ((lanesOn s.pre o (1024 / a.w)).map fun i => decodeVal a (elemAt v (a.w * i) a.w)))))

/-- Reductions, scans and moves (R159 to R161).
The model's choices it rests on: log entry 69, a NaN in the first element of vscan.f. -/
def Obligations.VectorReductionsAndMoves : Prop :=
  ∀ (o : VA) (s : State), s.issue.active = true →
    let w := fmtWidth (fun _ => 0) o.ty.toNat
    let n := 1024 / w
    let a := fun (i : Nat) => elemAt (s.pre.vreg o.va.toNat) (w * i) w
    let b := fun (i : Nat) => elemAt (s.pre.vreg o.vb.toNat) (w * i) w
    let mv := fun (f : Nat → Nat) => (.next (plainOp o 4 w f s) : Out)
    let k := o.mod.toNat % 128
    let m : Int := if tySigned o.ty then signedN o.mod.toNat 14 else (o.mod.toNat : Int)
    exec (.vrsum o) s = .next (reduce o 5 n 0 32 (fun i => (tyVal o.ty w (a i) % (2 : Int) ^ 32).toNat) (fun x y => ((x + y) % 2 ^ 32, 0)) s) ∧
    exec (.vrmax o) s = .next (vrpick o true s) ∧ exec (.vrmin o) s = .next (vrpick o false s) ∧
    exec (.vrsumF o) s = .next (vredF o 6 0 s) ∧ exec (.vrmaxF o) s = .next (vredF o 5 1 s) ∧ exec (.vrminF o) s = .next (vredF o 5 2 s) ∧
    (let q := o.mod.toNat % 4; exec (.vscan o) s = .next (vscanOp o 5 w
        (if q = 0 then 0 else ((if q = 1 then tyMin o.ty w else tyMax o.ty w) % (2 : Int) ^ w).toNat) (fun x => x)
        (fun x y => (if q = 0 then (x + y) % 2 ^ w else tyPick o.ty w (q == 1) x y, 0)) s)) ∧
    exec (.vscanF o) s = .next (vscanOp o 6 32 (fpIdent (o.mod.toNat % 4)) scanFirst (fpStep (o.mod.toNat % 4)) s) ∧
    exec (.vperm o) s = mv (fun i => a (b i % n)) ∧ exec (.vbcast o) s = mv (fun _ => a (o.mod.toNat % 128)) ∧
    exec (.vslide o) s = mv (fun i =>
      if o.mod.getLsbD 7 then (if k ≤ i then a (i - k) else b (n - k + i)) else if i + k < n then a (i + k) else b (i + k - n)) ∧
    exec (.vsel o) s = mv (fun i => if (s.pre.qreg (o.mod.toNat % 8)).getLsbD (i % 128) then a i else b i) ∧
    exec (.vmov o) s = mv a ∧ exec (.vsplat o) s = mv (fun _ => (m % (2 : Int) ^ w).toNat) ∧
    exec (.vlane o) s = mv (fun i => (((i : Int) + m) % (2 : Int) ^ w).toNat)

/-! ## Engine syllables -/

/-- Outer products (R219 to R222): with a mapped accumulator, valid formats, an A handle and a B handle that hold the operand block, and
scales enough in their order, the operation enters the M queue with its footprint, and the offsets advance.
mzero, mcfg and mfence (R217, R218, R225, R226).
The model's choices it rests on: log entry 35. -/
def Obligations.MatrixForms : Prop :=
  (∀ (o : MX) (s : State) (acc : Nat) (f : MxFmt) (fa fb : Fmt), s.runs o.g →
    let x := s.pre
    let hA := x.handle o.hA.toNat
    let hB := x.handle o.hB.toNat
    let q := s.now.scaleQ
    let need := 2 * mxBlocks o
    let ready : Prop := x.accOf s.cur o.acc.toNat = some acc ∧ f.of (x.fmtreg o.fmtA.toNat) = some fa ∧
      f.of (x.fmtreg o.fmtB.toNat) = some fb ∧ hA.bound = true ∧ hA.kind = 0 ∧ hA.roww % 8 = 0 ∧ hB.bound = true ∧ hB.kind = 1 ∧
      hB.roww % 8 = 0 ∧ (o.order.getLsbD 0 = true → x.mat.offA.toNat % groupElems fa.w = 0) ∧
      (o.order.getLsbD 1 = true → x.mat.offB.toNat % groupElems fb.w = 0) ∧
      fitsTile hA (o.order.getLsbD 0) x.mat.offA.toNat o.depth fa.w = true ∧
      fitsTile hB (o.order.getLsbD 1) x.mat.offB.toNat o.depth fb.w = true ∧ need ≤ q.length ∧ alternates false (q.take need) = true
    let go := fun (i : Instr) =>
      let t := s.upd fun y => { y with
        scaleQ := y.scaleQ.drop need
        mat := y.mat.advance }
      (.next (t.addEng { t.engOf i .m with
        foot := [footHandle hA true false, footHandle hB true false, footAcc acc true true]
        fmtA := x.fmtreg o.fmtA.toNat
        fmtB := x.fmtreg o.fmtB.toNat
        scales := (q.take need).map fun e => (e.id, e.ue4m3)
        tiles := [hA.tile, hB.tile]
        acc := acc }) : Out)
    ready →
      (f = .nf → exec (.mopaNf o) s = go (.mopaNf o) ∧ exec (.mopsNf o) s = go (.mopsNf o)) ∧
      (f = .fix (sintFmt 4) → exec (.mopaInt4 o) s = go (.mopaInt4 o) ∧ exec (.mopsInt4 o) s = go (.mopsInt4 o)) ∧
      (f = .fix (sintFmt 8) → exec (.mopaInt8 o) s = go (.mopaInt8 o) ∧ exec (.mopsInt8 o) s = go (.mopsInt8 o)) ∧
      (f = .fix (uintFmt 8) → exec (.mopaUint8 o) s = go (.mopaUint8 o) ∧ exec (.mopsUint8 o) s = go (.mopsUint8 o)) ∧
      (f = .fix fp16 → exec (.mopaF16 o) s = go (.mopaF16 o) ∧ exec (.mopsF16 o) s = go (.mopsF16 o)) ∧
      (f = .fix bf16 → exec (.mopaBf16 o) s = go (.mopaBf16 o) ∧ exec (.mopsBf16 o) s = go (.mopsBf16 o)) ∧
      (f = .fix fp32 → exec (.mopaF32 o) s = go (.mopaF32 o) ∧ exec (.mopsF32 o) s = go (.mopsF32 o))) ∧
  (∀ (o : MC) (s : State), s.runs o.g →
    (∀ acc, s.pre.accOf s.cur o.acc.toNat = some acc →
      exec (.mzero o) s = .next (s.addEng { s.engOf (.mzero o) .m with
        foot := [footAcc acc true true]
        acc := acc
        pos := mzeroMask o })) ∧
    (s.pre.accOf s.cur o.acc.toNat = none → exec (.mzero o) s = .next (s.fail cOperand (slotCode 7 0 false) 0)) ∧
    exec (.mcfg o) s = .next (s.upd fun x => { x with mat := x.mat.set (Machine.mcfgItem o).1 (Machine.mcfgItem o).2 }) ∧
    exec (.mfence o) s = .next (s.upd fun x => { x with mfence := x.nextUnit }))

/-- Drains and fills (R232 to R239): with a mapped accumulator and a valid entry of the parameter block, and rows inside the handle, rows
that the address checks pass, or a piece inside the row, the operation enters the D queue.
The model's choices it rests on: log entries 30, 36 and 98, by which the parameter block is read after the bundle's own ST slot. -/
def Obligations.DrainForms : Prop :=
  ∀ (o : DR) (s : State) (acc e : Nat) (f : Fmt) (reg : Word32), s.runs o.g → s.pre.accOf s.cur o.acc.toNat = some acc →
    let h := s.pre.handle o.t.toNat
    let rows := fun (fill : Bool) => (List.range 16).map fun r =>
      footScratch (drRowAt h.tile e (16 * o.row.toNat + r)) (16 * f.w) fill (!fill)
    let tile := fun (i : Instr) (fill : Bool) => (.next (s.addEng { s.drOp i acc e reg (rows fill ++ [footAcc acc (!fill) fill]) with
      tiles := [h.tile] }) : Out)
    let piece := fun (i : Instr) (fill : Bool) => (.next (s.addEng { s.drOp i acc e reg [footAcc acc (!fill) fill] with
      vec := if fill then s.pre.vreg o.t.toNat else 0 }) : Out)
    let fits := dpRow e + 16 * o.row.toNat + 15 < h.rows ∧ dpCol e + f.w ≤ h.roww
    let mem := fun (i : Instr) (fill : Bool) (ts : List Target) =>
      (.next (s.addEng { s.drOp i acc e reg ((ts.map fun t => footTarget t (16 * f.w) fill (!fill)) ++ [footAcc acc (!fill) fill]) with
        cap := targetCap ts }) : Out)
    (s.drEntry o false = some (e, f, reg) →
      (h.isGroup = true → h.kind = 2 → fits → exec (.drain o) s = tile (.drain o) false) ∧
      (∀ ts, drTargets s.pre s.cur o false (16 * f.w) = .ok ts → exec (.drainM o) s = mem (.drainM o) false ts) ∧
      ((o.row.toNat + 1) * pieceLen f.w ≤ 128 → exec (.drainv o) s = piece (.drainv o) false)) ∧
    (s.drEntry o true = some (e, f, reg) →
      (h.isGroup = true → fits → exec (.fill o) s = tile (.fill o) true) ∧
      (∀ ts, drTargets s.pre s.cur o true (16 * f.w) = .ok ts → exec (.fillM o) s = mem (.fillM o) true ts) ∧
      ((o.row.toNat + 1) * pieceLen f.w ≤ 128 → exec (.fillv o) s = piece (.fillv o) true)) ∧
    exec (.dzero o) s = .next (s.addEng { s.engOf (.dzero o) .d with
      foot := [footAcc acc true true]
      acc := acc })

/-- Optimiser forms (R240 to R245): with a mapped accumulator, a parameter block in a bound handle and operand handles that hold a row
group, the operation enters the O queue with its parameters and footprint.
The model's choice it rests on: log entry 98, by which the block is read after the bundle's own ST slot. -/
def Obligations.OptimiserForms : Prop :=
  ∀ (o : OP) (s : State) (acc hp : Nat), s.runs o.g → s.pre.accOf s.cur o.acc.toNat = some acc → opBlock s.pre o = some hp →
    let x := s.pre
    let b := x.handle hp
    let p := s.scratchRead (coreOf s.cur) b.base 64
    let ok := fun (clip : Bool) (hs : List (Nat × Nat)) => b.isGroup = true ∧ 4 ≤ b.roww ∧ opBad p clip = false ∧
      ∀ e ∈ hs, (x.handle e.1).isGroup = true ∧ 16 ≤ (x.handle e.1).rows ∧ e.2 ≤ (x.handle e.1).roww
    let go := fun (i : Instr) (hs : List (Nat × Nat)) => (.next ((s.setOpb o).addEng { s.engOf i .o with
      foot := (hs.map fun e => footHandle (x.handle e.1) true true) ++ [footScratch b.base 64 true false, footAcc acc true true]
      tiles := (hs.map fun e => (x.handle e.1).tile) ++ [b.tile]
      handles := hs.map (·.1) ++ [hp]
      card := p
      acc := acc }) : Out)
    let two := fun (w m : Nat) => [(o.hW.toNat, w), (o.hM.toNat, m)]
    (ok false (two 32 64) → exec (.oadamF32 o) s = go (.oadamF32 o) (two 32 64) ∧ exec (.oadamwF32 o) s = go (.oadamwF32 o) (two 32 64)) ∧
    (ok false (two 16 64) →
      exec (.oadamBf16 o) s = go (.oadamBf16 o) (two 16 64) ∧ exec (.oadamwBf16 o) s = go (.oadamwBf16 o) (two 16 64)) ∧
    (ok false (two 32 32) → exec (.olionF32 o) s = go (.olionF32 o) (two 32 32) ∧ exec (.osgdmF32 o) s = go (.osgdmF32 o) (two 32 32)) ∧
    (ok false (two 16 32) → exec (.olionBf16 o) s = go (.olionBf16 o) (two 16 32) ∧ exec (.osgdmBf16 o) s = go (.osgdmBf16 o) (two 16 32)) ∧
    (ok true [] → exec (.oclip o) s = go (.oclip o) []) ∧ (ok false [] → exec (.oscale o) s = go (.oscale o) [])

/-- Engine jobs (R261 to R263, R274, R275): with a job card that its checks pass, each form enters the E queue with the plan its card
makes; wmarm enters it with the waymark it arms.
The model's choices it rests on: log entries 39 and 55. -/
def Obligations.EngineJobs : Prop :=
  ∀ (o : EJ) (s : State) (p : JobPlan), s.runs o.g →
    let hJ := s.pre.handle o.hJ.toNat
    let hW := s.pre.handle o.hW.toNat
    let card := s.cardOf s.cur hJ
    let l := (cardFoots card).map (s.pre.entryOf s.cur)
    let job := fun (i : Instr) (minRow : Nat) (nest : Bool) (plan : Option JobPlan) =>
      minRow ≤ hJ.roww → headerOk card nest = true → plan = some p → jobFault s.pre card p l = none →
        exec i s = .next (s.addJob i hJ hW card p (okFoots l))
    hW.isWaymark = true →
      exec (.wmarm o) s = .next (s.addEng { s.engOf (.wmarm o) .e with
        foot := [footWaymark hW.base true]
        waymark := hW.base
        total := extNat o.ext }) ∧
      (hJ.isGroup = true → hJ.kind = 2 →
        job (.cpy o) 11 true (cpyPlan s card) ∧ job (.cpyq o) 11 true (cpyqPlan s card) ∧
        job (.gath o) 11 false (gatherPlan true none card) ∧ job (.scat o) 11 false (gatherPlan false none card) ∧
        job (.gathK o) 11 false (gatherPlan true (some o.k.toNat) card) ∧ job (.scatK o) 11 false (gatherPlan false (some o.k.toNat) card) ∧
        job (.bget o) 10 true (bulkPlan .get o.k.toNat card) ∧ job (.bwr o) 10 true (bulkPlan .write o.k.toNat card) ∧
        job (.bred o) 10 true (bulkPlan .reduce o.k.toNat card) ∧
        job (.gred o) 9 false (groupPlan true o.k.toNat s card) ∧ job (.gmld o) 9 false (groupPlan false o.k.toNat s card) ∧
        job (.grpset o) 10 false (grpsetPlan o.k.toNat card) ∧ job (.msend o) 11 false (msendPlan s card) ∧
        job (.enq o) 16 false (enqPlan s card) ∧ job (.arrive o) 10 false (arrivePlan s card) ∧
        job (.realign o) 9 false (realignPlan card) ∧ job (.sclose o) 11 false (recListPlan card) ∧
        job (.sfree o) 11 false (recListPlan card) ∧ job (.sread o) 9 false (sreadPlan o s card) ∧
        job (.sreadO o) 9 false (sreadPlan o s card) ∧ job (.salloc o) 9 false (sallocPlan card) ∧
        job (.lacq o) 9 false (leasePlan o.k.toNat card) ∧ job (.lrel o) 9 false (leasePlan o.k.toNat card) ∧
        job (.tdec o) 9 false (tdecPlan card) ∧ job (.tspawn o) 9 false (tspawnPlan card) ∧
        job (.mstone o) 9 false (if cardBits card 0x80 0 64 ≠ s.pre.csr.stepid.toNat ∨ !restZero card 0x88 then none
          else some { JobPlan.plain 16 with after := true }))

/-- A job that ends reports its whole total with its status to its waymark word and leaves its queue (R213, R276).
The model's choices it rests on: log entry 52.
The waymark word after a report of n bytes (R213): with a target, the generation counts the targets passed and the count keeps the
rest, modulo 2^32 together; without one, the count rises and stays at its greatest value; a failing status sets ERR, and FSTAT keeps the first. -/
def Obligations.JobEnd : Prop :=
  (∀ (s : State) (c st : Nat) (o : EngOp),
    let w := s.scratchRead (coreOf c) o.waymark 16
    let t := s.jobEnd c o st
    t.scratchRead (coreOf c) o.waymark 16 = waymarkAfter w o.total st % 2 ^ 128 ∧ (∀ p ∈ (t.ctx c).eng, p.id ≠ o.id) ∧
    (∀ p ∈ (s.ctx c).eng, p.id ≠ o.id → p ∈ (t.ctx c).eng)) ∧
  (∀ (gen count target fstat n st : Nat), gen < 2 ^ 32 → count < 2 ^ 32 → target < 2 ^ 32 → fstat < 2 ^ 16 → st < 2 ^ 16 →
    let err := if fstat = 0 then 0 else 1
    let w := waymarkAfter (gen + 2 ^ 32 * count + 2 ^ 64 * target + 2 ^ 96 * err + 2 ^ 112 * fstat) n st
    bitsN w 64 32 = target ∧
    (target = 0 → bitsN w 0 32 = gen ∧ bitsN w 32 32 = min (count + n) (2 ^ 32 - 1)) ∧
    (0 < target → bitsN w 0 32 = (gen + (count + n) % 2 ^ 32 / target) % 2 ^ 32 ∧ bitsN w 32 32 = (count + n) % 2 ^ 32 % target) ∧
    bitsN w 96 1 = (if st = 0 then err else 1) ∧ bitsN w 112 16 = (if fstat = 0 then st else fstat))

/-! ## Frames -/

/-- Syllables that act at issue on nothing but their context and the record of their bundle: all but scratch stores, memory stores and
kderive.st (a pool store is in a frame at once, R421), prefetches, fences, wait and waitc (their acquire) and vqnt and vstat (their
delta). For each of them every other part of the module is unchanged: every other context, every core, cluster and byte of memory, the
front end, the pool (derived). -/
def Obligations.IssueFrame : Prop :=
  ∀ (i : Instr) (s t : State), (infoOf i).slot < 13 → s.issue.active = true → exec i s = .next t →
    (match i with
      | .sts8 _ | .sts16 _ | .sts32 _ | .sts64 _ | .stv _ | .stvt _ | .stg8 _ | .stg16 _ | .stg32 _ | .stg64 _ | .stk32 _ | .stk64 _
      | .strel32 _ | .strel64 _ | .kderiveSt _ | .pf _ | .fence _ | .fenceRel _ | .wait _ | .waitc _ | .vqnt _ | .vstat _ => False
      | _ => True) →
    (∀ d, d ≠ s.cur → t.ctx d = s.ctx d) ∧ t.cores = s.cores ∧ t.clusters = s.clusters ∧ t.mem = s.mem ∧ t.hostMem = s.hostMem ∧
    t.fe = s.fe ∧ t.pool = s.pool ∧ t.ptbase = s.ptbase ∧ t.tlb = s.tlb ∧ t.migrations = s.migrations ∧ t.cycles = s.cycles ∧ t.cur = s.cur ∧
    (∀ a, t.homeByte a = s.homeByte a)

/-- At issue no register changes, whatever the syllable: results land later or are hidden; nor does the pc, the mode or a saved part of a
trap (derived from R25, R28, R32). -/
def Obligations.IssueKeepsRegisters : Prop :=
  ∀ (i : Instr) (s t : State) (c : Nat), (infoOf i).slot < 13 → s.issue.active = true → exec i s = .next t →
    let x := s.ctx c
    let y := t.ctx c
    y.s = x.s ∧ y.a = x.a ∧ y.v = x.v ∧ y.q = x.q ∧ y.p = x.p ∧ y.lc = x.lc ∧ y.lk = x.lk ∧ y.fmt = x.fmt ∧ y.k = x.k ∧
    y.pc = x.pc ∧ y.state = x.state ∧ y.snapshot = x.snapshot ∧ y.frozen = x.frozen ∧ y.csr.trapCause = x.csr.trapCause ∧
    y.csr.trapVal = x.csr.trapVal ∧ y.csr.fpstat = x.csr.fpstat ∧ y.csr.ticks = x.csr.ticks

/-- What a committing bundle does to its context beside its slots (R26, R28, R50): TICKS rises by one, FPSTAT takes the bundle's flags, the
remembered syllables become the bundle's; every other CSR, handle, capability range and snapshot stays.
The model's choices it rests on: log entry 1.
Where a context goes after a committed bundle (R49, R103): a further repetition stays at the bundle, a recorded transfer goes to its
target, and otherwise it goes on past the bundle. -/
def Obligations.Commit : Prop :=
  (∀ (x : Ctx) (b : Bundle) (i : Issue),
    let y := x.commit b i
    y.csr.ticks = x.csr.ticks + 1 ∧ y.csr.fpstat = fpstatAfter x.csr.fpstat i.flags i.clear ∧ y.keep = b.keep ∧
    y.csr = { x.csr with
      ticks := x.csr.ticks + 1
      fpstat := fpstatAfter x.csr.fpstat i.flags i.clear } ∧
    y.handles = x.handles ∧ y.ranges = x.ranges ∧ y.snapshot = x.snapshot ∧ y.nest = x.nest ∧ y.pc = x.pc ∧ y.state = x.state ∧
    y.units = x.units ∧ y.eng = x.eng) ∧
  (∀ (x : Ctx) (b : Bundle) (i : Issue), x.nest.isOpen = false → i.pre.nest.isOpen = false →
    let left := if x.repLeft = 0 then b.hdr.rep.toNat + 1 else x.repLeft
    (1 < left → (x.advance b i).pc = b.addr ∧ (x.advance b i).repLeft = left - 1) ∧
    (left = 1 → (x.advance b i).repLeft = 0 ∧ (∀ t, i.target = some t → (x.advance b i).pc = t) ∧
      (i.target = none → (x.advance b i).pc = b.after)))

/-- A byte written at its home (R386, R387): with a valid writable leaf of another tier than the host's, that byte of physical memory changes, and
beside it the leaf's own entry in the page table, where ACC and DIRTY are set, and no other; host memory stays, and the intermediate address reads as
what was written. That HBM and carrier leaves name one physical memory is the model's choice, log entry 82.
A write to a page whose migration is under way (R390): where the leaf has MIG set, or is rewritten and its new translation is not yet in force
everywhere, it is held, in its place after those that came before, and no byte of memory changes; elsewhere it is applied.
A store at core or cluster scope goes into its cluster's cache alone (R180, R329): memory, the page tables and every other cluster
are unchanged until a write-back.
The model's choices it rests on: log entries 9 and 70: where the set of a line is full, another line of it goes out first. -/
def Obligations.StoredBytes : Prop :=
  (∀ (s : State) (ia : Nat) (v : Byte) (l : Leaf), ia < 2 ^ 52 → s.leafFor ia true = some l → l.tier ≠ 3 →
    (l.size = 2 ^ 25 → l.word.getLsbD 7 = true) →
    let t := s.putByte ia v
    let entry := s.pteAt l.level l.key
    Memory.read t.mem (l.pa ia) = v ∧
    (∀ a, a ≠ l.pa ia → (∀ e, entry = some e → a < e ∨ e + 8 ≤ a) → Memory.read t.mem a = Memory.read s.mem a) ∧
    (∀ e, entry = some e → s.entry e 0 = l.word → l.pa ia < e ∨ e + 8 ≤ l.pa ia → t.entry e 0 = l.word ||| 0x60#64) ∧
    t.hostMem = s.hostMem ∧ t.homeByte ia = v ∧ t.ctxs = s.ctxs ∧ t.cores = s.cores) ∧
  (∀ (s : State) (agent ia n v : Nat) (m : Migration),
    (s.migrations = [m] → s.migHolds ia n = true → m.ia ≤ ia → ia + n ≤ m.ia + pageBytes m.size → 0 < n →
      let t := s.homeWriteBy agent ia n v
      t.migrations = [{ m with held := m.held ++ [{ agent := agent, ia := ia, len := n, value := v }] }] ∧ t.mem = s.mem ∧
      t.hostMem = s.hostMem ∧ ∀ a, t.homeByte a = s.homeByte a) ∧
    (s.migHolds ia n = false → (s.homeWriteBy agent ia n v).mem = (s.putBytes ia n v).mem)) ∧
  (∀ (s : State) (c scope ia n v k : Nat), isWindow ia = false → scope < 2 → n ≤ 128 →
    let cl := clusterOf c
    (∀ line ∈ linesOf ia n, (s.line cl line).isSome = true ∨
      ((s.cluster cl).cache.filter fun e => e.1 % 4096 == line % 4096).length < 16) →
    let t := s.writeIa c scope ia n v
    t.mem = s.mem ∧ t.hostMem = s.hostMem ∧ t.ptbase = s.ptbase ∧ t.tlb = s.tlb ∧ t.ctxs = s.ctxs ∧ t.cores = s.cores ∧
    (k ≠ cl → t.cluster k = s.cluster k) ∧ (∀ a, t.homeByte a = s.homeByte a))

/-! ## The module's own events: each with the unit numbers of 97_the_tables.md, where it acts -/

/-- Landing, loop ends, segment marks and misses, the junction (R28, R53, R110, R247 to R250, R271 to R273): where one context of a core is a
candidate and the others are not in RUNNING or HANDLER, it issues, the rotation pointer passes it and its starvation count is 0. Of two candidates
the first in the order of R248 is the primary, unless it has yielded; the other issues beside it where the bundles merge and it has not yielded;
the pointer passes the primary alone, and the starvation count of a candidate that does not issue rises (R123, R248 to R252). Of any number, in the
order of R248, the first that has not yielded is the primary, and the first after it that has not yielded and merges with it issues beside it.
The model's choice it rests on: log entry 58, that none of several candidates issues where each has yielded.
Two bundles are mergeable (R251) when no slot is used by both, the X slot counted, and, where one carries a scope syllable, the other
uses none of L0, L1, ST, E and W; repetitions, sticky slots, loop-end marks and waits do not matter. -/
def Obligations.IssueEvents : Prop :=
  (∀ (s : State),
    (∀ c, c < 1024 → exec (.landing c) s = .next (s.modCtx c Ctx.land) ∧
      exec (.loopEndMark c) s = .next (s.modCtx c fun x => x.loopEnd.replayPc) ∧
      exec (.segmentBoundaryMark c) s = .next (s.boundaryMark c (s.ctx c).pc)) ∧
    (∀ c a n, c < 1024 → s.fetch c = .miss a n →
      exec (.segmentMiss c) s = .next ((s.modCtx c fun x => x.stalled true).startMiss c n)) ∧
    (∀ k f code n, k < 256 → f < 4 → ((s.core k).frame f).seg = some (code, n) → ((s.core k).frame f).copying = true →
      let t := s.endCopy k f
      (((t.core k).resident code n).isSome = true ∨ ((s.core k).frame f).needed = false → exec (.segmentCopyComplete k f) s = .next t) ∧
      ((t.core k).resident code n = none → ((s.core k).frame f).needed = true →
        exec (.segmentCopyComplete k f) s = .next (t.missFails k code n))) ∧
    (∀ k c b, k < 256 → c ∈ ctxsOf k → s.turn c = .ready b → (∀ d ∈ ctxsOf k, d ≠ c → s.turn d = .out) →
      ∃ t, exec (.junctionCycle k) s = .next t ∧ t.issueQ = s.issueQ ++ [c] ∧ (t.core k).rp = (c + 1) % 4 ∧ (t.ctx c).starve = 0 ∧
        (t.ctx c).pc = (s.ctx c).pc) ∧
    (∀ k c d b e, k < 256 → c ∈ ctxsOf k → d ∈ ctxsOf k → c ≠ d → s.turn c = .ready b → s.turn d = .ready e →
      (∀ x ∈ ctxsOf k, x ≠ c → x ≠ d → s.turn x = .out) → s.before (s.core k).rp c d = true →
      let may := fun (x : Nat) => 1020 ≤ (s.ctx x).starve ∨ (s.ctx x).yieldUntil < s.cycles.toNat
      ∃ t, exec (.junctionCycle k) s = .next t ∧
        (may c → may d → mergeable b e = true → t.issueQ = s.issueQ ++ [c, d] ∧ (t.core k).rp = (c + 1) % 4 ∧ (t.ctx c).starve = 0 ∧
          (t.ctx d).starve = 0) ∧
        (may c → ¬may d ∨ mergeable b e = false → t.issueQ = s.issueQ ++ [c] ∧ (t.core k).rp = (c + 1) % 4 ∧ (t.ctx c).starve = 0 ∧
          (t.ctx d).starve = (s.ctx d).starve + 1) ∧
        (¬may c → may d → t.issueQ = s.issueQ ++ [d] ∧ (t.core k).rp = (d + 1) % 4 ∧ (t.ctx d).starve = 0 ∧
          (t.ctx c).starve = (s.ctx c).starve + 1) ∧
        (¬may c → ¬may d → t.issueQ = s.issueQ ∧ (t.core k).rp = (s.core k).rp ∧ (t.ctx c).starve = (s.ctx c).starve + 1 ∧
          (t.ctx d).starve = (s.ctx d).starve + 1)) ∧
    (∀ k (l : List Candidate), k < 256 → (∀ c b, (c, b) ∈ l ↔ c ∈ ctxsOf k ∧ s.turn c = .ready b) →
      l.Pairwise (fun x y => s.before (s.core k).rp x.1 y.1 = true) →
      ∃ t, exec (.junctionCycle k) s = .next t ∧ t.issueQ = s.issueQ ++ s.choose l) ∧
    (∀ l : List Candidate, 2 ≤ l.length → (l.map (·.1)).Nodup →
      let may := fun (x : Nat) => 1020 ≤ (s.ctx x).starve ∨ (s.ctx x).yieldUntil < s.cycles.toNat
      ((∀ e ∈ l, ¬may e.1) → s.choose l = []) ∧
      (∀ before p after, l = before ++ p :: after → (∀ e ∈ before, ¬may e.1) → may p.1 →
        let fits := fun (e : Candidate) => may e.1 ∧ mergeable p.2 e.2 = true
        ((∀ e ∈ before ++ after, ¬fits e) → s.choose l = [p.1]) ∧
        (∀ m q n, before ++ after = m ++ q :: n → (∀ e ∈ m, ¬fits e) → fits q → s.choose l = [p.1, q.1]))) ∧
    (∀ rp c d, rp < 4 →
      let x := s.ctx c
      let y := s.ctx d
      let late := fun (z : Ctx) => 1020 ≤ z.starve
      (late x → ¬late y → s.before rp c d = true ∧ s.before rp d c = false) ∧
      (late x → late y → (s.before rp c d = true ↔ y.starve < x.starve ∨ (x.starve = y.starve ∧ c < d))) ∧
      (¬late x → ¬late y → (s.before rp c d = true ↔ y.csr.prio.toNat % 8 < x.csr.prio.toNat % 8 ∨
        (x.csr.prio.toNat % 8 = y.csr.prio.toNat % 8 ∧ (c % 4 + 4 - rp) % 4 < (d % 4 + 4 - rp) % 4)))) ∧
    (∀ k, k < 256 → s.cycles.toNat % 64 = 0 →
      exec (.rotationRebase k) s = .next (s.modCore k fun x => { x with rp := s.cycles.toNat / 64 % 4 }))) ∧
  (∀ a b : Bundle,
    let slots := fun (x : Bundle) => x.ops.map fun i => (infoOf i).slot
    let memory := fun (x : Bundle) => ∃ k ∈ slots x, k ∈ [2, 3, 4, 10, 11]
    mergeable a b = true ↔ ((∀ k ∈ slots a, k ∉ slots b) ∧ ¬(12 ∈ slots a ∧ memory b) ∧ ¬(12 ∈ slots b ∧ memory a)))

/-- What a context's operations do when they complete (R32, R168, R169, R194, R202, R213, R223, R230, R235, R236, R242, R245, R246, R276, R278, R421,
R480): the result, the status or the fault of the oldest that may act, for what acts at the pool once its message is out and acknowledged; then
what waited for it goes on.
The model's choices it rests on: log entries 10 and 20.
What an access of a context does at the pool goes through a message (R480, R497): the first time it is due the message is made, marked with its
access and nothing acts yet, and while a flit of it is out nothing acts either.
The model's choices it rests on: log entry 84. -/
def Obligations.CompletionEvents : Prop :=
  (∀ (s : State) (c : Nat), c < 1024 →
    let x := s.ctx c
    (∀ id u, s.unitDue c id = some u →
      (∀ f a, s.unitFault c u = some f → u.target = .ia a → exec (.pageFault c id) s = .next (s.suspendUnit c u cPage 0 f a 0)) ∧
      (s.unitClass c u = none ∨ s.messageDone (c, id) = true →
        (u.returns = true → u.toBarrier = none → s.unitFault c u = none → s.unitFinding c u = 0 →
          exec (.hiddenResultWrite c id) s = .next ((s.perform c u).drain c).shrink.checkConfig) ∧
        (∀ k off, u.target = .pool k off → s.unitFinding c u ≠ 0 →
          exec (.poolReject c id) s = .next (s.suspendUnit c u cCap 1 off off (capObj k))) ∧
        (∀ k off, u.target = .pool k off → u.inStoreQueue = true → s.unitFinding c u = 0 →
          exec (.poolWriteAcknowledgement c id) s = .next (((s.perform c u).drain c).shrink).checkConfig))) ∧
    (∀ id, s.unitDue c id = none → exec (.pageFault c id) s = .next (s.faultOp c id)) ∧
    (∀ h e, x.hallocs.find? (fun e => e.1 == h) = some e → exec (.hallocComplete c h) s = .next (s.bindHandle c e)) ∧
    (∀ h base a ops, x.releasing[h]? = some (base, a, ops) → (∀ n ∈ ops, ∀ o ∈ x.eng, o.id ≠ n) →
      exec (.handleStorageRelease c h) s = .next ((s.modCore (coreOf c) fun k => k.release base).modCtx c fun y => { y with
        releasing := y.releasing.eraseIdx h })) ∧
    (∀ id o, x.engOp id = some o → x.engReady o = true → s.opHeld c o = false → s.opAhead o = false →
      o.msgClass = none ∨ s.messageDone (c, id) = true →
      (o.engine = .m → (∀ e ∈ o.scales, Store.has x.scaleData e.1 = true) →
        (∀ neg f m fa fb, mxForm o.instr = some (neg, f, m) → f.of o.fmtA = some fa → f.of o.fmtB = some fb →
          let r := s.outer c o m neg fa fb
          exec (.matrixOpComplete c id) s = .next ((s.accRows (coreOf c) o.acc 0 128 r.1).modCtx c fun y => { (y.orFlags r.2).engDone id with
            scaleData := y.scaleData.filter fun e => !o.scales.any fun n => n.1 == e.1 })) ∧
        (mxForm o.instr = none →
          exec (.matrixOpComplete c id) s = .next ((s.clearGroups (coreOf c) o.acc o.pos).modCtx c fun y => y.engDone id))) ∧
      (o.engine = .d →
        (∀ d, o.instr = .dzero d →
          exec (.drainOpComplete c id) s = .next ((s.accRows (coreOf c) o.acc (16 * d.row.toNat) 16 []).drDone c o 0)) ∧
        (∀ f d, fmtOf (fun _ => o.fmtA) (dpFmt o.card) = some f →
          (o.instr = .drain d ∨ o.instr = .drainM d → exec (.drainOpComplete c id) s = .next (s.drainRows c o f d.row.toNat)) ∧
          (o.instr = .drainv d → exec (.drainOpComplete c id) s = .next (s.drainPiece c o f d)) ∧
          (o.instr = .fill d ∨ o.instr = .fillM d → exec (.drainOpComplete c id) s = .next (s.fillRows c o f d.row.toNat)) ∧
          (o.instr = .fillv d → exec (.drainOpComplete c id) s = .next (s.fillPiece c o f d)))) ∧
      (o.engine = .o →
        (∀ k bf, opForm o.instr = some (k, bf) → exec (.optimiserOpComplete c id) s = .next (s.optDone c o k bf)) ∧
        (∀ p, o.instr = .oclip p → exec (.optimiserOpComplete c id) s = .next (s.accMap c o fun v => (clipElem o.card v, 0))) ∧
        (∀ p, o.instr = .oscale p → exec (.optimiserOpComplete c id) s = .next (s.accMap c o fun v =>
          ((rnd (FVal.mul (decodeVal fp32 v) (opGscale o.card))).bits, (rnd (FVal.mul (decodeVal fp32 v) (opGscale o.card))).flags)))) ∧
      (o.engine = .e → exec (.engineJobComplete c id) s = .next ((s.runJob c o).drain c))) ∧
    (∀ v, x.optTrap = some v → x.state = .running → x.pending = [] → x.switching = none →
      exec (.optimiserTrapTaken c) s = .next ((s.setCtx c { x with optTrap := none }).takeTrap c (plainCause 2 1 v) 0)) ∧
    (∀ k addr bytes st, k < 256 → exec (.waymarkReport k addr bytes st) s = .next (s.report k addr bytes st))) ∧
  (∀ (s : State) (c id cls : Nat) (u : MemUnit) (k : Word128) (off : Nat), c < 1024 → s.fab.removed = false → s.unitDue c id = some u →
    s.unitClass c u = some cls → u.target = .pool k off → u.inStoreQueue = true → s.unitFinding c u = 0 →
    ((c, id) ∉ s.fab.sent → exec (.poolWriteAcknowledgement c id) s = .next (State.sendOpen (s.modFab fun f => { f with sent := (c, id) :: f.sent })
      (some (c, id)) cls (s.poolNode (capObj k)) (poolBody k off u.stepTag u.data) (if u.isStore then u.size else 0))) ∧
    ((c, id) ∈ s.fab.sent → s.flitsOut (c, id) = true → exec (.poolWriteAcknowledgement c id) s = .next s) ∧
    (∀ b n job dst, let t := s.sendOpen job cls dst b n
      t.fab.placed.length + t.fab.owed.length = s.fab.placed.length + s.fab.owed.length + max 1 (ceilDiv n 208)))

/-- Caches, barriers and translations (R328 to R330, R335, R368, R383, R385, R388, R390, R392, R415): write-back and drop of lines, poison from an error
that cannot be corrected, the cycle of a barrier with what reaches it, an owner's recall, an acknowledged invalidation, the copy and the end of a
migration, a near placement and a hint report.
The model's choices it rests on: log entries 5, 20, 34 and 93.
Where a record lives (R359): SREC n in slice (n x 0x9E37) mod 128, at byte 256 x (n div 128) of that slice's share of the table; two records
never share a byte, and the share is 128 KiB. -/
def Obligations.MemorySideEvents : Prop :=
  (∀ (s : State) (cl line : Nat),
    (cl < 32 → exec (.clusterCacheWriteback cl line) s = .next (s.writeback cl line)) ∧
    (∀ k l, cl < 32 → k < 8 → s.line cl line = some l →
      exec (.clusterCacheEccError cl line k true) s = .next (s.modCluster cl fun x => { x with corrected := x.corrected + 1 }) ∧
      (l.dirty &&& chunkMask k ≠ 0 →
        exec (.clusterCacheEccError cl line k false) s = .next (s.setLine cl line { l with poison := l.poison ||| (l.dirty &&& chunkMask k) })) ∧
      (l.dirty = 0 → exec (.clusterCacheEccError cl line k false) s = .next (s.dropLine cl line))) ∧
    (∀ b, cl < 32 → b < 16 → exec (.barrierUpdate cl b) s = .next (s.updateBarrier cl b) ∧
      (s.barrierInputs cl b = [] → s.updateBarrier cl b = s.modBarrier cl b fun x => x.configure.count) ∧
      (∀ c u, s.barrierInputs cl b = [(c, u)] → u.isRelease = false → u.isAcquire = false →
        s.updateBarrier cl b = (s.modBarrier cl b fun x => (x.take u).configure.count).modCtx c fun x =>
          (x.deliver u (s.barrier cl b).phase).endUnit u.id)) ∧
    (∀ (x : Barrier) (u : MemUnit) b, (u.toBarrier = some (b, 0x18) → x.take u = { x with config := some u.data }) ∧
      (u.toBarrier = some (b, 8) → x.take u = { x with arrivals := x.arrivals + 1 }) ∧
      (u.toBarrier = some (b, 0x10) → x.take u = { x with dropsNow := x.dropsNow + 1 })) ∧
    (∀ l, cl < 32 → s.walk (128 * line) = some l → l.tier ≠ 3 → (s.llcLine line).mode = false → (s.llcLine line).run.1 = cl →
      8 ≤ (s.llcLine line).run.2 →
      exec (.atomicPlacementNear line cl) s = .next (s.modLlc line fun x => { x with
        mode := true
        near := some cl })) ∧
    exec (.ownershipRecall line) s = .next (s.recallLine line) ∧
    (∀ k, k < 8 → exec (.llcEccError line k true) s = .next s ∧
      (let x := s.llcLine line
       (x.present = true → x.dirty &&& chunkMask k ≠ 0 →
         exec (.llcEccError line k false) s = .next (s.modLlc line fun y => { y with poison := y.poison ||| (y.dirty &&& chunkMask k) })) ∧
       (x.present = false ∨ x.dirty &&& chunkMask k = 0 → exec (.llcEccError line k false) s = .next s))) ∧
    (∀ ia l, s.walk ia = some l → exec (.carrierMemoryEccError ia true) s = .next s ∧
      (l.tier = 2 → ∃ (t : State) (m : Word128), exec (.carrierMemoryEccError ia false) s = .next t ∧
        (t.llcLine (ia / 128)).poison = ((s.llcLine (ia / 128)).poison ||| (m &&& chunkMask (ia % 128 / 16))) ∧ t.mem = s.mem)) ∧
    (∀ n, n < 128 → ∃ t : State, exec (.translationInvalidateAck n) s = .next t.endInvals ∧
      t.invals = s.invals.map (fun e => { e with waiting := e.waiting &&& ~~~(1#128 <<< n) }) ∧
      (∀ x ∈ t.tlb, x ∈ s.tlb) ∧
      (∀ e ∈ s.invals, e.waiting.getLsbD n = true → ∀ k ∈ e.lines, ∀ w, (tlbKey n k.1 k.2, w) ∉ t.tlb ∨ 2 ^ 40 ≤ k.2 ∨ 4 ≤ k.1)) ∧
    (∀ ia m, s.migrations.find? (fun m => m.ia == ia) = some m → (∀ e ∈ s.invals, e.hdr = none → e.ia ≠ ia) →
      (m.copied = false → exec (.migrationCopyComplete ia) s =
        .next ((s.copyPage m).invalidate (leafKeys m.size ia) (s.dirKeys (leafKeys m.size ia)) none 0 ia)) ∧
      (m.copied = true → exec (.migrationCopyComplete ia) s = .next (s.endMigration m))) ∧
    (∀ n task t i base len reuse misses, n < 128 → s.taskOf task = some t → t.hints[i]? = some (base, len, reuse) →
      (misses ≤ 4096 ∧ 3072 ≤ misses ∧ 2 ≤ reuse) ∨ (misses ≤ 1024 ∧ reuse = 0) → (task, i) ∉ s.fe.hinted →
      exec (.hintWindowCheck n task i misses) s = .next ((State.modFe { s with closed := s.closed.erase (n, task, i, misses) } fun f => { f with hinted := f.hinted ++ [(task, i)] }).postHint
        (task + 2 ^ 16 * i + 2 ^ 24 * reuse + 2 ^ 32 * n) misses base)) ∧
    (∀ n d, s.deltas[n]? = some d → exec (.deltaMerge n) s = .next (State.mergeDelta { s with deltas := s.deltas.eraseIdx n } d))) ∧
  (∀ n m, n < 65536 → m < 65536 →
    (recPlace n).1 = n * 0x9E37 % 128 ∧ (recPlace n).2 = 256 * (n / 128) ∧ (recPlace n).1 < 128 ∧ (recPlace n).2 + 256 ≤ 131072 ∧
    (recPlace n = recPlace m → n = m))

/-- Tiles, walkers and tasks (R122, R256 to R260, R319 to R323, R340, R345 to R352, R443, R445).
The model's choices it rests on: log entries 13, the state kept beside a spill image, and 44. -/
def Obligations.TaskEvents : Prop :=
  ∀ (s : State),
    (∀ c, c < 1024 → (s.ctx c).state = .retiring → (s.ctx c).quiet = true →
      exec (.tileRetired c) s = .next ((s.freeCtx c).tileEnds (s.ctx c).task false)) ∧
    (∀ w x k c, w < 64 → k < 256 → s.walkerOf w = some x → k / 64 = w / 16 → x.cur < x.end_ → s.switchUnderway w x = false →
      (∀ d ∈ ctxsOf k, s.partitionFree d = false) → s.areaFree = true → s.switchVictim k (s.walkerPrio x) = some c →
      exec (.contextSwitchStart w k) s = .next (s.modCtx c fun y => { y with switching := some ([], some w) })) ∧
    (∀ c l area rest, c < 1024 → (s.ctx c).switching = some (l, none) → s.freeAreas = area :: rest → (s.ctx c).state = .running →
      (s.ctx c).quiet = true → (s.ctx c).busy = [] → (s.ctx c).pending = [] →
      let u := ((s.writeImage area c).modFe fun f => { f with
        images := Store.put f.images area (c, { s.ctx c with switching := none }) }).freeCtx c
      exec (.spillSave c) s = .next ((u.setCtx c Ctx.spilledOut).answerSwitch (s.ctx c) 0)) ∧
    (∀ c area old, c < 1024 → s.settleFe.refillImage c = some (area, old) → s.settleFe.refillWaits c old = false →
      let r := s.settleFe.recallRange area areaSize
      r.imageBytes area 0 4 = 0x50534C46 → r.imageBytes area 4 2 = 1 → r.imageBytes area 8 8 = c →
      exec (.refill c) s = .next ((((r.imageStorage area c (r.imageCtx area old)).setCtx c (r.imageCtx area old)).freeArea area).boundary c)) ∧
    (∀ id t, s.taskOf id = some t →
      (t.state = .active → t.checked = false →
        (∀ e, (s.settleFe.launchReads t).prepare id t = .error e →
          exec (.walkerAssign id) s = .next ((s.settleFe.launchReads t).refuseTask id e)) ∧
        (∀ u t' w l, (s.settleFe.launchReads t).prepare id t = .ok u → (u.checkHints id t).taskOf id = some t' → t'.tiles ≠ 0 →
          (u.checkHints id t).freeWalkers (u.checkHints id t).widestDie = w :: l →
          exec (.walkerAssign id) s = .next ((u.checkHints id t).setWalker w
            { task := id, cur := 0, end_ := t'.tiles, forks := 0, asked := none, offer := none, issued := none }))) ∧
      (t.state = .active → t.saved ≠ [] → (s.restoreAll id t.saved).2 = [] →
        exec (.walkerRestore id) s = .next ((s.restoreAll id t.saved).1.modTask id fun t => { t with saved := [] })) ∧
      (t.state = .done → s.settleFe.doneWaits id ((s.settleFe.successors (lrSucc t.record)).getD []) = true →
        exec (.taskDone id) s = .next s.settleFe) ∧
      (∀ l, s.doneWaits id l = true ↔ (∃ e ∈ s.closed, e.2.1 = id) ∨ (l ≠ [] ∧ ∃ cl < 32, s.stuckAny cl = true)) ∧
      (t.state = .done → t.status = 0 → t.aborted = 0 → ∀ l, s.settleFe.successors (lrSucc t.record) = some l → s.settleFe.doneWaits id l = false →
        let v := if lrSucc t.record = 0 then s.settleFe else s.settleFe.feRead (lrSucc t.record) (16 + 8 * l.length)
        let w := if l = [] then v else v.clusters.foldl (fun (u : State) e => u.writebackAll e.1) v
        exec (.taskDone id) s = .next ((State.modFe (State.reportTask (l.foldl (fun (u : State) e => (u.decTask e 1).1) w) id t 0) fun f => { f with
          tasks := Store.del f.tasks id }).lastTask))) ∧
    (∀ w x t c, w < 64 → s.walkerOf w = some x → s.taskOf x.task = some t → x.cur < x.end_ →
      (x.offer = some c → s.eligible c t x.task (some w) = true → exec (.walkerUpdate w) s = .next (s.issueTile w c x t)) ∧
      ((∀ d, x.offer = some d → s.eligible d t x.task (some w) = false) → s.firstEligible (w / 16) t x.task (some w) = some c →
        exec (.walkerUpdate w) s = .next (s.issueTile w c x t))) ∧
    (∀ die c w x t v l, die < 4 → s.forkRequest die = some (c, w, x, t) → s.walkerOf w = some x → x.asked = none → lrSplit t.record = 0 →
      2 * lrMinsplit t.record ≤ x.end_ - x.cur → s.freeWalkers die = v :: l →
      let mid := x.cur + ceilDiv (x.end_ - x.cur) 2
      ∃ u, exec (.forkRequest die) s = .next (State.issueTile u v c
          { task := x.task, cur := mid, end_ := x.end_, forks := 0, asked := some (s.cycles.toNat, mid), offer := none, issued := none } t) ∧
        u.walkerOf w = some { x with
          end_ := mid
          forks := min (x.forks + 1) 65535
          asked := some (s.cycles.toNat, x.end_) }) ∧
    (∀ w, w < 64 → s.saveDue w = true → (∀ e ∈ s.fe.saves, e.1 ≠ w) →
      exec (.walkerSave w) s = .next ((s.saveWalker w).modFe fun f => { f with saves := f.saves.filter fun e => !(e.1 == w) })) ∧
    (∀ p id l t, s.anyFreeWalker = true → s.nextLevel = some p → s.readyAt p = id :: l → s.taskOf id = some t →
      ∃ u, exec .dispatch s = .next u ∧ u.taskOf id = some { t with state := .active } ∧
        u.agenda = (if t.checked then .walkerRestore id else .walkerAssign id) :: s.agenda)

/-- Leases, route sheets, milestones and groups (R288 to R290, R422 to R428, R475, R480, R501 to R503): the answer to a request and to a renewal
once their messages are out, an end and a recall, what the pool discards when a lease lapses, its release not having come, an entry and its retry, the pool's answer to a
commit and what it commits, and the end of a group's phase.
The model's choices it rests on: log entries 11, 20, 57, 84, 87 and 88. -/
def Obligations.LeaseAndGroupEvents : Prop :=
  ∀ (s : State),
    let up : State := { s with pow := { s.pow with ps := 0 } }
    (∀ n x, s.lease n = some x →
      (x.state = .asked → s.flitsOut (x.asker n) = false → s.fabricUp = true → ∀ ok, exec (.leaseGrant n ok) s =
        .next (up.leaseAnswer n x (if up.poolFinding x.cap ≠ 0 then up.poolFinding x.cap else if ok then 0 else 0x11))) ∧
      (x.job = none → x.sheet = none → s.leaseAnswer n x 0 = s.setLease n { x with
          state := .held
          sent := x.out
          granted := s.fab.slot.toNat } ∧
        ∀ st, st ≠ 0 → s.leaseAnswer n x st = s.modFe fun f => { f with leases := Store.del f.leases n }) ∧
      (s.renewalDue x = true → s.leaseOver x = false → s.fab.sent = [(1026, n)] → s.flitsOut (1026, n) = false → s.fabricUp = true →
        let t : State := { s.modFab fun f => { f with sent := [] } with pow := { s.pow with ps := 0 } }
        (t.poolFinding x.cap = 0 → exec (.leaseRenewal n true) s = .next (t.setLease n { x with
          sent := x.out
          granted := s.fab.slot.toNat })) ∧
        (t.poolFinding x.cap ≠ 0 → exec (.leaseRenewal n true) s = .next (t.dropLease n)) ∧
        exec (.leaseRenewal n false) s = .next (t.dropLease n)) ∧
      (s.leaseOver x = true → ∀ ok, exec (.leaseRenewal n ok) s = .next s) ∧
      (x.state = .held → s.leaseOver x = (s.fab.removed || decide (slotsOf 1975000 ≤ s.slotsSince x.sent))) ∧
      (x.state = .recalled → s.leaseOver x = (s.fab.removed || decide (slotsOf 1975000 ≤ s.slotsSince x.sent) ||
        !s.writesOut (capObj x.cap) x.off x.len none)) ∧
      (s.pool.lapses = [] → s.pool.ending = [] → s.leaseOver x = true →
        (s.fab.removed = true → exec (.leaseEnd n) s = .next (s.dropLease n)) ∧
        (s.fab.removed = false → s.leaseExpired x = true → exec (.leaseEnd n) s = .next (s.runOut n x)) ∧
        (s.fab.removed = false → s.leaseExpired x = false →
          let t := (s.dropLease n).leaseMessage (some (1029, 4096 * s.fab.slot.toNat + n)) x.cap x.off ((x.sheet.map (·.1)).getD 0)
          exec (.leaseEnd n) s = .next { t with pool := { t.pool with
            ending := (4096 * s.fab.slot.toNat + n, (x.granted + slotsOf 2000000) % 2 ^ 32) :: t.pool.ending } }))) ∧
    (∀ n k, s.lease n = none →
      let gone : State := { s.discardAll with pool := { s.discardAll.pool with
        lapses := []
        ending := [] } }
      (s.pool.lapses = [k] → s.pool.ending = [] → s.slotsSince k < 2 ^ 31 → exec (.leaseEnd n) s = .next gone) ∧
      (∀ key, s.pool.lapses = [] → s.pool.ending = [(key, k)] →
        (s.flitsOut (1029, key) = true → s.slotsSince k < 2 ^ 31 → exec (.leaseEnd n) s = .next gone) ∧
        (s.flitsOut (1029, key) = true → 2 ^ 31 ≤ s.slotsSince k → exec (.leaseEnd n) s = .next s) ∧
        (s.flitsOut (1029, key) = false → exec (.leaseEnd n) s = .next { s with pool := { s.pool with ending := [] } }))) ∧
    (∀ l obj o, s.poolObj obj = some o →
      ((∃ p ∈ l, p ∈ o.writers) → (s.discardParties l).poolObj obj = some { o with
        token := (o.token + 1) % 2 ^ 32
        cur := (o.provs.filter fun p => !l.contains (p.writer, p.step)).foldl (fun m p => Memory.write m p.at_ p.byte) o.com
        provs := o.provs.filter fun p => !l.contains (p.writer, p.step)
        writers := []
        readers := [] }) ∧
      ((∀ p ∈ l, p ∉ o.writers) → (s.discardParties l).poolObj obj = some { o with readers := o.readers.filter fun p => !l.contains p }) ∧
      (∀ c ∈ (s.discardParties l).pool.held, c ∈ s.pool.held ∧ (s.fab.selfId, c.step) ∉ l)) ∧
    (∀ n x id lo len, s.fe.leases = [(n, x)] → x.state = .held → capObj x.cap = id → x.off < lo + len → lo < x.off + x.len → s.fabricUp = true →
      exec (.leaseRecall id lo len) s = .next (if up.writesOut id x.off x.len none = true then
        (up.evictFrames fun f => f.2.lease == n).setLease n { x with state := .recalled } else up.releaseLease n)) ∧
    (∀ asid step i x, s.sheetOf asid (BitVec.ofNat 64 step) = some x →
      (i < x.count → (Store.get (0, 0) x.states i).1 = 0 →
        s.prefetchable asid (BitVec.ofNat 64 step) = true ∨ (s.oldestStep asid = BitVec.ofNat 64 step ∧ (s.routeEntry x.ia i).kind = 1) →
        (s.prefetchOk (x.ia + 0x40 + 64 * i) 64 = true →
          exec (.routeSheetEntry asid step i) s = .next (s.doEntry asid (BitVec.ofNat 64 step) x i)) ∧
        (s.prefetchOk (x.ia + 0x40 + 64 * i) 64 = false → exec (.routeSheetEntry asid step i) s = .next (s.dropPrefetch 0))) ∧
      (s.oldestStep asid = BitVec.ofNat 64 step →
        let again := fun (e : Nat × Nat × Nat) => e.2.1 == 2 && (s.routeEntry x.ia e.1).kind == 1 && !x.retried.contains e.1
        x.states.filter again ≠ [] →
        exec (.routeRecordRetry asid step) s =
          .next ((s.entriesPending x.ia ((x.states.filter again).map (·.1))).setSheet asid (BitVec.ofNat 64 step) { x with
            retried := x.retried ++ (x.states.filter again).map (·.1)
            states := x.states.filter fun e => !again e }))) ∧
    (∀ asid step m, s.milestone asid step = some m → m.stage = 4 → s.fabricWaits = false →
      s.flitsOut (1027, milestoneKey asid step) = false → s.fabricUp = true →
      ∀ ok, exec (.commitAnswer asid step ok) s = .next (up.commitTaken asid m ok)) ∧
    (∀ asid m,
      ((asid, m.step) ∈ s.pool.discarded → ∀ ok, s.commitTaken asid m ok = (s.discardParties (s.partyOf m.step)).endMilestone asid m 3) ∧
      ((asid, m.step) ∉ s.pool.discarded →
        (m.step ∈ s.pool.committed → s.partyOpen m.step = false → ∀ ok, s.commitTaken asid m ok = s.endCommitted asid m) ∧
        (m.step ∉ s.pool.committed ∨ s.partyOpen m.step = true →
          s.commitTaken asid m false = (s.discardParties (s.partyOf m.step)).endMilestone asid m 3 ∧
          (s.writesOf m.step < m.count ∨ (∃ x ∈ s.together m.step, s.hasAsked x = false) →
            s.commitTaken asid m true = s.commitMessage asid m.step (some m.count)) ∧
          (m.count ≤ s.writesOf m.step → (∀ x ∈ s.together m.step, s.hasAsked x = true) →
            s.commitTaken asid m true = (s.commitSteps (s.together m.step)).endCommitted asid m))) ∧
      (let u := (s.endSheetLeases asid (m.step + 1)).freeStepRecs asid m.step
       ∃ t : State, s.endCommitted asid m = t.endMilestone asid m (if m.deferred.2 = 0 then 0 else 0x13) ∧
        t.fe.committed = Store.put u.fe.committed asid (m.step :: Store.get [] u.fe.committed asid))) ∧
    (∀ l obj o, s.poolObj obj = some o → (∀ c ∈ s.pool.held, c.step ∉ l) → (s.commitSteps l).poolObj obj = some { o with
      com := (o.provs.filter fun p => l.contains p.step).foldl (fun m p => Memory.write m p.at_ p.byte) o.com
      provs := o.provs.filter fun p => !l.contains p.step
      writers := o.writers.filter fun p => !(p.1 == s.fab.selfId && l.contains p.2)
      readers := o.readers.filter fun p => !(p.1 == s.fab.selfId && l.contains p.2) }) ∧
    (∀ asid gid ph g lost, s.group (groupKey asid gid) = some g →
      (∀ q, g.lost = some q → q < ph → exec (.groupPhaseComplete asid gid ph lost) s = .next s) ∧
      (g.armed = true → Store.has g.done ph = false → Store.has g.contribs ph = true → geHas (s.groupOf (groupKey asid gid)) = true →
        (∀ q, g.lost = some q → ph ≤ q) →
        let e := s.groupOf (groupKey asid gid)
        let members := s.phaseMembers { g with lost := if lost && g.lost.isNone then some ph else g.lost } ph
        let u : State := { s with freeCtr := s.freeCtr + g.mlist.length }
        ∃ (t : State) (n v : Nat), exec (.groupPhaseComplete asid gid ph lost) s = .next (t.frameWrite g.cap (geOff e) (4 * n) v).reFrame ∧
          n = geLen e / rfmtBytes (geFmt e) ∧
          v = packCodes 32 ((List.range n).map fun i => foldElem (geRop e) (u.phaseElem g members e (Store.get 0 g.contribs ph) i)) ∧
          ∀ p, s.poolObj (capObj g.cap) = some p → t.poolObj (capObj g.cap) = some { p with
            cur := Memory.writeLE p.cur (geOff e) (4 * n) v
            com := Memory.writeLE p.com (geOff e) (4 * n) v }))

/-- The front end (R435 to R438, R448, R450, R453, R454, R459, R475, R519): a stop's visit and the writes of its registers, which wake the module
from PS1 to PS3, act only while the window answers, and of the pushed image's fields in the DVSEC (R473; that its offsets count from 2^20 is the model's choice, log
entry 66); a circuit stop that halts. -/
def Obligations.FrontEndEvents : Prop :=
  ∀ (s : State),
    (∀ q, q < 128 →
      (s.fe.stopped = false → s.serving = true → exec (.queueFetch q) s = .next { (s.visit q false 4).2 with
        agenda := (s.visit q false 4).1 ++ (s.visit q false 4).2.agenda }) ∧
      (s.fe.stopped = true ∨ s.serving = false → exec (.queueFetch q) s = .next s) ∧
      (s.serving = true →
        (∀ v, exec (.queueHintWrite q v) s = .next (s.wake.hintWrite q v.toNat)) ∧
        exec (.queueReset q) s = .next (s.wake.modQueue q Queue.resetQueue) ∧
        (∀ en, exec (.queueEnWrite q en) s = .next (s.wake.enWrite q en)) ∧
        (∀ v, exec (.qownerWrite q v) s = .next (s.wake.ownerWrite q v.toNat))) ∧
      (s.serving = false → ∀ v w en, exec (.queueHintWrite q v) s = .next s ∧ exec (.queueReset q) s = .next s ∧
        exec (.queueEnWrite q en) s = .next s ∧ exec (.qownerWrite q w) s = .next s)) ∧
    (s.serving = true → ∀ b v, exec (.eventRingConfigWrite b v) s = .next (s.wake.ringConfig b v.toNat)) ∧
    (s.serving = false → (∀ b v, exec (.eventRingConfigWrite b v) s = .next s) ∧
      ∀ f off v, f < 17 → off < 2 ^ 20 → exec (.registerWrite f off v) s = .next s) ∧
    exec .heldFaultRecordWrite s = .next s.writeHeld ∧
    (∀ f off v, f < 17 → off < 2 ^ 20 → s.serving = true → exec (.registerWrite f off v) s = .next (s.wake.windowWrite f off v.toNat)) ∧
    (∀ off v, exec (.registerWrite 0 (2 ^ 20 + off) v) s = .next (s.dvsecWrite off v.toNat)) ∧
    (∀ n, n < 2 ^ 32 → (s.dvsecWrite 0x14 n).pow.img.toNat = s.pow.img.toNat / 2 ^ 32 * 2 ^ 32 + n ∧
      (s.dvsecWrite 0x18 n).pow.img.toNat = s.pow.img.toNat % 2 ^ 32 + 2 ^ 32 * n ∧ (s.dvsecWrite 0x1C n).pow.imgLen.toNat = n) ∧
    (∀ n, exec (.watchdogExpiry n) s = .next (s.firmwareStops n) ∧ exec (.parityError n) s = .next (s.firmwareStops n) ∧
      (s.serving = false → s.firmwareStops n = s) ∧
      (s.serving = true → (s.firmwareStops n).pow.warmAsked = true ∧
        s.firmwareStops n = State.modPow ((s.modFe fun f => { f with stopped := true }).postError 0xFFFF 0 n) fun p => { p with warmAsked := true })) ∧
    (∀ v, v ≤ 16 → (s.serving = true → exec (.frozenItemWrite v) s = .next (s.frozenWrite v)) ∧
      (s.serving = false → exec (.frozenItemWrite v) s = .next s)) ∧
    s.wake.pow.ps = (if s.pow.ps = 4 then 4 else 0)

/-- The packets any queue may carry (R363, R364, R426, R440 to R443): what each does, and the record it posts; ROUTE leaves every entry pending, but for those that fail their
own rules. What one reads of memory, it reads once the writes of the front end that a migration holds are in.
The model's choices it rests on: log entries 40, 43, 54, 102, 112 and, for a ROUTE whose header cannot be read, 100. -/
def Obligations.TaskPackets : Prop :=
  ∀ (h : PktHdr) (s : State),
    exec (.nopPacket h) s = .next (s.complete h 0 0) ∧
    ((∀ e ∈ (s.fe.queue h.queue).open_, h.entry ≤ e) → exec (.fencePacket h) s = .next (s.complete h 0 0)) ∧
    ((∃ e ∈ (s.fe.queue h.queue).open_, e < h.entry) →
      exec (.fencePacket h) s = .next (s.modQueue h.queue fun x => { x with fences := x.fences ++ [(h.entry, h)] })) ∧
    (∀ lrec id step r, lrec % 128 = 0 → id < 2 ^ 14 → s.settleFe.read128 lrec = some r →
      let u := s.settleFe
      let t := freshTask r h.asid step (lrDepcnt r) (.packet h)
      let made := fun (i : Nat) => (.next (((u.feRead lrec 128).createAt i t).modFe fun f => { f with
        aspaces := f.aspaces.map fun e => if e.1 = h.asid ∧ e.2.curStep.toNat < step.toNat then (e.1, { e.2 with curStep := step }) else e }) : Out)
      (Store.has u.fe.tasks id = false → exec (.launch h lrec id false step) s = made id) ∧
      (∀ i, u.freeTask = some i → exec (.launch h lrec id true step) s = made i) ∧
      (Store.has u.fe.tasks id = true → exec (.launch h lrec id false step) s = .next (u.complete h 0x17 0)) ∧
      (u.freeTask = none → exec (.launch h lrec id true step) s = .next (u.complete h 0x0F 0))) ∧
    (∀ id, exec (.ready h id) s = .next ((s.zeroTask id).1.complete h (s.zeroTask id).2 0)) ∧
    (∀ id n, 0 < n → exec (.dec h id n) s = .next ((s.decTask id n).1.complete h (s.decTask id n).2 0)) ∧
    (∀ tid lrec tcmpl, Store.has s.fe.aspaces h.asid = true → tid < 1024 → lrec % 128 = 0 → tcmpl % 16 = 0 → lrec < 2 ^ 52 → tcmpl < 2 ^ 52 →
      exec (.template h tid lrec tcmpl) s = .next ((s.modFe fun f => { f with
        templates := Store.put f.templates (1024 * h.asid + tid) { lrec := lrec, cmpl := tcmpl, tag := h.tag } }).complete h 0 0)) ∧
    (∀ p n, policyBad p = false →
      (∀ id, s.freeRecId h.asid = some id → exec (.recAlloc h n true p) s = .next ((s.allocRec h.asid id p .packet).complete h 0 id)) ∧
      (Store.has s.records n = false → s.recQuotaOk h.asid = true →
        exec (.recAlloc h n false p) s = .next ((s.allocRec h.asid n p .packet).complete h 0 n)) ∧
      (Store.has s.records n = true →
        exec (.recAlloc h n false p) s = .next ((s.postError 0x0012 (pktWord h) n).complete h 0x17 0))) ∧
    (∀ n r, s.recOf h.asid n = some r → r.origin = .packet → exec (.recFree h n) s = .next ((s.freeRec n).complete h 0 0)) ∧
    (∀ a, s.settleFe.homeFault a 64 false = none →
      let u := s.settleFe.feRead a 64
      let v := u.homeRead a 64
      let n := min (bitsN v 32 16) 4096
      let step := BitVec.ofNat 64 (v / 2 ^ 64)
      let p := (u.setSheet h.asid step { ia := a, count := n, states := [], retried := [], bad := false, blocked := false }).entriesPending a
        (List.range n)
      bitsN v 0 32 = 0x53485452 → bitsN v 61 3 = 0 → bitsN v 32 16 ≤ 4096 → bitsN v 128 384 = 0 → bitsN v 48 13 = h.asid →
      exec (.route h a) s = .next ((((List.range n).filter fun i => !(p.routeEntry a i).ok).foldl (fun (t : State) i =>
        t.failEntry h.asid step i (t.routeEntry a i) 0x0100) p).complete h 0 0)) ∧
    (∀ a, s.settleFe.homeFault a 64 false ≠ none → exec (.route h a) s = .next (s.settleFe.complete h 0x15 0))

/-- The packets of a supervisor's queue (R317, R318, R351, R388, R390, R414, R416, R439, R440, R444, R446, R447, R451, R516): from another queue each
completes with PRIVILEGE and does nothing else, but for an ASPACE teardown that was accepted before and whose last task has now ended.
The model's choices it rests on: log entries 44, 46, 59, 96, 97 and, for the VALUE of UNMAP and PROTECT, 101. -/
def Obligations.SupervisorPackets : Prop :=
  ∀ (h : PktHdr) (s : State),
    ((s.fe.queue h.queue).super = false → (∀ a, (a, h) ∉ s.fe.teardownsDue) → ∀ (a b c d e w1 w2 : Nat) (x y : Bool) (u v : Word) (l : List (Nat × Word)),
      ∀ i ∈ [Instr.aspace h a b x c d, .quota h a u v, .config h a b c, .map h a b c d x y e, .unmap h a b, .protect h a b x y,
        .migrate h a b c d e, .segtab h a b c, .resume h a x b l, .abandon h a, .switch h a, .wsave h w1, .fwupdate h a w2],
      exec i s = .next (s.complete h 0x16 0)) ∧
    (∀ asid cls tq d x, (asid, h) ∈ s.fe.teardownsDue → exec (.aspace h asid cls x tq d) s =
      .next (((s.modFe fun f => { f with teardownsDue := f.teardownsDue.erase (asid, h) }).tearDown asid).complete h 0 0)) ∧
    (∀ asid cls tq d l, s.mayAct h [asid] = true → (asid, h) ∉ s.fe.teardownsDue → asid < 8192 → cls < 256 →
      (s.asidLive asid = true → exec (.aspace h asid cls true tq d) s = .next (s.modFe fun f => { f with teardowns := f.teardowns ++ [(asid, h)] })) ∧
      (s.asidLive asid = false → exec (.aspace h asid cls true tq d) s = .next ((s.tearDown asid).complete h 0 0)) ∧
      (s.pagesOk d 256 = true →
        let u := s.feRead d 256
        (u.rangesAt asid d = l.map some → rangesOk (l.filter fun r => r.len != 0) = true →
          exec (.aspace h asid cls false tq d) s = .next ((u.install asid cls tq l).complete h 0 0)) ∧
        ((∃ r ∈ u.rangesAt asid d, r = none) →
          exec (.aspace h asid cls false tq d) s = .next ((u.postError 0x0010 (pktWord h) asid).complete h 0x15 0)))) ∧
    (∀ code t n l, s.mayAct h [] = true → 0 < n → n ≤ 4096 → code < 2 ^ 52 → s.pagesOk t (16 * n) = true →
      let u := s.feRead t (16 * n)
      ((List.range n).map fun i => segEntryOf (u.homeRead (t + 16 * i) 16)) = l.map some →
      exec (.segtab h code t n) s = .next ((u.modFe fun f => { f with segtabs := Store.put f.segtabs code l }).complete h 0 0)) ∧
    (s.mayAct h [] = true →
      (∀ (cls : Nat) (w0 w1 : Word), cls < 256 → w0.toNat % 2 ^ 32 ≤ 3056 → exec (.quota h cls w0 w1) s = .next ((s.modQuota cls fun q => { q with
        qllc := w0.toNat % 2 ^ 32
        qhbmr := w0.toNat / 2 ^ 32
        qhbmp := w1.toNat % 2 ^ 32
        qcar := w1.toNat / 2 ^ 32 }).complete h 0 0)) ∧
      (∀ size base n, size ≤ 131072 → n < 2 ^ 16 → base < 2 ^ 52 → exec (.config h size base n) s = .next (State.checkConfig (State.shrink (s.modFe fun f => { f with
        poolGoal := size
        spill := (base, n)
        configWait := f.configWait ++ [(h, base, n)] })))) ∧
      (∀ w, w < 64 → exec (.wsave h w) s = .next (s.modFe fun f => { f with saves := f.saves ++ [(w, some h)] })) ∧
      (∀ a n, s.anyFrozen = false → 0 < n → a + n ≤ 2 ^ 52 → s.pagesOk a n = true →
        let u := s.feRead a n
        exec (.fwupdate h a n) s = .next (if Config.signatureOk (u.homeRead a n) n then u.modFe fun f => { f with imageWrite := f.imageWrite ++ [h] }
          else u.complete h 0x15 0))) ∧
    s.imageWritten = s.fe.imageWrite.foldl (fun t g => t.storeImage.complete g 0 0) s ∧
    (s.mayAct h [h.named] = true →
      (∀ ia size, size < 4 → ia + pageBytes size ≤ 2 ^ 52 →
        let t := s.settle ia (pageBytes size)
        let l := t.pagesIn ia (pageBytes size)
        allInside l ia (pageBytes size) = true →
          exec (.unmap h ia size) s =
            .next ((l.foldl State.dropPage t).invalidate (linesOfPages l) (t.dirKeys (linesOfPages l)) (some h) (linesOfPages l).length ia) ∧
          (∀ r w,
            let m := l.filter fun e => t.rightsChange r w e
            exec (.protect h ia size r w) s = .next ((m.foldl (fun u e => u.protectPage r w e) t).invalidate (linesOfPages m)
              (t.dirKeys (linesOfPages m)) (some h) (linesOfPages m).length ia)))) ∧
    (s.mayAct h [h.named] = false → ∀ ia size r w, exec (.unmap h ia size) s = .next (s.complete h 0x16 0) ∧
      exec (.protect h ia size r w) s = .next (s.complete h 0x16 0)) ∧
    (∀ asid ia pa size tier, s.mayAct h [asid] = true → size < 4 → ia % pageBytes size = 0 → pa % pageBytes size = 0 →
      ia + pageBytes size ≤ 2 ^ 52 → pa + pageBytes size ≤ 2 ^ 52 → asid < 8192 →
      let t := s.settle ia (pageBytes size)
      (tier < 4 → s.stackOut pa tier = false → allInside (t.pagesIn ia (pageBytes size)) ia (pageBytes size) = true →
        let u := (t.pagesIn ia (pageBytes size)).foldl State.dropPage t
        u.pageFits asid tier size = true → ∀ r w,
          let v := (u.setLeaves size ia fun i => leafWord size pa tier i r w).chargePage ia asid tier size
          let gone := linesOfPages (t.pagesIn ia (pageBytes size))
          let new := leafKeys size ia ++ t.nodesMade v size ia
          exec (.map h ia pa size tier r w asid) s = .next (v.invalidate (gone ++ new) (t.dirKeys gone ++ v.dirKeys new) (some h) 0 ia)) ∧
      (tier < 3 → ∀ l, t.tableWalk ia = some l → l.valid = true → l.size = pageBytes size → l.tier ≠ 3 →
        ∃ u : State, exec (.migrate h ia pa size tier asid) s = .next (u.invalidate (leafKeys size ia) (u.dirKeys (leafKeys size ia)) none 0 ia) ∧
          u.migrations = t.migrations ++ [{ ia := ia, pa := pa, size := size, tier := tier, held := [], copied := false, hdr := h }])) ∧
    (∀ ctx, ctx < 1024 → s.mayAct h (s.asidsOf ctx) = true →
      ((s.ctx ctx).state = .frozen →
        exec (.abandon h ctx) s = .next ((s.abandon ctx).complete h 0 0) ∧
        exec (.resume h ctx false 0 []) s = .next (((s.setCtx ctx (s.ctx ctx)).resume ctx).complete h 0 0) ∧
        (∀ pc, pc % 16 = 0 → mayReplace (s.ctx ctx) = true →
          exec (.resume h ctx true pc []) s = .next (((s.setCtx ctx { s.ctx ctx with
            csr := { (s.ctx ctx).csr with trapPc := BitVec.ofNat 64 pc }
            frozen := (s.ctx ctx).frozen.map fun n => { n with reps := 0 } }).resume ctx).complete h 0 0))) ∧
      ((s.ctx ctx).state = .running → (s.ctx ctx).switching = none → s.areaFree = true →
        exec (.switch h ctx) s = .next (s.setCtx ctx { s.ctx ctx with switching := some ([h], none) })) ∧
      ((s.ctx ctx).state = .running → (s.ctx ctx).switching = none → s.areaFree = false →
        exec (.switch h ctx) s = .next (s.complete h 0x1B 0)) ∧
      ((s.ctx ctx).state ≠ .frozen → exec (.abandon h ctx) s = .next (s.notFrozen h ctx)))

/-- Device interfaces and the host's coherent agent (R456 to R463): locking gives a nonce that starts the interface, stopping scrubs it,
an integrity failure or a reset of a locked one makes it fail; before step 4 of a start none of it is served; a granule's return, and the host's
access to device memory, where a write to a page under migration is held with the page's others.
The model's choices it rests on: log entries 16, 20 and 41; a read of bytes that are so held is out of this statement. -/
def Obligations.InterfaceEvents : Prop :=
  ∀ (s : State) (v : Nat), v ≤ 16 →
    let x := s.vf v
    (s.serving = false → ∀ n a b c d,
      exec (.lockInterfaceRequest v) s = .next s ∧ exec (.startInterfaceRequest v n) s = .next s ∧ exec (.stopInterfaceRequest v) s = .next s ∧
      exec (.getDeviceInterfaceReport v) s = .next s ∧ exec (.ideIntegrityFailure v) s = .next s ∧ exec (.functionLevelReset v) s = .next s ∧
      exec (.spdmAlgorithmNegotiation a b c d) s = .next s ∧ (∀ w hpa k data, exec (.hostHdmAccess w hpa k data) s = .next s)) ∧
    (s.serving = true →
    (0 < v → x.state = 0 → x.ide = true → exec (.lockInterfaceRequest v) s = .next ((State.spend (s.setVf v { x with
      state := 1
      nonce := some (BitVec.ofNat 64 s.free) })).answerHost 1 (leBytes 8 s.free))) ∧
    (0 < v → x.state = 1 → x.stopping = false → ∀ n, x.nonce = some n → exec (.startInterfaceRequest v n) s = .next ((s.setVf v { x with
      state := 2
      nonce := none }).answerHost 1 [])) ∧
    (x.state ≠ 1 ∨ (∃ n, x.nonce = some n ∧ n ≠ 0) → exec (.startInterfaceRequest v 0) s = .next (s.answerHost 2 [])) ∧
    (0 < v → x.state ≠ 0 → x.state ≠ 3 →
      let t := (s.queuesOf v).foldl (fun t q => t.modQueue q Queue.resetQueue) s
      t.tasksOfVf v = [] → exec (.stopInterfaceRequest v) s = .next (((t.scrub v).setVf v { x with
        state := 0
        nonce := none
        stopping := false }).answerHost 1 [])) ∧
    (s.vfFrozen v = true → exec (.getDeviceInterfaceReport v) s = .next (s.answerHost 1 (s.deviceReport v)) ∧
      exec (.functionLevelReset v) s = .next (s.interfaceError v)) ∧
    (s.vfFrozen v = false → exec (.getDeviceInterfaceReport v) s = .next (s.answerHost 2 [])) ∧
    exec (.ideIntegrityFailure v) s = .next (s.frozenWrite v) ∧
    exec (.spdmAlgorithmNegotiation 1 1 1 1) s = .next ((s.keyStreams.spend).answerHost 1 []) ∧
    (∀ a b c d, ¬(a = 1 ∧ b = 1 ∧ c = 1 ∧ d = 1) → exec (.spdmAlgorithmNegotiation a b c d) s = .next (s.answerHost 2 []))) ∧
    (∀ g, exec (.snpinv g) s = .next ((s.returnData g).dropGranule g) ∧
      exec (.cxlCapacityEviction g) s = .next ((s.returnData g).dropGranule g) ∧
      (∀ e, s.granule g = some e →
        exec (.snpdata g) s = .next ((s.returnData g).modHost fun h => { h with agent := Store.put h.agent g { e with mesi := .s } }))) ∧
    (s.serving = true → ∀ hpa n (data : VWord), s.host.hdm.1 ≤ hpa → hpa + n ≤ s.host.hdm.1 + s.host.hdm.2.2 → 0 < n → n ≤ 128 →
      let ia := s.host.hdm.2.1 + (hpa - s.host.hdm.1)
      (∀ i < n, (s.leafFor (ia + i) true).isSome = true) →
        exec (.hostHdmAccess true hpa n data) s = .next (((linesOf ia n).foldl (fun t l => t.recallLine l) s).homeWriteN ia n data.toNat)) ∧
    (s.serving = true → ∀ hpa n (data : VWord), s.host.hdm.1 ≤ hpa → hpa + n ≤ s.host.hdm.1 + s.host.hdm.2.2 → 0 < n → n ≤ 128 →
      let ia := s.host.hdm.2.1 + (hpa - s.host.hdm.1)
      (∀ i < n, (s.leafFor (ia + i) false).isSome = true) → s.heldBy agentFe ia n = false →
      let t := ((linesOf ia n).foldl (fun t l => t.recallLine l) s).homeTouch ia n false
      t.homeFault ia n false = none →
        exec (.hostHdmAccess false hpa n data) s = .next (((linesOf ia n).foldl (fun u l => u.trackLine l) t).answerHost 1 (leBytes n (t.homeRead ia n))))

/-- Starts and power (R469 to R476): a stage that succeeds or fails, the requests for a start, power states,
the throttle's steps and the thermal trip, after which nothing of its cycle follows.
The model's choices it rests on: log entries 20, 47 and 97. -/
def Obligations.PowerEvents : Prop :=
  ∀ (s : State),
    (s.pow.coldAsked = true → exec (.coldStart true) s = .next (s.restart false) ∧ exec (.coldStart false) s = .next s.failCold) ∧
    (s.pow.coldAsked = false → s.pow.on = true → s.pow.start = some false →
      exec (.coldStart true) s = .next s.nextStage ∧ exec (.coldStart false) s = .next s.failCold) ∧
    (s.pow.warmAsked = true → s.pow.on = true → exec (.warmStart true) s = .next (s.restart true) ∧
      exec (.warmStart false) s = .next ((s.restart true).modPow fun p => { p with
        start := none
        coldAsked := true })) ∧
    (∀ warm, (s.restart warm).cycles = if warm then s.cycles else 0) ∧
    (s.pow.stage = 1 → s.fe.imageBad = true → s.nextStage = s.modPow fun p => { p with
      recovery := true
      start := none }) ∧
    (s.pow.stage = 1 → s.fe.imageBad = false → s.nextStage.pow.stage = 2 ∧ s.nextStage.host.alias_ = s.nextStage.fe.image ∧
      s.nextStage.fe.image = s.fe.pendingImage.getD s.fe.image) ∧
    ((s.fab.timing ≠ .locked → s.pow.stage = 4 → s.nextStage = s) ∧
      (s.fab.timing = .locked → s.pow.stage = 4 → s.nextStage = s.modPow fun p => { p with stage := 5 })) ∧
    (s.pow.warmAsked = false → s.pow.start = some true → s.pow.stage ≠ 1 →
      exec (.warmStart true) s = .next s.nextStage ∧
      exec (.warmStart false) s = .next (s.modPow fun p => { p with
        start := none
        coldAsked := true })) ∧
    (s.pow.recovery = false → s.anyFrozen = false → exec .warm s = .next (s.modPow fun p => { p with warmAsked := true })) ∧
    (s.pow.recovery = true → exec .warm s = .next s) ∧
    (s.pow.start = some false → exec .startTimeout s = .next s.failCold) ∧
    (s.pow.tol ≠ 0 → s.serving = true → s.pow.ps ≠ 4 → exec .powerStateEntry s = .next (s.modPow fun p => { p with ps := s.deepest })) ∧
    (∀ v, s.pow.ps = 4 → v.toNat < exitLatency 4 → exec (.tolWrite v) s = .next ((s.modPow fun p => { p with tol := v }).wakeUp)) ∧
    (∀ v, s.pow.ps = 4 → exitLatency 4 ≤ v.toNat → exec (.tolWrite v) s = .next (s.modPow fun p => { p with tol := v })) ∧
    (s.pow.ps = 1 → ∀ b, exec (.powerStateWake true b) s = .next s.wakeUp ∧ exec (.powerStateWake b true) s = .next s.wakeUp) ∧
    (s.pow.ps = 3 → exec (.powerStateWake true false) s = .next s.wakeUp ∧ exec (.powerStateWake false true) s = .next s) ∧
    (∀ t : BitVec 8, 100 ≤ t.toNat → ∃ u, exec (.throttleStep t) s = .next u ∧ u.pow.clock = max 500 (s.pow.clock - 250) ∧ u.pow.throttle = true) ∧
    (∀ t : BitVec 8, t.toNat < 95 → ∃ u, exec (.throttleStep t) s = .next u ∧ u.pow.clock = min 2000 (s.pow.clock + 250) ∧
      u.pow.throttle = (s.pow.throttle && min 2000 (s.pow.clock + 250) != 2000)) ∧
    (∀ t : BitVec 8, 95 ≤ t.toNat → t.toNat < 100 → ∃ u, exec (.throttleStep t) s = .next u ∧ u.pow.clock = s.pow.clock) ∧
    (∀ t : BitVec 8, 110 ≤ t.toNat → ∃ u, exec (.thermalTrip t) s = .next u ∧ u.pow.on = false ∧ u.pow.start = none ∧ u.pow.stage = 1 ∧
      u.pow.coldAsked = false ∧ u.pow.warmAsked = false ∧ u.agenda = [] ∧ u.late = [] ∧ u.round = [] ∧ u.issueQ = [] ∧ u.host.agent = [])

/-- GO (R474): ignored outside recovery mode; in recovery mode the image of IMGLEN bytes at IMG is checked: an accepted one is stored,
RESULT becomes 2 and a cold start is asked for; a refused one leaves the store unchanged and RESULT becomes 3. -/
def Obligations.GoInRecovery : Prop :=
  ∀ (s : State),
    (s.pow.recovery = false → exec .go s = .next s) ∧
    (s.pow.recovery = true →
      exec .go s = .next (if Config.signatureOk (Memory.readLE s.hostMem s.pow.img.toNat s.pow.imgLen.toNat) s.pow.imgLen.toNat then
        s.storeImage.modPow fun p => { p with
          result := 2
          coldAsked := true }
      else s.modPow fun p => { p with result := 3 }))

/-- The fabric (R475, R477 to R496, R505, R506): slots and time, what a port and the tables do with a flit, pauses, fences and returns of a port,
receptions, releases and aborts of a stream, and the changes of membership, which are taken in the order of their epochs.
A flit, a membership message or an abort does nothing where the module takes no part in the fabric (before step 4 of a start, in recovery, in PS3
and PS4, without power).
The model's choices it rests on: log entries 15, 20, 52, 53, 61, 84 and 85. -/
def Obligations.FabricEvents : Prop :=
  ∀ (s : State),
    (let e := s.exchanges
     let u := e.sendPlaced.acknowledge
     let v := (u.modFab fun f => { f with
        slot := f.slot + 1
        phase := f.phase - 53760
        elapsed := f.elapsed + 1
        holdover := if f.timing == .locked then 0 else f.holdover + 1 }).placeOwed.endExchange
     e.fab.timing.sends e.fab.slot.toNat = true → (u.fab.slot + 1).toNat % 64 ≠ 0 → v.fab.forward = [] → exec .slotBoundary s = .next v.endExpired) ∧
    s.endExpired = { s with agenda := ((s.fe.leases.filter fun e => e.2.state != .asked && s.leaseExpired e.2).map fun e => Instr.leaseEnd e.1) ++
      s.agenda } ∧
    (s.fab.placed = [] → s.fab.owed = [] → (∀ p, s.partner p = none) → (s.fab.slot + 1).toNat % 64 ≠ 0 → ∃ t, exec .slotBoundary s = .next t ∧ t.fab.slot = s.fab.slot + 1 ∧
      t.fab.placed = [] ∧ t.fab.timing = s.fab.timing) ∧
    (∀ x p, s.fab.forward = [x] → planeFor s.fab.slot.toNat (distance s.fab.selfId x.dst) = some p → s.portUsable p = true →
      s.fab.timing.sends s.fab.slot.toNat = true → (s.toSend p false).length < s.shares.1 → (s.port p).retry.length < 768 →
      ∃ t, exec .flitForward s = .next t ∧ t.fab.forward = [] ∧ (t.port p).retry = (s.port p).retry ++
        [{ slot := s.fab.slot.toNat, port := p, flit := { x with stamp := s.fab.slot.toNat, fwd := false }, job := none, via := none }]) ∧
    (∀ p fr, p < 16 → (s.port p).healthy = true → s.fab.timing ≠ .locked → s.fab.timeSet = true →
      let frame := fr % 2 ^ 26
      let lock := fun (phase : Int) => s.modFab fun f => { f with
        timing := .locked
        holdover := 0
        lockPort := some p
        relock := none
        exchange := false
        phase := phase
        trimNext := 0 }
      (∀ d, s.fab.relock = some (p, some d) → s.fab.slot.toNat = 64 * frame →
        exec (.relock p fr true) s = .next ((lock (s.fab.phase - d)).fabricError 0x0342).endExpired) ∧
      (s.fab.relock = some (p, none) →
        exec (.relock p fr false) s = .next (((lock 0).setCounter (64 * frame)).fabricError 0x0342).endExpired) ∧
      (∀ g, s.fab.relock = none ∨ (∃ q d, s.fab.relock = some (q, d) ∧ (q ≠ p ∨ d.isSome ≠ g)) ∨ (g = true ∧ s.fab.slot.toNat ≠ 64 * frame) →
        exec (.relock p fr g) s = .next s)) ∧
    (s.fab.timing = .phase1 → s.fab.relock = none → slotsOf 250000000 ≤ s.fab.holdover →
      exec .phase2Entry s = .next ((s.modFab fun f => { f with timing := .phase2 }).fabricError 0x0340)) ∧
    (s.fab.timing = .phase2 → s.fab.relock = none → slotsOf 2250000000 ≤ s.fab.holdover →
      exec .nosyncEntry s = .next (((s.modFab fun f => { f with timing := .nosync }).failPlaced 5).fabricError 0x0341)) ∧
    (∀ l, s.fab.timing = .phase2 → s.fab.exchange = true → s.samplesDone exchangeJob 0xFFFF 1 = true → l = s.kept exchangeJob → l ≠ [] →
      exec (.holdoverExchange l) s = .next (s.modFab fun f => { f with
        trimNext := f.trimNext + trimOf l
        exchange := false })) ∧
    (∀ p, p < 16 →
      ((s.port p).fenced = false → (s.port p).pausedAt = none →
        exec (.portPause p) s = .next (s.modPort p fun x => { x with
          pausedAt := some s.fab.elapsed
          retrained := false
          cleanSince := none })) ∧
      ((s.port p).fenced = true → (s.port p).pausedAt = none →
        exec (.portPause p) s = .next (s.modPort p fun x => { x with
          retrained := false
          cleanSince := none })) ∧
      ((s.port p).pausedAt.isSome = true → exec (.portRetrain p) s = .next (s.modPort p fun x => { x with
        pausedAt := none
        retrained := true
        cleanSince := some s.fab.elapsed })) ∧
      (s.fenceDue p = true → (∀ e ∈ (s.port p).retry, e.flit.src = s.fab.selfId) →
        let t := State.displace (State.replace (s.modPort p fun x => { x with
          fenced := true
          retrained := false
          retry := [] }) (s.port p).retry 6) (fun e => e.port == p) 6
        exec (.portFence p) s = .next ((if t.allFenced = true then t.failWindowed 6 else t).fabricError (0x0300 + p))) ∧
      (s.rejoinDue p = true → exec (.portRejoin p) s = .next ((s.modPort p fun x => { x with
        fenced := false
        pausedAt := none }).fabricError (0x0320 + p)))) ∧
    (∀ p f, p < 16 → s.fabricUp = false ∨ s.portUp p = false → exec (.flitReceive p f) s = .next s) ∧
    (∀ p f, p < 16 → s.fabricUp = true → s.portUp p = true → s.stampOk f = true → flitHeaderOk f = true → f.fwd = false →
      (f.cls = 4 → ∃ t, exec (.flitReceive p f) s = .next t ∧ t.agenda = .dataReceive f :: s.agenda) ∧
      (f.cls = 5 → ∃ t, exec (.flitReceive p f) s = .next t ∧ t.agenda = .enqReceive f :: s.agenda) ∧
      (f.cls = 6 → ∃ t, exec (.flitReceive p f) s = .next t ∧ t.agenda = .arriveReceive f :: s.agenda)) ∧
    (∀ p f, p < 16 → s.fabricUp = true → s.portUp p = true → s.stampOk f = false ∨ flitHeaderOk f = false → (s.port p).lastRefusal ≠ some (s.fab.slot.toNat / 64) →
      exec (.flitReceive p f) s = .next ((s.modPort p fun x => { x with lastRefusal := some (s.fab.slot.toNat / 64) }).fabricError (0x0360 + p))) ∧
    (∀ f ia len b, s.fab.windows.find? (fun e => e.1 == flitStream f) = some (flitStream f, ia, len, b) →
      let k := streamKey f.src (flitStream f)
      let n := f.len + 1 - 8
      let first := nearest (s.prefixOf k) f.ofs
      let at_ := bitsN f.payload.toNat 0 64
      let u := s.noteMessage k first n
      let m := u.messageOf k first n
      let start := (at_ + 2 ^ 64 - (first - m.1) % 2 ^ 64) % 2 ^ 64
      let fits := start + (m.2 - m.1) ≤ len
      s.fab.arrived = [] →
        (fits → s.migOver (ia + at_) n = false → exec (.dataReceive f) s =
          .next ((((u.writeData k first (ia + at_) f).countBytes k first n).ackData f first).askRelease f.src (flitStream f))) ∧
        (fits → s.migOver (ia + at_) n = true → exec (.dataReceive f) s = .next (u.modFab fun b => { b with arrived := [f] })) ∧
        (¬fits → ∃ t, exec (.dataReceive f) s = .next t ∧ t.mem = s.mem ∧ t.hostMem = s.hostMem ∧
          (f.src, m.2 % 2 ^ 16, 8) ∈ t.fab.acks ∧
          ((k, s.messageOf k first n) ∈ s.fab.messages → t.fab.held = s.fab.held))) ∧
    (∀ f, exec (.enqReceive f) s = .next (s.takeMessage { f with cls := 5 }) ∧
      exec (.arriveReceive f) s = .next (s.takeMessage { f with cls := 6 })) ∧
    (∀ src n, ∃ t l, exec (.heldMessageRelease src n) s = .next t ∧
      t = l.foldl (fun t m => t.actMessage m) (s.modFab fun f => { f with held := f.held.filter fun m => decide (m ∉ l) }) ∧
      l = s.fab.held.filter fun m => m.flit.src == src && flitStream m.flit == n && decide (m.count ≤ s.prefixOf (streamKey src n))) ∧
    (s.fabricUp = false → ∀ src n c e id, exec (.streamAbort src n c) s = .next s ∧ exec (.membershipAdd e id) s = .next s ∧
      exec (.membershipRemove e id) s = .next s) ∧
    (s.fabricUp = true →
      let u : State := { s with pow := { s.pow with ps := 0 } }
      (∀ src n c, exec (.streamAbort src n c) s = .next ((u.rejectHeld src n fun _ => true).countBytes (streamKey src n)
        (s.prefixOf (streamKey src n)) (c - s.prefixOf (streamKey src n)))) ∧
      (∀ e id, s.epochNext e = true → id ≠ s.fab.selfId →
        exec (.membershipAdd e id) s = .next (State.memberRecord ((u.modFab fun f => { f with epoch := e }).modFab fun f =>
          { f.clearPeers (fun p => p == id) with members := insertNat id f.members }) 0x0402 e) ∧
        exec (.membershipRemove e id) s = .next (((u.modFab fun f => { f with epoch := e }).removePeer id).memberRecord 0x0401 e)) ∧
      (∀ e, s.epochNext e = true →
        exec (.membershipRemove e s.fab.selfId) s = .next ((u.modFab fun f => { f with epoch := e }).removeSelf.memberRecord 0x0400 e)) ∧
      (∀ e id, s.epochNext e = false → exec (.membershipAdd e id) s = .next u ∧ exec (.membershipRemove e id) s = .next u))

/-- FRAME_PULSE (R470, R484, R486): on a port that is in service, a missing or invalid pulse clears the count of good ones and counts among the bad
ones, two of which end the port's health; a valid one carries its frame number, and a port with four in order, none of them at odds with a
locked counter, is healthy; the other ports stay. A pulse at odds with the locked counter posts the fabric error record 0x0343. Without a healthy
port a locked module goes into phase 1; with one, a module whose time was never set takes its time from the lowest healthy port and locks; the lock
leaves a healthy port for a lower one at the pulse after the one that made the lower one healthy; in holdover and NOSYNC a healthy port's pulse
brings a relock, at the next frame boundary where it agrees with the counter, else at the port's next pulse. While locked, the slot's time follows the
pulses of the port it is locked to. Beside the pulse's own record nothing of the front end or host memory changes; flits of a job are taken out of a
port's retry buffer only where the counter jumps and the job cannot be placed again.
The model's choices it rests on: log entry 61 (a wrong frame number counts only while timing is locked and outside the guard; the guard that a relock
is held to; how the locked counter follows). -/
def Obligations.FramePulses : Prop :=
  ∀ (s : State) (p fr : Nat) (valid : Bool), p < 16 →
    (s.portUp p = false → exec (.framePulse p valid fr) s = .next s) ∧
    (s.portUp p = true →
      let x := s.port p
      let frame := fr % 2 ^ 26
      let wrong := s.fab.timeSet && s.fab.timing == .locked && decide (frame ≠ s.fab.slot.toNat / 64) && !s.inGuard frame
      let good := if x.good ≠ 0 ∧ frame ≠ (x.frame + 1) % 2 ^ 26 then 1 else x.good + 1
      let y : Port := if valid then { x with
          good := good
          bad := 0
          frame := frame
          healthy := !wrong && (x.healthy || decide (4 ≤ good)) }
        else { x with
          good := 0
          bad := x.bad + 1
          healthy := x.healthy && decide (x.bad + 1 < 2) }
      let r := s.modPort p fun _ => y
      let u := if valid = true ∧ wrong = true then r.postError 0x0343 0 s.fab.slot.toNat else r
      ∃ t, exec (.framePulse p valid fr) s = .next t ∧ t.fe = u.fe ∧ t.hostMem = u.hostMem ∧
      (∀ q, ({ t.port q with retry := [] } : Port) = { (if q = p then y else s.port q) with retry := [] }) ∧
      (s.fab.timing ≠ .locked ∨ s.fab.placed = [] → t.port p = y ∧ ∀ q, q ≠ p → t.port q = s.port q) ∧
      (t.healthyPort = none → s.fab.timing = .locked → t.fab.timing = .phase1 ∧ t.fab.holdover = 0) ∧
      (∀ q, t.healthyPort = some q → s.fab.timeSet = false → t.fab.timing = .locked ∧ t.fab.timeSet = true ∧
        t.fab.slot = BitVec.ofNat 32 (64 * (t.port q).frame) ∧ t.fab.phase = 0) ∧
      (∀ q, t.healthyPort = some q → s.fab.timeSet = true → s.fab.timing = .locked →
        (valid = true → t.fab.lockPort = some p →
          (s.inGuard frame = true → t.fab.slot = s.fab.slot ∧
            t.fab.phase = s.fab.phase - (if s.fab.slot.toNat % 64 = 0 then s.fab.phase else s.fab.phase - 53760)) ∧
          (s.inGuard frame = false → frame = s.fab.slot.toNat / 64 → t.fab.slot.toNat = 64 * frame ∧ t.fab.phase = 0) ∧
          (s.inGuard frame = false → frame ≠ s.fab.slot.toNat / 64 → t.fab.slot = s.fab.slot ∧ t.fab.phase = s.fab.phase)) ∧
        (valid = false ∨ t.fab.lockPort ≠ some p → t.fab.slot = s.fab.slot ∧ t.fab.phase = s.fab.phase)) ∧
      (∀ q l, t.healthyPort = some q → s.fab.timeSet = true → s.fab.timing = .locked → s.fab.lockPort = some l → (t.port l).healthy = true →
        t.fab.lockPort = some (if p = q ∧ valid = true ∧ x.healthy = true then q else l)) ∧
      (s.fab.timeSet = true → s.fab.timing ≠ .locked → valid = true → y.healthy = true →
        (s.fab.relock = none → t.fab.relock = some (p, if s.inGuard frame then
          some (if s.fab.slot.toNat % 64 = 0 then s.fab.phase else s.fab.phase - 53760) else none)) ∧
        (s.fab.relock = some (p, none) → t.agenda = ((s.fe.leases.filter fun e => e.2.state != .asked && s.leaseExpired e.2).map fun e =>
          Instr.leaseEnd e.1) ++ .relock p frame false :: s.agenda)))

/-- An event of a unit that the module does not have stops with `noSuchUnit` (R6, R334, R345, R382, R435, R453, R484: 1,024 contexts, 256 cores, 32
clusters with 16 barriers each, 4 dies with 16 walkers each, 128 slices, 128 queues, 17 functions and 16 ports).
The model's choices it rests on: log entry 65. -/
def Obligations.UnitsOutOfRange : Prop :=
  ∀ (s : State) (n m : Nat) (b : Bool) (w : Word) (f : Flit),
    (1024 ≤ n → ∀ i ∈ [Instr.landing n, .loopEndMark n, .segmentBoundaryMark n, .segmentMiss n, .hiddenResultWrite n m, .hallocComplete n m,
      .handleStorageRelease n m, .matrixOpComplete n m, .drainOpComplete n m, .optimiserOpComplete n m, .optimiserTrapTaken n,
      .engineJobComplete n m, .pageFault n m, .poolReject n m, .poolWriteAcknowledgement n m, .tileRetired n, .spillSave n, .refill n],
      exec i s = .fault .noSuchUnit) ∧
    (256 ≤ n → ∀ i ∈ [Instr.segmentCopyComplete n m, .junctionCycle n, .rotationRebase n, .contextSwitchStart m n], exec i s = .fault .noSuchUnit) ∧
    (128 ≤ n → ∀ k, exec (.hintWindowCheck n m k k) s = .fault .noSuchUnit ∧ ∀ v, exec (.queueHintWrite n v) s = .fault .noSuchUnit) ∧
    (256 ≤ n → ∀ k, exec (.waymarkReport n m k k) s = .fault .noSuchUnit) ∧
    (16 ≤ n → exec (.barrierUpdate m n) s = .fault .noSuchUnit) ∧
    (8 ≤ n → ∀ k, exec (.clusterCacheEccError m k n b) s = .fault .noSuchUnit) ∧
    (128 ≤ n → ∀ i ∈ [Instr.translationInvalidateAck n, .queueFetch n, .queueReset n, .queueEnWrite n b, .qownerWrite n w],
      exec i s = .fault .noSuchUnit) ∧
    (64 ≤ n → ∀ i ∈ [Instr.walkerUpdate n, .walkerSave n, .contextSwitchStart n m], exec i s = .fault .noSuchUnit) ∧
    (32 ≤ n → ∀ i ∈ [Instr.clusterCacheWriteback n m, .clusterCacheEccError n m 0 b, .barrierUpdate n m, .atomicPlacementNear m n],
      exec i s = .fault .noSuchUnit) ∧
    (16 < n → ∀ i ∈ [Instr.lockInterfaceRequest n, .startInterfaceRequest n w, .stopInterfaceRequest n, .getDeviceInterfaceReport n,
      .ideIntegrityFailure n, .functionLevelReset n, .frozenItemWrite n, .registerWrite n m w], exec i s = .fault .noSuchUnit) ∧
    (16 ≤ n → ∀ i ∈ [Instr.framePulse n b m, .relock n m b, .portPause n, .portRetrain n, .portFence n, .portRejoin n, .flitReceive n f],
      exec i s = .fault .noSuchUnit) ∧
    (4 ≤ n → exec (.forkRequest n) s = .fault .noSuchUnit ∧ exec (.segmentCopyComplete m n) s = .fault .noSuchUnit) ∧
    (8 ≤ n → exec (.llcEccError m n b) s = .fault .noSuchUnit)
end

