-- ==== Sys2Proof/Laws/State.lean ====
section
/-! SUPPORT. What each small update of the state leaves: one lemma for each field and update, so that no proof unfolds a record update,
and reading back what an update wrote. -/

namespace Sys2Proof.Machine

variable (s : State)

/-! ## setCtx -/

@[simp] theorem State.setCtx_cycles (c : Nat) (x : Ctx) : (s.setCtx c x).cycles = s.cycles := rfl
@[simp] theorem State.setCtx_cores (c : Nat) (x : Ctx) : (s.setCtx c x).cores = s.cores := rfl
@[simp] theorem State.setCtx_clusters (c : Nat) (x : Ctx) : (s.setCtx c x).clusters = s.clusters := rfl
@[simp] theorem State.setCtx_mem (c : Nat) (x : Ctx) : (s.setCtx c x).mem = s.mem := rfl
@[simp] theorem State.setCtx_hostMem (c : Nat) (x : Ctx) : (s.setCtx c x).hostMem = s.hostMem := rfl
@[simp] theorem State.setCtx_llc (c : Nat) (x : Ctx) : (s.setCtx c x).llc = s.llc := rfl
@[simp] theorem State.setCtx_windows (c : Nat) (x : Ctx) : (s.setCtx c x).windows = s.windows := rfl
@[simp] theorem State.setCtx_closed (c : Nat) (x : Ctx) : (s.setCtx c x).closed = s.closed := rfl
@[simp] theorem State.setCtx_ptbase (c : Nat) (x : Ctx) : (s.setCtx c x).ptbase = s.ptbase := rfl
@[simp] theorem State.setCtx_ptMade (c : Nat) (x : Ctx) : (s.setCtx c x).ptMade = s.ptMade := rfl
@[simp] theorem State.setCtx_tlb (c : Nat) (x : Ctx) : (s.setCtx c x).tlb = s.tlb := rfl
@[simp] theorem State.setCtx_sharers (c : Nat) (x : Ctx) : (s.setCtx c x).sharers = s.sharers := rfl
@[simp] theorem State.setCtx_invals (c : Nat) (x : Ctx) : (s.setCtx c x).invals = s.invals := rfl
@[simp] theorem State.setCtx_migrations (c : Nat) (x : Ctx) : (s.setCtx c x).migrations = s.migrations := rfl
@[simp] theorem State.setCtx_records (c : Nat) (x : Ctx) : (s.setCtx c x).records = s.records := rfl
@[simp] theorem State.setCtx_deltas (c : Nat) (x : Ctx) : (s.setCtx c x).deltas = s.deltas := rfl
@[simp] theorem State.setCtx_walkers (c : Nat) (x : Ctx) : (s.setCtx c x).walkers = s.walkers := rfl
@[simp] theorem State.setCtx_fe (c : Nat) (x : Ctx) : (s.setCtx c x).fe = s.fe := rfl
@[simp] theorem State.setCtx_host (c : Nat) (x : Ctx) : (s.setCtx c x).host = s.host := rfl
@[simp] theorem State.setCtx_pow (c : Nat) (x : Ctx) : (s.setCtx c x).pow = s.pow := rfl
@[simp] theorem State.setCtx_fab (c : Nat) (x : Ctx) : (s.setCtx c x).fab = s.fab := rfl
@[simp] theorem State.setCtx_pool (c : Nat) (x : Ctx) : (s.setCtx c x).pool = s.pool := rfl
@[simp] theorem State.setCtx_agenda (c : Nat) (x : Ctx) : (s.setCtx c x).agenda = s.agenda := rfl
@[simp] theorem State.setCtx_late (c : Nat) (x : Ctx) : (s.setCtx c x).late = s.late := rfl
@[simp] theorem State.setCtx_issueQ (c : Nat) (x : Ctx) : (s.setCtx c x).issueQ = s.issueQ := rfl
@[simp] theorem State.setCtx_round (c : Nat) (x : Ctx) : (s.setCtx c x).round = s.round := rfl
@[simp] theorem State.setCtx_cur (c : Nat) (x : Ctx) : (s.setCtx c x).cur = s.cur := rfl
@[simp] theorem State.setCtx_issue (c : Nat) (x : Ctx) : (s.setCtx c x).issue = s.issue := rfl
@[simp] theorem State.setCtx_freeCtr (c : Nat) (x : Ctx) : (s.setCtx c x).freeCtr = s.freeCtr := rfl

/-! ## modCtx -/

@[simp] theorem State.modCtx_cycles (c : Nat) (f : Ctx → Ctx) : (s.modCtx c f).cycles = s.cycles := rfl
@[simp] theorem State.modCtx_cores (c : Nat) (f : Ctx → Ctx) : (s.modCtx c f).cores = s.cores := rfl
@[simp] theorem State.modCtx_clusters (c : Nat) (f : Ctx → Ctx) : (s.modCtx c f).clusters = s.clusters := rfl
@[simp] theorem State.modCtx_mem (c : Nat) (f : Ctx → Ctx) : (s.modCtx c f).mem = s.mem := rfl
@[simp] theorem State.modCtx_hostMem (c : Nat) (f : Ctx → Ctx) : (s.modCtx c f).hostMem = s.hostMem := rfl
@[simp] theorem State.modCtx_llc (c : Nat) (f : Ctx → Ctx) : (s.modCtx c f).llc = s.llc := rfl
@[simp] theorem State.modCtx_windows (c : Nat) (f : Ctx → Ctx) : (s.modCtx c f).windows = s.windows := rfl
@[simp] theorem State.modCtx_closed (c : Nat) (f : Ctx → Ctx) : (s.modCtx c f).closed = s.closed := rfl
@[simp] theorem State.modCtx_ptbase (c : Nat) (f : Ctx → Ctx) : (s.modCtx c f).ptbase = s.ptbase := rfl
@[simp] theorem State.modCtx_ptMade (c : Nat) (f : Ctx → Ctx) : (s.modCtx c f).ptMade = s.ptMade := rfl
@[simp] theorem State.modCtx_tlb (c : Nat) (f : Ctx → Ctx) : (s.modCtx c f).tlb = s.tlb := rfl
@[simp] theorem State.modCtx_sharers (c : Nat) (f : Ctx → Ctx) : (s.modCtx c f).sharers = s.sharers := rfl
@[simp] theorem State.modCtx_invals (c : Nat) (f : Ctx → Ctx) : (s.modCtx c f).invals = s.invals := rfl
@[simp] theorem State.modCtx_migrations (c : Nat) (f : Ctx → Ctx) : (s.modCtx c f).migrations = s.migrations := rfl
@[simp] theorem State.modCtx_records (c : Nat) (f : Ctx → Ctx) : (s.modCtx c f).records = s.records := rfl
@[simp] theorem State.modCtx_deltas (c : Nat) (f : Ctx → Ctx) : (s.modCtx c f).deltas = s.deltas := rfl
@[simp] theorem State.modCtx_walkers (c : Nat) (f : Ctx → Ctx) : (s.modCtx c f).walkers = s.walkers := rfl
@[simp] theorem State.modCtx_fe (c : Nat) (f : Ctx → Ctx) : (s.modCtx c f).fe = s.fe := rfl
@[simp] theorem State.modCtx_host (c : Nat) (f : Ctx → Ctx) : (s.modCtx c f).host = s.host := rfl
@[simp] theorem State.modCtx_pow (c : Nat) (f : Ctx → Ctx) : (s.modCtx c f).pow = s.pow := rfl
@[simp] theorem State.modCtx_fab (c : Nat) (f : Ctx → Ctx) : (s.modCtx c f).fab = s.fab := rfl
@[simp] theorem State.modCtx_pool (c : Nat) (f : Ctx → Ctx) : (s.modCtx c f).pool = s.pool := rfl
@[simp] theorem State.modCtx_agenda (c : Nat) (f : Ctx → Ctx) : (s.modCtx c f).agenda = s.agenda := rfl
@[simp] theorem State.modCtx_late (c : Nat) (f : Ctx → Ctx) : (s.modCtx c f).late = s.late := rfl
@[simp] theorem State.modCtx_issueQ (c : Nat) (f : Ctx → Ctx) : (s.modCtx c f).issueQ = s.issueQ := rfl
@[simp] theorem State.modCtx_round (c : Nat) (f : Ctx → Ctx) : (s.modCtx c f).round = s.round := rfl
@[simp] theorem State.modCtx_cur (c : Nat) (f : Ctx → Ctx) : (s.modCtx c f).cur = s.cur := rfl
@[simp] theorem State.modCtx_issue (c : Nat) (f : Ctx → Ctx) : (s.modCtx c f).issue = s.issue := rfl
@[simp] theorem State.modCtx_freeCtr (c : Nat) (f : Ctx → Ctx) : (s.modCtx c f).freeCtr = s.freeCtr := rfl

/-! ## upd -/

@[simp] theorem State.upd_cycles (f : Ctx → Ctx) : (s.upd f).cycles = s.cycles := rfl
@[simp] theorem State.upd_cores (f : Ctx → Ctx) : (s.upd f).cores = s.cores := rfl
@[simp] theorem State.upd_clusters (f : Ctx → Ctx) : (s.upd f).clusters = s.clusters := rfl
@[simp] theorem State.upd_mem (f : Ctx → Ctx) : (s.upd f).mem = s.mem := rfl
@[simp] theorem State.upd_hostMem (f : Ctx → Ctx) : (s.upd f).hostMem = s.hostMem := rfl
@[simp] theorem State.upd_llc (f : Ctx → Ctx) : (s.upd f).llc = s.llc := rfl
@[simp] theorem State.upd_windows (f : Ctx → Ctx) : (s.upd f).windows = s.windows := rfl
@[simp] theorem State.upd_closed (f : Ctx → Ctx) : (s.upd f).closed = s.closed := rfl
@[simp] theorem State.upd_ptbase (f : Ctx → Ctx) : (s.upd f).ptbase = s.ptbase := rfl
@[simp] theorem State.upd_ptMade (f : Ctx → Ctx) : (s.upd f).ptMade = s.ptMade := rfl
@[simp] theorem State.upd_tlb (f : Ctx → Ctx) : (s.upd f).tlb = s.tlb := rfl
@[simp] theorem State.upd_sharers (f : Ctx → Ctx) : (s.upd f).sharers = s.sharers := rfl
@[simp] theorem State.upd_invals (f : Ctx → Ctx) : (s.upd f).invals = s.invals := rfl
@[simp] theorem State.upd_migrations (f : Ctx → Ctx) : (s.upd f).migrations = s.migrations := rfl
@[simp] theorem State.upd_records (f : Ctx → Ctx) : (s.upd f).records = s.records := rfl
@[simp] theorem State.upd_deltas (f : Ctx → Ctx) : (s.upd f).deltas = s.deltas := rfl
@[simp] theorem State.upd_walkers (f : Ctx → Ctx) : (s.upd f).walkers = s.walkers := rfl
@[simp] theorem State.upd_fe (f : Ctx → Ctx) : (s.upd f).fe = s.fe := rfl
@[simp] theorem State.upd_host (f : Ctx → Ctx) : (s.upd f).host = s.host := rfl
@[simp] theorem State.upd_pow (f : Ctx → Ctx) : (s.upd f).pow = s.pow := rfl
@[simp] theorem State.upd_fab (f : Ctx → Ctx) : (s.upd f).fab = s.fab := rfl
@[simp] theorem State.upd_pool (f : Ctx → Ctx) : (s.upd f).pool = s.pool := rfl
@[simp] theorem State.upd_agenda (f : Ctx → Ctx) : (s.upd f).agenda = s.agenda := rfl
@[simp] theorem State.upd_late (f : Ctx → Ctx) : (s.upd f).late = s.late := rfl
@[simp] theorem State.upd_issueQ (f : Ctx → Ctx) : (s.upd f).issueQ = s.issueQ := rfl
@[simp] theorem State.upd_round (f : Ctx → Ctx) : (s.upd f).round = s.round := rfl
@[simp] theorem State.upd_cur (f : Ctx → Ctx) : (s.upd f).cur = s.cur := rfl
@[simp] theorem State.upd_issue (f : Ctx → Ctx) : (s.upd f).issue = s.issue := rfl
@[simp] theorem State.upd_freeCtr (f : Ctx → Ctx) : (s.upd f).freeCtr = s.freeCtr := rfl

/-! ## setCore -/

@[simp] theorem State.setCore_cycles (k : Nat) (x : Core) : (s.setCore k x).cycles = s.cycles := rfl
@[simp] theorem State.setCore_ctxs (k : Nat) (x : Core) : (s.setCore k x).ctxs = s.ctxs := rfl
@[simp] theorem State.setCore_clusters (k : Nat) (x : Core) : (s.setCore k x).clusters = s.clusters := rfl
@[simp] theorem State.setCore_mem (k : Nat) (x : Core) : (s.setCore k x).mem = s.mem := rfl
@[simp] theorem State.setCore_hostMem (k : Nat) (x : Core) : (s.setCore k x).hostMem = s.hostMem := rfl
@[simp] theorem State.setCore_llc (k : Nat) (x : Core) : (s.setCore k x).llc = s.llc := rfl
@[simp] theorem State.setCore_windows (k : Nat) (x : Core) : (s.setCore k x).windows = s.windows := rfl
@[simp] theorem State.setCore_closed (k : Nat) (x : Core) : (s.setCore k x).closed = s.closed := rfl
@[simp] theorem State.setCore_ptbase (k : Nat) (x : Core) : (s.setCore k x).ptbase = s.ptbase := rfl
@[simp] theorem State.setCore_ptMade (k : Nat) (x : Core) : (s.setCore k x).ptMade = s.ptMade := rfl
@[simp] theorem State.setCore_tlb (k : Nat) (x : Core) : (s.setCore k x).tlb = s.tlb := rfl
@[simp] theorem State.setCore_sharers (k : Nat) (x : Core) : (s.setCore k x).sharers = s.sharers := rfl
@[simp] theorem State.setCore_invals (k : Nat) (x : Core) : (s.setCore k x).invals = s.invals := rfl
@[simp] theorem State.setCore_migrations (k : Nat) (x : Core) : (s.setCore k x).migrations = s.migrations := rfl
@[simp] theorem State.setCore_records (k : Nat) (x : Core) : (s.setCore k x).records = s.records := rfl
@[simp] theorem State.setCore_deltas (k : Nat) (x : Core) : (s.setCore k x).deltas = s.deltas := rfl
@[simp] theorem State.setCore_walkers (k : Nat) (x : Core) : (s.setCore k x).walkers = s.walkers := rfl
@[simp] theorem State.setCore_fe (k : Nat) (x : Core) : (s.setCore k x).fe = s.fe := rfl
@[simp] theorem State.setCore_host (k : Nat) (x : Core) : (s.setCore k x).host = s.host := rfl
@[simp] theorem State.setCore_pow (k : Nat) (x : Core) : (s.setCore k x).pow = s.pow := rfl
@[simp] theorem State.setCore_fab (k : Nat) (x : Core) : (s.setCore k x).fab = s.fab := rfl
@[simp] theorem State.setCore_pool (k : Nat) (x : Core) : (s.setCore k x).pool = s.pool := rfl
@[simp] theorem State.setCore_agenda (k : Nat) (x : Core) : (s.setCore k x).agenda = s.agenda := rfl
@[simp] theorem State.setCore_late (k : Nat) (x : Core) : (s.setCore k x).late = s.late := rfl
@[simp] theorem State.setCore_issueQ (k : Nat) (x : Core) : (s.setCore k x).issueQ = s.issueQ := rfl
@[simp] theorem State.setCore_round (k : Nat) (x : Core) : (s.setCore k x).round = s.round := rfl
@[simp] theorem State.setCore_cur (k : Nat) (x : Core) : (s.setCore k x).cur = s.cur := rfl
@[simp] theorem State.setCore_issue (k : Nat) (x : Core) : (s.setCore k x).issue = s.issue := rfl
@[simp] theorem State.setCore_freeCtr (k : Nat) (x : Core) : (s.setCore k x).freeCtr = s.freeCtr := rfl

/-! ## modCore -/

@[simp] theorem State.modCore_cycles (k : Nat) (f : Core → Core) : (s.modCore k f).cycles = s.cycles := rfl
@[simp] theorem State.modCore_ctxs (k : Nat) (f : Core → Core) : (s.modCore k f).ctxs = s.ctxs := rfl
@[simp] theorem State.modCore_clusters (k : Nat) (f : Core → Core) : (s.modCore k f).clusters = s.clusters := rfl
@[simp] theorem State.modCore_mem (k : Nat) (f : Core → Core) : (s.modCore k f).mem = s.mem := rfl
@[simp] theorem State.modCore_hostMem (k : Nat) (f : Core → Core) : (s.modCore k f).hostMem = s.hostMem := rfl
@[simp] theorem State.modCore_llc (k : Nat) (f : Core → Core) : (s.modCore k f).llc = s.llc := rfl
@[simp] theorem State.modCore_windows (k : Nat) (f : Core → Core) : (s.modCore k f).windows = s.windows := rfl
@[simp] theorem State.modCore_closed (k : Nat) (f : Core → Core) : (s.modCore k f).closed = s.closed := rfl
@[simp] theorem State.modCore_ptbase (k : Nat) (f : Core → Core) : (s.modCore k f).ptbase = s.ptbase := rfl
@[simp] theorem State.modCore_ptMade (k : Nat) (f : Core → Core) : (s.modCore k f).ptMade = s.ptMade := rfl
@[simp] theorem State.modCore_tlb (k : Nat) (f : Core → Core) : (s.modCore k f).tlb = s.tlb := rfl
@[simp] theorem State.modCore_sharers (k : Nat) (f : Core → Core) : (s.modCore k f).sharers = s.sharers := rfl
@[simp] theorem State.modCore_invals (k : Nat) (f : Core → Core) : (s.modCore k f).invals = s.invals := rfl
@[simp] theorem State.modCore_migrations (k : Nat) (f : Core → Core) : (s.modCore k f).migrations = s.migrations := rfl
@[simp] theorem State.modCore_records (k : Nat) (f : Core → Core) : (s.modCore k f).records = s.records := rfl
@[simp] theorem State.modCore_deltas (k : Nat) (f : Core → Core) : (s.modCore k f).deltas = s.deltas := rfl
@[simp] theorem State.modCore_walkers (k : Nat) (f : Core → Core) : (s.modCore k f).walkers = s.walkers := rfl
@[simp] theorem State.modCore_fe (k : Nat) (f : Core → Core) : (s.modCore k f).fe = s.fe := rfl
@[simp] theorem State.modCore_host (k : Nat) (f : Core → Core) : (s.modCore k f).host = s.host := rfl
@[simp] theorem State.modCore_pow (k : Nat) (f : Core → Core) : (s.modCore k f).pow = s.pow := rfl
@[simp] theorem State.modCore_fab (k : Nat) (f : Core → Core) : (s.modCore k f).fab = s.fab := rfl
@[simp] theorem State.modCore_pool (k : Nat) (f : Core → Core) : (s.modCore k f).pool = s.pool := rfl
@[simp] theorem State.modCore_agenda (k : Nat) (f : Core → Core) : (s.modCore k f).agenda = s.agenda := rfl
@[simp] theorem State.modCore_late (k : Nat) (f : Core → Core) : (s.modCore k f).late = s.late := rfl
@[simp] theorem State.modCore_issueQ (k : Nat) (f : Core → Core) : (s.modCore k f).issueQ = s.issueQ := rfl
@[simp] theorem State.modCore_round (k : Nat) (f : Core → Core) : (s.modCore k f).round = s.round := rfl
@[simp] theorem State.modCore_cur (k : Nat) (f : Core → Core) : (s.modCore k f).cur = s.cur := rfl
@[simp] theorem State.modCore_issue (k : Nat) (f : Core → Core) : (s.modCore k f).issue = s.issue := rfl
@[simp] theorem State.modCore_freeCtr (k : Nat) (f : Core → Core) : (s.modCore k f).freeCtr = s.freeCtr := rfl

/-! ## modCluster -/

@[simp] theorem State.modCluster_cycles (k : Nat) (f : Cluster → Cluster) : (s.modCluster k f).cycles = s.cycles := rfl
@[simp] theorem State.modCluster_ctxs (k : Nat) (f : Cluster → Cluster) : (s.modCluster k f).ctxs = s.ctxs := rfl
@[simp] theorem State.modCluster_cores (k : Nat) (f : Cluster → Cluster) : (s.modCluster k f).cores = s.cores := rfl
@[simp] theorem State.modCluster_mem (k : Nat) (f : Cluster → Cluster) : (s.modCluster k f).mem = s.mem := rfl
@[simp] theorem State.modCluster_hostMem (k : Nat) (f : Cluster → Cluster) : (s.modCluster k f).hostMem = s.hostMem := rfl
@[simp] theorem State.modCluster_llc (k : Nat) (f : Cluster → Cluster) : (s.modCluster k f).llc = s.llc := rfl
@[simp] theorem State.modCluster_windows (k : Nat) (f : Cluster → Cluster) : (s.modCluster k f).windows = s.windows := rfl
@[simp] theorem State.modCluster_closed (k : Nat) (f : Cluster → Cluster) : (s.modCluster k f).closed = s.closed := rfl
@[simp] theorem State.modCluster_ptbase (k : Nat) (f : Cluster → Cluster) : (s.modCluster k f).ptbase = s.ptbase := rfl
@[simp] theorem State.modCluster_ptMade (k : Nat) (f : Cluster → Cluster) : (s.modCluster k f).ptMade = s.ptMade := rfl
@[simp] theorem State.modCluster_tlb (k : Nat) (f : Cluster → Cluster) : (s.modCluster k f).tlb = s.tlb := rfl
@[simp] theorem State.modCluster_sharers (k : Nat) (f : Cluster → Cluster) : (s.modCluster k f).sharers = s.sharers := rfl
@[simp] theorem State.modCluster_invals (k : Nat) (f : Cluster → Cluster) : (s.modCluster k f).invals = s.invals := rfl
@[simp] theorem State.modCluster_migrations (k : Nat) (f : Cluster → Cluster) : (s.modCluster k f).migrations = s.migrations := rfl
@[simp] theorem State.modCluster_records (k : Nat) (f : Cluster → Cluster) : (s.modCluster k f).records = s.records := rfl
@[simp] theorem State.modCluster_deltas (k : Nat) (f : Cluster → Cluster) : (s.modCluster k f).deltas = s.deltas := rfl
@[simp] theorem State.modCluster_walkers (k : Nat) (f : Cluster → Cluster) : (s.modCluster k f).walkers = s.walkers := rfl
@[simp] theorem State.modCluster_fe (k : Nat) (f : Cluster → Cluster) : (s.modCluster k f).fe = s.fe := rfl
@[simp] theorem State.modCluster_host (k : Nat) (f : Cluster → Cluster) : (s.modCluster k f).host = s.host := rfl
@[simp] theorem State.modCluster_pow (k : Nat) (f : Cluster → Cluster) : (s.modCluster k f).pow = s.pow := rfl
@[simp] theorem State.modCluster_fab (k : Nat) (f : Cluster → Cluster) : (s.modCluster k f).fab = s.fab := rfl
@[simp] theorem State.modCluster_pool (k : Nat) (f : Cluster → Cluster) : (s.modCluster k f).pool = s.pool := rfl
@[simp] theorem State.modCluster_agenda (k : Nat) (f : Cluster → Cluster) : (s.modCluster k f).agenda = s.agenda := rfl
@[simp] theorem State.modCluster_late (k : Nat) (f : Cluster → Cluster) : (s.modCluster k f).late = s.late := rfl
@[simp] theorem State.modCluster_issueQ (k : Nat) (f : Cluster → Cluster) : (s.modCluster k f).issueQ = s.issueQ := rfl
@[simp] theorem State.modCluster_round (k : Nat) (f : Cluster → Cluster) : (s.modCluster k f).round = s.round := rfl
@[simp] theorem State.modCluster_cur (k : Nat) (f : Cluster → Cluster) : (s.modCluster k f).cur = s.cur := rfl
@[simp] theorem State.modCluster_issue (k : Nat) (f : Cluster → Cluster) : (s.modCluster k f).issue = s.issue := rfl
@[simp] theorem State.modCluster_freeCtr (k : Nat) (f : Cluster → Cluster) : (s.modCluster k f).freeCtr = s.freeCtr := rfl

/-! ## modFe -/

@[simp] theorem State.modFe_cycles (f : FrontEnd → FrontEnd) : (s.modFe f).cycles = s.cycles := rfl
@[simp] theorem State.modFe_ctxs (f : FrontEnd → FrontEnd) : (s.modFe f).ctxs = s.ctxs := rfl
@[simp] theorem State.modFe_cores (f : FrontEnd → FrontEnd) : (s.modFe f).cores = s.cores := rfl
@[simp] theorem State.modFe_clusters (f : FrontEnd → FrontEnd) : (s.modFe f).clusters = s.clusters := rfl
@[simp] theorem State.modFe_mem (f : FrontEnd → FrontEnd) : (s.modFe f).mem = s.mem := rfl
@[simp] theorem State.modFe_hostMem (f : FrontEnd → FrontEnd) : (s.modFe f).hostMem = s.hostMem := rfl
@[simp] theorem State.modFe_llc (f : FrontEnd → FrontEnd) : (s.modFe f).llc = s.llc := rfl
@[simp] theorem State.modFe_windows (f : FrontEnd → FrontEnd) : (s.modFe f).windows = s.windows := rfl
@[simp] theorem State.modFe_closed (f : FrontEnd → FrontEnd) : (s.modFe f).closed = s.closed := rfl
@[simp] theorem State.modFe_ptbase (f : FrontEnd → FrontEnd) : (s.modFe f).ptbase = s.ptbase := rfl
@[simp] theorem State.modFe_ptMade (f : FrontEnd → FrontEnd) : (s.modFe f).ptMade = s.ptMade := rfl
@[simp] theorem State.modFe_tlb (f : FrontEnd → FrontEnd) : (s.modFe f).tlb = s.tlb := rfl
@[simp] theorem State.modFe_sharers (f : FrontEnd → FrontEnd) : (s.modFe f).sharers = s.sharers := rfl
@[simp] theorem State.modFe_invals (f : FrontEnd → FrontEnd) : (s.modFe f).invals = s.invals := rfl
@[simp] theorem State.modFe_migrations (f : FrontEnd → FrontEnd) : (s.modFe f).migrations = s.migrations := rfl
@[simp] theorem State.modFe_records (f : FrontEnd → FrontEnd) : (s.modFe f).records = s.records := rfl
@[simp] theorem State.modFe_deltas (f : FrontEnd → FrontEnd) : (s.modFe f).deltas = s.deltas := rfl
@[simp] theorem State.modFe_walkers (f : FrontEnd → FrontEnd) : (s.modFe f).walkers = s.walkers := rfl
@[simp] theorem State.modFe_host (f : FrontEnd → FrontEnd) : (s.modFe f).host = s.host := rfl
@[simp] theorem State.modFe_pow (f : FrontEnd → FrontEnd) : (s.modFe f).pow = s.pow := rfl
@[simp] theorem State.modFe_fab (f : FrontEnd → FrontEnd) : (s.modFe f).fab = s.fab := rfl
@[simp] theorem State.modFe_pool (f : FrontEnd → FrontEnd) : (s.modFe f).pool = s.pool := rfl
@[simp] theorem State.modFe_agenda (f : FrontEnd → FrontEnd) : (s.modFe f).agenda = s.agenda := rfl
@[simp] theorem State.modFe_late (f : FrontEnd → FrontEnd) : (s.modFe f).late = s.late := rfl
@[simp] theorem State.modFe_issueQ (f : FrontEnd → FrontEnd) : (s.modFe f).issueQ = s.issueQ := rfl
@[simp] theorem State.modFe_round (f : FrontEnd → FrontEnd) : (s.modFe f).round = s.round := rfl
@[simp] theorem State.modFe_cur (f : FrontEnd → FrontEnd) : (s.modFe f).cur = s.cur := rfl
@[simp] theorem State.modFe_issue (f : FrontEnd → FrontEnd) : (s.modFe f).issue = s.issue := rfl
@[simp] theorem State.modFe_freeCtr (f : FrontEnd → FrontEnd) : (s.modFe f).freeCtr = s.freeCtr := rfl

/-! ## modFab -/

@[simp] theorem State.modFab_cycles (f : Fabric → Fabric) : (s.modFab f).cycles = s.cycles := rfl
@[simp] theorem State.modFab_ctxs (f : Fabric → Fabric) : (s.modFab f).ctxs = s.ctxs := rfl
@[simp] theorem State.modFab_cores (f : Fabric → Fabric) : (s.modFab f).cores = s.cores := rfl
@[simp] theorem State.modFab_clusters (f : Fabric → Fabric) : (s.modFab f).clusters = s.clusters := rfl
@[simp] theorem State.modFab_mem (f : Fabric → Fabric) : (s.modFab f).mem = s.mem := rfl
@[simp] theorem State.modFab_hostMem (f : Fabric → Fabric) : (s.modFab f).hostMem = s.hostMem := rfl
@[simp] theorem State.modFab_llc (f : Fabric → Fabric) : (s.modFab f).llc = s.llc := rfl
@[simp] theorem State.modFab_windows (f : Fabric → Fabric) : (s.modFab f).windows = s.windows := rfl
@[simp] theorem State.modFab_closed (f : Fabric → Fabric) : (s.modFab f).closed = s.closed := rfl
@[simp] theorem State.modFab_ptbase (f : Fabric → Fabric) : (s.modFab f).ptbase = s.ptbase := rfl
@[simp] theorem State.modFab_ptMade (f : Fabric → Fabric) : (s.modFab f).ptMade = s.ptMade := rfl
@[simp] theorem State.modFab_tlb (f : Fabric → Fabric) : (s.modFab f).tlb = s.tlb := rfl
@[simp] theorem State.modFab_sharers (f : Fabric → Fabric) : (s.modFab f).sharers = s.sharers := rfl
@[simp] theorem State.modFab_invals (f : Fabric → Fabric) : (s.modFab f).invals = s.invals := rfl
@[simp] theorem State.modFab_migrations (f : Fabric → Fabric) : (s.modFab f).migrations = s.migrations := rfl
@[simp] theorem State.modFab_records (f : Fabric → Fabric) : (s.modFab f).records = s.records := rfl
@[simp] theorem State.modFab_deltas (f : Fabric → Fabric) : (s.modFab f).deltas = s.deltas := rfl
@[simp] theorem State.modFab_walkers (f : Fabric → Fabric) : (s.modFab f).walkers = s.walkers := rfl
@[simp] theorem State.modFab_fe (f : Fabric → Fabric) : (s.modFab f).fe = s.fe := rfl
@[simp] theorem State.modFab_host (f : Fabric → Fabric) : (s.modFab f).host = s.host := rfl
@[simp] theorem State.modFab_pow (f : Fabric → Fabric) : (s.modFab f).pow = s.pow := rfl
@[simp] theorem State.modFab_pool (f : Fabric → Fabric) : (s.modFab f).pool = s.pool := rfl
@[simp] theorem State.modFab_agenda (f : Fabric → Fabric) : (s.modFab f).agenda = s.agenda := rfl
@[simp] theorem State.modFab_late (f : Fabric → Fabric) : (s.modFab f).late = s.late := rfl
@[simp] theorem State.modFab_issueQ (f : Fabric → Fabric) : (s.modFab f).issueQ = s.issueQ := rfl
@[simp] theorem State.modFab_round (f : Fabric → Fabric) : (s.modFab f).round = s.round := rfl
@[simp] theorem State.modFab_cur (f : Fabric → Fabric) : (s.modFab f).cur = s.cur := rfl
@[simp] theorem State.modFab_issue (f : Fabric → Fabric) : (s.modFab f).issue = s.issue := rfl
@[simp] theorem State.modFab_freeCtr (f : Fabric → Fabric) : (s.modFab f).freeCtr = s.freeCtr := rfl

/-! ## modPow -/

@[simp] theorem State.modPow_cycles (f : Power → Power) : (s.modPow f).cycles = s.cycles := rfl
@[simp] theorem State.modPow_ctxs (f : Power → Power) : (s.modPow f).ctxs = s.ctxs := rfl
@[simp] theorem State.modPow_cores (f : Power → Power) : (s.modPow f).cores = s.cores := rfl
@[simp] theorem State.modPow_clusters (f : Power → Power) : (s.modPow f).clusters = s.clusters := rfl
@[simp] theorem State.modPow_mem (f : Power → Power) : (s.modPow f).mem = s.mem := rfl
@[simp] theorem State.modPow_hostMem (f : Power → Power) : (s.modPow f).hostMem = s.hostMem := rfl
@[simp] theorem State.modPow_llc (f : Power → Power) : (s.modPow f).llc = s.llc := rfl
@[simp] theorem State.modPow_windows (f : Power → Power) : (s.modPow f).windows = s.windows := rfl
@[simp] theorem State.modPow_closed (f : Power → Power) : (s.modPow f).closed = s.closed := rfl
@[simp] theorem State.modPow_ptbase (f : Power → Power) : (s.modPow f).ptbase = s.ptbase := rfl
@[simp] theorem State.modPow_ptMade (f : Power → Power) : (s.modPow f).ptMade = s.ptMade := rfl
@[simp] theorem State.modPow_tlb (f : Power → Power) : (s.modPow f).tlb = s.tlb := rfl
@[simp] theorem State.modPow_sharers (f : Power → Power) : (s.modPow f).sharers = s.sharers := rfl
@[simp] theorem State.modPow_invals (f : Power → Power) : (s.modPow f).invals = s.invals := rfl
@[simp] theorem State.modPow_migrations (f : Power → Power) : (s.modPow f).migrations = s.migrations := rfl
@[simp] theorem State.modPow_records (f : Power → Power) : (s.modPow f).records = s.records := rfl
@[simp] theorem State.modPow_deltas (f : Power → Power) : (s.modPow f).deltas = s.deltas := rfl
@[simp] theorem State.modPow_walkers (f : Power → Power) : (s.modPow f).walkers = s.walkers := rfl
@[simp] theorem State.modPow_fe (f : Power → Power) : (s.modPow f).fe = s.fe := rfl
@[simp] theorem State.modPow_host (f : Power → Power) : (s.modPow f).host = s.host := rfl
@[simp] theorem State.modPow_fab (f : Power → Power) : (s.modPow f).fab = s.fab := rfl
@[simp] theorem State.modPow_pool (f : Power → Power) : (s.modPow f).pool = s.pool := rfl
@[simp] theorem State.modPow_agenda (f : Power → Power) : (s.modPow f).agenda = s.agenda := rfl
@[simp] theorem State.modPow_late (f : Power → Power) : (s.modPow f).late = s.late := rfl
@[simp] theorem State.modPow_issueQ (f : Power → Power) : (s.modPow f).issueQ = s.issueQ := rfl
@[simp] theorem State.modPow_round (f : Power → Power) : (s.modPow f).round = s.round := rfl
@[simp] theorem State.modPow_cur (f : Power → Power) : (s.modPow f).cur = s.cur := rfl
@[simp] theorem State.modPow_issue (f : Power → Power) : (s.modPow f).issue = s.issue := rfl
@[simp] theorem State.modPow_freeCtr (f : Power → Power) : (s.modPow f).freeCtr = s.freeCtr := rfl

/-! ## modHost -/

@[simp] theorem State.modHost_cycles (f : HostIf → HostIf) : (s.modHost f).cycles = s.cycles := rfl
@[simp] theorem State.modHost_ctxs (f : HostIf → HostIf) : (s.modHost f).ctxs = s.ctxs := rfl
@[simp] theorem State.modHost_cores (f : HostIf → HostIf) : (s.modHost f).cores = s.cores := rfl
@[simp] theorem State.modHost_clusters (f : HostIf → HostIf) : (s.modHost f).clusters = s.clusters := rfl
@[simp] theorem State.modHost_mem (f : HostIf → HostIf) : (s.modHost f).mem = s.mem := rfl
@[simp] theorem State.modHost_hostMem (f : HostIf → HostIf) : (s.modHost f).hostMem = s.hostMem := rfl
@[simp] theorem State.modHost_llc (f : HostIf → HostIf) : (s.modHost f).llc = s.llc := rfl
@[simp] theorem State.modHost_windows (f : HostIf → HostIf) : (s.modHost f).windows = s.windows := rfl
@[simp] theorem State.modHost_closed (f : HostIf → HostIf) : (s.modHost f).closed = s.closed := rfl
@[simp] theorem State.modHost_ptbase (f : HostIf → HostIf) : (s.modHost f).ptbase = s.ptbase := rfl
@[simp] theorem State.modHost_ptMade (f : HostIf → HostIf) : (s.modHost f).ptMade = s.ptMade := rfl
@[simp] theorem State.modHost_tlb (f : HostIf → HostIf) : (s.modHost f).tlb = s.tlb := rfl
@[simp] theorem State.modHost_sharers (f : HostIf → HostIf) : (s.modHost f).sharers = s.sharers := rfl
@[simp] theorem State.modHost_invals (f : HostIf → HostIf) : (s.modHost f).invals = s.invals := rfl
@[simp] theorem State.modHost_migrations (f : HostIf → HostIf) : (s.modHost f).migrations = s.migrations := rfl
@[simp] theorem State.modHost_records (f : HostIf → HostIf) : (s.modHost f).records = s.records := rfl
@[simp] theorem State.modHost_deltas (f : HostIf → HostIf) : (s.modHost f).deltas = s.deltas := rfl
@[simp] theorem State.modHost_walkers (f : HostIf → HostIf) : (s.modHost f).walkers = s.walkers := rfl
@[simp] theorem State.modHost_fe (f : HostIf → HostIf) : (s.modHost f).fe = s.fe := rfl
@[simp] theorem State.modHost_pow (f : HostIf → HostIf) : (s.modHost f).pow = s.pow := rfl
@[simp] theorem State.modHost_fab (f : HostIf → HostIf) : (s.modHost f).fab = s.fab := rfl
@[simp] theorem State.modHost_pool (f : HostIf → HostIf) : (s.modHost f).pool = s.pool := rfl
@[simp] theorem State.modHost_agenda (f : HostIf → HostIf) : (s.modHost f).agenda = s.agenda := rfl
@[simp] theorem State.modHost_late (f : HostIf → HostIf) : (s.modHost f).late = s.late := rfl
@[simp] theorem State.modHost_issueQ (f : HostIf → HostIf) : (s.modHost f).issueQ = s.issueQ := rfl
@[simp] theorem State.modHost_round (f : HostIf → HostIf) : (s.modHost f).round = s.round := rfl
@[simp] theorem State.modHost_cur (f : HostIf → HostIf) : (s.modHost f).cur = s.cur := rfl
@[simp] theorem State.modHost_issue (f : HostIf → HostIf) : (s.modHost f).issue = s.issue := rfl
@[simp] theorem State.modHost_freeCtr (f : HostIf → HostIf) : (s.modHost f).freeCtr = s.freeCtr := rfl

/-! ## modPort -/

@[simp] theorem State.modPort_cycles (p : Nat) (f : Port → Port) : (s.modPort p f).cycles = s.cycles := rfl
@[simp] theorem State.modPort_ctxs (p : Nat) (f : Port → Port) : (s.modPort p f).ctxs = s.ctxs := rfl
@[simp] theorem State.modPort_cores (p : Nat) (f : Port → Port) : (s.modPort p f).cores = s.cores := rfl
@[simp] theorem State.modPort_clusters (p : Nat) (f : Port → Port) : (s.modPort p f).clusters = s.clusters := rfl
@[simp] theorem State.modPort_mem (p : Nat) (f : Port → Port) : (s.modPort p f).mem = s.mem := rfl
@[simp] theorem State.modPort_hostMem (p : Nat) (f : Port → Port) : (s.modPort p f).hostMem = s.hostMem := rfl
@[simp] theorem State.modPort_llc (p : Nat) (f : Port → Port) : (s.modPort p f).llc = s.llc := rfl
@[simp] theorem State.modPort_windows (p : Nat) (f : Port → Port) : (s.modPort p f).windows = s.windows := rfl
@[simp] theorem State.modPort_closed (p : Nat) (f : Port → Port) : (s.modPort p f).closed = s.closed := rfl
@[simp] theorem State.modPort_ptbase (p : Nat) (f : Port → Port) : (s.modPort p f).ptbase = s.ptbase := rfl
@[simp] theorem State.modPort_ptMade (p : Nat) (f : Port → Port) : (s.modPort p f).ptMade = s.ptMade := rfl
@[simp] theorem State.modPort_tlb (p : Nat) (f : Port → Port) : (s.modPort p f).tlb = s.tlb := rfl
@[simp] theorem State.modPort_sharers (p : Nat) (f : Port → Port) : (s.modPort p f).sharers = s.sharers := rfl
@[simp] theorem State.modPort_invals (p : Nat) (f : Port → Port) : (s.modPort p f).invals = s.invals := rfl
@[simp] theorem State.modPort_migrations (p : Nat) (f : Port → Port) : (s.modPort p f).migrations = s.migrations := rfl
@[simp] theorem State.modPort_records (p : Nat) (f : Port → Port) : (s.modPort p f).records = s.records := rfl
@[simp] theorem State.modPort_deltas (p : Nat) (f : Port → Port) : (s.modPort p f).deltas = s.deltas := rfl
@[simp] theorem State.modPort_walkers (p : Nat) (f : Port → Port) : (s.modPort p f).walkers = s.walkers := rfl
@[simp] theorem State.modPort_fe (p : Nat) (f : Port → Port) : (s.modPort p f).fe = s.fe := rfl
@[simp] theorem State.modPort_host (p : Nat) (f : Port → Port) : (s.modPort p f).host = s.host := rfl
@[simp] theorem State.modPort_pow (p : Nat) (f : Port → Port) : (s.modPort p f).pow = s.pow := rfl
@[simp] theorem State.modPort_pool (p : Nat) (f : Port → Port) : (s.modPort p f).pool = s.pool := rfl
@[simp] theorem State.modPort_agenda (p : Nat) (f : Port → Port) : (s.modPort p f).agenda = s.agenda := rfl
@[simp] theorem State.modPort_late (p : Nat) (f : Port → Port) : (s.modPort p f).late = s.late := rfl
@[simp] theorem State.modPort_issueQ (p : Nat) (f : Port → Port) : (s.modPort p f).issueQ = s.issueQ := rfl
@[simp] theorem State.modPort_round (p : Nat) (f : Port → Port) : (s.modPort p f).round = s.round := rfl
@[simp] theorem State.modPort_cur (p : Nat) (f : Port → Port) : (s.modPort p f).cur = s.cur := rfl
@[simp] theorem State.modPort_issue (p : Nat) (f : Port → Port) : (s.modPort p f).issue = s.issue := rfl
@[simp] theorem State.modPort_freeCtr (p : Nat) (f : Port → Port) : (s.modPort p f).freeCtr = s.freeCtr := rfl

/-! ## modLlc -/

@[simp] theorem State.modLlc_cycles (n : Nat) (f : LlcLine → LlcLine) : (s.modLlc n f).cycles = s.cycles := rfl
@[simp] theorem State.modLlc_ctxs (n : Nat) (f : LlcLine → LlcLine) : (s.modLlc n f).ctxs = s.ctxs := rfl
@[simp] theorem State.modLlc_cores (n : Nat) (f : LlcLine → LlcLine) : (s.modLlc n f).cores = s.cores := rfl
@[simp] theorem State.modLlc_clusters (n : Nat) (f : LlcLine → LlcLine) : (s.modLlc n f).clusters = s.clusters := rfl
@[simp] theorem State.modLlc_mem (n : Nat) (f : LlcLine → LlcLine) : (s.modLlc n f).mem = s.mem := rfl
@[simp] theorem State.modLlc_hostMem (n : Nat) (f : LlcLine → LlcLine) : (s.modLlc n f).hostMem = s.hostMem := rfl
@[simp] theorem State.modLlc_windows (n : Nat) (f : LlcLine → LlcLine) : (s.modLlc n f).windows = s.windows := rfl
@[simp] theorem State.modLlc_closed (n : Nat) (f : LlcLine → LlcLine) : (s.modLlc n f).closed = s.closed := rfl
@[simp] theorem State.modLlc_ptbase (n : Nat) (f : LlcLine → LlcLine) : (s.modLlc n f).ptbase = s.ptbase := rfl
@[simp] theorem State.modLlc_ptMade (n : Nat) (f : LlcLine → LlcLine) : (s.modLlc n f).ptMade = s.ptMade := rfl
@[simp] theorem State.modLlc_tlb (n : Nat) (f : LlcLine → LlcLine) : (s.modLlc n f).tlb = s.tlb := rfl
@[simp] theorem State.modLlc_sharers (n : Nat) (f : LlcLine → LlcLine) : (s.modLlc n f).sharers = s.sharers := rfl
@[simp] theorem State.modLlc_invals (n : Nat) (f : LlcLine → LlcLine) : (s.modLlc n f).invals = s.invals := rfl
@[simp] theorem State.modLlc_migrations (n : Nat) (f : LlcLine → LlcLine) : (s.modLlc n f).migrations = s.migrations := rfl
@[simp] theorem State.modLlc_records (n : Nat) (f : LlcLine → LlcLine) : (s.modLlc n f).records = s.records := rfl
@[simp] theorem State.modLlc_deltas (n : Nat) (f : LlcLine → LlcLine) : (s.modLlc n f).deltas = s.deltas := rfl
@[simp] theorem State.modLlc_walkers (n : Nat) (f : LlcLine → LlcLine) : (s.modLlc n f).walkers = s.walkers := rfl
@[simp] theorem State.modLlc_fe (n : Nat) (f : LlcLine → LlcLine) : (s.modLlc n f).fe = s.fe := rfl
@[simp] theorem State.modLlc_host (n : Nat) (f : LlcLine → LlcLine) : (s.modLlc n f).host = s.host := rfl
@[simp] theorem State.modLlc_pow (n : Nat) (f : LlcLine → LlcLine) : (s.modLlc n f).pow = s.pow := rfl
@[simp] theorem State.modLlc_fab (n : Nat) (f : LlcLine → LlcLine) : (s.modLlc n f).fab = s.fab := rfl
@[simp] theorem State.modLlc_pool (n : Nat) (f : LlcLine → LlcLine) : (s.modLlc n f).pool = s.pool := rfl
@[simp] theorem State.modLlc_agenda (n : Nat) (f : LlcLine → LlcLine) : (s.modLlc n f).agenda = s.agenda := rfl
@[simp] theorem State.modLlc_late (n : Nat) (f : LlcLine → LlcLine) : (s.modLlc n f).late = s.late := rfl
@[simp] theorem State.modLlc_issueQ (n : Nat) (f : LlcLine → LlcLine) : (s.modLlc n f).issueQ = s.issueQ := rfl
@[simp] theorem State.modLlc_round (n : Nat) (f : LlcLine → LlcLine) : (s.modLlc n f).round = s.round := rfl
@[simp] theorem State.modLlc_cur (n : Nat) (f : LlcLine → LlcLine) : (s.modLlc n f).cur = s.cur := rfl
@[simp] theorem State.modLlc_issue (n : Nat) (f : LlcLine → LlcLine) : (s.modLlc n f).issue = s.issue := rfl
@[simp] theorem State.modLlc_freeCtr (n : Nat) (f : LlcLine → LlcLine) : (s.modLlc n f).freeCtr = s.freeCtr := rfl

/-! ## setVf -/

@[simp] theorem State.setVf_cycles (v : Nat) (x : Vf) : (s.setVf v x).cycles = s.cycles := rfl
@[simp] theorem State.setVf_ctxs (v : Nat) (x : Vf) : (s.setVf v x).ctxs = s.ctxs := rfl
@[simp] theorem State.setVf_cores (v : Nat) (x : Vf) : (s.setVf v x).cores = s.cores := rfl
@[simp] theorem State.setVf_clusters (v : Nat) (x : Vf) : (s.setVf v x).clusters = s.clusters := rfl
@[simp] theorem State.setVf_mem (v : Nat) (x : Vf) : (s.setVf v x).mem = s.mem := rfl
@[simp] theorem State.setVf_hostMem (v : Nat) (x : Vf) : (s.setVf v x).hostMem = s.hostMem := rfl
@[simp] theorem State.setVf_llc (v : Nat) (x : Vf) : (s.setVf v x).llc = s.llc := rfl
@[simp] theorem State.setVf_windows (v : Nat) (x : Vf) : (s.setVf v x).windows = s.windows := rfl
@[simp] theorem State.setVf_closed (v : Nat) (x : Vf) : (s.setVf v x).closed = s.closed := rfl
@[simp] theorem State.setVf_ptbase (v : Nat) (x : Vf) : (s.setVf v x).ptbase = s.ptbase := rfl
@[simp] theorem State.setVf_ptMade (v : Nat) (x : Vf) : (s.setVf v x).ptMade = s.ptMade := rfl
@[simp] theorem State.setVf_tlb (v : Nat) (x : Vf) : (s.setVf v x).tlb = s.tlb := rfl
@[simp] theorem State.setVf_sharers (v : Nat) (x : Vf) : (s.setVf v x).sharers = s.sharers := rfl
@[simp] theorem State.setVf_invals (v : Nat) (x : Vf) : (s.setVf v x).invals = s.invals := rfl
@[simp] theorem State.setVf_migrations (v : Nat) (x : Vf) : (s.setVf v x).migrations = s.migrations := rfl
@[simp] theorem State.setVf_records (v : Nat) (x : Vf) : (s.setVf v x).records = s.records := rfl
@[simp] theorem State.setVf_deltas (v : Nat) (x : Vf) : (s.setVf v x).deltas = s.deltas := rfl
@[simp] theorem State.setVf_walkers (v : Nat) (x : Vf) : (s.setVf v x).walkers = s.walkers := rfl
@[simp] theorem State.setVf_fe (v : Nat) (x : Vf) : (s.setVf v x).fe = s.fe := rfl
@[simp] theorem State.setVf_pow (v : Nat) (x : Vf) : (s.setVf v x).pow = s.pow := rfl
@[simp] theorem State.setVf_fab (v : Nat) (x : Vf) : (s.setVf v x).fab = s.fab := rfl
@[simp] theorem State.setVf_pool (v : Nat) (x : Vf) : (s.setVf v x).pool = s.pool := rfl
@[simp] theorem State.setVf_agenda (v : Nat) (x : Vf) : (s.setVf v x).agenda = s.agenda := rfl
@[simp] theorem State.setVf_late (v : Nat) (x : Vf) : (s.setVf v x).late = s.late := rfl
@[simp] theorem State.setVf_issueQ (v : Nat) (x : Vf) : (s.setVf v x).issueQ = s.issueQ := rfl
@[simp] theorem State.setVf_round (v : Nat) (x : Vf) : (s.setVf v x).round = s.round := rfl
@[simp] theorem State.setVf_cur (v : Nat) (x : Vf) : (s.setVf v x).cur = s.cur := rfl
@[simp] theorem State.setVf_issue (v : Nat) (x : Vf) : (s.setVf v x).issue = s.issue := rfl
@[simp] theorem State.setVf_freeCtr (v : Nat) (x : Vf) : (s.setVf v x).freeCtr = s.freeCtr := rfl

/-! ## spend -/

@[simp] theorem State.spend_cycles : (s.spend ).cycles = s.cycles := rfl
@[simp] theorem State.spend_ctxs : (s.spend ).ctxs = s.ctxs := rfl
@[simp] theorem State.spend_cores : (s.spend ).cores = s.cores := rfl
@[simp] theorem State.spend_clusters : (s.spend ).clusters = s.clusters := rfl
@[simp] theorem State.spend_mem : (s.spend ).mem = s.mem := rfl
@[simp] theorem State.spend_hostMem : (s.spend ).hostMem = s.hostMem := rfl
@[simp] theorem State.spend_llc : (s.spend ).llc = s.llc := rfl
@[simp] theorem State.spend_windows : (s.spend ).windows = s.windows := rfl
@[simp] theorem State.spend_closed : (s.spend ).closed = s.closed := rfl
@[simp] theorem State.spend_ptbase : (s.spend ).ptbase = s.ptbase := rfl
@[simp] theorem State.spend_ptMade : (s.spend ).ptMade = s.ptMade := rfl
@[simp] theorem State.spend_tlb : (s.spend ).tlb = s.tlb := rfl
@[simp] theorem State.spend_sharers : (s.spend ).sharers = s.sharers := rfl
@[simp] theorem State.spend_invals : (s.spend ).invals = s.invals := rfl
@[simp] theorem State.spend_migrations : (s.spend ).migrations = s.migrations := rfl
@[simp] theorem State.spend_records : (s.spend ).records = s.records := rfl
@[simp] theorem State.spend_deltas : (s.spend ).deltas = s.deltas := rfl
@[simp] theorem State.spend_walkers : (s.spend ).walkers = s.walkers := rfl
@[simp] theorem State.spend_fe : (s.spend ).fe = s.fe := rfl
@[simp] theorem State.spend_host : (s.spend ).host = s.host := rfl
@[simp] theorem State.spend_pow : (s.spend ).pow = s.pow := rfl
@[simp] theorem State.spend_fab : (s.spend ).fab = s.fab := rfl
@[simp] theorem State.spend_pool : (s.spend ).pool = s.pool := rfl
@[simp] theorem State.spend_agenda : (s.spend ).agenda = s.agenda := rfl
@[simp] theorem State.spend_late : (s.spend ).late = s.late := rfl
@[simp] theorem State.spend_issueQ : (s.spend ).issueQ = s.issueQ := rfl
@[simp] theorem State.spend_round : (s.spend ).round = s.round := rfl
@[simp] theorem State.spend_cur : (s.spend ).cur = s.cur := rfl
@[simp] theorem State.spend_issue : (s.spend ).issue = s.issue := rfl

/-! ## withIssue -/

@[simp] theorem State.withIssue_cycles (i : Issue) : (s.withIssue i).cycles = s.cycles := rfl
@[simp] theorem State.withIssue_ctxs (i : Issue) : (s.withIssue i).ctxs = s.ctxs := rfl
@[simp] theorem State.withIssue_cores (i : Issue) : (s.withIssue i).cores = s.cores := rfl
@[simp] theorem State.withIssue_clusters (i : Issue) : (s.withIssue i).clusters = s.clusters := rfl
@[simp] theorem State.withIssue_mem (i : Issue) : (s.withIssue i).mem = s.mem := rfl
@[simp] theorem State.withIssue_hostMem (i : Issue) : (s.withIssue i).hostMem = s.hostMem := rfl
@[simp] theorem State.withIssue_llc (i : Issue) : (s.withIssue i).llc = s.llc := rfl
@[simp] theorem State.withIssue_windows (i : Issue) : (s.withIssue i).windows = s.windows := rfl
@[simp] theorem State.withIssue_closed (i : Issue) : (s.withIssue i).closed = s.closed := rfl
@[simp] theorem State.withIssue_ptbase (i : Issue) : (s.withIssue i).ptbase = s.ptbase := rfl
@[simp] theorem State.withIssue_ptMade (i : Issue) : (s.withIssue i).ptMade = s.ptMade := rfl
@[simp] theorem State.withIssue_tlb (i : Issue) : (s.withIssue i).tlb = s.tlb := rfl
@[simp] theorem State.withIssue_sharers (i : Issue) : (s.withIssue i).sharers = s.sharers := rfl
@[simp] theorem State.withIssue_invals (i : Issue) : (s.withIssue i).invals = s.invals := rfl
@[simp] theorem State.withIssue_migrations (i : Issue) : (s.withIssue i).migrations = s.migrations := rfl
@[simp] theorem State.withIssue_records (i : Issue) : (s.withIssue i).records = s.records := rfl
@[simp] theorem State.withIssue_deltas (i : Issue) : (s.withIssue i).deltas = s.deltas := rfl
@[simp] theorem State.withIssue_walkers (i : Issue) : (s.withIssue i).walkers = s.walkers := rfl
@[simp] theorem State.withIssue_fe (i : Issue) : (s.withIssue i).fe = s.fe := rfl
@[simp] theorem State.withIssue_host (i : Issue) : (s.withIssue i).host = s.host := rfl
@[simp] theorem State.withIssue_pow (i : Issue) : (s.withIssue i).pow = s.pow := rfl
@[simp] theorem State.withIssue_fab (i : Issue) : (s.withIssue i).fab = s.fab := rfl
@[simp] theorem State.withIssue_pool (i : Issue) : (s.withIssue i).pool = s.pool := rfl
@[simp] theorem State.withIssue_agenda (i : Issue) : (s.withIssue i).agenda = s.agenda := rfl
@[simp] theorem State.withIssue_late (i : Issue) : (s.withIssue i).late = s.late := rfl
@[simp] theorem State.withIssue_issueQ (i : Issue) : (s.withIssue i).issueQ = s.issueQ := rfl
@[simp] theorem State.withIssue_round (i : Issue) : (s.withIssue i).round = s.round := rfl
@[simp] theorem State.withIssue_cur (i : Issue) : (s.withIssue i).cur = s.cur := rfl
@[simp] theorem State.withIssue_freeCtr (i : Issue) : (s.withIssue i).freeCtr = s.freeCtr := rfl

/-! ## flag -/

@[simp] theorem State.flag_cycles (fl : Nat) : (s.flag fl).cycles = s.cycles := rfl
@[simp] theorem State.flag_ctxs (fl : Nat) : (s.flag fl).ctxs = s.ctxs := rfl
@[simp] theorem State.flag_cores (fl : Nat) : (s.flag fl).cores = s.cores := rfl
@[simp] theorem State.flag_clusters (fl : Nat) : (s.flag fl).clusters = s.clusters := rfl
@[simp] theorem State.flag_mem (fl : Nat) : (s.flag fl).mem = s.mem := rfl
@[simp] theorem State.flag_hostMem (fl : Nat) : (s.flag fl).hostMem = s.hostMem := rfl
@[simp] theorem State.flag_llc (fl : Nat) : (s.flag fl).llc = s.llc := rfl
@[simp] theorem State.flag_windows (fl : Nat) : (s.flag fl).windows = s.windows := rfl
@[simp] theorem State.flag_closed (fl : Nat) : (s.flag fl).closed = s.closed := rfl
@[simp] theorem State.flag_ptbase (fl : Nat) : (s.flag fl).ptbase = s.ptbase := rfl
@[simp] theorem State.flag_ptMade (fl : Nat) : (s.flag fl).ptMade = s.ptMade := rfl
@[simp] theorem State.flag_tlb (fl : Nat) : (s.flag fl).tlb = s.tlb := rfl
@[simp] theorem State.flag_sharers (fl : Nat) : (s.flag fl).sharers = s.sharers := rfl
@[simp] theorem State.flag_invals (fl : Nat) : (s.flag fl).invals = s.invals := rfl
@[simp] theorem State.flag_migrations (fl : Nat) : (s.flag fl).migrations = s.migrations := rfl
@[simp] theorem State.flag_records (fl : Nat) : (s.flag fl).records = s.records := rfl
@[simp] theorem State.flag_deltas (fl : Nat) : (s.flag fl).deltas = s.deltas := rfl
@[simp] theorem State.flag_walkers (fl : Nat) : (s.flag fl).walkers = s.walkers := rfl
@[simp] theorem State.flag_fe (fl : Nat) : (s.flag fl).fe = s.fe := rfl
@[simp] theorem State.flag_host (fl : Nat) : (s.flag fl).host = s.host := rfl
@[simp] theorem State.flag_pow (fl : Nat) : (s.flag fl).pow = s.pow := rfl
@[simp] theorem State.flag_fab (fl : Nat) : (s.flag fl).fab = s.fab := rfl
@[simp] theorem State.flag_pool (fl : Nat) : (s.flag fl).pool = s.pool := rfl
@[simp] theorem State.flag_agenda (fl : Nat) : (s.flag fl).agenda = s.agenda := rfl
@[simp] theorem State.flag_late (fl : Nat) : (s.flag fl).late = s.late := rfl
@[simp] theorem State.flag_issueQ (fl : Nat) : (s.flag fl).issueQ = s.issueQ := rfl
@[simp] theorem State.flag_round (fl : Nat) : (s.flag fl).round = s.round := rfl
@[simp] theorem State.flag_cur (fl : Nat) : (s.flag fl).cur = s.cur := rfl
@[simp] theorem State.flag_freeCtr (fl : Nat) : (s.flag fl).freeCtr = s.freeCtr := rfl

/-! ## idle -/

@[simp] theorem State.idle_cycles : (s.idle ).cycles = s.cycles := rfl
@[simp] theorem State.idle_ctxs : (s.idle ).ctxs = s.ctxs := rfl
@[simp] theorem State.idle_cores : (s.idle ).cores = s.cores := rfl
@[simp] theorem State.idle_clusters : (s.idle ).clusters = s.clusters := rfl
@[simp] theorem State.idle_mem : (s.idle ).mem = s.mem := rfl
@[simp] theorem State.idle_hostMem : (s.idle ).hostMem = s.hostMem := rfl
@[simp] theorem State.idle_llc : (s.idle ).llc = s.llc := rfl
@[simp] theorem State.idle_windows : (s.idle ).windows = s.windows := rfl
@[simp] theorem State.idle_closed : (s.idle ).closed = s.closed := rfl
@[simp] theorem State.idle_ptbase : (s.idle ).ptbase = s.ptbase := rfl
@[simp] theorem State.idle_ptMade : (s.idle ).ptMade = s.ptMade := rfl
@[simp] theorem State.idle_tlb : (s.idle ).tlb = s.tlb := rfl
@[simp] theorem State.idle_sharers : (s.idle ).sharers = s.sharers := rfl
@[simp] theorem State.idle_invals : (s.idle ).invals = s.invals := rfl
@[simp] theorem State.idle_migrations : (s.idle ).migrations = s.migrations := rfl
@[simp] theorem State.idle_records : (s.idle ).records = s.records := rfl
@[simp] theorem State.idle_deltas : (s.idle ).deltas = s.deltas := rfl
@[simp] theorem State.idle_walkers : (s.idle ).walkers = s.walkers := rfl
@[simp] theorem State.idle_fe : (s.idle ).fe = s.fe := rfl
@[simp] theorem State.idle_host : (s.idle ).host = s.host := rfl
@[simp] theorem State.idle_pow : (s.idle ).pow = s.pow := rfl
@[simp] theorem State.idle_fab : (s.idle ).fab = s.fab := rfl
@[simp] theorem State.idle_pool : (s.idle ).pool = s.pool := rfl
@[simp] theorem State.idle_agenda : (s.idle ).agenda = s.agenda := rfl
@[simp] theorem State.idle_late : (s.idle ).late = s.late := rfl
@[simp] theorem State.idle_issueQ : (s.idle ).issueQ = s.issueQ := rfl
@[simp] theorem State.idle_round : (s.idle ).round = s.round := rfl
@[simp] theorem State.idle_cur : (s.idle ).cur = s.cur := rfl
@[simp] theorem State.idle_freeCtr : (s.idle ).freeCtr = s.freeCtr := rfl

/-! ## modQueue -/

@[simp] theorem State.modQueue_cycles (q : Nat) (f : Queue → Queue) : (s.modQueue q f).cycles = s.cycles := rfl
@[simp] theorem State.modQueue_ctxs (q : Nat) (f : Queue → Queue) : (s.modQueue q f).ctxs = s.ctxs := rfl
@[simp] theorem State.modQueue_cores (q : Nat) (f : Queue → Queue) : (s.modQueue q f).cores = s.cores := rfl
@[simp] theorem State.modQueue_clusters (q : Nat) (f : Queue → Queue) : (s.modQueue q f).clusters = s.clusters := rfl
@[simp] theorem State.modQueue_mem (q : Nat) (f : Queue → Queue) : (s.modQueue q f).mem = s.mem := rfl
@[simp] theorem State.modQueue_hostMem (q : Nat) (f : Queue → Queue) : (s.modQueue q f).hostMem = s.hostMem := rfl
@[simp] theorem State.modQueue_llc (q : Nat) (f : Queue → Queue) : (s.modQueue q f).llc = s.llc := rfl
@[simp] theorem State.modQueue_windows (q : Nat) (f : Queue → Queue) : (s.modQueue q f).windows = s.windows := rfl
@[simp] theorem State.modQueue_closed (q : Nat) (f : Queue → Queue) : (s.modQueue q f).closed = s.closed := rfl
@[simp] theorem State.modQueue_ptbase (q : Nat) (f : Queue → Queue) : (s.modQueue q f).ptbase = s.ptbase := rfl
@[simp] theorem State.modQueue_ptMade (q : Nat) (f : Queue → Queue) : (s.modQueue q f).ptMade = s.ptMade := rfl
@[simp] theorem State.modQueue_tlb (q : Nat) (f : Queue → Queue) : (s.modQueue q f).tlb = s.tlb := rfl
@[simp] theorem State.modQueue_sharers (q : Nat) (f : Queue → Queue) : (s.modQueue q f).sharers = s.sharers := rfl
@[simp] theorem State.modQueue_invals (q : Nat) (f : Queue → Queue) : (s.modQueue q f).invals = s.invals := rfl
@[simp] theorem State.modQueue_migrations (q : Nat) (f : Queue → Queue) : (s.modQueue q f).migrations = s.migrations := rfl
@[simp] theorem State.modQueue_records (q : Nat) (f : Queue → Queue) : (s.modQueue q f).records = s.records := rfl
@[simp] theorem State.modQueue_deltas (q : Nat) (f : Queue → Queue) : (s.modQueue q f).deltas = s.deltas := rfl
@[simp] theorem State.modQueue_walkers (q : Nat) (f : Queue → Queue) : (s.modQueue q f).walkers = s.walkers := rfl
@[simp] theorem State.modQueue_host (q : Nat) (f : Queue → Queue) : (s.modQueue q f).host = s.host := rfl
@[simp] theorem State.modQueue_pow (q : Nat) (f : Queue → Queue) : (s.modQueue q f).pow = s.pow := rfl
@[simp] theorem State.modQueue_fab (q : Nat) (f : Queue → Queue) : (s.modQueue q f).fab = s.fab := rfl
@[simp] theorem State.modQueue_pool (q : Nat) (f : Queue → Queue) : (s.modQueue q f).pool = s.pool := rfl
@[simp] theorem State.modQueue_agenda (q : Nat) (f : Queue → Queue) : (s.modQueue q f).agenda = s.agenda := rfl
@[simp] theorem State.modQueue_late (q : Nat) (f : Queue → Queue) : (s.modQueue q f).late = s.late := rfl
@[simp] theorem State.modQueue_issueQ (q : Nat) (f : Queue → Queue) : (s.modQueue q f).issueQ = s.issueQ := rfl
@[simp] theorem State.modQueue_round (q : Nat) (f : Queue → Queue) : (s.modQueue q f).round = s.round := rfl
@[simp] theorem State.modQueue_cur (q : Nat) (f : Queue → Queue) : (s.modQueue q f).cur = s.cur := rfl
@[simp] theorem State.modQueue_issue (q : Nat) (f : Queue → Queue) : (s.modQueue q f).issue = s.issue := rfl
@[simp] theorem State.modQueue_freeCtr (q : Nat) (f : Queue → Queue) : (s.modQueue q f).freeCtr = s.freeCtr := rfl

/-! ## setWalker -/

@[simp] theorem State.setWalker_cycles (w : Nat) (x : Walker) : (s.setWalker w x).cycles = s.cycles := rfl
@[simp] theorem State.setWalker_ctxs (w : Nat) (x : Walker) : (s.setWalker w x).ctxs = s.ctxs := rfl
@[simp] theorem State.setWalker_cores (w : Nat) (x : Walker) : (s.setWalker w x).cores = s.cores := rfl
@[simp] theorem State.setWalker_clusters (w : Nat) (x : Walker) : (s.setWalker w x).clusters = s.clusters := rfl
@[simp] theorem State.setWalker_mem (w : Nat) (x : Walker) : (s.setWalker w x).mem = s.mem := rfl
@[simp] theorem State.setWalker_hostMem (w : Nat) (x : Walker) : (s.setWalker w x).hostMem = s.hostMem := rfl
@[simp] theorem State.setWalker_llc (w : Nat) (x : Walker) : (s.setWalker w x).llc = s.llc := rfl
@[simp] theorem State.setWalker_windows (w : Nat) (x : Walker) : (s.setWalker w x).windows = s.windows := rfl
@[simp] theorem State.setWalker_closed (w : Nat) (x : Walker) : (s.setWalker w x).closed = s.closed := rfl
@[simp] theorem State.setWalker_ptbase (w : Nat) (x : Walker) : (s.setWalker w x).ptbase = s.ptbase := rfl
@[simp] theorem State.setWalker_ptMade (w : Nat) (x : Walker) : (s.setWalker w x).ptMade = s.ptMade := rfl
@[simp] theorem State.setWalker_tlb (w : Nat) (x : Walker) : (s.setWalker w x).tlb = s.tlb := rfl
@[simp] theorem State.setWalker_sharers (w : Nat) (x : Walker) : (s.setWalker w x).sharers = s.sharers := rfl
@[simp] theorem State.setWalker_invals (w : Nat) (x : Walker) : (s.setWalker w x).invals = s.invals := rfl
@[simp] theorem State.setWalker_migrations (w : Nat) (x : Walker) : (s.setWalker w x).migrations = s.migrations := rfl
@[simp] theorem State.setWalker_records (w : Nat) (x : Walker) : (s.setWalker w x).records = s.records := rfl
@[simp] theorem State.setWalker_deltas (w : Nat) (x : Walker) : (s.setWalker w x).deltas = s.deltas := rfl
@[simp] theorem State.setWalker_fe (w : Nat) (x : Walker) : (s.setWalker w x).fe = s.fe := rfl
@[simp] theorem State.setWalker_host (w : Nat) (x : Walker) : (s.setWalker w x).host = s.host := rfl
@[simp] theorem State.setWalker_pow (w : Nat) (x : Walker) : (s.setWalker w x).pow = s.pow := rfl
@[simp] theorem State.setWalker_fab (w : Nat) (x : Walker) : (s.setWalker w x).fab = s.fab := rfl
@[simp] theorem State.setWalker_pool (w : Nat) (x : Walker) : (s.setWalker w x).pool = s.pool := rfl
@[simp] theorem State.setWalker_agenda (w : Nat) (x : Walker) : (s.setWalker w x).agenda = s.agenda := rfl
@[simp] theorem State.setWalker_late (w : Nat) (x : Walker) : (s.setWalker w x).late = s.late := rfl
@[simp] theorem State.setWalker_issueQ (w : Nat) (x : Walker) : (s.setWalker w x).issueQ = s.issueQ := rfl
@[simp] theorem State.setWalker_round (w : Nat) (x : Walker) : (s.setWalker w x).round = s.round := rfl
@[simp] theorem State.setWalker_cur (w : Nat) (x : Walker) : (s.setWalker w x).cur = s.cur := rfl
@[simp] theorem State.setWalker_issue (w : Nat) (x : Walker) : (s.setWalker w x).issue = s.issue := rfl
@[simp] theorem State.setWalker_freeCtr (w : Nat) (x : Walker) : (s.setWalker w x).freeCtr = s.freeCtr := rfl

/-! ## freeWalker -/

@[simp] theorem State.freeWalker_cycles (w : Nat) : (s.freeWalker w).cycles = s.cycles := rfl
@[simp] theorem State.freeWalker_ctxs (w : Nat) : (s.freeWalker w).ctxs = s.ctxs := rfl
@[simp] theorem State.freeWalker_cores (w : Nat) : (s.freeWalker w).cores = s.cores := rfl
@[simp] theorem State.freeWalker_clusters (w : Nat) : (s.freeWalker w).clusters = s.clusters := rfl
@[simp] theorem State.freeWalker_mem (w : Nat) : (s.freeWalker w).mem = s.mem := rfl
@[simp] theorem State.freeWalker_hostMem (w : Nat) : (s.freeWalker w).hostMem = s.hostMem := rfl
@[simp] theorem State.freeWalker_llc (w : Nat) : (s.freeWalker w).llc = s.llc := rfl
@[simp] theorem State.freeWalker_windows (w : Nat) : (s.freeWalker w).windows = s.windows := rfl
@[simp] theorem State.freeWalker_closed (w : Nat) : (s.freeWalker w).closed = s.closed := rfl
@[simp] theorem State.freeWalker_ptbase (w : Nat) : (s.freeWalker w).ptbase = s.ptbase := rfl
@[simp] theorem State.freeWalker_ptMade (w : Nat) : (s.freeWalker w).ptMade = s.ptMade := rfl
@[simp] theorem State.freeWalker_tlb (w : Nat) : (s.freeWalker w).tlb = s.tlb := rfl
@[simp] theorem State.freeWalker_sharers (w : Nat) : (s.freeWalker w).sharers = s.sharers := rfl
@[simp] theorem State.freeWalker_invals (w : Nat) : (s.freeWalker w).invals = s.invals := rfl
@[simp] theorem State.freeWalker_migrations (w : Nat) : (s.freeWalker w).migrations = s.migrations := rfl
@[simp] theorem State.freeWalker_records (w : Nat) : (s.freeWalker w).records = s.records := rfl
@[simp] theorem State.freeWalker_deltas (w : Nat) : (s.freeWalker w).deltas = s.deltas := rfl
@[simp] theorem State.freeWalker_fe (w : Nat) : (s.freeWalker w).fe = s.fe := rfl
@[simp] theorem State.freeWalker_host (w : Nat) : (s.freeWalker w).host = s.host := rfl
@[simp] theorem State.freeWalker_pow (w : Nat) : (s.freeWalker w).pow = s.pow := rfl
@[simp] theorem State.freeWalker_fab (w : Nat) : (s.freeWalker w).fab = s.fab := rfl
@[simp] theorem State.freeWalker_pool (w : Nat) : (s.freeWalker w).pool = s.pool := rfl
@[simp] theorem State.freeWalker_agenda (w : Nat) : (s.freeWalker w).agenda = s.agenda := rfl
@[simp] theorem State.freeWalker_late (w : Nat) : (s.freeWalker w).late = s.late := rfl
@[simp] theorem State.freeWalker_issueQ (w : Nat) : (s.freeWalker w).issueQ = s.issueQ := rfl
@[simp] theorem State.freeWalker_round (w : Nat) : (s.freeWalker w).round = s.round := rfl
@[simp] theorem State.freeWalker_cur (w : Nat) : (s.freeWalker w).cur = s.cur := rfl
@[simp] theorem State.freeWalker_issue (w : Nat) : (s.freeWalker w).issue = s.issue := rfl
@[simp] theorem State.freeWalker_freeCtr (w : Nat) : (s.freeWalker w).freeCtr = s.freeCtr := rfl

/-! ## setTask -/

@[simp] theorem State.setTask_cycles (n : Nat) (t : Machine.Task) : (s.setTask n t).cycles = s.cycles := rfl
@[simp] theorem State.setTask_ctxs (n : Nat) (t : Machine.Task) : (s.setTask n t).ctxs = s.ctxs := rfl
@[simp] theorem State.setTask_cores (n : Nat) (t : Machine.Task) : (s.setTask n t).cores = s.cores := rfl
@[simp] theorem State.setTask_clusters (n : Nat) (t : Machine.Task) : (s.setTask n t).clusters = s.clusters := rfl
@[simp] theorem State.setTask_mem (n : Nat) (t : Machine.Task) : (s.setTask n t).mem = s.mem := rfl
@[simp] theorem State.setTask_hostMem (n : Nat) (t : Machine.Task) : (s.setTask n t).hostMem = s.hostMem := rfl
@[simp] theorem State.setTask_llc (n : Nat) (t : Machine.Task) : (s.setTask n t).llc = s.llc := rfl
@[simp] theorem State.setTask_windows (n : Nat) (t : Machine.Task) : (s.setTask n t).windows = s.windows := rfl
@[simp] theorem State.setTask_closed (n : Nat) (t : Machine.Task) : (s.setTask n t).closed = s.closed := rfl
@[simp] theorem State.setTask_ptbase (n : Nat) (t : Machine.Task) : (s.setTask n t).ptbase = s.ptbase := rfl
@[simp] theorem State.setTask_ptMade (n : Nat) (t : Machine.Task) : (s.setTask n t).ptMade = s.ptMade := rfl
@[simp] theorem State.setTask_tlb (n : Nat) (t : Machine.Task) : (s.setTask n t).tlb = s.tlb := rfl
@[simp] theorem State.setTask_sharers (n : Nat) (t : Machine.Task) : (s.setTask n t).sharers = s.sharers := rfl
@[simp] theorem State.setTask_invals (n : Nat) (t : Machine.Task) : (s.setTask n t).invals = s.invals := rfl
@[simp] theorem State.setTask_migrations (n : Nat) (t : Machine.Task) : (s.setTask n t).migrations = s.migrations := rfl
@[simp] theorem State.setTask_records (n : Nat) (t : Machine.Task) : (s.setTask n t).records = s.records := rfl
@[simp] theorem State.setTask_deltas (n : Nat) (t : Machine.Task) : (s.setTask n t).deltas = s.deltas := rfl
@[simp] theorem State.setTask_walkers (n : Nat) (t : Machine.Task) : (s.setTask n t).walkers = s.walkers := rfl
@[simp] theorem State.setTask_host (n : Nat) (t : Machine.Task) : (s.setTask n t).host = s.host := rfl
@[simp] theorem State.setTask_pow (n : Nat) (t : Machine.Task) : (s.setTask n t).pow = s.pow := rfl
@[simp] theorem State.setTask_fab (n : Nat) (t : Machine.Task) : (s.setTask n t).fab = s.fab := rfl
@[simp] theorem State.setTask_pool (n : Nat) (t : Machine.Task) : (s.setTask n t).pool = s.pool := rfl
@[simp] theorem State.setTask_agenda (n : Nat) (t : Machine.Task) : (s.setTask n t).agenda = s.agenda := rfl
@[simp] theorem State.setTask_late (n : Nat) (t : Machine.Task) : (s.setTask n t).late = s.late := rfl
@[simp] theorem State.setTask_issueQ (n : Nat) (t : Machine.Task) : (s.setTask n t).issueQ = s.issueQ := rfl
@[simp] theorem State.setTask_round (n : Nat) (t : Machine.Task) : (s.setTask n t).round = s.round := rfl
@[simp] theorem State.setTask_cur (n : Nat) (t : Machine.Task) : (s.setTask n t).cur = s.cur := rfl
@[simp] theorem State.setTask_issue (n : Nat) (t : Machine.Task) : (s.setTask n t).issue = s.issue := rfl
@[simp] theorem State.setTask_freeCtr (n : Nat) (t : Machine.Task) : (s.setTask n t).freeCtr = s.freeCtr := rfl

/-! ## scratchWrite -/

@[simp] theorem State.scratchWrite_cycles (k a n v : Nat) : (s.scratchWrite k a n v).cycles = s.cycles := rfl
@[simp] theorem State.scratchWrite_ctxs (k a n v : Nat) : (s.scratchWrite k a n v).ctxs = s.ctxs := rfl
@[simp] theorem State.scratchWrite_clusters (k a n v : Nat) : (s.scratchWrite k a n v).clusters = s.clusters := rfl
@[simp] theorem State.scratchWrite_mem (k a n v : Nat) : (s.scratchWrite k a n v).mem = s.mem := rfl
@[simp] theorem State.scratchWrite_hostMem (k a n v : Nat) : (s.scratchWrite k a n v).hostMem = s.hostMem := rfl
@[simp] theorem State.scratchWrite_llc (k a n v : Nat) : (s.scratchWrite k a n v).llc = s.llc := rfl
@[simp] theorem State.scratchWrite_windows (k a n v : Nat) : (s.scratchWrite k a n v).windows = s.windows := rfl
@[simp] theorem State.scratchWrite_closed (k a n v : Nat) : (s.scratchWrite k a n v).closed = s.closed := rfl
@[simp] theorem State.scratchWrite_ptbase (k a n v : Nat) : (s.scratchWrite k a n v).ptbase = s.ptbase := rfl
@[simp] theorem State.scratchWrite_ptMade (k a n v : Nat) : (s.scratchWrite k a n v).ptMade = s.ptMade := rfl
@[simp] theorem State.scratchWrite_tlb (k a n v : Nat) : (s.scratchWrite k a n v).tlb = s.tlb := rfl
@[simp] theorem State.scratchWrite_sharers (k a n v : Nat) : (s.scratchWrite k a n v).sharers = s.sharers := rfl
@[simp] theorem State.scratchWrite_invals (k a n v : Nat) : (s.scratchWrite k a n v).invals = s.invals := rfl
@[simp] theorem State.scratchWrite_migrations (k a n v : Nat) : (s.scratchWrite k a n v).migrations = s.migrations := rfl
@[simp] theorem State.scratchWrite_records (k a n v : Nat) : (s.scratchWrite k a n v).records = s.records := rfl
@[simp] theorem State.scratchWrite_deltas (k a n v : Nat) : (s.scratchWrite k a n v).deltas = s.deltas := rfl
@[simp] theorem State.scratchWrite_walkers (k a n v : Nat) : (s.scratchWrite k a n v).walkers = s.walkers := rfl
@[simp] theorem State.scratchWrite_fe (k a n v : Nat) : (s.scratchWrite k a n v).fe = s.fe := rfl
@[simp] theorem State.scratchWrite_host (k a n v : Nat) : (s.scratchWrite k a n v).host = s.host := rfl
@[simp] theorem State.scratchWrite_pow (k a n v : Nat) : (s.scratchWrite k a n v).pow = s.pow := rfl
@[simp] theorem State.scratchWrite_fab (k a n v : Nat) : (s.scratchWrite k a n v).fab = s.fab := rfl
@[simp] theorem State.scratchWrite_pool (k a n v : Nat) : (s.scratchWrite k a n v).pool = s.pool := rfl
@[simp] theorem State.scratchWrite_agenda (k a n v : Nat) : (s.scratchWrite k a n v).agenda = s.agenda := rfl
@[simp] theorem State.scratchWrite_late (k a n v : Nat) : (s.scratchWrite k a n v).late = s.late := rfl
@[simp] theorem State.scratchWrite_issueQ (k a n v : Nat) : (s.scratchWrite k a n v).issueQ = s.issueQ := rfl
@[simp] theorem State.scratchWrite_round (k a n v : Nat) : (s.scratchWrite k a n v).round = s.round := rfl
@[simp] theorem State.scratchWrite_cur (k a n v : Nat) : (s.scratchWrite k a n v).cur = s.cur := rfl
@[simp] theorem State.scratchWrite_issue (k a n v : Nat) : (s.scratchWrite k a n v).issue = s.issue := rfl
@[simp] theorem State.scratchWrite_freeCtr (k a n v : Nat) : (s.scratchWrite k a n v).freeCtr = s.freeCtr := rfl

/-! ## addUnit -/

@[simp] theorem State.addUnit_cycles (u : MemUnit) : (s.addUnit u).cycles = s.cycles := rfl
@[simp] theorem State.addUnit_cores (u : MemUnit) : (s.addUnit u).cores = s.cores := rfl
@[simp] theorem State.addUnit_clusters (u : MemUnit) : (s.addUnit u).clusters = s.clusters := rfl
@[simp] theorem State.addUnit_mem (u : MemUnit) : (s.addUnit u).mem = s.mem := rfl
@[simp] theorem State.addUnit_hostMem (u : MemUnit) : (s.addUnit u).hostMem = s.hostMem := rfl
@[simp] theorem State.addUnit_llc (u : MemUnit) : (s.addUnit u).llc = s.llc := rfl
@[simp] theorem State.addUnit_windows (u : MemUnit) : (s.addUnit u).windows = s.windows := rfl
@[simp] theorem State.addUnit_closed (u : MemUnit) : (s.addUnit u).closed = s.closed := rfl
@[simp] theorem State.addUnit_ptbase (u : MemUnit) : (s.addUnit u).ptbase = s.ptbase := rfl
@[simp] theorem State.addUnit_ptMade (u : MemUnit) : (s.addUnit u).ptMade = s.ptMade := rfl
@[simp] theorem State.addUnit_tlb (u : MemUnit) : (s.addUnit u).tlb = s.tlb := rfl
@[simp] theorem State.addUnit_sharers (u : MemUnit) : (s.addUnit u).sharers = s.sharers := rfl
@[simp] theorem State.addUnit_invals (u : MemUnit) : (s.addUnit u).invals = s.invals := rfl
@[simp] theorem State.addUnit_migrations (u : MemUnit) : (s.addUnit u).migrations = s.migrations := rfl
@[simp] theorem State.addUnit_records (u : MemUnit) : (s.addUnit u).records = s.records := rfl
@[simp] theorem State.addUnit_deltas (u : MemUnit) : (s.addUnit u).deltas = s.deltas := rfl
@[simp] theorem State.addUnit_walkers (u : MemUnit) : (s.addUnit u).walkers = s.walkers := rfl
@[simp] theorem State.addUnit_fe (u : MemUnit) : (s.addUnit u).fe = s.fe := rfl
@[simp] theorem State.addUnit_host (u : MemUnit) : (s.addUnit u).host = s.host := rfl
@[simp] theorem State.addUnit_pow (u : MemUnit) : (s.addUnit u).pow = s.pow := rfl
@[simp] theorem State.addUnit_fab (u : MemUnit) : (s.addUnit u).fab = s.fab := rfl
@[simp] theorem State.addUnit_pool (u : MemUnit) : (s.addUnit u).pool = s.pool := rfl
@[simp] theorem State.addUnit_agenda (u : MemUnit) : (s.addUnit u).agenda = s.agenda := rfl
@[simp] theorem State.addUnit_late (u : MemUnit) : (s.addUnit u).late = s.late := rfl
@[simp] theorem State.addUnit_issueQ (u : MemUnit) : (s.addUnit u).issueQ = s.issueQ := rfl
@[simp] theorem State.addUnit_round (u : MemUnit) : (s.addUnit u).round = s.round := rfl
@[simp] theorem State.addUnit_cur (u : MemUnit) : (s.addUnit u).cur = s.cur := rfl
@[simp] theorem State.addUnit_issue (u : MemUnit) : (s.addUnit u).issue = s.issue := rfl
@[simp] theorem State.addUnit_freeCtr (u : MemUnit) : (s.addUnit u).freeCtr = s.freeCtr := rfl

/-! ## addEng -/

@[simp] theorem State.addEng_cycles (o : EngOp) : (s.addEng o).cycles = s.cycles := rfl
@[simp] theorem State.addEng_cores (o : EngOp) : (s.addEng o).cores = s.cores := rfl
@[simp] theorem State.addEng_clusters (o : EngOp) : (s.addEng o).clusters = s.clusters := rfl
@[simp] theorem State.addEng_mem (o : EngOp) : (s.addEng o).mem = s.mem := rfl
@[simp] theorem State.addEng_hostMem (o : EngOp) : (s.addEng o).hostMem = s.hostMem := rfl
@[simp] theorem State.addEng_llc (o : EngOp) : (s.addEng o).llc = s.llc := rfl
@[simp] theorem State.addEng_windows (o : EngOp) : (s.addEng o).windows = s.windows := rfl
@[simp] theorem State.addEng_closed (o : EngOp) : (s.addEng o).closed = s.closed := rfl
@[simp] theorem State.addEng_ptbase (o : EngOp) : (s.addEng o).ptbase = s.ptbase := rfl
@[simp] theorem State.addEng_ptMade (o : EngOp) : (s.addEng o).ptMade = s.ptMade := rfl
@[simp] theorem State.addEng_tlb (o : EngOp) : (s.addEng o).tlb = s.tlb := rfl
@[simp] theorem State.addEng_sharers (o : EngOp) : (s.addEng o).sharers = s.sharers := rfl
@[simp] theorem State.addEng_invals (o : EngOp) : (s.addEng o).invals = s.invals := rfl
@[simp] theorem State.addEng_migrations (o : EngOp) : (s.addEng o).migrations = s.migrations := rfl
@[simp] theorem State.addEng_records (o : EngOp) : (s.addEng o).records = s.records := rfl
@[simp] theorem State.addEng_deltas (o : EngOp) : (s.addEng o).deltas = s.deltas := rfl
@[simp] theorem State.addEng_walkers (o : EngOp) : (s.addEng o).walkers = s.walkers := rfl
@[simp] theorem State.addEng_fe (o : EngOp) : (s.addEng o).fe = s.fe := rfl
@[simp] theorem State.addEng_host (o : EngOp) : (s.addEng o).host = s.host := rfl
@[simp] theorem State.addEng_pow (o : EngOp) : (s.addEng o).pow = s.pow := rfl
@[simp] theorem State.addEng_fab (o : EngOp) : (s.addEng o).fab = s.fab := rfl
@[simp] theorem State.addEng_pool (o : EngOp) : (s.addEng o).pool = s.pool := rfl
@[simp] theorem State.addEng_agenda (o : EngOp) : (s.addEng o).agenda = s.agenda := rfl
@[simp] theorem State.addEng_late (o : EngOp) : (s.addEng o).late = s.late := rfl
@[simp] theorem State.addEng_issueQ (o : EngOp) : (s.addEng o).issueQ = s.issueQ := rfl
@[simp] theorem State.addEng_round (o : EngOp) : (s.addEng o).round = s.round := rfl
@[simp] theorem State.addEng_cur (o : EngOp) : (s.addEng o).cur = s.cur := rfl
@[simp] theorem State.addEng_issue (o : EngOp) : (s.addEng o).issue = s.issue := rfl
@[simp] theorem State.addEng_freeCtr (o : EngOp) : (s.addEng o).freeCtr = s.freeCtr := rfl

/-! ## setLine -/

@[simp] theorem State.setLine_cycles (c n : Nat) (l : CacheLine) : (s.setLine c n l).cycles = s.cycles := rfl
@[simp] theorem State.setLine_ctxs (c n : Nat) (l : CacheLine) : (s.setLine c n l).ctxs = s.ctxs := rfl
@[simp] theorem State.setLine_cores (c n : Nat) (l : CacheLine) : (s.setLine c n l).cores = s.cores := rfl
@[simp] theorem State.setLine_mem (c n : Nat) (l : CacheLine) : (s.setLine c n l).mem = s.mem := rfl
@[simp] theorem State.setLine_hostMem (c n : Nat) (l : CacheLine) : (s.setLine c n l).hostMem = s.hostMem := rfl
@[simp] theorem State.setLine_llc (c n : Nat) (l : CacheLine) : (s.setLine c n l).llc = s.llc := rfl
@[simp] theorem State.setLine_windows (c n : Nat) (l : CacheLine) : (s.setLine c n l).windows = s.windows := rfl
@[simp] theorem State.setLine_closed (c n : Nat) (l : CacheLine) : (s.setLine c n l).closed = s.closed := rfl
@[simp] theorem State.setLine_ptbase (c n : Nat) (l : CacheLine) : (s.setLine c n l).ptbase = s.ptbase := rfl
@[simp] theorem State.setLine_ptMade (c n : Nat) (l : CacheLine) : (s.setLine c n l).ptMade = s.ptMade := rfl
@[simp] theorem State.setLine_tlb (c n : Nat) (l : CacheLine) : (s.setLine c n l).tlb = s.tlb := rfl
@[simp] theorem State.setLine_sharers (c n : Nat) (l : CacheLine) : (s.setLine c n l).sharers = s.sharers := rfl
@[simp] theorem State.setLine_invals (c n : Nat) (l : CacheLine) : (s.setLine c n l).invals = s.invals := rfl
@[simp] theorem State.setLine_migrations (c n : Nat) (l : CacheLine) : (s.setLine c n l).migrations = s.migrations := rfl
@[simp] theorem State.setLine_records (c n : Nat) (l : CacheLine) : (s.setLine c n l).records = s.records := rfl
@[simp] theorem State.setLine_deltas (c n : Nat) (l : CacheLine) : (s.setLine c n l).deltas = s.deltas := rfl
@[simp] theorem State.setLine_walkers (c n : Nat) (l : CacheLine) : (s.setLine c n l).walkers = s.walkers := rfl
@[simp] theorem State.setLine_fe (c n : Nat) (l : CacheLine) : (s.setLine c n l).fe = s.fe := rfl
@[simp] theorem State.setLine_host (c n : Nat) (l : CacheLine) : (s.setLine c n l).host = s.host := rfl
@[simp] theorem State.setLine_pow (c n : Nat) (l : CacheLine) : (s.setLine c n l).pow = s.pow := rfl
@[simp] theorem State.setLine_fab (c n : Nat) (l : CacheLine) : (s.setLine c n l).fab = s.fab := rfl
@[simp] theorem State.setLine_pool (c n : Nat) (l : CacheLine) : (s.setLine c n l).pool = s.pool := rfl
@[simp] theorem State.setLine_agenda (c n : Nat) (l : CacheLine) : (s.setLine c n l).agenda = s.agenda := rfl
@[simp] theorem State.setLine_late (c n : Nat) (l : CacheLine) : (s.setLine c n l).late = s.late := rfl
@[simp] theorem State.setLine_issueQ (c n : Nat) (l : CacheLine) : (s.setLine c n l).issueQ = s.issueQ := rfl
@[simp] theorem State.setLine_round (c n : Nat) (l : CacheLine) : (s.setLine c n l).round = s.round := rfl
@[simp] theorem State.setLine_cur (c n : Nat) (l : CacheLine) : (s.setLine c n l).cur = s.cur := rfl
@[simp] theorem State.setLine_issue (c n : Nat) (l : CacheLine) : (s.setLine c n l).issue = s.issue := rfl
@[simp] theorem State.setLine_freeCtr (c n : Nat) (l : CacheLine) : (s.setLine c n l).freeCtr = s.freeCtr := rfl

/-! ## dropLine -/

@[simp] theorem State.dropLine_cycles (c n : Nat) : (s.dropLine c n).cycles = s.cycles := rfl
@[simp] theorem State.dropLine_ctxs (c n : Nat) : (s.dropLine c n).ctxs = s.ctxs := rfl
@[simp] theorem State.dropLine_cores (c n : Nat) : (s.dropLine c n).cores = s.cores := rfl
@[simp] theorem State.dropLine_mem (c n : Nat) : (s.dropLine c n).mem = s.mem := rfl
@[simp] theorem State.dropLine_hostMem (c n : Nat) : (s.dropLine c n).hostMem = s.hostMem := rfl
@[simp] theorem State.dropLine_llc (c n : Nat) : (s.dropLine c n).llc = s.llc := rfl
@[simp] theorem State.dropLine_windows (c n : Nat) : (s.dropLine c n).windows = s.windows := rfl
@[simp] theorem State.dropLine_closed (c n : Nat) : (s.dropLine c n).closed = s.closed := rfl
@[simp] theorem State.dropLine_ptbase (c n : Nat) : (s.dropLine c n).ptbase = s.ptbase := rfl
@[simp] theorem State.dropLine_ptMade (c n : Nat) : (s.dropLine c n).ptMade = s.ptMade := rfl
@[simp] theorem State.dropLine_tlb (c n : Nat) : (s.dropLine c n).tlb = s.tlb := rfl
@[simp] theorem State.dropLine_sharers (c n : Nat) : (s.dropLine c n).sharers = s.sharers := rfl
@[simp] theorem State.dropLine_invals (c n : Nat) : (s.dropLine c n).invals = s.invals := rfl
@[simp] theorem State.dropLine_migrations (c n : Nat) : (s.dropLine c n).migrations = s.migrations := rfl
@[simp] theorem State.dropLine_records (c n : Nat) : (s.dropLine c n).records = s.records := rfl
@[simp] theorem State.dropLine_deltas (c n : Nat) : (s.dropLine c n).deltas = s.deltas := rfl
@[simp] theorem State.dropLine_walkers (c n : Nat) : (s.dropLine c n).walkers = s.walkers := rfl
@[simp] theorem State.dropLine_fe (c n : Nat) : (s.dropLine c n).fe = s.fe := rfl
@[simp] theorem State.dropLine_host (c n : Nat) : (s.dropLine c n).host = s.host := rfl
@[simp] theorem State.dropLine_pow (c n : Nat) : (s.dropLine c n).pow = s.pow := rfl
@[simp] theorem State.dropLine_fab (c n : Nat) : (s.dropLine c n).fab = s.fab := rfl
@[simp] theorem State.dropLine_pool (c n : Nat) : (s.dropLine c n).pool = s.pool := rfl
@[simp] theorem State.dropLine_agenda (c n : Nat) : (s.dropLine c n).agenda = s.agenda := rfl
@[simp] theorem State.dropLine_late (c n : Nat) : (s.dropLine c n).late = s.late := rfl
@[simp] theorem State.dropLine_issueQ (c n : Nat) : (s.dropLine c n).issueQ = s.issueQ := rfl
@[simp] theorem State.dropLine_round (c n : Nat) : (s.dropLine c n).round = s.round := rfl
@[simp] theorem State.dropLine_cur (c n : Nat) : (s.dropLine c n).cur = s.cur := rfl
@[simp] theorem State.dropLine_issue (c n : Nat) : (s.dropLine c n).issue = s.issue := rfl
@[simp] theorem State.dropLine_freeCtr (c n : Nat) : (s.dropLine c n).freeCtr = s.freeCtr := rfl

/-! ## modBarrier -/

@[simp] theorem State.modBarrier_cycles (c b : Nat) (f : Barrier → Barrier) : (s.modBarrier c b f).cycles = s.cycles := rfl
@[simp] theorem State.modBarrier_ctxs (c b : Nat) (f : Barrier → Barrier) : (s.modBarrier c b f).ctxs = s.ctxs := rfl
@[simp] theorem State.modBarrier_cores (c b : Nat) (f : Barrier → Barrier) : (s.modBarrier c b f).cores = s.cores := rfl
@[simp] theorem State.modBarrier_mem (c b : Nat) (f : Barrier → Barrier) : (s.modBarrier c b f).mem = s.mem := rfl
@[simp] theorem State.modBarrier_hostMem (c b : Nat) (f : Barrier → Barrier) : (s.modBarrier c b f).hostMem = s.hostMem := rfl
@[simp] theorem State.modBarrier_llc (c b : Nat) (f : Barrier → Barrier) : (s.modBarrier c b f).llc = s.llc := rfl
@[simp] theorem State.modBarrier_windows (c b : Nat) (f : Barrier → Barrier) : (s.modBarrier c b f).windows = s.windows := rfl
@[simp] theorem State.modBarrier_closed (c b : Nat) (f : Barrier → Barrier) : (s.modBarrier c b f).closed = s.closed := rfl
@[simp] theorem State.modBarrier_ptbase (c b : Nat) (f : Barrier → Barrier) : (s.modBarrier c b f).ptbase = s.ptbase := rfl
@[simp] theorem State.modBarrier_ptMade (c b : Nat) (f : Barrier → Barrier) : (s.modBarrier c b f).ptMade = s.ptMade := rfl
@[simp] theorem State.modBarrier_tlb (c b : Nat) (f : Barrier → Barrier) : (s.modBarrier c b f).tlb = s.tlb := rfl
@[simp] theorem State.modBarrier_sharers (c b : Nat) (f : Barrier → Barrier) : (s.modBarrier c b f).sharers = s.sharers := rfl
@[simp] theorem State.modBarrier_invals (c b : Nat) (f : Barrier → Barrier) : (s.modBarrier c b f).invals = s.invals := rfl
@[simp] theorem State.modBarrier_migrations (c b : Nat) (f : Barrier → Barrier) : (s.modBarrier c b f).migrations = s.migrations := rfl
@[simp] theorem State.modBarrier_records (c b : Nat) (f : Barrier → Barrier) : (s.modBarrier c b f).records = s.records := rfl
@[simp] theorem State.modBarrier_deltas (c b : Nat) (f : Barrier → Barrier) : (s.modBarrier c b f).deltas = s.deltas := rfl
@[simp] theorem State.modBarrier_walkers (c b : Nat) (f : Barrier → Barrier) : (s.modBarrier c b f).walkers = s.walkers := rfl
@[simp] theorem State.modBarrier_fe (c b : Nat) (f : Barrier → Barrier) : (s.modBarrier c b f).fe = s.fe := rfl
@[simp] theorem State.modBarrier_host (c b : Nat) (f : Barrier → Barrier) : (s.modBarrier c b f).host = s.host := rfl
@[simp] theorem State.modBarrier_pow (c b : Nat) (f : Barrier → Barrier) : (s.modBarrier c b f).pow = s.pow := rfl
@[simp] theorem State.modBarrier_fab (c b : Nat) (f : Barrier → Barrier) : (s.modBarrier c b f).fab = s.fab := rfl
@[simp] theorem State.modBarrier_pool (c b : Nat) (f : Barrier → Barrier) : (s.modBarrier c b f).pool = s.pool := rfl
@[simp] theorem State.modBarrier_agenda (c b : Nat) (f : Barrier → Barrier) : (s.modBarrier c b f).agenda = s.agenda := rfl
@[simp] theorem State.modBarrier_late (c b : Nat) (f : Barrier → Barrier) : (s.modBarrier c b f).late = s.late := rfl
@[simp] theorem State.modBarrier_issueQ (c b : Nat) (f : Barrier → Barrier) : (s.modBarrier c b f).issueQ = s.issueQ := rfl
@[simp] theorem State.modBarrier_round (c b : Nat) (f : Barrier → Barrier) : (s.modBarrier c b f).round = s.round := rfl
@[simp] theorem State.modBarrier_cur (c b : Nat) (f : Barrier → Barrier) : (s.modBarrier c b f).cur = s.cur := rfl
@[simp] theorem State.modBarrier_issue (c b : Nat) (f : Barrier → Barrier) : (s.modBarrier c b f).issue = s.issue := rfl
@[simp] theorem State.modBarrier_freeCtr (c b : Nat) (f : Barrier → Barrier) : (s.modBarrier c b f).freeCtr = s.freeCtr := rfl

/-! ## setPoolObj -/

@[simp] theorem State.setPoolObj_cycles (n : Nat) (o : PoolObj) : (s.setPoolObj n o).cycles = s.cycles := rfl
@[simp] theorem State.setPoolObj_ctxs (n : Nat) (o : PoolObj) : (s.setPoolObj n o).ctxs = s.ctxs := rfl
@[simp] theorem State.setPoolObj_cores (n : Nat) (o : PoolObj) : (s.setPoolObj n o).cores = s.cores := rfl
@[simp] theorem State.setPoolObj_clusters (n : Nat) (o : PoolObj) : (s.setPoolObj n o).clusters = s.clusters := rfl
@[simp] theorem State.setPoolObj_mem (n : Nat) (o : PoolObj) : (s.setPoolObj n o).mem = s.mem := rfl
@[simp] theorem State.setPoolObj_hostMem (n : Nat) (o : PoolObj) : (s.setPoolObj n o).hostMem = s.hostMem := rfl
@[simp] theorem State.setPoolObj_llc (n : Nat) (o : PoolObj) : (s.setPoolObj n o).llc = s.llc := rfl
@[simp] theorem State.setPoolObj_windows (n : Nat) (o : PoolObj) : (s.setPoolObj n o).windows = s.windows := rfl
@[simp] theorem State.setPoolObj_closed (n : Nat) (o : PoolObj) : (s.setPoolObj n o).closed = s.closed := rfl
@[simp] theorem State.setPoolObj_ptbase (n : Nat) (o : PoolObj) : (s.setPoolObj n o).ptbase = s.ptbase := rfl
@[simp] theorem State.setPoolObj_ptMade (n : Nat) (o : PoolObj) : (s.setPoolObj n o).ptMade = s.ptMade := rfl
@[simp] theorem State.setPoolObj_tlb (n : Nat) (o : PoolObj) : (s.setPoolObj n o).tlb = s.tlb := rfl
@[simp] theorem State.setPoolObj_sharers (n : Nat) (o : PoolObj) : (s.setPoolObj n o).sharers = s.sharers := rfl
@[simp] theorem State.setPoolObj_invals (n : Nat) (o : PoolObj) : (s.setPoolObj n o).invals = s.invals := rfl
@[simp] theorem State.setPoolObj_migrations (n : Nat) (o : PoolObj) : (s.setPoolObj n o).migrations = s.migrations := rfl
@[simp] theorem State.setPoolObj_records (n : Nat) (o : PoolObj) : (s.setPoolObj n o).records = s.records := rfl
@[simp] theorem State.setPoolObj_deltas (n : Nat) (o : PoolObj) : (s.setPoolObj n o).deltas = s.deltas := rfl
@[simp] theorem State.setPoolObj_walkers (n : Nat) (o : PoolObj) : (s.setPoolObj n o).walkers = s.walkers := rfl
@[simp] theorem State.setPoolObj_fe (n : Nat) (o : PoolObj) : (s.setPoolObj n o).fe = s.fe := rfl
@[simp] theorem State.setPoolObj_host (n : Nat) (o : PoolObj) : (s.setPoolObj n o).host = s.host := rfl
@[simp] theorem State.setPoolObj_pow (n : Nat) (o : PoolObj) : (s.setPoolObj n o).pow = s.pow := rfl
@[simp] theorem State.setPoolObj_fab (n : Nat) (o : PoolObj) : (s.setPoolObj n o).fab = s.fab := rfl
@[simp] theorem State.setPoolObj_agenda (n : Nat) (o : PoolObj) : (s.setPoolObj n o).agenda = s.agenda := rfl
@[simp] theorem State.setPoolObj_late (n : Nat) (o : PoolObj) : (s.setPoolObj n o).late = s.late := rfl
@[simp] theorem State.setPoolObj_issueQ (n : Nat) (o : PoolObj) : (s.setPoolObj n o).issueQ = s.issueQ := rfl
@[simp] theorem State.setPoolObj_round (n : Nat) (o : PoolObj) : (s.setPoolObj n o).round = s.round := rfl
@[simp] theorem State.setPoolObj_cur (n : Nat) (o : PoolObj) : (s.setPoolObj n o).cur = s.cur := rfl
@[simp] theorem State.setPoolObj_issue (n : Nat) (o : PoolObj) : (s.setPoolObj n o).issue = s.issue := rfl
@[simp] theorem State.setPoolObj_freeCtr (n : Nat) (o : PoolObj) : (s.setPoolObj n o).freeCtr = s.freeCtr := rfl

end Sys2Proof.Machine
end

