-- ==== Sys2Proof/Laws/Store.lean ====
section
/-! SUPPORT. Laws of sparse maps and memories: what a write leaves to be read, and that every operation keeps the canonical form. -/

namespace Sys2Proof

variable {α : Type}

/-- Reading after `put`: the key put has its value, every other key keeps what it had. -/
theorem Store.get_put (d : α) (m : Store α) (i j : Nat) (v : α) :
    Store.get d (Store.put m i v) j = if j = i then v else Store.get d m j := by
  induction m with
  | nil => simp [Store.put, Store.get]
  | cons h t ih =>
    obtain ⟨k, u⟩ := h
    simp only [Store.put]
    split
    · simp [Store.get]
    · split
      · rename_i _ h2; subst h2; by_cases h : j = i <;> simp [Store.get, h]
      · rename_i _ h2
        simp only [Store.get, ih]
        by_cases h : j = k
        · subst h; simp [Ne.symm h2]
        · simp [h]

/-- Reading after `del`: the key deleted has the default, every other key keeps what it had. -/
theorem Store.get_del (d : α) (m : Store α) (i j : Nat) :
    Store.get d (Store.del m i) j = if j = i then d else Store.get d m j := by
  induction m with
  | nil => simp [Store.del, Store.get]
  | cons h t ih =>
    obtain ⟨k, u⟩ := h
    simp only [Store.del, Store.get]
    by_cases h1 : i = k
    · rw [if_pos h1, ih]; by_cases h2 : j = i
      · simp [h2]
      · simp [h2, show ¬ j = k by omega]
    · rw [if_neg h1]; simp only [Store.get, ih]
      by_cases h2 : j = k
      · simp [h2, show ¬ k = i by omega]
      · simp [h2]

/-- Reading after `set`. -/
theorem Store.get_set [DecidableEq α] (d : α) (m : Store α) (i j : Nat) (v : α) :
    Store.get d (Store.set d m i v) j = if j = i then v else Store.get d m j := by
  unfold Store.set
  split
  · rename_i h; rw [Store.get_del, h]
  · rw [Store.get_put]

/-- Looking up the key just put finds the value put. -/
theorem Store.find_put (m : Store α) (i : Nat) (v : α) : (Store.put m i v).find? (fun e => e.1 == i) = some (i, v) := by
  induction m with
  | nil => simp [Store.put]
  | cons h t ih =>
    obtain ⟨k, u⟩ := h
    simp only [Store.put]
    split
    · simp
    · split
      · simp
      · rename_i h2; simp [ih, Ne.symm h2]

/-- Whatever holds of the entry put and of every entry before holds of every entry after `put`. -/
theorem Store.all_put (p : Nat × α → Bool) (m : Store α) (i : Nat) (v : α) (hm : m.all p = true) (hv : p (i, v) = true) :
    (Store.put m i v).all p = true := by
  induction m with
  | nil => simp [Store.put, hv]
  | cons h t ih =>
    obtain ⟨k, u⟩ := h
    simp only [List.all_cons, Bool.and_eq_true] at hm
    simp only [Store.put]
    split
    · simp [hv, hm.1, hm.2]
    · split
      · simp [hv, hm.2]
      · simp [hm.1, ih hm.2]

/-- Whatever holds of every entry holds of every entry after `del`. -/
theorem Store.all_del (p : Nat × α → Bool) (m : Store α) (i : Nat) (hm : m.all p = true) : (Store.del m i).all p = true := by
  induction m with
  | nil => rfl
  | cons h t ih =>
    obtain ⟨k, u⟩ := h
    simp only [List.all_cons, Bool.and_eq_true] at hm
    simp only [Store.del]
    split
    · exact ih hm.2
    · simp [hm.1, ih hm.2]

/-- `put` keeps the keys rising. -/
theorem Store.rising_put (m : Store α) (i : Nat) (v : α) (h : Store.rising m = true) : Store.rising (Store.put m i v) = true := by
  induction m with
  | nil => simp [Store.put, Store.rising]
  | cons e t ih =>
    obtain ⟨k, u⟩ := e
    simp only [Store.rising, Bool.and_eq_true] at h
    simp only [Store.put]
    split
    · rename_i h1
      simp only [Store.rising, Bool.and_eq_true, List.all_cons, decide_eq_true_eq]
      refine ⟨⟨h1, ?_⟩, h.1, h.2⟩
      rw [List.all_eq_true] at h ⊢
      intro x hx; have := h.1 x hx; simp only [decide_eq_true_eq] at this ⊢; omega
    · split
      · rename_i _ h2; subst h2; simp only [Store.rising, Bool.and_eq_true]; exact h
      · rename_i h1 h2
        simp only [Store.rising, Bool.and_eq_true]
        refine ⟨?_, ih h.2⟩
        apply Store.all_put _ _ _ _ h.1
        simp only [decide_eq_true_eq]; omega

/-- `del` keeps the keys rising. -/
theorem Store.rising_del (m : Store α) (i : Nat) (h : Store.rising m = true) : Store.rising (Store.del m i) = true := by
  induction m with
  | nil => rfl
  | cons e t ih =>
    obtain ⟨k, u⟩ := e
    simp only [Store.rising, Bool.and_eq_true] at h
    simp only [Store.del]
    split
    · exact ih h.2
    · simp only [Store.rising, Bool.and_eq_true]; exact ⟨Store.all_del _ _ _ h.1, ih h.2⟩

/-- A part of a map with rising keys has rising keys. -/
theorem Store.rising_filter (m : Store α) (p : Nat × α → Bool) (h : Store.rising m = true) : Store.rising (m.filter p) = true := by
  induction m with
  | nil => rfl
  | cons e t ih =>
    simp only [Store.rising, Bool.and_eq_true] at h
    rw [List.filter_cons]
    split
    · simp only [Store.rising, Bool.and_eq_true]
      refine ⟨?_, ih h.2⟩
      rw [List.all_eq_true] at h ⊢
      intro x hx; exact h.1 x ((List.mem_filter.mp hx).1)
    · exact ih h.2

variable [DecidableEq α]

/-- `set` keeps the canonical form. -/
theorem Store.wf_set (d : α) (m : Store α) (i : Nat) (v : α) (h : Store.wf d m = true) : Store.wf d (Store.set d m i v) = true := by
  simp only [Store.wf, Bool.and_eq_true] at h ⊢
  unfold Store.set
  split
  · exact ⟨Store.rising_del _ _ h.1, Store.all_del _ _ _ h.2⟩
  · rename_i h1; exact ⟨Store.rising_put _ _ _ h.1, Store.all_put _ _ _ _ h.2 (by simpa using h1)⟩

/-- `clear` keeps the canonical form. -/
theorem Store.wf_clear (d : α) (m : Store α) (lo len : Nat) (h : Store.wf d m = true) : Store.wf d (Store.clear m lo len) = true := by
  simp only [Store.wf, Bool.and_eq_true] at h ⊢
  refine ⟨Store.rising_filter _ _ h.1, ?_⟩
  rw [List.all_eq_true] at h ⊢
  intro x hx; exact h.2 x ((List.mem_filter.mp hx).1)

/-- A byte write keeps a memory's canonical form. -/
theorem Memory.wf_write (m : Memory) (a : Nat) (b : Byte) (h : Memory.wf m = true) : Memory.wf (Memory.write m a b) = true :=
  Store.wf_set _ _ _ _ h

/-- A little-endian write keeps a memory's canonical form. -/
theorem Memory.wf_writeLE (m : Memory) (a n x : Nat) (h : Memory.wf m = true) : Memory.wf (Memory.writeLE m a n x) = true := by
  induction n generalizing m a x with
  | zero => exact h
  | succ n ih => exact ih _ _ _ (Memory.wf_write _ _ _ h)

/-- Clearing a range keeps a memory's canonical form. -/
theorem Memory.wf_clear (m : Memory) (lo len : Nat) (h : Memory.wf m = true) : Memory.wf (Store.clear m lo len) = true :=
  Store.wf_clear _ _ _ _ h

end Sys2Proof
end

