-- ==== Sys2Proof/Laws/Read.lean ====
section
/-! SUPPORT. Reading back the parts of the state, and what a register write, a landing and a tick leave of a context. -/

namespace Sys2Proof.Machine

/-! ## Parts of the state -/

@[simp] theorem State.ctx_setCtx (s : State) (c d : Nat) (x : Ctx) : (s.setCtx c x).ctx d = if d = c then x else s.ctx d :=
  Store.get_put _ _ _ _ _
@[simp] theorem State.ctx_modCtx (s : State) (c d : Nat) (f : Ctx → Ctx) : (s.modCtx c f).ctx d = if d = c then f (s.ctx c) else s.ctx d :=
  Store.get_put _ _ _ _ _
@[simp] theorem State.ctx_upd (s : State) (d : Nat) (f : Ctx → Ctx) : (s.upd f).ctx d = if d = s.cur then f s.now else s.ctx d :=
  Store.get_put _ _ _ _ _
@[simp] theorem State.core_setCore (s : State) (k j : Nat) (x : Core) : (s.setCore k x).core j = if j = k then x else s.core j :=
  Store.get_put _ _ _ _ _
@[simp] theorem State.core_modCore (s : State) (k j : Nat) (f : Core → Core) : (s.modCore k f).core j = if j = k then f (s.core k) else s.core j :=
  Store.get_put _ _ _ _ _
@[simp] theorem State.cluster_modCluster (s : State) (k j : Nat) (f : Cluster → Cluster) :
    (s.modCluster k f).cluster j = if j = k then f (s.cluster k) else s.cluster j := Store.get_put _ _ _ _ _
@[simp] theorem State.port_modPort (s : State) (p q : Nat) (f : Port → Port) : (s.modPort p f).port q = if q = p then f (s.port p) else s.port q :=
  Store.get_put _ _ _ _ _
@[simp] theorem State.walkerOf_setWalker (s : State) (w : Nat) (x : Walker) : (s.setWalker w x).walkerOf w = some x := by
  simp [State.walkerOf, State.setWalker, Store.find_put]
@[simp] theorem State.taskOf_setTask (s : State) (n : Nat) (t : Machine.Task) : (s.setTask n t).taskOf n = some t := by
  simp [State.taskOf, State.setTask, State.modFe, Store.find_put]
@[simp] theorem State.fe_modFe (s : State) (f : FrontEnd → FrontEnd) : (s.modFe f).fe = f s.fe := rfl
@[simp] theorem State.fab_modFab (s : State) (f : Fabric → Fabric) : (s.modFab f).fab = f s.fab := rfl
@[simp] theorem State.pow_modPow (s : State) (f : Power → Power) : (s.modPow f).pow = f s.pow := rfl
@[simp] theorem State.host_modHost (s : State) (f : HostIf → HostIf) : (s.modHost f).host = f s.host := rfl
@[simp] theorem State.issue_withIssue (s : State) (i : Issue) : (s.withIssue i).issue = i := rfl

@[simp] theorem State.ctx_setCore (s : State) (k : Nat) (x : Core) (d : Nat) : (s.setCore k x).ctx d = s.ctx d := rfl
@[simp] theorem State.ctx_modCore (s : State) (k : Nat) (f : Core → Core) (d : Nat) : (s.modCore k f).ctx d = s.ctx d := rfl
@[simp] theorem State.ctx_modCluster (s : State) (k : Nat) (f : Cluster → Cluster) (d : Nat) : (s.modCluster k f).ctx d = s.ctx d := rfl
@[simp] theorem State.ctx_modFe (s : State) (f : FrontEnd → FrontEnd) (d : Nat) : (s.modFe f).ctx d = s.ctx d := rfl
@[simp] theorem State.ctx_modFab (s : State) (f : Fabric → Fabric) (d : Nat) : (s.modFab f).ctx d = s.ctx d := rfl
@[simp] theorem State.ctx_modPow (s : State) (f : Power → Power) (d : Nat) : (s.modPow f).ctx d = s.ctx d := rfl
@[simp] theorem State.ctx_modPort (s : State) (p : Nat) (f : Port → Port) (d : Nat) : (s.modPort p f).ctx d = s.ctx d := rfl
@[simp] theorem State.ctx_spend (s : State) (d : Nat) : (s.spend ).ctx d = s.ctx d := rfl
@[simp] theorem State.ctx_withIssue (s : State) (i : Issue) (d : Nat) : (s.withIssue i).ctx d = s.ctx d := rfl
@[simp] theorem State.ctx_flag (s : State) (fl : Nat) (d : Nat) : (s.flag fl).ctx d = s.ctx d := rfl
@[simp] theorem State.ctx_scratchWrite (s : State) (k a n v : Nat) (d : Nat) : (s.scratchWrite k a n v).ctx d = s.ctx d := rfl
@[simp] theorem State.core_setCtx (s : State) (c : Nat) (x : Ctx) (k : Nat) : (s.setCtx c x).core k = s.core k := rfl
@[simp] theorem State.core_modCtx (s : State) (c : Nat) (f : Ctx → Ctx) (k : Nat) : (s.modCtx c f).core k = s.core k := rfl
@[simp] theorem State.core_upd (s : State) (f : Ctx → Ctx) (k : Nat) : (s.upd f).core k = s.core k := rfl
@[simp] theorem State.core_modFe (s : State) (f : FrontEnd → FrontEnd) (k : Nat) : (s.modFe f).core k = s.core k := rfl
@[simp] theorem State.core_modFab (s : State) (f : Fabric → Fabric) (k : Nat) : (s.modFab f).core k = s.core k := rfl
@[simp] theorem State.core_spend (s : State) (k : Nat) : (s.spend ).core k = s.core k := rfl
@[simp] theorem State.core_withIssue (s : State) (i : Issue) (k : Nat) : (s.withIssue i).core k = s.core k := rfl

/-! ## Writing a register leaves everything that is no register -/

theorem Ctx.put_fixed (x : Ctx) (d : Dest) (v : VWord) (h : d.fixed = true) : x.put d v = x := if_pos h

@[simp] theorem Ctx.put_state (x : Ctx) (d : Dest) (v : VWord) : (x.put d v).state = x.state := by
  unfold Ctx.put; split
  · rfl
  · split <;> rfl
@[simp] theorem Ctx.put_from_ (x : Ctx) (d : Dest) (v : VWord) : (x.put d v).from_ = x.from_ := by
  unfold Ctx.put; split
  · rfl
  · split <;> rfl
@[simp] theorem Ctx.put_handles (x : Ctx) (d : Dest) (v : VWord) : (x.put d v).handles = x.handles := by
  unfold Ctx.put; split
  · rfl
  · split <;> rfl
@[simp] theorem Ctx.put_ranges (x : Ctx) (d : Dest) (v : VWord) : (x.put d v).ranges = x.ranges := by
  unfold Ctx.put; split
  · rfl
  · split <;> rfl
@[simp] theorem Ctx.put_csr (x : Ctx) (d : Dest) (v : VWord) : (x.put d v).csr = x.csr := by
  unfold Ctx.put; split
  · rfl
  · split <;> rfl
@[simp] theorem Ctx.put_pc (x : Ctx) (d : Dest) (v : VWord) : (x.put d v).pc = x.pc := by
  unfold Ctx.put; split
  · rfl
  · split <;> rfl
@[simp] theorem Ctx.put_repLeft (x : Ctx) (d : Dest) (v : VWord) : (x.put d v).repLeft = x.repLeft := by
  unfold Ctx.put; split
  · rfl
  · split <;> rfl
@[simp] theorem Ctx.put_pcReplaced (x : Ctx) (d : Dest) (v : VWord) : (x.put d v).pcReplaced = x.pcReplaced := by
  unfold Ctx.put; split
  · rfl
  · split <;> rfl
@[simp] theorem Ctx.put_queue (x : Ctx) (d : Dest) (v : VWord) : (x.put d v).queue = x.queue := by
  unfold Ctx.put; split
  · rfl
  · split <;> rfl
@[simp] theorem Ctx.put_busy (x : Ctx) (d : Dest) (v : VWord) : (x.put d v).busy = x.busy := by
  unfold Ctx.put; split
  · rfl
  · split <;> rfl
@[simp] theorem Ctx.put_keep (x : Ctx) (d : Dest) (v : VWord) : (x.put d v).keep = x.keep := by
  unfold Ctx.put; split
  · rfl
  · split <;> rfl
@[simp] theorem Ctx.put_nest (x : Ctx) (d : Dest) (v : VWord) : (x.put d v).nest = x.nest := by
  unfold Ctx.put; split
  · rfl
  · split <;> rfl
@[simp] theorem Ctx.put_snapshot (x : Ctx) (d : Dest) (v : VWord) : (x.put d v).snapshot = x.snapshot := by
  unfold Ctx.put; split
  · rfl
  · split <;> rfl
@[simp] theorem Ctx.put_frozen (x : Ctx) (d : Dest) (v : VWord) : (x.put d v).frozen = x.frozen := by
  unfold Ctx.put; split
  · rfl
  · split <;> rfl
@[simp] theorem Ctx.put_held (x : Ctx) (d : Dest) (v : VWord) : (x.put d v).held = x.held := by
  unfold Ctx.put; split
  · rfl
  · split <;> rfl
@[simp] theorem Ctx.put_scaleQ (x : Ctx) (d : Dest) (v : VWord) : (x.put d v).scaleQ = x.scaleQ := by
  unfold Ctx.put; split
  · rfl
  · split <;> rfl
@[simp] theorem Ctx.put_scaleData (x : Ctx) (d : Dest) (v : VWord) : (x.put d v).scaleData = x.scaleData := by
  unfold Ctx.put; split
  · rfl
  · split <;> rfl
@[simp] theorem Ctx.put_binds (x : Ctx) (d : Dest) (v : VWord) : (x.put d v).binds = x.binds := by
  unfold Ctx.put; split
  · rfl
  · split <;> rfl
@[simp] theorem Ctx.put_launchBinds (x : Ctx) (d : Dest) (v : VWord) : (x.put d v).launchBinds = x.launchBinds := by
  unfold Ctx.put; split
  · rfl
  · split <;> rfl
@[simp] theorem Ctx.put_mat (x : Ctx) (d : Dest) (v : VWord) : (x.put d v).mat = x.mat := by
  unfold Ctx.put; split
  · rfl
  · split <;> rfl
@[simp] theorem Ctx.put_accMap (x : Ctx) (d : Dest) (v : VWord) : (x.put d v).accMap = x.accMap := by
  unfold Ctx.put; split
  · rfl
  · split <;> rfl
@[simp] theorem Ctx.put_units (x : Ctx) (d : Dest) (v : VWord) : (x.put d v).units = x.units := by
  unfold Ctx.put; split
  · rfl
  · split <;> rfl
@[simp] theorem Ctx.put_nextUnit (x : Ctx) (d : Dest) (v : VWord) : (x.put d v).nextUnit = x.nextUnit := by
  unfold Ctx.put; split
  · rfl
  · split <;> rfl
@[simp] theorem Ctx.put_eng (x : Ctx) (d : Dest) (v : VWord) : (x.put d v).eng = x.eng := by
  unfold Ctx.put; split
  · rfl
  · split <;> rfl
@[simp] theorem Ctx.put_mfence (x : Ctx) (d : Dest) (v : VWord) : (x.put d v).mfence = x.mfence := by
  unfold Ctx.put; split
  · rfl
  · split <;> rfl
@[simp] theorem Ctx.put_hallocs (x : Ctx) (d : Dest) (v : VWord) : (x.put d v).hallocs = x.hallocs := by
  unfold Ctx.put; split
  · rfl
  · split <;> rfl
@[simp] theorem Ctx.put_releasing (x : Ctx) (d : Dest) (v : VWord) : (x.put d v).releasing = x.releasing := by
  unfold Ctx.put; split
  · rfl
  · split <;> rfl
@[simp] theorem Ctx.put_optTrap (x : Ctx) (d : Dest) (v : VWord) : (x.put d v).optTrap = x.optTrap := by
  unfold Ctx.put; split
  · rfl
  · split <;> rfl
@[simp] theorem Ctx.put_pending (x : Ctx) (d : Dest) (v : VWord) : (x.put d v).pending = x.pending := by
  unfold Ctx.put; split
  · rfl
  · split <;> rfl
@[simp] theorem Ctx.put_failedStreams (x : Ctx) (d : Dest) (v : VWord) : (x.put d v).failedStreams = x.failedStreams := by
  unfold Ctx.put; split
  · rfl
  · split <;> rfl
@[simp] theorem Ctx.put_allFailed (x : Ctx) (d : Dest) (v : VWord) : (x.put d v).allFailed = x.allFailed := by
  unfold Ctx.put; split
  · rfl
  · split <;> rfl
@[simp] theorem Ctx.put_greds (x : Ctx) (d : Dest) (v : VWord) : (x.put d v).greds = x.greds := by
  unfold Ctx.put; split
  · rfl
  · split <;> rfl
@[simp] theorem Ctx.put_starve (x : Ctx) (d : Dest) (v : VWord) : (x.put d v).starve = x.starve := by
  unfold Ctx.put; split
  · rfl
  · split <;> rfl
@[simp] theorem Ctx.put_yieldUntil (x : Ctx) (d : Dest) (v : VWord) : (x.put d v).yieldUntil = x.yieldUntil := by
  unfold Ctx.put; split
  · rfl
  · split <;> rfl
@[simp] theorem Ctx.put_switching (x : Ctx) (d : Dest) (v : VWord) : (x.put d v).switching = x.switching := by
  unfold Ctx.put; split
  · rfl
  · split <;> rfl
@[simp] theorem Ctx.put_task (x : Ctx) (d : Dest) (v : VWord) : (x.put d v).task = x.task := by
  unfold Ctx.put; split
  · rfl
  · split <;> rfl
@[simp] theorem Ctx.put_walker (x : Ctx) (d : Dest) (v : VWord) : (x.put d v).walker = x.walker := by
  unfold Ctx.put; split
  · rfl
  · split <;> rfl
@[simp] theorem Ctx.put_tile (x : Ctx) (d : Dest) (v : VWord) : (x.put d v).tile = x.tile := by
  unfold Ctx.put; split
  · rfl
  · split <;> rfl
@[simp] theorem Ctx.put_asid (x : Ctx) (d : Dest) (v : VWord) : (x.put d v).asid = x.asid := by
  unfold Ctx.put; split
  · rfl
  · split <;> rfl
@[simp] theorem Ctx.put_code (x : Ctx) (d : Dest) (v : VWord) : (x.put d v).code = x.code := by
  unfold Ctx.put; split
  · rfl
  · split <;> rfl
@[simp] theorem Ctx.put_seg (x : Ctx) (d : Dest) (v : VWord) : (x.put d v).seg = x.seg := by
  unfold Ctx.put; split
  · rfl
  · split <;> rfl
@[simp] theorem Ctx.putMasked_state (x : Ctx) (d : Dest) (v m : VWord) : (x.putMasked d v m).state = x.state := Ctx.put_state _ _ _
@[simp] theorem Ctx.putMasked_from_ (x : Ctx) (d : Dest) (v m : VWord) : (x.putMasked d v m).from_ = x.from_ := Ctx.put_from_ _ _ _
@[simp] theorem Ctx.putMasked_handles (x : Ctx) (d : Dest) (v m : VWord) : (x.putMasked d v m).handles = x.handles := Ctx.put_handles _ _ _
@[simp] theorem Ctx.putMasked_ranges (x : Ctx) (d : Dest) (v m : VWord) : (x.putMasked d v m).ranges = x.ranges := Ctx.put_ranges _ _ _
@[simp] theorem Ctx.putMasked_csr (x : Ctx) (d : Dest) (v m : VWord) : (x.putMasked d v m).csr = x.csr := Ctx.put_csr _ _ _
@[simp] theorem Ctx.putMasked_pc (x : Ctx) (d : Dest) (v m : VWord) : (x.putMasked d v m).pc = x.pc := Ctx.put_pc _ _ _
@[simp] theorem Ctx.putMasked_repLeft (x : Ctx) (d : Dest) (v m : VWord) : (x.putMasked d v m).repLeft = x.repLeft := Ctx.put_repLeft _ _ _
@[simp] theorem Ctx.putMasked_pcReplaced (x : Ctx) (d : Dest) (v m : VWord) : (x.putMasked d v m).pcReplaced = x.pcReplaced := Ctx.put_pcReplaced _ _ _
@[simp] theorem Ctx.putMasked_queue (x : Ctx) (d : Dest) (v m : VWord) : (x.putMasked d v m).queue = x.queue := Ctx.put_queue _ _ _
@[simp] theorem Ctx.putMasked_busy (x : Ctx) (d : Dest) (v m : VWord) : (x.putMasked d v m).busy = x.busy := Ctx.put_busy _ _ _
@[simp] theorem Ctx.putMasked_keep (x : Ctx) (d : Dest) (v m : VWord) : (x.putMasked d v m).keep = x.keep := Ctx.put_keep _ _ _
@[simp] theorem Ctx.putMasked_nest (x : Ctx) (d : Dest) (v m : VWord) : (x.putMasked d v m).nest = x.nest := Ctx.put_nest _ _ _
@[simp] theorem Ctx.putMasked_snapshot (x : Ctx) (d : Dest) (v m : VWord) : (x.putMasked d v m).snapshot = x.snapshot := Ctx.put_snapshot _ _ _
@[simp] theorem Ctx.putMasked_frozen (x : Ctx) (d : Dest) (v m : VWord) : (x.putMasked d v m).frozen = x.frozen := Ctx.put_frozen _ _ _
@[simp] theorem Ctx.putMasked_held (x : Ctx) (d : Dest) (v m : VWord) : (x.putMasked d v m).held = x.held := Ctx.put_held _ _ _
@[simp] theorem Ctx.putMasked_scaleQ (x : Ctx) (d : Dest) (v m : VWord) : (x.putMasked d v m).scaleQ = x.scaleQ := Ctx.put_scaleQ _ _ _
@[simp] theorem Ctx.putMasked_scaleData (x : Ctx) (d : Dest) (v m : VWord) : (x.putMasked d v m).scaleData = x.scaleData := Ctx.put_scaleData _ _ _
@[simp] theorem Ctx.putMasked_binds (x : Ctx) (d : Dest) (v m : VWord) : (x.putMasked d v m).binds = x.binds := Ctx.put_binds _ _ _
@[simp] theorem Ctx.putMasked_launchBinds (x : Ctx) (d : Dest) (v m : VWord) : (x.putMasked d v m).launchBinds = x.launchBinds := Ctx.put_launchBinds _ _ _
@[simp] theorem Ctx.putMasked_mat (x : Ctx) (d : Dest) (v m : VWord) : (x.putMasked d v m).mat = x.mat := Ctx.put_mat _ _ _
@[simp] theorem Ctx.putMasked_accMap (x : Ctx) (d : Dest) (v m : VWord) : (x.putMasked d v m).accMap = x.accMap := Ctx.put_accMap _ _ _
@[simp] theorem Ctx.putMasked_units (x : Ctx) (d : Dest) (v m : VWord) : (x.putMasked d v m).units = x.units := Ctx.put_units _ _ _
@[simp] theorem Ctx.putMasked_nextUnit (x : Ctx) (d : Dest) (v m : VWord) : (x.putMasked d v m).nextUnit = x.nextUnit := Ctx.put_nextUnit _ _ _
@[simp] theorem Ctx.putMasked_eng (x : Ctx) (d : Dest) (v m : VWord) : (x.putMasked d v m).eng = x.eng := Ctx.put_eng _ _ _
@[simp] theorem Ctx.putMasked_mfence (x : Ctx) (d : Dest) (v m : VWord) : (x.putMasked d v m).mfence = x.mfence := Ctx.put_mfence _ _ _
@[simp] theorem Ctx.putMasked_hallocs (x : Ctx) (d : Dest) (v m : VWord) : (x.putMasked d v m).hallocs = x.hallocs := Ctx.put_hallocs _ _ _
@[simp] theorem Ctx.putMasked_releasing (x : Ctx) (d : Dest) (v m : VWord) : (x.putMasked d v m).releasing = x.releasing := Ctx.put_releasing _ _ _
@[simp] theorem Ctx.putMasked_optTrap (x : Ctx) (d : Dest) (v m : VWord) : (x.putMasked d v m).optTrap = x.optTrap := Ctx.put_optTrap _ _ _
@[simp] theorem Ctx.putMasked_pending (x : Ctx) (d : Dest) (v m : VWord) : (x.putMasked d v m).pending = x.pending := Ctx.put_pending _ _ _
@[simp] theorem Ctx.putMasked_failedStreams (x : Ctx) (d : Dest) (v m : VWord) : (x.putMasked d v m).failedStreams = x.failedStreams := Ctx.put_failedStreams _ _ _
@[simp] theorem Ctx.putMasked_allFailed (x : Ctx) (d : Dest) (v m : VWord) : (x.putMasked d v m).allFailed = x.allFailed := Ctx.put_allFailed _ _ _
@[simp] theorem Ctx.putMasked_greds (x : Ctx) (d : Dest) (v m : VWord) : (x.putMasked d v m).greds = x.greds := Ctx.put_greds _ _ _
@[simp] theorem Ctx.putMasked_starve (x : Ctx) (d : Dest) (v m : VWord) : (x.putMasked d v m).starve = x.starve := Ctx.put_starve _ _ _
@[simp] theorem Ctx.putMasked_yieldUntil (x : Ctx) (d : Dest) (v m : VWord) : (x.putMasked d v m).yieldUntil = x.yieldUntil := Ctx.put_yieldUntil _ _ _
@[simp] theorem Ctx.putMasked_switching (x : Ctx) (d : Dest) (v m : VWord) : (x.putMasked d v m).switching = x.switching := Ctx.put_switching _ _ _
@[simp] theorem Ctx.putMasked_task (x : Ctx) (d : Dest) (v m : VWord) : (x.putMasked d v m).task = x.task := Ctx.put_task _ _ _
@[simp] theorem Ctx.putMasked_walker (x : Ctx) (d : Dest) (v m : VWord) : (x.putMasked d v m).walker = x.walker := Ctx.put_walker _ _ _
@[simp] theorem Ctx.putMasked_tile (x : Ctx) (d : Dest) (v m : VWord) : (x.putMasked d v m).tile = x.tile := Ctx.put_tile _ _ _
@[simp] theorem Ctx.putMasked_asid (x : Ctx) (d : Dest) (v m : VWord) : (x.putMasked d v m).asid = x.asid := Ctx.put_asid _ _ _
@[simp] theorem Ctx.putMasked_code (x : Ctx) (d : Dest) (v m : VWord) : (x.putMasked d v m).code = x.code := Ctx.put_code _ _ _
@[simp] theorem Ctx.putMasked_seg (x : Ctx) (d : Dest) (v m : VWord) : (x.putMasked d v m).seg = x.seg := Ctx.put_seg _ _ _

/-! ## A landing or a tick changes registers and the landing queue, nothing else -/

@[simp] theorem Ctx.land_state (x : Ctx) : x.land.state = x.state := by
  unfold Ctx.land
  generalize hy : ({ x with queue := x.queue.filter fun e => !(e.left == 0) } : Ctx) = y
  have hf : y.state = x.state := by rw [← hy]
  clear hy
  induction x.queue.filter fun e => e.left == 0 generalizing y with
  | nil => exact hf
  | cons e l ih => exact ih _ (by simp [hf])
@[simp] theorem Ctx.tick_state (x : Ctx) : x.tick.state = x.state := by simp [Ctx.tick, Ctx.count]
@[simp] theorem Ctx.land_from_ (x : Ctx) : x.land.from_ = x.from_ := by
  unfold Ctx.land
  generalize hy : ({ x with queue := x.queue.filter fun e => !(e.left == 0) } : Ctx) = y
  have hf : y.from_ = x.from_ := by rw [← hy]
  clear hy
  induction x.queue.filter fun e => e.left == 0 generalizing y with
  | nil => exact hf
  | cons e l ih => exact ih _ (by simp [hf])
@[simp] theorem Ctx.tick_from_ (x : Ctx) : x.tick.from_ = x.from_ := by simp [Ctx.tick, Ctx.count]
@[simp] theorem Ctx.land_handles (x : Ctx) : x.land.handles = x.handles := by
  unfold Ctx.land
  generalize hy : ({ x with queue := x.queue.filter fun e => !(e.left == 0) } : Ctx) = y
  have hf : y.handles = x.handles := by rw [← hy]
  clear hy
  induction x.queue.filter fun e => e.left == 0 generalizing y with
  | nil => exact hf
  | cons e l ih => exact ih _ (by simp [hf])
@[simp] theorem Ctx.tick_handles (x : Ctx) : x.tick.handles = x.handles := by simp [Ctx.tick, Ctx.count]
@[simp] theorem Ctx.land_ranges (x : Ctx) : x.land.ranges = x.ranges := by
  unfold Ctx.land
  generalize hy : ({ x with queue := x.queue.filter fun e => !(e.left == 0) } : Ctx) = y
  have hf : y.ranges = x.ranges := by rw [← hy]
  clear hy
  induction x.queue.filter fun e => e.left == 0 generalizing y with
  | nil => exact hf
  | cons e l ih => exact ih _ (by simp [hf])
@[simp] theorem Ctx.tick_ranges (x : Ctx) : x.tick.ranges = x.ranges := by simp [Ctx.tick, Ctx.count]
@[simp] theorem Ctx.land_csr (x : Ctx) : x.land.csr = x.csr := by
  unfold Ctx.land
  generalize hy : ({ x with queue := x.queue.filter fun e => !(e.left == 0) } : Ctx) = y
  have hf : y.csr = x.csr := by rw [← hy]
  clear hy
  induction x.queue.filter fun e => e.left == 0 generalizing y with
  | nil => exact hf
  | cons e l ih => exact ih _ (by simp [hf])
@[simp] theorem Ctx.tick_csr (x : Ctx) : x.tick.csr = x.csr := by simp [Ctx.tick, Ctx.count]
@[simp] theorem Ctx.land_pc (x : Ctx) : x.land.pc = x.pc := by
  unfold Ctx.land
  generalize hy : ({ x with queue := x.queue.filter fun e => !(e.left == 0) } : Ctx) = y
  have hf : y.pc = x.pc := by rw [← hy]
  clear hy
  induction x.queue.filter fun e => e.left == 0 generalizing y with
  | nil => exact hf
  | cons e l ih => exact ih _ (by simp [hf])
@[simp] theorem Ctx.tick_pc (x : Ctx) : x.tick.pc = x.pc := by simp [Ctx.tick, Ctx.count]
@[simp] theorem Ctx.land_repLeft (x : Ctx) : x.land.repLeft = x.repLeft := by
  unfold Ctx.land
  generalize hy : ({ x with queue := x.queue.filter fun e => !(e.left == 0) } : Ctx) = y
  have hf : y.repLeft = x.repLeft := by rw [← hy]
  clear hy
  induction x.queue.filter fun e => e.left == 0 generalizing y with
  | nil => exact hf
  | cons e l ih => exact ih _ (by simp [hf])
@[simp] theorem Ctx.tick_repLeft (x : Ctx) : x.tick.repLeft = x.repLeft := by simp [Ctx.tick, Ctx.count]
@[simp] theorem Ctx.land_pcReplaced (x : Ctx) : x.land.pcReplaced = x.pcReplaced := by
  unfold Ctx.land
  generalize hy : ({ x with queue := x.queue.filter fun e => !(e.left == 0) } : Ctx) = y
  have hf : y.pcReplaced = x.pcReplaced := by rw [← hy]
  clear hy
  induction x.queue.filter fun e => e.left == 0 generalizing y with
  | nil => exact hf
  | cons e l ih => exact ih _ (by simp [hf])
@[simp] theorem Ctx.tick_pcReplaced (x : Ctx) : x.tick.pcReplaced = x.pcReplaced := by simp [Ctx.tick, Ctx.count]
@[simp] theorem Ctx.land_busy (x : Ctx) : x.land.busy = x.busy := by
  unfold Ctx.land
  generalize hy : ({ x with queue := x.queue.filter fun e => !(e.left == 0) } : Ctx) = y
  have hf : y.busy = x.busy := by rw [← hy]
  clear hy
  induction x.queue.filter fun e => e.left == 0 generalizing y with
  | nil => exact hf
  | cons e l ih => exact ih _ (by simp [hf])
@[simp] theorem Ctx.tick_busy (x : Ctx) : x.tick.busy = x.busy := by simp [Ctx.tick, Ctx.count]
@[simp] theorem Ctx.land_keep (x : Ctx) : x.land.keep = x.keep := by
  unfold Ctx.land
  generalize hy : ({ x with queue := x.queue.filter fun e => !(e.left == 0) } : Ctx) = y
  have hf : y.keep = x.keep := by rw [← hy]
  clear hy
  induction x.queue.filter fun e => e.left == 0 generalizing y with
  | nil => exact hf
  | cons e l ih => exact ih _ (by simp [hf])
@[simp] theorem Ctx.tick_keep (x : Ctx) : x.tick.keep = x.keep := by simp [Ctx.tick, Ctx.count]
@[simp] theorem Ctx.land_nest (x : Ctx) : x.land.nest = x.nest := by
  unfold Ctx.land
  generalize hy : ({ x with queue := x.queue.filter fun e => !(e.left == 0) } : Ctx) = y
  have hf : y.nest = x.nest := by rw [← hy]
  clear hy
  induction x.queue.filter fun e => e.left == 0 generalizing y with
  | nil => exact hf
  | cons e l ih => exact ih _ (by simp [hf])
@[simp] theorem Ctx.tick_nest (x : Ctx) : x.tick.nest = x.nest := by simp [Ctx.tick, Ctx.count]
@[simp] theorem Ctx.land_snapshot (x : Ctx) : x.land.snapshot = x.snapshot := by
  unfold Ctx.land
  generalize hy : ({ x with queue := x.queue.filter fun e => !(e.left == 0) } : Ctx) = y
  have hf : y.snapshot = x.snapshot := by rw [← hy]
  clear hy
  induction x.queue.filter fun e => e.left == 0 generalizing y with
  | nil => exact hf
  | cons e l ih => exact ih _ (by simp [hf])
@[simp] theorem Ctx.tick_snapshot (x : Ctx) : x.tick.snapshot = x.snapshot := by simp [Ctx.tick, Ctx.count]
@[simp] theorem Ctx.land_frozen (x : Ctx) : x.land.frozen = x.frozen := by
  unfold Ctx.land
  generalize hy : ({ x with queue := x.queue.filter fun e => !(e.left == 0) } : Ctx) = y
  have hf : y.frozen = x.frozen := by rw [← hy]
  clear hy
  induction x.queue.filter fun e => e.left == 0 generalizing y with
  | nil => exact hf
  | cons e l ih => exact ih _ (by simp [hf])
@[simp] theorem Ctx.tick_frozen (x : Ctx) : x.tick.frozen = x.frozen := by simp [Ctx.tick, Ctx.count]
@[simp] theorem Ctx.land_held (x : Ctx) : x.land.held = x.held := by
  unfold Ctx.land
  generalize hy : ({ x with queue := x.queue.filter fun e => !(e.left == 0) } : Ctx) = y
  have hf : y.held = x.held := by rw [← hy]
  clear hy
  induction x.queue.filter fun e => e.left == 0 generalizing y with
  | nil => exact hf
  | cons e l ih => exact ih _ (by simp [hf])
@[simp] theorem Ctx.tick_held (x : Ctx) : x.tick.held = x.held := by simp [Ctx.tick, Ctx.count]
@[simp] theorem Ctx.land_scaleQ (x : Ctx) : x.land.scaleQ = x.scaleQ := by
  unfold Ctx.land
  generalize hy : ({ x with queue := x.queue.filter fun e => !(e.left == 0) } : Ctx) = y
  have hf : y.scaleQ = x.scaleQ := by rw [← hy]
  clear hy
  induction x.queue.filter fun e => e.left == 0 generalizing y with
  | nil => exact hf
  | cons e l ih => exact ih _ (by simp [hf])
@[simp] theorem Ctx.tick_scaleQ (x : Ctx) : x.tick.scaleQ = x.scaleQ := by simp [Ctx.tick, Ctx.count]
@[simp] theorem Ctx.land_scaleData (x : Ctx) : x.land.scaleData = x.scaleData := by
  unfold Ctx.land
  generalize hy : ({ x with queue := x.queue.filter fun e => !(e.left == 0) } : Ctx) = y
  have hf : y.scaleData = x.scaleData := by rw [← hy]
  clear hy
  induction x.queue.filter fun e => e.left == 0 generalizing y with
  | nil => exact hf
  | cons e l ih => exact ih _ (by simp [hf])
@[simp] theorem Ctx.tick_scaleData (x : Ctx) : x.tick.scaleData = x.scaleData := by simp [Ctx.tick, Ctx.count]
@[simp] theorem Ctx.land_binds (x : Ctx) : x.land.binds = x.binds := by
  unfold Ctx.land
  generalize hy : ({ x with queue := x.queue.filter fun e => !(e.left == 0) } : Ctx) = y
  have hf : y.binds = x.binds := by rw [← hy]
  clear hy
  induction x.queue.filter fun e => e.left == 0 generalizing y with
  | nil => exact hf
  | cons e l ih => exact ih _ (by simp [hf])
@[simp] theorem Ctx.tick_binds (x : Ctx) : x.tick.binds = x.binds := by simp [Ctx.tick, Ctx.count]
@[simp] theorem Ctx.land_launchBinds (x : Ctx) : x.land.launchBinds = x.launchBinds := by
  unfold Ctx.land
  generalize hy : ({ x with queue := x.queue.filter fun e => !(e.left == 0) } : Ctx) = y
  have hf : y.launchBinds = x.launchBinds := by rw [← hy]
  clear hy
  induction x.queue.filter fun e => e.left == 0 generalizing y with
  | nil => exact hf
  | cons e l ih => exact ih _ (by simp [hf])
@[simp] theorem Ctx.tick_launchBinds (x : Ctx) : x.tick.launchBinds = x.launchBinds := by simp [Ctx.tick, Ctx.count]
@[simp] theorem Ctx.land_mat (x : Ctx) : x.land.mat = x.mat := by
  unfold Ctx.land
  generalize hy : ({ x with queue := x.queue.filter fun e => !(e.left == 0) } : Ctx) = y
  have hf : y.mat = x.mat := by rw [← hy]
  clear hy
  induction x.queue.filter fun e => e.left == 0 generalizing y with
  | nil => exact hf
  | cons e l ih => exact ih _ (by simp [hf])
@[simp] theorem Ctx.tick_mat (x : Ctx) : x.tick.mat = x.mat := by simp [Ctx.tick, Ctx.count]
@[simp] theorem Ctx.land_accMap (x : Ctx) : x.land.accMap = x.accMap := by
  unfold Ctx.land
  generalize hy : ({ x with queue := x.queue.filter fun e => !(e.left == 0) } : Ctx) = y
  have hf : y.accMap = x.accMap := by rw [← hy]
  clear hy
  induction x.queue.filter fun e => e.left == 0 generalizing y with
  | nil => exact hf
  | cons e l ih => exact ih _ (by simp [hf])
@[simp] theorem Ctx.tick_accMap (x : Ctx) : x.tick.accMap = x.accMap := by simp [Ctx.tick, Ctx.count]
@[simp] theorem Ctx.land_units (x : Ctx) : x.land.units = x.units := by
  unfold Ctx.land
  generalize hy : ({ x with queue := x.queue.filter fun e => !(e.left == 0) } : Ctx) = y
  have hf : y.units = x.units := by rw [← hy]
  clear hy
  induction x.queue.filter fun e => e.left == 0 generalizing y with
  | nil => exact hf
  | cons e l ih => exact ih _ (by simp [hf])
@[simp] theorem Ctx.tick_units (x : Ctx) : x.tick.units = x.units := by simp [Ctx.tick, Ctx.count]
@[simp] theorem Ctx.land_nextUnit (x : Ctx) : x.land.nextUnit = x.nextUnit := by
  unfold Ctx.land
  generalize hy : ({ x with queue := x.queue.filter fun e => !(e.left == 0) } : Ctx) = y
  have hf : y.nextUnit = x.nextUnit := by rw [← hy]
  clear hy
  induction x.queue.filter fun e => e.left == 0 generalizing y with
  | nil => exact hf
  | cons e l ih => exact ih _ (by simp [hf])
@[simp] theorem Ctx.tick_nextUnit (x : Ctx) : x.tick.nextUnit = x.nextUnit := by simp [Ctx.tick, Ctx.count]
@[simp] theorem Ctx.land_eng (x : Ctx) : x.land.eng = x.eng := by
  unfold Ctx.land
  generalize hy : ({ x with queue := x.queue.filter fun e => !(e.left == 0) } : Ctx) = y
  have hf : y.eng = x.eng := by rw [← hy]
  clear hy
  induction x.queue.filter fun e => e.left == 0 generalizing y with
  | nil => exact hf
  | cons e l ih => exact ih _ (by simp [hf])
@[simp] theorem Ctx.tick_eng (x : Ctx) : x.tick.eng = x.eng := by simp [Ctx.tick, Ctx.count]
@[simp] theorem Ctx.land_mfence (x : Ctx) : x.land.mfence = x.mfence := by
  unfold Ctx.land
  generalize hy : ({ x with queue := x.queue.filter fun e => !(e.left == 0) } : Ctx) = y
  have hf : y.mfence = x.mfence := by rw [← hy]
  clear hy
  induction x.queue.filter fun e => e.left == 0 generalizing y with
  | nil => exact hf
  | cons e l ih => exact ih _ (by simp [hf])
@[simp] theorem Ctx.tick_mfence (x : Ctx) : x.tick.mfence = x.mfence := by simp [Ctx.tick, Ctx.count]
@[simp] theorem Ctx.land_hallocs (x : Ctx) : x.land.hallocs = x.hallocs := by
  unfold Ctx.land
  generalize hy : ({ x with queue := x.queue.filter fun e => !(e.left == 0) } : Ctx) = y
  have hf : y.hallocs = x.hallocs := by rw [← hy]
  clear hy
  induction x.queue.filter fun e => e.left == 0 generalizing y with
  | nil => exact hf
  | cons e l ih => exact ih _ (by simp [hf])
@[simp] theorem Ctx.tick_hallocs (x : Ctx) : x.tick.hallocs = x.hallocs := by simp [Ctx.tick, Ctx.count]
@[simp] theorem Ctx.land_releasing (x : Ctx) : x.land.releasing = x.releasing := by
  unfold Ctx.land
  generalize hy : ({ x with queue := x.queue.filter fun e => !(e.left == 0) } : Ctx) = y
  have hf : y.releasing = x.releasing := by rw [← hy]
  clear hy
  induction x.queue.filter fun e => e.left == 0 generalizing y with
  | nil => exact hf
  | cons e l ih => exact ih _ (by simp [hf])
@[simp] theorem Ctx.tick_releasing (x : Ctx) : x.tick.releasing = x.releasing := by simp [Ctx.tick, Ctx.count]
@[simp] theorem Ctx.land_optTrap (x : Ctx) : x.land.optTrap = x.optTrap := by
  unfold Ctx.land
  generalize hy : ({ x with queue := x.queue.filter fun e => !(e.left == 0) } : Ctx) = y
  have hf : y.optTrap = x.optTrap := by rw [← hy]
  clear hy
  induction x.queue.filter fun e => e.left == 0 generalizing y with
  | nil => exact hf
  | cons e l ih => exact ih _ (by simp [hf])
@[simp] theorem Ctx.tick_optTrap (x : Ctx) : x.tick.optTrap = x.optTrap := by simp [Ctx.tick, Ctx.count]
@[simp] theorem Ctx.land_pending (x : Ctx) : x.land.pending = x.pending := by
  unfold Ctx.land
  generalize hy : ({ x with queue := x.queue.filter fun e => !(e.left == 0) } : Ctx) = y
  have hf : y.pending = x.pending := by rw [← hy]
  clear hy
  induction x.queue.filter fun e => e.left == 0 generalizing y with
  | nil => exact hf
  | cons e l ih => exact ih _ (by simp [hf])
@[simp] theorem Ctx.tick_pending (x : Ctx) : x.tick.pending = x.pending := by simp [Ctx.tick, Ctx.count]
@[simp] theorem Ctx.land_failedStreams (x : Ctx) : x.land.failedStreams = x.failedStreams := by
  unfold Ctx.land
  generalize hy : ({ x with queue := x.queue.filter fun e => !(e.left == 0) } : Ctx) = y
  have hf : y.failedStreams = x.failedStreams := by rw [← hy]
  clear hy
  induction x.queue.filter fun e => e.left == 0 generalizing y with
  | nil => exact hf
  | cons e l ih => exact ih _ (by simp [hf])
@[simp] theorem Ctx.tick_failedStreams (x : Ctx) : x.tick.failedStreams = x.failedStreams := by simp [Ctx.tick, Ctx.count]
@[simp] theorem Ctx.land_allFailed (x : Ctx) : x.land.allFailed = x.allFailed := by
  unfold Ctx.land
  generalize hy : ({ x with queue := x.queue.filter fun e => !(e.left == 0) } : Ctx) = y
  have hf : y.allFailed = x.allFailed := by rw [← hy]
  clear hy
  induction x.queue.filter fun e => e.left == 0 generalizing y with
  | nil => exact hf
  | cons e l ih => exact ih _ (by simp [hf])
@[simp] theorem Ctx.tick_allFailed (x : Ctx) : x.tick.allFailed = x.allFailed := by simp [Ctx.tick, Ctx.count]
@[simp] theorem Ctx.land_greds (x : Ctx) : x.land.greds = x.greds := by
  unfold Ctx.land
  generalize hy : ({ x with queue := x.queue.filter fun e => !(e.left == 0) } : Ctx) = y
  have hf : y.greds = x.greds := by rw [← hy]
  clear hy
  induction x.queue.filter fun e => e.left == 0 generalizing y with
  | nil => exact hf
  | cons e l ih => exact ih _ (by simp [hf])
@[simp] theorem Ctx.tick_greds (x : Ctx) : x.tick.greds = x.greds := by simp [Ctx.tick, Ctx.count]
@[simp] theorem Ctx.land_starve (x : Ctx) : x.land.starve = x.starve := by
  unfold Ctx.land
  generalize hy : ({ x with queue := x.queue.filter fun e => !(e.left == 0) } : Ctx) = y
  have hf : y.starve = x.starve := by rw [← hy]
  clear hy
  induction x.queue.filter fun e => e.left == 0 generalizing y with
  | nil => exact hf
  | cons e l ih => exact ih _ (by simp [hf])
@[simp] theorem Ctx.tick_starve (x : Ctx) : x.tick.starve = x.starve := by simp [Ctx.tick, Ctx.count]
@[simp] theorem Ctx.land_yieldUntil (x : Ctx) : x.land.yieldUntil = x.yieldUntil := by
  unfold Ctx.land
  generalize hy : ({ x with queue := x.queue.filter fun e => !(e.left == 0) } : Ctx) = y
  have hf : y.yieldUntil = x.yieldUntil := by rw [← hy]
  clear hy
  induction x.queue.filter fun e => e.left == 0 generalizing y with
  | nil => exact hf
  | cons e l ih => exact ih _ (by simp [hf])
@[simp] theorem Ctx.tick_yieldUntil (x : Ctx) : x.tick.yieldUntil = x.yieldUntil := by simp [Ctx.tick, Ctx.count]
@[simp] theorem Ctx.land_switching (x : Ctx) : x.land.switching = x.switching := by
  unfold Ctx.land
  generalize hy : ({ x with queue := x.queue.filter fun e => !(e.left == 0) } : Ctx) = y
  have hf : y.switching = x.switching := by rw [← hy]
  clear hy
  induction x.queue.filter fun e => e.left == 0 generalizing y with
  | nil => exact hf
  | cons e l ih => exact ih _ (by simp [hf])
@[simp] theorem Ctx.tick_switching (x : Ctx) : x.tick.switching = x.switching := by simp [Ctx.tick, Ctx.count]
@[simp] theorem Ctx.land_task (x : Ctx) : x.land.task = x.task := by
  unfold Ctx.land
  generalize hy : ({ x with queue := x.queue.filter fun e => !(e.left == 0) } : Ctx) = y
  have hf : y.task = x.task := by rw [← hy]
  clear hy
  induction x.queue.filter fun e => e.left == 0 generalizing y with
  | nil => exact hf
  | cons e l ih => exact ih _ (by simp [hf])
@[simp] theorem Ctx.tick_task (x : Ctx) : x.tick.task = x.task := by simp [Ctx.tick, Ctx.count]
@[simp] theorem Ctx.land_walker (x : Ctx) : x.land.walker = x.walker := by
  unfold Ctx.land
  generalize hy : ({ x with queue := x.queue.filter fun e => !(e.left == 0) } : Ctx) = y
  have hf : y.walker = x.walker := by rw [← hy]
  clear hy
  induction x.queue.filter fun e => e.left == 0 generalizing y with
  | nil => exact hf
  | cons e l ih => exact ih _ (by simp [hf])
@[simp] theorem Ctx.tick_walker (x : Ctx) : x.tick.walker = x.walker := by simp [Ctx.tick, Ctx.count]
@[simp] theorem Ctx.land_tile (x : Ctx) : x.land.tile = x.tile := by
  unfold Ctx.land
  generalize hy : ({ x with queue := x.queue.filter fun e => !(e.left == 0) } : Ctx) = y
  have hf : y.tile = x.tile := by rw [← hy]
  clear hy
  induction x.queue.filter fun e => e.left == 0 generalizing y with
  | nil => exact hf
  | cons e l ih => exact ih _ (by simp [hf])
@[simp] theorem Ctx.tick_tile (x : Ctx) : x.tick.tile = x.tile := by simp [Ctx.tick, Ctx.count]
@[simp] theorem Ctx.land_asid (x : Ctx) : x.land.asid = x.asid := by
  unfold Ctx.land
  generalize hy : ({ x with queue := x.queue.filter fun e => !(e.left == 0) } : Ctx) = y
  have hf : y.asid = x.asid := by rw [← hy]
  clear hy
  induction x.queue.filter fun e => e.left == 0 generalizing y with
  | nil => exact hf
  | cons e l ih => exact ih _ (by simp [hf])
@[simp] theorem Ctx.tick_asid (x : Ctx) : x.tick.asid = x.asid := by simp [Ctx.tick, Ctx.count]
@[simp] theorem Ctx.land_code (x : Ctx) : x.land.code = x.code := by
  unfold Ctx.land
  generalize hy : ({ x with queue := x.queue.filter fun e => !(e.left == 0) } : Ctx) = y
  have hf : y.code = x.code := by rw [← hy]
  clear hy
  induction x.queue.filter fun e => e.left == 0 generalizing y with
  | nil => exact hf
  | cons e l ih => exact ih _ (by simp [hf])
@[simp] theorem Ctx.tick_code (x : Ctx) : x.tick.code = x.code := by simp [Ctx.tick, Ctx.count]
@[simp] theorem Ctx.land_seg (x : Ctx) : x.land.seg = x.seg := by
  unfold Ctx.land
  generalize hy : ({ x with queue := x.queue.filter fun e => !(e.left == 0) } : Ctx) = y
  have hf : y.seg = x.seg := by rw [← hy]
  clear hy
  induction x.queue.filter fun e => e.left == 0 generalizing y with
  | nil => exact hf
  | cons e l ih => exact ih _ (by simp [hf])
@[simp] theorem Ctx.tick_seg (x : Ctx) : x.tick.seg = x.seg := by simp [Ctx.tick, Ctx.count]

end Sys2Proof.Machine
end

