-- ==== Sys2Proof/Laws/Issue.lean ====
section
/-! SUPPORT. What the shared operations of issue can do: a syllable inside its bundle, an address check that passes or fails, an issue
check that fails, an event of a unit, a packet of a supervisor. -/

namespace Sys2Proof.Machine

/-! ## A syllable in its bundle (R56) -/

/-- Its effect happens where its guard reads 1. -/
theorem issueOp_on {i : Instr} {body : State → State} {s t : State} (h1 : s.issue.active = true)
    (h2 : s.pre.preg (infoOf i).guard = true) (h : body s = t) : issueOp i body s = .next t := by
  unfold issueOp guarded; rw [if_pos h1, if_pos h2, h]

/-- Nothing happens where its guard reads 0. -/
theorem issueOp_off {i : Instr} {body : State → State} {s : State} (h1 : s.issue.active = true)
    (h2 : s.pre.preg (infoOf i).guard = false) : issueOp i body s = .next s := by
  unfold issueOp guarded; rw [if_pos h1, if_neg (by simp [h2])]

/-- Between bundles it is a bundle of its own. -/
theorem issueOp_solo {i : Instr} {body : State → State} {s : State} (h : s.issue.active = false) :
    issueOp i body s = issueWith (fun t => .next (guarded i body t)) s.cur (soloBundle (s.ctx s.cur) i) s := by
  unfold issueOp; rw [if_neg (by simp [h])]

/-- A syllable answers a next state, whatever its operands. -/
theorem issueOp_next (i : Instr) (body : State → State) (s : State) : ∃ t, issueOp i body s = .next t := by
  unfold issueOp
  split
  · exact ⟨_, rfl⟩
  · unfold issueWith
    split
    · exact ⟨_, rfl⟩
    · split <;> exact ⟨_, rfl⟩

/-! ## Address checks and issue checks (R166, R167, R309) -/

/-- With a target the access issues. -/
theorem issueAt_ok {s u : State} {n : Nat} {w : Bool} {e : Except (Nat × Nat) Target} {t : Target} {f : Target → State}
    (h : e = .ok t) (hf : f t = u) : s.issueAt n w e f = u := by subst h; exact hf

/-- A check that fails is recorded with its slot code and address. -/
theorem issueAt_error {s : State} {n : Nat} {w : Bool} {e : Except (Nat × Nat) Target} {c a : Nat} {f : Target → State}
    (h : e = .error (c, a)) : s.issueAt n w e f = s.fail c (slotCode n 0 w) a := by subst h; rfl

/-- The first issue check of a bundle that fails is kept; nothing but the record of the bundle changes. -/
theorem State.raise_eq (s : State) (p : PendCause) :
    s.raise p = s.withIssue { s.issue with raised := some (s.issue.raised.getD p) } := by
  unfold State.raise State.withIssue
  cases h : s.issue.raised with
  | none => rfl
  | some q =>
    show s = { s with issue := { s.issue with raised := some q } }
    rw [← h]

@[simp] theorem State.ctx_raise (s : State) (p : PendCause) (c : Nat) : (s.raise p).ctx c = s.ctx c := by rw [State.raise_eq]; rfl
@[simp] theorem State.ctx_fail (s : State) (a b d c : Nat) : (s.fail a b d).ctx c = s.ctx c := State.ctx_raise _ _ _

/-- The landing of an exposed result: one more entry at the end of the queue of the bundle's context, for a register that is not
fixed. -/
theorem State.landMask_eq (s : State) (d : Dest) (l : Lat) (v m : VWord) (h : d.fixed = false) :
    s.landMask d l v m = s.upd fun x => { x with queue := x.queue ++
      [{ dest := d, value := v, mask := m, left := s.latOf x l, order := s.landedBefore }] } := by
  unfold State.landMask; rw [if_neg (by simp [h])]

/-- A result for a fixed register goes nowhere (R17). -/
theorem State.landMask_fixed (s : State) (d : Dest) (l : Lat) (v m : VWord) (h : d.fixed = true) : s.landMask d l v m = s := if_pos h

/-- Setting a busy bit changes no register. -/
@[simp] theorem Ctx.get_setBusy (x : Ctx) (d e : Dest) : (x.setBusy d).get e = x.get e := by
  unfold Ctx.setBusy; split <;> rfl

/-! ## A bundle and its end (R33, R64, R309) -/

/-- A bundle with no illegal code that nothing holds back runs its operations and ends. -/
theorem issueWith_runs {inner : State → Out} {c : Nat} {b : Bundle} {s t : State} (h1 : lowest (s.illegalCodes (s.ctx c) b) = none)
    (h2 : s.stalls c b = false) (h : inner (s.begin c b) = .next t) : issueWith inner c b s = .next (s.finish c b t) := by
  unfold issueWith; rw [h1]; simp [h2, h]

/-- An illegal bundle traps at decode. -/
theorem issueWith_illegal {inner : State → Out} {c code : Nat} {b : Bundle} {s : State}
    (h : lowest (s.illegalCodes (s.ctx c) b) = some code) : issueWith inner c b s = .next (s.freeze c (plainCause 0x10 code 0) 0) := by
  unfold issueWith; rw [h]

/-- A bundle that must wait only counts a stall. -/
theorem issueWith_stalls {inner : State → Out} {c : Nat} {b : Bundle} {s : State} (h1 : lowest (s.illegalCodes (s.ctx c) b) = none)
    (h2 : s.stalls c b = true) : issueWith inner c b s = .next (s.modCtx c fun x => x.stalled false) := by
  unfold issueWith; rw [h1]; simp [h2]

/-- With a failed check the bundle's effects are dropped. -/
theorem State.finish_raised {s0 s : State} {c : Nat} {b : Bundle} {p : PendCause} (h : s.issue.raised = some p) :
    s0.finish c b s = s0.takeTrap c p 0 := by unfold State.finish; rw [h]

/-- Without one it commits. -/
theorem State.finish_commits {s0 s : State} {c : Nat} {b : Bundle} (h : s.issue.raised = none) : s0.finish c b s = s.commit c b := by
  unfold State.finish; rw [h]

/-- A system-class cause freezes, in every state of the context. -/
theorem State.takeTrap_system {s : State} {c also : Nat} {p : PendCause} (h : 16 ≤ p.cause) : s.takeTrap c p also = s.freeze c p also := by
  unfold State.takeTrap; rw [if_pos h]

/-! ## Events and packets -/

/-- An event of a context that exists goes on. -/
theorem onCtx_of_lt {c : Nat} {t : State} (h : c < 1024) : onCtx c t = .next t := if_pos h
/-- An event of a context that does not exist stops. -/
theorem onCtx_of_ge {c : Nat} {t : State} (h : 1024 ≤ c) : onCtx c t = .fault .noSuchUnit := if_neg (by omega)
/-- An event of a port that exists goes on. -/
theorem onPort_of_lt {p : Nat} {t : State} (h : p < 16) : onPort p t = .next t := if_pos h
/-- An event of a function that exists is its own meaning, in service. -/
theorem onVf_served {v : Nat} {s : State} {f : Out} (h : v ≤ 16) (hs : s.serving = true) : onVf v s f = f := by
  unfold onVf; rw [if_neg (by omega), if_pos hs]
/-- Without service nothing answers. -/
theorem onVf_unserved {v : Nat} {s : State} {f : Out} (h : v ≤ 16) (hs : s.serving = false) : onVf v s f = .next s := by
  unfold onVf; rw [if_neg (by omega), if_neg (by simp [hs])]
/-- In service what needs it acts. -/
theorem State.served_of {s : State} {act : State → State} (h : s.serving = true) : s.served act = act s := if_pos h
/-- A message of the fabric acts in PS0, where the module takes part in the fabric. -/
theorem State.fabricArrives_up {s : State} {act : State → State} (h : s.fabricUp = true) :
    s.fabricArrives act = act { s with pow := { s.pow with ps := 0 } } := if_pos h

/-- What goes through messages acts once they are done: of an access or a job of a context the state is then unchanged. -/
theorem State.viaMessages_done {s : State} {j : Nat × Nat} {l : List (Nat × Nat × Nat × Nat)} {act : State → State} (hj : j.1 < 1024)
    (h : s.messageDone j = true) : s.viaMessages j l act = act s := by
  unfold State.messageDone at h; unfold State.viaMessages
  by_cases hr : s.fab.removed = true
  · rw [if_pos hr]
  · simp only [hr, Bool.false_or, Bool.and_eq_true, Bool.not_eq_eq_eq_not, Bool.not_true] at h
    rw [if_neg hr, if_neg (by rw [h.1]; decide), if_neg (by rw [h.2]; decide), if_pos hj]

/-- It waits while a flit of it is out. -/
theorem State.viaMessage_waits {s : State} {j : Nat × Nat} {cls dst body n : Nat} {act : State → State} (hr : s.fab.removed = false)
    (h : j ∈ s.fab.sent) (ho : s.flitsOut j = true) : s.viaMessage j cls dst body n act = s := by
  unfold State.viaMessage State.viaMessages; simp [hr, h, ho]

/-- It is made where it was not yet. -/
theorem State.viaMessage_sends {s : State} {j : Nat × Nat} {cls dst body n : Nat} {act : State → State} (hr : s.fab.removed = false)
    (h : j ∉ s.fab.sent) : s.viaMessage j cls dst body n act =
      (s.modFab fun f => { f with sent := j :: f.sent }).sendOpen (some j) cls dst body n := by
  unfold State.viaMessage State.viaMessages; simp [hr, h]

/-- The access of a unit acts where its message is done, or where it sends none. -/
theorem State.unitMessage_done {s : State} {c : Nat} {u : MemUnit} {act : State → State} (hc : c < 1024)
    (h : s.unitClass c u = none ∨ s.messageDone (c, u.id) = true) : s.unitMessage c u act = act s := by
  unfold State.unitMessage
  rcases h with h | h
  · rw [h]
  · split
    · exact State.viaMessages_done hc h
    · rfl

/-- An engine operation acts where its messages are done, or where it sends none, and no store that frames show goes before it. -/
theorem State.opMessage_done {s : State} {c : Nat} {o : EngOp} {act : State → State} (hc : c < 1024)
    (h : o.msgClass = none ∨ s.messageDone (c, o.id) = true) (ha : s.opAhead o = false) : s.opMessage c o act = act s := by
  unfold State.opMessage
  rcases h with h | h
  · simp only [h, ite_self]
  · dsimp only
    split
    · rfl
    · simp [State.viaMessages_done hc h, ha]

/-- The number of an operation in flight is the one it was looked up by. -/
theorem Ctx.engOp_id {x : Ctx} {id : Nat} {o : EngOp} (h : x.engOp id = some o) : o.id = id := by
  simpa using List.find?_some h

/-- An operation in flight that may begin, and whose message is done, completes. -/
theorem completing_due {c id : Nat} {q : Engine} {s : State} {f : EngOp → State} {o : EngOp} (hc : c < 1024)
    (h : (s.ctx c).engOp id = some o) (hq : o.engine = q) (hr : (s.ctx c).engReady o = true) (hh : s.opHeld c o = false)
    (hm : o.msgClass = none ∨ s.messageDone (c, id) = true) (ha : s.opAhead o = false) : completing c id q s f = .next (f o) := by
  rw [← Ctx.engOp_id h] at hm
  unfold completing; rw [onCtx_of_lt hc]; simp [h, hq, hr, hh, State.opMessage_done hc hm ha]

/-- A supervisor packet acts where it may. -/
theorem supervisorFor_may {h : PktHdr} {l : List Nat} {s : State} {f : Out} (hm : s.mayAct h l = true) : supervisorFor h l s f = f :=
  if_pos hm
/-- It completes with PRIVILEGE elsewhere. -/
theorem supervisorFor_refused {h : PktHdr} {l : List Nat} {s : State} {f : Out} (hm : s.mayAct h l = false) :
    supervisorFor h l s f = .next (s.complete h 0x16 0) := if_neg (by simp [hm])

/-! ## Scratch within a bundle and a cycle (R182, R199) -/

/-- With no window store of the bundle's context over the bytes, a read takes the scratchpad's. -/
theorem State.slotRead_now {s : State} {a n : Nat} (h : (s.comingStores a n).isEmpty = true) :
    s.slotRead a n = s.scratchRead (coreOf s.cur) a n := if_pos h

/-- With no window access of the bundle's context over the bytes, a store writes the scratchpad. -/
theorem State.slotStore_now {s : State} {a n v : Nat}
    (h : (s.now.units.any fun u => (ownScratch s.cur u).any fun b => decide (b < a + n) && decide (a < b + u.size)) = false) :
    s.slotStore a n v = s.slotWrite (coreOf s.cur) a n v := if_neg (by rw [h]; decide)

/-- Behind such an access the store takes its place in order. -/
theorem State.slotStore_after {s : State} {a n v : Nat}
    (h : (s.now.units.any fun u => (ownScratch s.cur u).any fun b => decide (b < a + n) && decide (a < b + u.size)) = true) :
    s.slotStore a n v = s.addUnit { s.unitOf 4 (.store false) (.ia (windowOf (coreOf s.cur) a)) n with data := v } := if_pos h

/-- Where no slot of the cycle has stored, an engine port reads the scratchpad. -/
theorem State.engineRead_now {s : State} {k a n : Nat} (h : s.unslotted k a n = true) : s.engineRead k a n = s.scratchRead k a n := if_pos h

/-! ## Held writes and write messages (R390, R503) -/

/-- With no migration that holds a write of the front end, nothing is to settle before it reads. -/
theorem State.settleFe_none {s : State} (h : (s.migrations.filter fun m => m.held.any fun w => w.agent == agentFe) = []) : s.settleFe = s := by
  unfold State.settleFe; rw [h]; rfl

/-- No message, no count. -/
@[simp] theorem State.countWrites_zero (s : State) (w : Word) : s.countWrites w 0 = s := rfl

/-- The count of a step rises by the messages that the module sent for it. -/
theorem State.sentWrites_countWrites (s : State) (w : Word) (n : Nat) : (s.countWrites w n).sentWrites w = s.sentWrites w + n := by
  by_cases h : n = 0
  · subst h; rfl
  · unfold State.countWrites; rw [if_neg h]
    show Store.get 0 (Store.put s.fe.tagged _ _) _ = _
    rw [Store.get_put]; simp [State.sentWrites]

end Sys2Proof.Machine
end

