-- ==== Sys2Proof/Laws/Memories.lean ====
section
/-! SUPPORT. Every operation keeps the memories in canonical form (`State.memInv`): the shared operations, memory below the issue stage, fetching and the end of a bundle. -/

namespace Sys2Proof.Machine


/-- Does an outcome keep the memories in canonical form? -/
def keepsOut : Out → Bool
  | .next t => t.memInv
  | .fault _ => true
  | .refused _ => true

@[simp] theorem keepsOut_next (t : State) : keepsOut (.next t) = t.memInv := rfl
@[simp] theorem keepsOut_fault (f : Fault) : keepsOut (.fault f) = true := rfl
@[simp] theorem keepsOut_refused (r : Refusal) : keepsOut (.refused r) = true := rfl

/-- The canonical form depends on the three memories alone. -/
theorem memInv_iff (s : State) : s.memInv = true ↔
    Memory.wf s.mem = true ∧ Memory.wf s.hostMem = true ∧ (s.cores.all fun k => Memory.wf k.2.scratch) = true := by
  simp [State.memInv, and_assoc]

theorem memInv_of {s t : State} (h : s.memInv = true) (h1 : t.mem = s.mem) (h2 : t.hostMem = s.hostMem) (h3 : t.cores = s.cores) :
    t.memInv = true := by
  simp only [State.memInv, h1, h2, h3] at *; exact h

theorem memInv_mem {s : State} (h : s.memInv = true) : Memory.wf s.mem = true := ((memInv_iff s).1 h).1
theorem memInv_hostMem {s : State} (h : s.memInv = true) : Memory.wf s.hostMem = true := ((memInv_iff s).1 h).2.1
theorem memInv_cores {s : State} (h : s.memInv = true) : (s.cores.all fun k => Memory.wf k.2.scratch) = true := ((memInv_iff s).1 h).2.2

@[simp] theorem keeps_foldl {α : Type} (f : State → α → State) (l : List α) (s : State) (hf : ∀ t a, t.memInv = true → (f t a).memInv = true)
    (h : s.memInv = true) : (l.foldl f s).memInv = true := by
  induction l generalizing s with
  | nil => exact h
  | cons a l ih => exact ih _ (hf _ _ h)
@[simp] theorem keeps_foldl_fst {α β : Type} (f : State × β → α → State × β) (l : List α) (s : State × β)
    (hf : ∀ t a, t.1.memInv = true → (f t a).1.memInv = true) (h : s.1.memInv = true) : (l.foldl f s).1.memInv = true := by
  induction l generalizing s with
  | nil => exact h
  | cons a l ih => exact ih _ (hf _ _ h)
@[simp] theorem keeps_foldl_snd {α β : Type} (f : β × State → α → β × State) (l : List α) (s : β × State)
    (hf : ∀ t a, t.2.memInv = true → (f t a).2.memInv = true) (h : s.2.memInv = true) : (l.foldl f s).2.memInv = true := by
  induction l generalizing s with
  | nil => exact h
  | cons a l ih => exact ih _ (hf _ _ h)

theorem memInv_core {s : State} (h : s.memInv = true) (k : Nat) : Memory.wf (s.core k).scratch = true := by
  have hc := memInv_cores h
  have key : ∀ m : Store Core, m.all (fun e => Memory.wf e.2.scratch) = true → Memory.wf (Store.get Core.reset m k).scratch = true := by
    intro m
    induction m with
    | nil => intro _; rfl
    | cons e m ih =>
      obtain ⟨i, x⟩ := e
      intro ha
      rw [List.all_cons, Bool.and_eq_true] at ha
      by_cases hi : k = i
      · simpa [Store.get, hi] using ha.1
      · simpa [Store.get, hi] using ih ha.2
  exact key s.cores hc

@[simp] theorem keeps_setCore {s : State} (h : s.memInv = true) (k : Nat) (x : Core) (hx : Memory.wf x.scratch = true) :
    (s.setCore k x).memInv = true := by
  rw [memInv_iff]
  exact ⟨memInv_mem (s := s) h, memInv_hostMem (s := s) h, Store.all_put _ _ _ _ (memInv_cores (s := s) h) hx⟩

@[simp] theorem keeps_modCore {s : State} (h : s.memInv = true) (k : Nat) (f : Core → Core)
    (hf : ∀ x, Memory.wf x.scratch = true → Memory.wf (f x).scratch = true) : (s.modCore k f).memInv = true :=
  keeps_setCore h k _ (hf _ (memInv_core h k))


/-- Is every core's scratchpad in canonical form? -/
def coresWf (l : Store Core) : Bool := l.all fun k => Memory.wf k.2.scratch
@[simp] theorem memInv_mk cycles' ctxs' cores' clusters' mem' hostMem' llc' windows' closed' ptbase' ptMade' tlb' sharers' invals' migrations' records' deltas' walkers' fe' host' pow' fab' pool' agenda' late' issueQ' round' cur' issue' freeCtr' (h1 : Memory.wf mem' = true) (h2 : Memory.wf hostMem' = true)
    (h3 : coresWf cores' = true) : (State.mk cycles' ctxs' cores' clusters' mem' hostMem' llc' windows' closed' ptbase' ptMade' tlb' sharers' invals' migrations' records' deltas' walkers' fe' host' pow' fab' pool' agenda' late' issueQ' round' cur' issue' freeCtr').memInv = true := (memInv_iff _).2 ⟨h1, h2, h3⟩
@[simp] theorem wf_cores {s : State} (h : s.memInv = true) : coresWf s.cores = true := memInv_cores h
@[simp] theorem wf_mem {s : State} (h : s.memInv = true) : Memory.wf s.mem = true := memInv_mem h
@[simp] theorem wf_hostMem {s : State} (h : s.memInv = true) : Memory.wf s.hostMem = true := memInv_hostMem h
@[simp] theorem keeps_ite {c : Prop} [Decidable c] {s t : State} (h1 : s.memInv = true) (h2 : t.memInv = true) :
    (if c then s else t).memInv = true := by split <;> assumption
@[simp] theorem keepsOut_ite {c : Prop} [Decidable c] {s t : Out} (h1 : keepsOut s = true) (h2 : keepsOut t = true) :
    keepsOut (if c then s else t) = true := by split <;> assumption
@[simp] theorem wf_ite {c : Prop} [Decidable c] {s t : Memory} (h1 : Memory.wf s = true) (h2 : Memory.wf t = true) :
    Memory.wf (if c then s else t) = true := by split <;> assumption
@[simp] theorem wf_write' {m : Memory} (h : Memory.wf m = true) (a : Nat) (b : Byte) : Memory.wf (Memory.write m a b) = true :=
  Memory.wf_write m a b h
@[simp] theorem wf_writeLE' {m : Memory} (h : Memory.wf m = true) (a n x : Nat) : Memory.wf (Memory.writeLE m a n x) = true :=
  Memory.wf_writeLE m a n x h
@[simp] theorem wf_clear' {m : Memory} (h : Memory.wf m = true) (lo len : Nat) : Memory.wf (Store.clear m lo len) = true :=
  Memory.wf_clear m lo len h
@[simp] theorem memInv_reset : State.reset.memInv = true := rfl
@[simp] theorem wf_take (k : Core) (b n : Nat) (h : Memory.wf k.scratch = true) : Memory.wf (k.take b n).scratch = true :=
  Memory.wf_clear _ _ _ h
@[simp] theorem wf_release (k : Core) (b : Nat) (h : Memory.wf k.scratch = true) : Memory.wf (k.release b).scratch = true := h


/-! ## Shared operations -/

@[simp] theorem keeps_setCtx (s : State) (c : Nat) (x : Ctx) (hI : s.memInv = true) : (State.setCtx s c x).memInv = true := by
  unfold State.setCtx; simp (maxDischargeDepth := 40) +contextual [*]
@[simp] theorem keeps_modCtx (s : State) (c : Nat) (f : Ctx → Ctx) (hI : s.memInv = true) : (State.modCtx s c f).memInv = true := by
  unfold State.modCtx; simp (maxDischargeDepth := 40) +contextual [*]
@[simp] theorem keeps_modCluster (s : State) (k : Nat) (f : Cluster → Cluster) (hI : s.memInv = true) : (State.modCluster s k f).memInv = true := by
  unfold State.modCluster; simp (maxDischargeDepth := 40) +contextual [*]
@[simp] theorem keeps_modFe (s : State) (f : FrontEnd → FrontEnd) (hI : s.memInv = true) : (State.modFe s f).memInv = true := by
  unfold State.modFe; simp (maxDischargeDepth := 40) +contextual [*]
@[simp] theorem keeps_modQuota (s : State) (cls : Nat) (f : QuotaClass → QuotaClass) (hI : s.memInv = true) : (State.modQuota s cls f).memInv = true := by
  unfold State.modQuota; simp (maxDischargeDepth := 40) +contextual [*]
@[simp] theorem keeps_upd (s : State) (f : Ctx → Ctx) (hI : s.memInv = true) : (State.upd s f).memInv = true := by
  unfold State.upd; simp (maxDischargeDepth := 40) +contextual [*]
@[simp] theorem keeps_raise (s : State) (p : PendCause) (hI : s.memInv = true) : (State.raise s p).memInv = true := by
  unfold State.raise; (repeat' split) <;> simp (maxDischargeDepth := 40) +contextual [*]
@[simp] theorem keeps_fail (s : State) (cause code : Nat) (addr : Nat) (hI : s.memInv = true) : (State.fail s cause code addr).memInv = true := by
  unfold State.fail; simp (maxDischargeDepth := 40) +contextual [*]
@[simp] theorem keeps_flag (s : State) (fl : Nat) (hI : s.memInv = true) : (State.flag s fl).memInv = true := by
  unfold State.flag; simp (maxDischargeDepth := 40) +contextual [*]
@[simp] theorem keeps_landMask (s : State) (d : Dest) (l : Lat) (v m : VWord) (hI : s.memInv = true) : (State.landMask s d l v m).memInv = true := by
  unfold State.landMask; simp (maxDischargeDepth := 40) +contextual [*]
@[simp] theorem keeps_landTo (s : State) (d : Dest) (l : Lat) (v : VWord) (hI : s.memInv = true) : (State.landTo s d l v).memInv = true := by
  unfold State.landTo; simp (maxDischargeDepth := 40) +contextual [*]
@[simp] theorem keeps_landW (s : State) (d : Dest) (l : Lat) (v : Word) (hI : s.memInv = true) : (State.landW s d l v).memInv = true := by
  unfold State.landW; simp (maxDischargeDepth := 40) +contextual [*]
@[simp] theorem keeps_addUnit (s : State) (u : MemUnit) (hI : s.memInv = true) : (State.addUnit s u).memInv = true := by
  unfold State.addUnit; simp (maxDischargeDepth := 40) +contextual [*]
@[simp] theorem keeps_scratchWrite (s : State) (k a n v : Nat) (hI : s.memInv = true) : (State.scratchWrite s k a n v).memInv = true := by
  unfold State.scratchWrite; simp (maxDischargeDepth := 40) +contextual [*]
@[simp] theorem keeps_slotWrite (s : State) (k a n v : Nat) (hI : s.memInv = true) : (State.slotWrite s k a n v).memInv = true := by
  unfold State.slotWrite; simp (maxDischargeDepth := 40) +contextual [*]
@[simp] theorem keeps_engineWrite (s : State) (k a n v : Nat) (hI : s.memInv = true) : (State.engineWrite s k a n v).memInv = true := by
  unfold State.engineWrite; simp (maxDischargeDepth := 40) +contextual [*]
@[simp] theorem keeps_accSet (s : State) (k acc : Nat) (l : List (Nat × Nat × Nat)) (hI : s.memInv = true) : (State.accSet s k acc l).memInv = true := by
  unfold State.accSet; simp (maxDischargeDepth := 40) +contextual [*]
@[simp] theorem keeps_served (s : State) {act : State → State} (hf : ∀ t, t.memInv = true → (act t).memInv = true)
    (hI : s.memInv = true) : (s.served act).memInv = true := by
  unfold State.served
  split
  · exact hf _ hI
  · exact hI
@[simp] theorem keeps_setPte (s : State) (level key : Nat) (w : Word) (hI : s.memInv = true) : (State.setPte s level key w).memInv = true := by
  unfold State.setPte; (repeat' split) <;> simp (maxDischargeDepth := 40) +contextual [*]
@[simp] theorem keeps_makeTable (s : State) (level key : Nat) (hI : s.memInv = true) : (State.makeTable s level key).memInv = true := by
  unfold State.makeTable; simp (maxDischargeDepth := 40) +contextual [*]
@[simp] theorem keeps_setLeaf (s : State) (level key : Nat) (w : Word) (hI : s.memInv = true) : (State.setLeaf s level key w).memInv = true := by
  unfold State.setLeaf; (repeat' split) <;> simp (maxDischargeDepth := 40) +contextual [*]
@[simp] theorem keeps_cacheLeaf (s : State) (l : Leaf) (w : Word) (ia : Nat) (hI : s.memInv = true) : (State.cacheLeaf s l w ia).memInv = true := by
  unfold State.cacheLeaf; simp (maxDischargeDepth := 40) +contextual [*]
@[simp] theorem keeps_recallHdm (s : State) (line : Nat) (hI : s.memInv = true) : (State.recallHdm s line).memInv = true := by
  unfold State.recallHdm; simp (maxDischargeDepth := 40) +contextual [*]
@[simp] theorem keeps_recallRange (s : State) (ia n : Nat) (hI : s.memInv = true) : (State.recallRange s ia n).memInv = true := by
  unfold State.recallRange; simp (maxDischargeDepth := 40) +contextual [*]
@[simp] theorem keeps_touch (s : State) (l : Leaf) (ia : Nat) (write : Bool) (hI : s.memInv = true) : (State.touch s l ia write).memInv = true := by
  unfold State.touch; simp (maxDischargeDepth := 40) +contextual [*]
@[simp] theorem keeps_spend (s : State) (hI : s.memInv = true) : (State.spend s).memInv = true := by
  unfold State.spend; simp (maxDischargeDepth := 40) +contextual [*]
@[simp] theorem keeps_hostRoom (s : State) (g : Nat) (hI : s.memInv = true) : (State.hostRoom s g).memInv = true := by
  unfold State.hostRoom; dsimp only; (repeat' split) <;> simp (maxDischargeDepth := 40) +contextual [*]
@[simp] theorem keeps_hostFill (s : State) (g : Nat) (st : Mesi) (hI : s.memInv = true) : (State.hostFill s g st).memInv = true := by
  unfold State.hostFill; simp (maxDischargeDepth := 40) +contextual [*]
@[simp] theorem keeps_hostFetch (s : State) (g : Nat) (hI : s.memInv = true) : (State.hostFetch s g).memInv = true := by
  unfold State.hostFetch; simp (maxDischargeDepth := 40) +contextual [*]
@[simp] theorem keeps_hostLoad (s : State) (a n : Nat) (hI : s.memInv = true) : (State.hostLoad s a n).memInv = true := by
  unfold State.hostLoad; simp (maxDischargeDepth := 40) +contextual [*]
@[simp] theorem keeps_hostWrite (s : State) (a : Nat) (b : Byte) (hI : s.memInv = true) : (State.hostWrite s a b).memInv = true := by
  unfold State.hostWrite; simp (maxDischargeDepth := 40) +contextual [*]
@[simp] theorem keeps_modLlc (s : State) (line : Nat) (f : LlcLine → LlcLine) (hI : s.memInv = true) : (State.modLlc s line f).memInv = true := by
  unfold State.modLlc; simp (maxDischargeDepth := 40) +contextual [*]
@[simp] theorem keeps_putByte (s : State) (ia : Nat) (b : Byte) (hI : s.memInv = true) : (State.putByte s ia b).memInv = true := by
  unfold State.putByte; (repeat' split) <;> simp (maxDischargeDepth := 40) +contextual [*]
@[simp] theorem keeps_putBytes (s : State) (ia n v : Nat) (h : s.memInv = true) : (s.putBytes ia n v).memInv = true := by
  induction n generalizing s ia v with
  | zero => exact h
  | succ n ih => exact ih _ _ _ (keeps_putByte _ _ _ h)
@[simp] theorem keeps_llcWrote (s : State) (line : Nat) (mask : Word128) (hI : s.memInv = true) : (State.llcWrote s line mask).memInv = true := by
  unfold State.llcWrote; simp (maxDischargeDepth := 40) +contextual [*]
@[simp] theorem keeps_holdWrite (s : State) (agent ia n v : Nat) (hI : s.memInv = true) : (State.holdWrite s agent ia n v).memInv = true := by
  unfold State.holdWrite; simp (maxDischargeDepth := 40) +contextual [*]
@[simp] theorem keeps_homeWriteBy (s : State) (agent ia n v : Nat) (hI : s.memInv = true) : (State.homeWriteBy s agent ia n v).memInv = true := by
  unfold State.homeWriteBy; simp (maxDischargeDepth := 40) +contextual [*]
@[simp] theorem keeps_homeWriteN (s : State) (ia n v : Nat) (hI : s.memInv = true) : (State.homeWriteN s ia n v).memInv = true := by
  unfold State.homeWriteN; simp (maxDischargeDepth := 40) +contextual [*]
@[simp] theorem keeps_writeWords (s : State) (ia : Nat) (l : List Word) (h : s.memInv = true) : (s.writeWords ia l).memInv = true := by
  induction l generalizing s ia with
  | nil => exact h
  | cons w l ih => exact ih _ _ (keeps_homeWriteN _ _ _ _ h)
@[simp] theorem keeps_writeRecord (s : State) (words : List Word) (hI : s.memInv = true) : (State.writeRecord s words).memInv = true := by
  unfold State.writeRecord; simp (maxDischargeDepth := 40) +contextual [*]
@[simp] theorem keeps_postRecord (s : State) (words : List Word) (hI : s.memInv = true) : (State.postRecord s words).memInv = true := by
  unfold State.postRecord; simp (maxDischargeDepth := 40) +contextual [*]
@[simp] theorem keeps_postFault (s : State) (c : Nat) (words : List Word) (hI : s.memInv = true) : (State.postFault s c words).memInv = true := by
  unfold State.postFault; simp (maxDischargeDepth := 40) +contextual [*]
@[simp] theorem keeps_postError (s : State) (code w8 detail : Nat) (hI : s.memInv = true) : (State.postError s code w8 detail).memInv = true := by
  unfold State.postError; simp (maxDischargeDepth := 40) +contextual [*]
@[simp] theorem keeps_writeCompletion (s : State) (cmpl tag status value task : Nat) (hI : s.memInv = true) : (State.writeCompletion s cmpl tag status value task).memInv = true := by
  unfold State.writeCompletion; simp (maxDischargeDepth := 40) +contextual [*]
@[simp] theorem keeps_modQueue (s : State) (q : Nat) (f : Queue → Queue) (hI : s.memInv = true) : (State.modQueue s q f).memInv = true := by
  unfold State.modQueue; simp (maxDischargeDepth := 40) +contextual [*]
@[simp] theorem keeps_runFences (s : State) (q n : Nat) (h : s.memInv = true) : (s.runFences q n).memInv = true := by
  induction n generalizing s with
  | zero => exact h
  | succ n ih =>
    unfold State.runFences
    dsimp only
    split
    · exact h
    · split
      · exact h
      · exact ih _ (by simp [h])
@[simp] theorem keeps_completeTask (s : State) (h : PktHdr) (status value task : Nat) (hI : s.memInv = true) : (State.completeTask s h status value task).memInv = true := by
  unfold State.completeTask; simp (maxDischargeDepth := 40) +contextual [*]
@[simp] theorem keeps_complete (s : State) (h : PktHdr) (status value : Nat) (hI : s.memInv = true) : (State.complete s h status value).memInv = true := by
  unfold State.complete; simp (maxDischargeDepth := 40) +contextual [*]
@[simp] theorem keeps_answerSwitch (s : State) (x : Ctx) (status : Nat) (hI : s.memInv = true) : (State.answerSwitch s x status).memInv = true := by
  unfold State.answerSwitch; (repeat' split) <;> simp (maxDischargeDepth := 40) +contextual [*]
@[simp] theorem keeps_freeze (s : State) (c : Nat) (p : PendCause) (also : Nat) (hI : s.memInv = true) : (State.freeze s c p also).memInv = true := by
  unfold State.freeze; simp (maxDischargeDepth := 40) +contextual [*]
@[simp] theorem keeps_takeTrap (s : State) (c : Nat) (p : PendCause) (also : Nat) (hI : s.memInv = true) : (State.takeTrap s c p also).memInv = true := by
  unfold State.takeTrap; dsimp only; (repeat' split) <;> simp (maxDischargeDepth := 40) +contextual [*]
@[simp] theorem keeps_boundary (s : State) (c : Nat) (hI : s.memInv = true) : (State.boundary s c).memInv = true := by
  unfold State.boundary; dsimp only; (repeat' split) <;> simp (maxDischargeDepth := 40) +contextual [*]

/-! ## Memory below the issue stage -/

@[simp] theorem keeps_llcEvict (s : State) (line : Nat) (hI : s.memInv = true) : (State.llcEvict s line).memInv = true := by
  unfold State.llcEvict; simp (maxDischargeDepth := 40) +contextual [*]
@[simp] theorem keeps_llcEnter (s : State) (line cls : Nat) (hI : s.memInv = true) : (State.llcEnter s line cls).memInv = true := by
  unfold State.llcEnter; simp (maxDischargeDepth := 40) +contextual [*]
@[simp] theorem keeps_llcVictim (s : State) (l : List Nat) (hI : s.memInv = true) : (State.llcVictim s l).memInv = true := by
  unfold State.llcVictim; (repeat' split) <;> simp (maxDischargeDepth := 40) +contextual [*]
@[simp] theorem keeps_llcVictims (s : State) (slice cls n : Nat) (hI : s.memInv = true) : (s.llcVictims slice cls n).memInv = true := by
  induction n generalizing s with
  | zero => exact hI
  | succ n ih => exact ih _ (keeps_llcVictim _ _ hI)
@[simp] theorem keeps_llcFill (s : State) (line cls : Nat) (hI : s.memInv = true) : (State.llcFill s line cls).memInv = true := by
  unfold State.llcFill; simp (maxDischargeDepth := 40) +contextual [*]
@[simp] theorem keeps_countLookup (s : State) (task line : Nat) (miss : Bool) (hI : s.memInv = true) : (State.countLookup s task line miss).memInv = true := by
  unfold State.countLookup; (repeat' split) <;> simp (maxDischargeDepth := 40) +contextual [*]
@[simp] theorem keeps_llcBring (s : State) (c line : Nat) (hI : s.memInv = true) : (State.llcBring s c line).memInv = true := by
  unfold State.llcBring; (repeat' split) <;> simp (maxDischargeDepth := 40) +contextual [*]
@[simp] theorem keeps_llcAccess (s : State) (c line : Nat) (hI : s.memInv = true) : (State.llcAccess s c line).memInv = true := by
  unfold State.llcAccess; (repeat' split) <;> simp (maxDischargeDepth := 40) +contextual [*]
@[simp] theorem keeps_llcDrop (s : State) (ia n : Nat) (hI : s.memInv = true) : (State.llcDrop s ia n).memInv = true := by
  unfold State.llcDrop; simp (maxDischargeDepth := 40) +contextual [*]
@[simp] theorem keeps_llcForget (s : State) (ia n : Nat) (hI : s.memInv = true) : (State.llcForget s ia n).memInv = true := by
  unfold State.llcForget; simp (maxDischargeDepth := 40) +contextual [*]
@[simp] theorem keeps_setLine (s : State) (cl line : Nat) (l : CacheLine) (hI : s.memInv = true) : (State.setLine s cl line l).memInv = true := by
  unfold State.setLine; simp (maxDischargeDepth := 40) +contextual [*]
@[simp] theorem keeps_dropLine (s : State) (cl line : Nat) (hI : s.memInv = true) : (State.dropLine s cl line).memInv = true := by
  unfold State.dropLine; simp (maxDischargeDepth := 40) +contextual [*]
@[simp] theorem keeps_recallLine (s : State) (line : Nat) (hI : s.memInv = true) : (State.recallLine s line).memInv = true := by
  unfold State.recallLine; simp (maxDischargeDepth := 40) +contextual [*]
@[simp] theorem keeps_noteAccess (s : State) (cl line : Nat) (atomic : Bool) (hI : s.memInv = true) : (State.noteAccess s cl line atomic).memInv = true := by
  unfold State.noteAccess; (repeat' split) <;> simp (maxDischargeDepth := 40) +contextual [*]
@[simp] theorem keeps_homeWriteMask (s : State) (cl line : Nat) (mask : Word128) (data : CacheLine) (hI : s.memInv = true) : (State.homeWriteMask s cl line mask data).memInv = true := by
  unfold State.homeWriteMask; simp (maxDischargeDepth := 40) +contextual [*]
@[simp] theorem keeps_sendDirty (s : State) (cl line : Nat) (hI : s.memInv = true) : (State.sendDirty s cl line).memInv = true := by
  unfold State.sendDirty; (repeat' split) <;> simp (maxDischargeDepth := 40) +contextual [*]
@[simp] theorem keeps_writeback (s : State) (cl line : Nat) (hI : s.memInv = true) : (State.writeback s cl line).memInv = true := by
  unfold State.writeback; (repeat' split) <;> simp (maxDischargeDepth := 40) +contextual [*]
@[simp] theorem keeps_flush (s : State) (cl line : Nat) (hI : s.memInv = true) : (State.flush s cl line).memInv = true := by
  unfold State.flush; dsimp only; (repeat' split) <;> simp (maxDischargeDepth := 40) +contextual [*]
@[simp] theorem keeps_makeRoom (s : State) (cl line : Nat) (hI : s.memInv = true) : (State.makeRoom s cl line).memInv = true := by
  unfold State.makeRoom; dsimp only; (repeat' split) <;> simp (maxDischargeDepth := 40) +contextual [*]
@[simp] theorem keeps_fillBy (s : State) (c line : Nat) {look : State → State} (hf : ∀ t, t.memInv = true → (look t).memInv = true)
    (hI : s.memInv = true) : (s.fillBy c line look).memInv = true := by
  unfold State.fillBy
  dsimp only
  split
  · exact hI
  · apply keeps_setLine
    split
    · exact keeps_hostLoad _ _ _ (hf _ (keeps_touch _ _ _ _ (keeps_noteAccess _ _ _ _ (keeps_makeRoom _ _ _ hI))))
    · exact hf _ (keeps_touch _ _ _ _ (keeps_noteAccess _ _ _ _ (keeps_makeRoom _ _ _ hI)))
@[simp] theorem keeps_fillLine (s : State) (c line : Nat) (hI : s.memInv = true) : (State.fillLine s c line).memInv = true := by
  unfold State.fillLine; (repeat' split) <;> simp (maxDischargeDepth := 40) +contextual [*]
@[simp] theorem keeps_need (s : State) (c ia n line : Nat) (hI : s.memInv = true) : (State.need s c ia n line).memInv = true := by
  unfold State.need; simp (maxDischargeDepth := 40) +contextual [*]
@[simp] theorem keeps_modBarrier (s : State) (cl b : Nat) (f : Barrier → Barrier) (hI : s.memInv = true) : (State.modBarrier s cl b f).memInv = true := by
  unfold State.modBarrier; simp (maxDischargeDepth := 40) +contextual [*]
@[simp] theorem keeps_winWrite (s : State) (cl ia n v : Nat) (hI : s.memInv = true) : (s.winWrite cl ia n v).memInv = true := by
  unfold State.winWrite; split
  · exact keeps_engineWrite _ _ _ _ _ hI
  · exact hI
@[simp] theorem keeps_reach (s : State) (cl ia n : Nat) (atomic : Bool) (hI : s.memInv = true) : (State.reach s cl ia n atomic).memInv = true := by
  unfold State.reach; simp (maxDischargeDepth := 40) +contextual [*]
@[simp] theorem keeps_homeTouch (s : State) (ia n : Nat) (write : Bool) (hI : s.memInv = true) : (State.homeTouch s ia n write).memInv = true := by
  unfold State.homeTouch
  (repeat' split) <;> (try refine keeps_foldl _ _ _ (fun t a ht => ?_) ?_) <;> (repeat' split) <;> simp (maxDischargeDepth := 40) +contextual [*]
@[simp] theorem keeps_lookUp (s : State) (c ia n : Nat) (hI : s.memInv = true) : (State.lookUp s c ia n).memInv = true := by
  unfold State.lookUp; simp (maxDischargeDepth := 40) +contextual [*]
@[simp] theorem keeps_readIa (s : State) (c scope ia n : Nat) (hI : s.memInv = true) : (State.readIa s c scope ia n).2.memInv = true := by
  unfold State.readIa; (repeat' split) <;> simp (maxDischargeDepth := 40) +contextual [*]
@[simp] theorem keeps_throughLine (s : State) (cl ia n v line : Nat) (hI : s.memInv = true) : (State.throughLine s cl ia n v line).memInv = true := by
  unfold State.throughLine; (repeat' split) <;> simp (maxDischargeDepth := 40) +contextual [*]
@[simp] theorem keeps_absorbBytes (s : State) (cl ia n v line : Nat) (hI : s.memInv = true) : (State.absorbBytes s cl ia n v line).memInv = true := by
  unfold State.absorbBytes; simp (maxDischargeDepth := 40) +contextual [*]
@[simp] theorem keeps_writeIa (s : State) (c scope ia n v : Nat) (hI : s.memInv = true) : (State.writeIa s c scope ia n v).memInv = true := by
  unfold State.writeIa; simp (maxDischargeDepth := 40) +contextual [*]
@[simp] theorem keeps_nearLine (s : State) (c line : Nat) (hI : s.memInv = true) : (State.nearLine s c line).memInv = true := by
  unfold State.nearLine; simp (maxDischargeDepth := 40) +contextual [*]
@[simp] theorem keeps_rmwIa (s : State) (c ia n : Nat) (f : Nat → Nat) (hI : s.memInv = true) : (State.rmwIa s c ia n f).2.memInv = true := by
  unfold State.rmwIa; dsimp only; (repeat' split) <;> simp (maxDischargeDepth := 40) +contextual [*]
@[simp] theorem keeps_evictHost (s : State) (g : Nat) (hI : s.memInv = true) : (State.evictHost s g).memInv = true := by
  unfold State.evictHost; (repeat' split) <;> simp (maxDischargeDepth := 40) +contextual [*]
@[simp] theorem keeps_writebackAll (s : State) (cl : Nat) (hI : s.memInv = true) : (State.writebackAll s cl).memInv = true := by
  unfold State.writebackAll; simp (maxDischargeDepth := 40) +contextual [*]
@[simp] theorem keeps_release (s : State) (c scope : Nat) (p : Nat → Bool) (hI : s.memInv = true) : (State.release s c scope p).memInv = true := by
  unfold State.release; simp (maxDischargeDepth := 40) +contextual [*]
@[simp] theorem keeps_acquire (s : State) (c scope : Nat) (p : Nat → Bool) (hI : s.memInv = true) : (State.acquire s c scope p).memInv = true := by
  unfold State.acquire; simp (maxDischargeDepth := 40) +contextual [*]
@[simp] theorem keeps_releaseObj (s : State) (c scope : Nat) (o : SyncObj) (hI : s.memInv = true) : (State.releaseObj s c scope o).memInv = true := by
  unfold State.releaseObj; simp (maxDischargeDepth := 40) +contextual [*]
@[simp] theorem keeps_acquireObj (s : State) (c scope : Nat) (o : SyncObj) (hI : s.memInv = true) : (State.acquireObj s c scope o).memInv = true := by
  unfold State.acquireObj; simp (maxDischargeDepth := 40) +contextual [*]
@[simp] theorem keeps_setPoolObj (s : State) (obj : Nat) (o : PoolObj) (hI : s.memInv = true) : (State.setPoolObj s obj o).memInv = true := by
  unfold State.setPoolObj; simp (maxDischargeDepth := 40) +contextual [*]
@[simp] theorem keeps_frameWrite (s : State) (k : Word128) (off n v : Nat) (hI : s.memInv = true) : (State.frameWrite s k off n v).memInv = true := by
  unfold State.frameWrite; simp (maxDischargeDepth := 40) +contextual [*]
@[simp] theorem keeps_poolSaw (s : State) (obj : Nat) (step : Word) (hI : s.memInv = true) : (State.poolSaw s obj step).memInv = true := by
  unfold State.poolSaw; (repeat' split) <;> simp (maxDischargeDepth := 40) +contextual [*]
@[simp] theorem keeps_poolTook (s : State) (obj : Nat) (step : Word) (hI : s.memInv = true) : (State.poolTook s obj step).memInv = true := by
  unfold State.poolTook; (repeat' split) <;> simp (maxDischargeDepth := 40) +contextual [*]
@[simp] theorem keeps_countWrites (s : State) (step : Word) (n : Nat) (hI : s.memInv = true) : (State.countWrites s step n).memInv = true := by
  unfold State.countWrites; simp (maxDischargeDepth := 40) +contextual [*]
@[simp] theorem keeps_poolWrite (s : State) (k : Word128) (off n v : Nat) (step : Word) (hI : s.memInv = true) : (State.poolWrite s k off n v step).memInv = true := by
  unfold State.poolWrite; (repeat' split) <;> simp (maxDischargeDepth := 40) +contextual [*]
@[simp] theorem keeps_reFrame (s : State) (hI : s.memInv = true) : (State.reFrame s).memInv = true := by
  unfold State.reFrame
  refine keeps_foldl _ _ _ (fun t e ht => ?_) hI
  refine keeps_foldl _ _ _ (fun t u ht => ?_) ht
  split
  · exact keeps_ite (keeps_frameWrite _ _ _ _ _ ht) ht
  · exact ht
@[simp] theorem keeps_poolPut (s : State) (k : Word128) (off n v : Nat) (step : Word) (hI : s.memInv = true) : (State.poolPut s k off n v step).memInv = true := by
  unfold State.poolPut; simp (maxDischargeDepth := 40) +contextual [*]
@[simp] theorem keeps_poolGet (s : State) (k : Word128) (off n : Nat) (step : Word) (hI : s.memInv = true) : (State.poolGet s k off n step).2.memInv = true := by
  unfold State.poolGet; simp (maxDischargeDepth := 40) +contextual [*]
@[simp] theorem keeps_frameLines (s : State) (f off n : Nat) (hI : s.memInv = true) : (State.frameLines s f off n).memInv = true := by
  unfold State.frameLines; simp (maxDischargeDepth := 40) +contextual [*]
@[simp] theorem keeps_poolLoad (s : State) (c : Nat) (k : Word128) (off n : Nat) (step : Word) (hI : s.memInv = true) : (State.poolLoad s c k off n step).memInv = true := by
  unfold State.poolLoad; (repeat' split) <;> simp (maxDischargeDepth := 40) +contextual [*]
@[simp] theorem keeps_frameStores (s : State) (c : Nat) (hI : s.memInv = true) : (State.frameStores s c).memInv = true := by
  unfold State.frameStores
  (repeat' split) <;> (try refine keeps_foldl _ _ _ (fun t a ht => ?_) ?_) <;> (repeat' split) <;> simp (maxDischargeDepth := 40) +contextual [*]
@[simp] theorem keeps_unframe (s : State) (c : Nat) (u : MemUnit) (hI : s.memInv = true) : (State.unframe s c u).memInv = true := by
  unfold State.unframe; (repeat' split) <;> simp (maxDischargeDepth := 40) +contextual [*]
@[simp] theorem keeps_poolEffect (s : State) (u : MemUnit) (hI : s.memInv = true) : (State.poolEffect s u).memInv = true := by
  unfold State.poolEffect; (repeat' split) <;> simp (maxDischargeDepth := 40) +contextual [*]
@[simp] theorem keeps_perform (s : State) (c : Nat) (u : MemUnit) (hI : s.memInv = true) : (State.perform s c u).memInv = true := by
  unfold State.perform; (repeat' split) <;> simp (maxDischargeDepth := 40) +contextual [*]
@[simp] theorem keeps_drainUnits (s : State) (c n : Nat) (hI : s.memInv = true) : (s.drainUnits c n).memInv = true := by
  induction n generalizing s with
  | zero => exact hI
  | succ n ih =>
    unfold State.drainUnits
    split
    · exact hI
    · exact ih _ (keeps_perform _ _ _ hI)
@[simp] theorem keeps_drain (s : State) (c : Nat) (hI : s.memInv = true) : (State.drain s c).memInv = true := by
  unfold State.drain; simp (maxDischargeDepth := 40) +contextual [*]
@[simp] theorem keeps_setLeaves (s : State) (code ia : Nat) (f : Nat → Word) (hI : s.memInv = true) : (State.setLeaves s code ia f).memInv = true := by
  unfold State.setLeaves; simp (maxDischargeDepth := 40) +contextual [*]
@[simp] theorem keeps_forgetLeaves (s : State) (l : List (Nat × Nat)) (hI : s.memInv = true) : (State.forgetLeaves s l).memInv = true := by
  unfold State.forgetLeaves; simp (maxDischargeDepth := 40) +contextual [*]
@[simp] theorem keeps_applyHeld (s : State) (l : List HeldWrite) (hI : s.memInv = true) : (State.applyHeld s l).memInv = true := by
  unfold State.applyHeld; simp (maxDischargeDepth := 40) +contextual [*]
theorem rising_iff {α : Type} (m : Store α) : Store.rising m = true ↔ m.Pairwise fun a b => a.1 < b.1 := by
  induction m with
  | nil => simp [Store.rising]
  | cons e m ih =>
    obtain ⟨k, v⟩ := e
    simp only [Store.rising, Bool.and_eq_true, ih, List.pairwise_cons, List.all_eq_true, decide_eq_true_eq]

/-- A copied range of a memory leaves it in canonical form. -/
theorem wf_copyBytes (m : Memory) (src dst n : Nat) (h : Memory.wf m = true) : Memory.wf (copyBytes m src dst n) = true := by
  unfold Memory.wf Store.wf at h ⊢
  rw [Bool.and_eq_true, rising_iff, List.all_eq_true] at h ⊢
  unfold copyBytes Store.slice
  constructor
  · simp only [List.map_map]
    rw [List.pairwise_append, List.pairwise_append]
    refine ⟨⟨h.1.filter _, ?_, ?_⟩, h.1.filter _, ?_⟩
    · rw [List.pairwise_map]
      refine (h.1.filter _).imp_of_mem (fun {a b} ha hb hab => ?_)
      simp only [List.mem_filter, Bool.and_eq_true, decide_eq_true_eq] at ha hb
      simp only [Function.comp]
      omega
    · intro a ha b hb
      simp only [List.mem_filter, List.mem_map, decide_eq_true_eq, Function.comp] at ha hb
      obtain ⟨c, -, rfl⟩ := hb
      have := ha.2
      show a.1 < dst + (c.1 - src)
      omega
    · intro a ha b hb
      simp only [List.mem_append, List.mem_filter, List.mem_map, Bool.and_eq_true, decide_eq_true_eq, Function.comp] at ha hb
      have h2 := hb.2
      rcases ha with ha | ⟨c, hc, rfl⟩
      · have := ha.2; omega
      · show dst + (c.1 - src) < b.1
        omega
  · intro x hx
    simp only [List.mem_append, List.mem_filter, List.mem_map] at hx
    rcases hx with (hx | ⟨c, ⟨d, hd, rfl⟩, rfl⟩) | hx
    · exact h.2 _ hx.1
    · exact h.2 d hd.1
    · exact h.2 _ hx.1

@[simp] theorem keeps_copyPage (s : State) (m : Migration) (hI : s.memInv = true) : (s.copyPage m).memInv = true := by
  unfold State.copyPage
  dsimp only
  split
  · exact memInv_of hI rfl rfl rfl
  · apply keeps_setLeaves
    exact (memInv_iff _).2 ⟨wf_copyBytes _ _ _ _ (wf_mem hI), wf_hostMem (s := s) hI, wf_cores (s := s) hI⟩
@[simp] theorem keeps_endMigration (s : State) (m : Migration) (hI : s.memInv = true) : (State.endMigration s m).memInv = true := by
  unfold State.endMigration; simp (maxDischargeDepth := 40) +contextual [*]
@[simp] theorem keeps_finishMigration (s : State) (m : Migration) (hI : s.memInv = true) : (State.finishMigration s m).memInv = true := by
  unfold State.finishMigration; simp (maxDischargeDepth := 40) +contextual [*]
@[simp] theorem keeps_settleFe (s : State) (hI : s.memInv = true) : (State.settleFe s).memInv = true := by
  unfold State.settleFe; simp (maxDischargeDepth := 40) +contextual [*]

/-! ## Fetching -/

@[simp] theorem keeps_beginCopy (s : State) (k f code n : Nat) (needed : Bool) (hI : s.memInv = true) : (State.beginCopy s k f code n needed).memInv = true := by
  unfold State.beginCopy; simp (maxDischargeDepth := 40) +contextual [*]
@[simp] theorem keeps_dropPrefetch (s : State) (die : Nat) (hI : s.memInv = true) : (State.dropPrefetch s die).memInv = true := by
  unfold State.dropPrefetch; simp (maxDischargeDepth := 40) +contextual [*]
@[simp] theorem keeps_boundaryMark (s : State) (c : Nat) (pc : Nat) (hI : s.memInv = true) : (State.boundaryMark s c pc).memInv = true := by
  unfold State.boundaryMark; dsimp only; (repeat' split) <;> simp (maxDischargeDepth := 40) +contextual [*]
@[simp] theorem keeps_startMiss (s : State) (c n : Nat) (hI : s.memInv = true) : (State.startMiss s c n).memInv = true := by
  unfold State.startMiss; dsimp only; (repeat' split) <;> simp (maxDischargeDepth := 40) +contextual [*]
@[simp] theorem keeps_pageRead (s : State) (ia : Nat) (hI : s.memInv = true) : (State.pageRead s ia).memInv = true := by
  unfold State.pageRead; (repeat' split) <;> simp (maxDischargeDepth := 40) +contextual [*]
@[simp] theorem keeps_codeRead (s : State) (src len : Nat) (hI : s.memInv = true) : (State.codeRead s src len).memInv = true := by
  unfold State.codeRead; simp (maxDischargeDepth := 40) +contextual [*]

/-! ## Bundles -/

@[simp] theorem keeps_begin (s : State) (c : Nat) (b : Bundle) (hI : s.memInv = true) : (State.begin s c b).memInv = true := by
  unfold State.begin; simp (maxDischargeDepth := 40) +contextual [*]
@[simp] theorem keeps_idle (s : State) (hI : s.memInv = true) : (State.idle s).memInv = true := by
  unfold State.idle; simp (maxDischargeDepth := 40) +contextual [*]
@[simp] theorem keeps_skipSegment (s : State) (c lo hi n : Nat) (hI : s.memInv = true) : (State.skipSegment s c lo hi n).memInv = true := by
  unfold State.skipSegment; (repeat' split) <;> simp (maxDischargeDepth := 40) +contextual [*]
@[simp] theorem keeps_skipRead (s : State) (c lo hi : Nat) (hI : s.memInv = true) : (State.skipRead s c lo hi).memInv = true := by
  unfold State.skipRead; simp (maxDischargeDepth := 40) +contextual [*]
@[simp] theorem keeps_skip (s : State) (c : Nat) (hI : s.memInv = true) : (State.skip s c).memInv = true := by
  unfold State.skip; dsimp only; (repeat' split) <;> simp (maxDischargeDepth := 40) +contextual [*]
@[simp] theorem keeps_userTrap (s : State) (c : Nat) (wasHandler : Bool) (p : PendCause) (also : Nat) (hI : s.memInv = true) : (State.userTrap s c wasHandler p also).memInv = true := by
  unfold State.userTrap; simp (maxDischargeDepth := 40) +contextual [*]
@[simp] theorem keeps_afterCommit (s : State) (c : Nat) (i : Issue) (hI : s.memInv = true) : (State.afterCommit s c i).memInv = true := by
  unfold State.afterCommit; dsimp only; (repeat' split) <;> simp (maxDischargeDepth := 40) +contextual [*]
@[simp] theorem keeps_ending (s : State) (c : Nat) (b : Bundle) (i : Issue) (hI : s.memInv = true) : (State.ending s c b i).memInv = true := by
  unfold State.ending; (repeat' split) <;> simp (maxDischargeDepth := 40) +contextual [*]
@[simp] theorem keeps_toBundle (s : State) (c : Nat) (hI : s.memInv = true) : (State.toBundle s c).memInv = true := by
  unfold State.toBundle; simp (maxDischargeDepth := 40) +contextual [*]
@[simp] theorem keeps_commit (s : State) (c : Nat) (b : Bundle) (hI : s.memInv = true) : (State.commit s c b).memInv = true := by
  unfold State.commit; dsimp only; (repeat' split) <;> simp (maxDischargeDepth := 40) +contextual [*]
@[simp] theorem keeps_finish (s0 : State) (c : Nat) (b : Bundle) (s : State) (hI : s0.memInv = true) (hI1 : s.memInv = true) : (State.finish s0 c b s).memInv = true := by
  unfold State.finish; (repeat' split) <;> simp (maxDischargeDepth := 40) +contextual [*]
@[simp] theorem keeps_issueWith {inner : State → Out} (hf : ∀ t, t.memInv = true → keepsOut (inner t) = true) (c : Nat) (b : Bundle)
    (s : State) (hI : s.memInv = true) : keepsOut (issueWith inner c b s) = true := by
  unfold issueWith
  split
  · simp [hI]
  · split
    · simp [hI]
    · have h := hf (s.begin c b) (keeps_begin _ _ _ hI)
      split
      · rename_i t ht; rw [ht] at h; exact keeps_finish _ _ _ _ hI h
      · rfl
      · rfl
@[simp] theorem keeps_runOps {run : Instr → State → Out} (hf : ∀ i t, t.memInv = true → keepsOut (run i t) = true) (l : List Instr)
    (s : State) (hI : s.memInv = true) : keepsOut (runOps run l s) = true := by
  induction l generalizing s with
  | nil => exact hI
  | cons i l ih =>
    have h := hf i s hI
    unfold runOps
    split
    · rename_i t ht; rw [ht] at h; exact ih _ h
    · rfl
    · rfl
@[simp] theorem keeps_guarded (i : Instr) {body : State → State} (hf : ∀ t, t.memInv = true → (body t).memInv = true) (s : State)
    (hI : s.memInv = true) : (guarded i body s).memInv = true := by
  unfold guarded; split
  · exact hf _ hI
  · exact hI
@[simp] theorem keeps_issueOp (i : Instr) {body : State → State} (hf : ∀ t, t.memInv = true → (body t).memInv = true) (s : State)
    (hI : s.memInv = true) : keepsOut (issueOp i body s) = true := by
  unfold issueOp; split
  · exact keeps_guarded i hf s hI
  · exact keeps_issueWith (inner := fun t => .next (guarded i body t)) (fun t ht => keeps_guarded i hf t ht) _ _ _ hI
@[simp] theorem keeps_enterSegment (s : State) (c a : Nat) (hI : s.memInv = true) : (State.enterSegment s c a).memInv = true := by
  unfold State.enterSegment; simp (maxDischargeDepth := 40) +contextual [*]
@[simp] theorem keeps_issueNext {run : Instr → State → Out} (hf : ∀ i t, t.memInv = true → keepsOut (run i t) = true) (c : Nat)
    (s : State) (hI : s.memInv = true) : keepsOut (issueNext run c s) = true := by
  unfold issueNext
  split
  · simp [hI]
  · simp [hI]
  · simp [hI]
  · exact keeps_issueWith (fun t ht => keeps_runOps hf _ _ ht) _ _ _ (by simp [hI])

end Sys2Proof.Machine
end

