-- ==== Sys2Proof/Laws/MemoriesCore.lean ====
section
/-! SUPPORT. Every operation keeps the memories in canonical form (`State.memInv`): the syllables of the core. -/

namespace Sys2Proof.Machine

/-! ## Control -/

@[simp] theorem keeps_transfer (s : State) (t : Int) (hI : s.memInv = true) : (State.transfer s t).memInv = true := by
  unfold State.transfer; simp (maxDischargeDepth := 40) +contextual [*]
@[simp] theorem keeps_link (s : State) (hI : s.memInv = true) : (State.link s).memInv = true := by
  unfold State.link; simp (maxDischargeDepth := 40) +contextual [*]
@[simp] theorem keeps_jump (s : State) (r : BitVec 5) (hI : s.memInv = true) : (State.jump s r).memInv = true := by
  unfold State.jump; simp (maxDischargeDepth := 40) +contextual [*]
@[simp] theorem keeps_execBr (o : BO) (s : State) (hI : s.memInv = true) : keepsOut (execBr o s) = true := by
  unfold execBr; simp (maxDischargeDepth := 40) +contextual [*]
@[simp] theorem keeps_execBrp (o : BP) (s : State) (hI : s.memInv = true) : keepsOut (execBrp o s) = true := by
  unfold execBrp; simp (maxDischargeDepth := 40) +contextual [*]
@[simp] theorem keeps_execBrl (o : BO) (s : State) (hI : s.memInv = true) : keepsOut (execBrl o s) = true := by
  unfold execBrl; simp (maxDischargeDepth := 40) +contextual [*]
@[simp] theorem keeps_execRet (o : NO) (s : State) (hI : s.memInv = true) : keepsOut (execRet o s) = true := by
  unfold execRet; simp (maxDischargeDepth := 40) +contextual [*]
@[simp] theorem keeps_execJmp (o : RG) (s : State) (hI : s.memInv = true) : keepsOut (execJmp o s) = true := by
  unfold execJmp; simp (maxDischargeDepth := 40) +contextual [*]
@[simp] theorem keeps_execJmpL (o : RG) (s : State) (hI : s.memInv = true) : keepsOut (execJmpL o s) = true := by
  unfold execJmpL; simp (maxDischargeDepth := 40) +contextual [*]
@[simp] theorem keeps_execNop (o : NO) (s : State) (hI : s.memInv = true) : keepsOut (execNop o s) = true := by
  unfold execNop; simp (maxDischargeDepth := 40) +contextual [*]
@[simp] theorem keeps_declare (s : State) (o : LP) (hI : s.memInv = true) : (State.declare s o).memInv = true := by
  unfold State.declare; simp (maxDischargeDepth := 40) +contextual [*]
@[simp] theorem keeps_execLoopn (o : LP) (s : State) (hI : s.memInv = true) : keepsOut (execLoopn o s) = true := by
  unfold execLoopn; simp (maxDischargeDepth := 40) +contextual [*]
@[simp] theorem keeps_openNest (s : State) (hI : s.memInv = true) : (State.openNest s).memInv = true := by
  unfold State.openNest; simp (maxDischargeDepth := 40) +contextual [*]
@[simp] theorem keeps_execLoop (o : LP) (s : State) (hI : s.memInv = true) : keepsOut (execLoop o s) = true := by
  unfold execLoop; simp (maxDischargeDepth := 40) +contextual [*]
@[simp] theorem keeps_execFmtw (o : FW) (s : State) (hI : s.memInv = true) : keepsOut (execFmtw o s) = true := by
  unfold execFmtw; simp (maxDischargeDepth := 40) +contextual [*]
@[simp] theorem keeps_csrWrite (s : State) (n : Nat) (v : Word) (hI : s.memInv = true) : (State.csrWrite s n v).memInv = true := by
  unfold State.csrWrite; (repeat' split) <;> simp (maxDischargeDepth := 40) +contextual [*]
@[simp] theorem keeps_execCsrr (o : CS) (s : State) (hI : s.memInv = true) : keepsOut (execCsrr o s) = true := by
  unfold execCsrr; simp (maxDischargeDepth := 40) +contextual [*]
@[simp] theorem keeps_execCsrw (o : CS) (s : State) (hI : s.memInv = true) : keepsOut (execCsrw o s) = true := by
  unfold execCsrw; simp (maxDischargeDepth := 40) +contextual [*]
@[simp] theorem keeps_execCsrwI (o : CS) (s : State) (hI : s.memInv = true) : keepsOut (execCsrwI o s) = true := by
  unfold execCsrwI; simp (maxDischargeDepth := 40) +contextual [*]
@[simp] theorem keeps_landP (s : State) (pd : BitVec 3) (l : Lat) (v : Bool) (hI : s.memInv = true) : (State.landP s pd l v).memInv = true := by
  unfold State.landP; simp (maxDischargeDepth := 40) +contextual [*]
@[simp] theorem keeps_predOp (o : PL) (f : Bool → Bool → Bool) (s : State) (hI : s.memInv = true) : (predOp o f s).memInv = true := by
  unfold predOp; simp (maxDischargeDepth := 40) +contextual [*]
@[simp] theorem keeps_execPand (o : PL) (s : State) (hI : s.memInv = true) : keepsOut (execPand o s) = true := by
  unfold execPand; simp (maxDischargeDepth := 40) +contextual [*]
@[simp] theorem keeps_execPor (o : PL) (s : State) (hI : s.memInv = true) : keepsOut (execPor o s) = true := by
  unfold execPor; simp (maxDischargeDepth := 40) +contextual [*]
@[simp] theorem keeps_execPxor (o : PL) (s : State) (hI : s.memInv = true) : keepsOut (execPxor o s) = true := by
  unfold execPxor; simp (maxDischargeDepth := 40) +contextual [*]
@[simp] theorem keeps_execPnot (o : PL) (s : State) (hI : s.memInv = true) : keepsOut (execPnot o s) = true := by
  unfold execPnot; simp (maxDischargeDepth := 40) +contextual [*]
@[simp] theorem keeps_execTrapC (o : TC) (s : State) (hI : s.memInv = true) : keepsOut (execTrapC o s) = true := by
  unfold execTrapC; simp (maxDischargeDepth := 40) +contextual [*]
@[simp] theorem keeps_execSysc (o : TC) (s : State) (hI : s.memInv = true) : keepsOut (execSysc o s) = true := by
  unfold execSysc; simp (maxDischargeDepth := 40) +contextual [*]
@[simp] theorem keeps_endBy (s : State) (n : Nat) (hI : s.memInv = true) : (State.endBy s n).memInv = true := by
  unfold State.endBy; simp (maxDischargeDepth := 40) +contextual [*]
@[simp] theorem keeps_execRft (o : NO) (s : State) (hI : s.memInv = true) : keepsOut (execRft o s) = true := by
  unfold execRft; simp (maxDischargeDepth := 40) +contextual [*]
@[simp] theorem keeps_execRetire (o : NO) (s : State) (hI : s.memInv = true) : keepsOut (execRetire o s) = true := by
  unfold execRetire; simp (maxDischargeDepth := 40) +contextual [*]
@[simp] theorem keeps_execYield (o : NO) (s : State) (hI : s.memInv = true) : keepsOut (execYield o s) = true := by
  unfold execYield; simp (maxDischargeDepth := 40) +contextual [*]
@[simp] theorem keeps_acquireAt (s : State) (kind at_ : Nat) (hI : s.memInv = true) : (State.acquireAt s kind at_).memInv = true := by
  unfold State.acquireAt; simp (maxDischargeDepth := 40) +contextual [*]
@[simp] theorem keeps_execWait (o : WT) (s : State) (hI : s.memInv = true) : keepsOut (execWait o s) = true := by
  unfold execWait; simp (maxDischargeDepth := 40) +contextual [*]
@[simp] theorem keeps_execWaitc (o : WT) (s : State) (hI : s.memInv = true) : keepsOut (execWaitc o s) = true := by
  unfold execWaitc; simp (maxDischargeDepth := 40) +contextual [*]
@[simp] theorem keeps_execWaitb (o : WT) (s : State) (hI : s.memInv = true) : keepsOut (execWaitb o s) = true := by
  unfold execWaitb; simp (maxDischargeDepth := 40) +contextual [*]
@[simp] theorem keeps_execWaitt (o : WT) (s : State) (hI : s.memInv = true) : keepsOut (execWaitt o s) = true := by
  unfold execWaitt; simp (maxDischargeDepth := 40) +contextual [*]
@[simp] theorem keeps_execScope (o : SP) (s : State) (hI : s.memInv = true) : keepsOut (execScope o s) = true := by
  unfold execScope; simp (maxDischargeDepth := 40) +contextual [*]

/-! ## Slot S -/

@[simp] theorem keeps_srOp (o : SR) (l : Lat) (f : Word → Word → Word) (s : State) (hI : s.memInv = true) : (srOp o l f s).memInv = true := by
  unfold srOp; simp (maxDischargeDepth := 40) +contextual [*]
@[simp] theorem keeps_hidden (s : State) (d : Dest) (v : Nat) (hI : s.memInv = true) : (State.hidden s d v).memInv = true := by
  unfold State.hidden; simp (maxDischargeDepth := 40) +contextual [*]
@[simp] theorem keeps_divOp (o : SR) (low : Bool) (f : Word → Word → Word) (s : State) (hI : s.memInv = true) : (divOp o low f s).memInv = true := by
  unfold divOp; simp (maxDischargeDepth := 40) +contextual [*]
@[simp] theorem keeps_execAdd (o : SR) (s : State) (hI : s.memInv = true) : keepsOut (execAdd o s) = true := by
  unfold execAdd; simp (maxDischargeDepth := 40) +contextual [*]
@[simp] theorem keeps_execSub (o : SR) (s : State) (hI : s.memInv = true) : keepsOut (execSub o s) = true := by
  unfold execSub; simp (maxDischargeDepth := 40) +contextual [*]
@[simp] theorem keeps_execMul (o : SR) (s : State) (hI : s.memInv = true) : keepsOut (execMul o s) = true := by
  unfold execMul; simp (maxDischargeDepth := 40) +contextual [*]
@[simp] theorem keeps_execMulh (o : SR) (s : State) (hI : s.memInv = true) : keepsOut (execMulh o s) = true := by
  unfold execMulh; simp (maxDischargeDepth := 40) +contextual [*]
@[simp] theorem keeps_execMulhu (o : SR) (s : State) (hI : s.memInv = true) : keepsOut (execMulhu o s) = true := by
  unfold execMulhu; simp (maxDischargeDepth := 40) +contextual [*]
@[simp] theorem keeps_execDiv (o : SR) (s : State) (hI : s.memInv = true) : keepsOut (execDiv o s) = true := by
  unfold execDiv; simp (maxDischargeDepth := 40) +contextual [*]
@[simp] theorem keeps_execDivu (o : SR) (s : State) (hI : s.memInv = true) : keepsOut (execDivu o s) = true := by
  unfold execDivu; simp (maxDischargeDepth := 40) +contextual [*]
@[simp] theorem keeps_execRem (o : SR) (s : State) (hI : s.memInv = true) : keepsOut (execRem o s) = true := by
  unfold execRem; simp (maxDischargeDepth := 40) +contextual [*]
@[simp] theorem keeps_execRemu (o : SR) (s : State) (hI : s.memInv = true) : keepsOut (execRemu o s) = true := by
  unfold execRemu; simp (maxDischargeDepth := 40) +contextual [*]
@[simp] theorem keeps_execAnd (o : SR) (s : State) (hI : s.memInv = true) : keepsOut (execAnd o s) = true := by
  unfold execAnd; simp (maxDischargeDepth := 40) +contextual [*]
@[simp] theorem keeps_execOr (o : SR) (s : State) (hI : s.memInv = true) : keepsOut (execOr o s) = true := by
  unfold execOr; simp (maxDischargeDepth := 40) +contextual [*]
@[simp] theorem keeps_execXor (o : SR) (s : State) (hI : s.memInv = true) : keepsOut (execXor o s) = true := by
  unfold execXor; simp (maxDischargeDepth := 40) +contextual [*]
@[simp] theorem keeps_execAndn (o : SR) (s : State) (hI : s.memInv = true) : keepsOut (execAndn o s) = true := by
  unfold execAndn; simp (maxDischargeDepth := 40) +contextual [*]
@[simp] theorem keeps_execShl (o : SR) (s : State) (hI : s.memInv = true) : keepsOut (execShl o s) = true := by
  unfold execShl; simp (maxDischargeDepth := 40) +contextual [*]
@[simp] theorem keeps_execShr (o : SR) (s : State) (hI : s.memInv = true) : keepsOut (execShr o s) = true := by
  unfold execShr; simp (maxDischargeDepth := 40) +contextual [*]
@[simp] theorem keeps_execSra (o : SR) (s : State) (hI : s.memInv = true) : keepsOut (execSra o s) = true := by
  unfold execSra; simp (maxDischargeDepth := 40) +contextual [*]
@[simp] theorem keeps_execRol (o : SR) (s : State) (hI : s.memInv = true) : keepsOut (execRol o s) = true := by
  unfold execRol; simp (maxDischargeDepth := 40) +contextual [*]
@[simp] theorem keeps_execClz (o : SR) (s : State) (hI : s.memInv = true) : keepsOut (execClz o s) = true := by
  unfold execClz; simp (maxDischargeDepth := 40) +contextual [*]
@[simp] theorem keeps_execCtz (o : SR) (s : State) (hI : s.memInv = true) : keepsOut (execCtz o s) = true := by
  unfold execCtz; simp (maxDischargeDepth := 40) +contextual [*]
@[simp] theorem keeps_execPopc (o : SR) (s : State) (hI : s.memInv = true) : keepsOut (execPopc o s) = true := by
  unfold execPopc; simp (maxDischargeDepth := 40) +contextual [*]
@[simp] theorem keeps_execMin (o : SR) (s : State) (hI : s.memInv = true) : keepsOut (execMin o s) = true := by
  unfold execMin; simp (maxDischargeDepth := 40) +contextual [*]
@[simp] theorem keeps_execMax (o : SR) (s : State) (hI : s.memInv = true) : keepsOut (execMax o s) = true := by
  unfold execMax; simp (maxDischargeDepth := 40) +contextual [*]
@[simp] theorem keeps_execMinu (o : SR) (s : State) (hI : s.memInv = true) : keepsOut (execMinu o s) = true := by
  unfold execMinu; simp (maxDischargeDepth := 40) +contextual [*]
@[simp] theorem keeps_execMaxu (o : SR) (s : State) (hI : s.memInv = true) : keepsOut (execMaxu o s) = true := by
  unfold execMaxu; simp (maxDischargeDepth := 40) +contextual [*]
@[simp] theorem keeps_execSel (o : SR) (s : State) (hI : s.memInv = true) : keepsOut (execSel o s) = true := by
  unfold execSel; simp (maxDischargeDepth := 40) +contextual [*]
@[simp] theorem keeps_execCmp (o : SR) (s : State) (hI : s.memInv = true) : keepsOut (execCmp o s) = true := by
  unfold execCmp; simp (maxDischargeDepth := 40) +contextual [*]
@[simp] theorem keeps_execAddW (o : SR) (s : State) (hI : s.memInv = true) : keepsOut (execAddW o s) = true := by
  unfold execAddW; simp (maxDischargeDepth := 40) +contextual [*]
@[simp] theorem keeps_execSubW (o : SR) (s : State) (hI : s.memInv = true) : keepsOut (execSubW o s) = true := by
  unfold execSubW; simp (maxDischargeDepth := 40) +contextual [*]
@[simp] theorem keeps_execMulW (o : SR) (s : State) (hI : s.memInv = true) : keepsOut (execMulW o s) = true := by
  unfold execMulW; simp (maxDischargeDepth := 40) +contextual [*]
@[simp] theorem keeps_execDivW (o : SR) (s : State) (hI : s.memInv = true) : keepsOut (execDivW o s) = true := by
  unfold execDivW; simp (maxDischargeDepth := 40) +contextual [*]
@[simp] theorem keeps_execDivuW (o : SR) (s : State) (hI : s.memInv = true) : keepsOut (execDivuW o s) = true := by
  unfold execDivuW; simp (maxDischargeDepth := 40) +contextual [*]
@[simp] theorem keeps_execRemW (o : SR) (s : State) (hI : s.memInv = true) : keepsOut (execRemW o s) = true := by
  unfold execRemW; simp (maxDischargeDepth := 40) +contextual [*]
@[simp] theorem keeps_execRemuW (o : SR) (s : State) (hI : s.memInv = true) : keepsOut (execRemuW o s) = true := by
  unfold execRemuW; simp (maxDischargeDepth := 40) +contextual [*]
@[simp] theorem keeps_execShlW (o : SR) (s : State) (hI : s.memInv = true) : keepsOut (execShlW o s) = true := by
  unfold execShlW; simp (maxDischargeDepth := 40) +contextual [*]
@[simp] theorem keeps_execShrW (o : SR) (s : State) (hI : s.memInv = true) : keepsOut (execShrW o s) = true := by
  unfold execShrW; simp (maxDischargeDepth := 40) +contextual [*]
@[simp] theorem keeps_execSraW (o : SR) (s : State) (hI : s.memInv = true) : keepsOut (execSraW o s) = true := by
  unfold execSraW; simp (maxDischargeDepth := 40) +contextual [*]
@[simp] theorem keeps_siOp (o : SI) (f : Word → Word → Word) (s : State) (hI : s.memInv = true) : (siOp o f s).memInv = true := by
  unfold siOp; simp (maxDischargeDepth := 40) +contextual [*]
@[simp] theorem keeps_execAddi (o : SI) (s : State) (hI : s.memInv = true) : keepsOut (execAddi o s) = true := by
  unfold execAddi; simp (maxDischargeDepth := 40) +contextual [*]
@[simp] theorem keeps_execAndI (o : SI) (s : State) (hI : s.memInv = true) : keepsOut (execAndI o s) = true := by
  unfold execAndI; simp (maxDischargeDepth := 40) +contextual [*]
@[simp] theorem keeps_execOrI (o : SI) (s : State) (hI : s.memInv = true) : keepsOut (execOrI o s) = true := by
  unfold execOrI; simp (maxDischargeDepth := 40) +contextual [*]
@[simp] theorem keeps_execXorI (o : SI) (s : State) (hI : s.memInv = true) : keepsOut (execXorI o s) = true := by
  unfold execXorI; simp (maxDischargeDepth := 40) +contextual [*]
@[simp] theorem keeps_execShlI (o : SI) (s : State) (hI : s.memInv = true) : keepsOut (execShlI o s) = true := by
  unfold execShlI; simp (maxDischargeDepth := 40) +contextual [*]
@[simp] theorem keeps_execShrI (o : SI) (s : State) (hI : s.memInv = true) : keepsOut (execShrI o s) = true := by
  unfold execShrI; simp (maxDischargeDepth := 40) +contextual [*]
@[simp] theorem keeps_execSraI (o : SI) (s : State) (hI : s.memInv = true) : keepsOut (execSraI o s) = true := by
  unfold execSraI; simp (maxDischargeDepth := 40) +contextual [*]
@[simp] theorem keeps_execRolI (o : SI) (s : State) (hI : s.memInv = true) : keepsOut (execRolI o s) = true := by
  unfold execRolI; simp (maxDischargeDepth := 40) +contextual [*]
@[simp] theorem keeps_execCmpI (o : SC) (s : State) (hI : s.memInv = true) : keepsOut (execCmpI o s) = true := by
  unfold execCmpI; simp (maxDischargeDepth := 40) +contextual [*]
@[simp] theorem keeps_execMovi (o : MV) (s : State) (hI : s.memInv = true) : keepsOut (execMovi o s) = true := by
  unfold execMovi; simp (maxDischargeDepth := 40) +contextual [*]
@[simp] theorem keeps_execMovhi (o : MV) (s : State) (hI : s.memInv = true) : keepsOut (execMovhi o s) = true := by
  unfold execMovhi; simp (maxDischargeDepth := 40) +contextual [*]
@[simp] theorem keeps_execXmovSl (o : XV) (s : State) (hI : s.memInv = true) : keepsOut (execXmovSl o s) = true := by
  unfold execXmovSl; simp (maxDischargeDepth := 40) +contextual [*]
@[simp] theorem keeps_execXmovLs (o : XV) (s : State) (hI : s.memInv = true) : keepsOut (execXmovLs o s) = true := by
  unfold execXmovLs; simp (maxDischargeDepth := 40) +contextual [*]
@[simp] theorem keeps_execXmovSv (o : XV) (s : State) (hI : s.memInv = true) : keepsOut (execXmovSv o s) = true := by
  unfold execXmovSv; simp (maxDischargeDepth := 40) +contextual [*]
@[simp] theorem keeps_execXmovVs (o : XV) (s : State) (hI : s.memInv = true) : keepsOut (execXmovVs o s) = true := by
  unfold execXmovVs; simp (maxDischargeDepth := 40) +contextual [*]
@[simp] theorem keeps_landFp (s : State) (d : BitVec 5) (r : Rounded) (hI : s.memInv = true) : (State.landFp s d r).memInv = true := by
  unfold State.landFp; simp (maxDischargeDepth := 40) +contextual [*]
@[simp] theorem keeps_execFadd (o : SR) (s : State) (hI : s.memInv = true) : keepsOut (execFadd o s) = true := by
  unfold execFadd; simp (maxDischargeDepth := 40) +contextual [*]
@[simp] theorem keeps_execFmul (o : SR) (s : State) (hI : s.memInv = true) : keepsOut (execFmul o s) = true := by
  unfold execFmul; simp (maxDischargeDepth := 40) +contextual [*]
@[simp] theorem keeps_execFma (o : SR) (s : State) (hI : s.memInv = true) : keepsOut (execFma o s) = true := by
  unfold execFma; simp (maxDischargeDepth := 40) +contextual [*]
@[simp] theorem keeps_execFcmp (o : SR) (s : State) (hI : s.memInv = true) : keepsOut (execFcmp o s) = true := by
  unfold execFcmp; simp (maxDischargeDepth := 40) +contextual [*]

/-! ## Slots V0 and V1 -/

@[simp] theorem keeps_landLanes (s : State) (o : VA) (c base w : Nat) (l : List (Nat × Nat)) (hI : s.memInv = true) : (State.landLanes s o c base w l).memInv = true := by
  unfold State.landLanes; simp (maxDischargeDepth := 40) +contextual [*]
@[simp] theorem keeps_laneOp (o : VA) (c n base w : Nat) (f : Nat → Nat × Nat) (s : State) (hI : s.memInv = true) : (laneOp o c n base w f s).memInv = true := by
  unfold laneOp; simp (maxDischargeDepth := 40) +contextual [*]
@[simp] theorem keeps_plainOp (o : VA) (c w : Nat) (f : Nat → Nat) (s : State) (hI : s.memInv = true) : (plainOp o c w f s).memInv = true := by
  unfold plainOp; simp (maxDischargeDepth := 40) +contextual [*]
@[simp] theorem keeps_laneCmp (o : VA) (w : Nat) (f : Nat → Bool × Nat) (s : State) (hI : s.memInv = true) : (laneCmp o w f s).memInv = true := by
  unfold laneCmp; simp (maxDischargeDepth := 40) +contextual [*]
@[simp] theorem keeps_vint2 (o : VA) (c : Nat) (f : Nat → Nat → Nat → Nat) (s : State) (hI : s.memInv = true) : (vint2 o c f s).memInv = true := by
  unfold vint2; simp (maxDischargeDepth := 40) +contextual [*]
@[simp] theorem keeps_vint1 (o : VA) (f : Nat → Nat → Nat) (s : State) (hI : s.memInv = true) : (vint1 o f s).memInv = true := by
  unfold vint1; simp (maxDischargeDepth := 40) +contextual [*]
@[simp] theorem keeps_vsat (o : VA) (f : Int → Int → Int) (s : State) (hI : s.memInv = true) : (vsat o f s).memInv = true := by
  unfold vsat; simp (maxDischargeDepth := 40) +contextual [*]
@[simp] theorem keeps_execVadd (o : VA) (s : State) (hI : s.memInv = true) : keepsOut (execVadd o s) = true := by
  unfold execVadd; simp (maxDischargeDepth := 40) +contextual [*]
@[simp] theorem keeps_execVsub (o : VA) (s : State) (hI : s.memInv = true) : keepsOut (execVsub o s) = true := by
  unfold execVsub; simp (maxDischargeDepth := 40) +contextual [*]
@[simp] theorem keeps_execVmul (o : VA) (s : State) (hI : s.memInv = true) : keepsOut (execVmul o s) = true := by
  unfold execVmul; simp (maxDischargeDepth := 40) +contextual [*]
@[simp] theorem keeps_execVmulh (o : VA) (s : State) (hI : s.memInv = true) : keepsOut (execVmulh o s) = true := by
  unfold execVmulh; simp (maxDischargeDepth := 40) +contextual [*]
@[simp] theorem keeps_execVand (o : VA) (s : State) (hI : s.memInv = true) : keepsOut (execVand o s) = true := by
  unfold execVand; simp (maxDischargeDepth := 40) +contextual [*]
@[simp] theorem keeps_execVor (o : VA) (s : State) (hI : s.memInv = true) : keepsOut (execVor o s) = true := by
  unfold execVor; simp (maxDischargeDepth := 40) +contextual [*]
@[simp] theorem keeps_execVxor (o : VA) (s : State) (hI : s.memInv = true) : keepsOut (execVxor o s) = true := by
  unfold execVxor; simp (maxDischargeDepth := 40) +contextual [*]
@[simp] theorem keeps_execVandn (o : VA) (s : State) (hI : s.memInv = true) : keepsOut (execVandn o s) = true := by
  unfold execVandn; simp (maxDischargeDepth := 40) +contextual [*]
@[simp] theorem keeps_execVshl (o : VA) (s : State) (hI : s.memInv = true) : keepsOut (execVshl o s) = true := by
  unfold execVshl; simp (maxDischargeDepth := 40) +contextual [*]
@[simp] theorem keeps_execVshr (o : VA) (s : State) (hI : s.memInv = true) : keepsOut (execVshr o s) = true := by
  unfold execVshr; simp (maxDischargeDepth := 40) +contextual [*]
@[simp] theorem keeps_execVsra (o : VA) (s : State) (hI : s.memInv = true) : keepsOut (execVsra o s) = true := by
  unfold execVsra; simp (maxDischargeDepth := 40) +contextual [*]
@[simp] theorem keeps_execVmin (o : VA) (s : State) (hI : s.memInv = true) : keepsOut (execVmin o s) = true := by
  unfold execVmin; simp (maxDischargeDepth := 40) +contextual [*]
@[simp] theorem keeps_execVmax (o : VA) (s : State) (hI : s.memInv = true) : keepsOut (execVmax o s) = true := by
  unfold execVmax; simp (maxDischargeDepth := 40) +contextual [*]
@[simp] theorem keeps_execVminu (o : VA) (s : State) (hI : s.memInv = true) : keepsOut (execVminu o s) = true := by
  unfold execVminu; simp (maxDischargeDepth := 40) +contextual [*]
@[simp] theorem keeps_execVmaxu (o : VA) (s : State) (hI : s.memInv = true) : keepsOut (execVmaxu o s) = true := by
  unfold execVmaxu; simp (maxDischargeDepth := 40) +contextual [*]
@[simp] theorem keeps_execVabs (o : VA) (s : State) (hI : s.memInv = true) : keepsOut (execVabs o s) = true := by
  unfold execVabs; simp (maxDischargeDepth := 40) +contextual [*]
@[simp] theorem keeps_execVneg (o : VA) (s : State) (hI : s.memInv = true) : keepsOut (execVneg o s) = true := by
  unfold execVneg; simp (maxDischargeDepth := 40) +contextual [*]
@[simp] theorem keeps_execVcmp (o : VA) (s : State) (hI : s.memInv = true) : keepsOut (execVcmp o s) = true := by
  unfold execVcmp; simp (maxDischargeDepth := 40) +contextual [*]
@[simp] theorem keeps_execVaddSat (o : VA) (s : State) (hI : s.memInv = true) : keepsOut (execVaddSat o s) = true := by
  unfold execVaddSat; simp (maxDischargeDepth := 40) +contextual [*]
@[simp] theorem keeps_execVsubSat (o : VA) (s : State) (hI : s.memInv = true) : keepsOut (execVsubSat o s) = true := by
  unfold execVsubSat; simp (maxDischargeDepth := 40) +contextual [*]
@[simp] theorem keeps_vfp (o : VA) (f : Nat → FVal → FVal → FVal → FVal × Bool) (s : State) (hI : s.memInv = true) : (vfp o f s).memInv = true := by
  unfold vfp; simp (maxDischargeDepth := 40) +contextual [*]
@[simp] theorem keeps_vfcode (o : VA) (f : Fmt → Nat → Nat → Nat) (s : State) (hI : s.memInv = true) : (vfcode o f s).memInv = true := by
  unfold vfcode; simp (maxDischargeDepth := 40) +contextual [*]
@[simp] theorem keeps_vfcmpOp (o : VA) (s : State) (hI : s.memInv = true) : (vfcmpOp o s).memInv = true := by
  unfold vfcmpOp; simp (maxDischargeDepth := 40) +contextual [*]
@[simp] theorem keeps_vspecial (o : VA) (op : Nat) (s : State) (hI : s.memInv = true) : (vspecial o op s).memInv = true := by
  unfold vspecial; simp (maxDischargeDepth := 40) +contextual [*]
@[simp] theorem keeps_execVfadd (o : VA) (s : State) (hI : s.memInv = true) : keepsOut (execVfadd o s) = true := by
  unfold execVfadd; simp (maxDischargeDepth := 40) +contextual [*]
@[simp] theorem keeps_execVfaddH (o : VA) (s : State) (hI : s.memInv = true) : keepsOut (execVfaddH o s) = true := by
  unfold execVfaddH; simp (maxDischargeDepth := 40) +contextual [*]
@[simp] theorem keeps_execVfsub (o : VA) (s : State) (hI : s.memInv = true) : keepsOut (execVfsub o s) = true := by
  unfold execVfsub; simp (maxDischargeDepth := 40) +contextual [*]
@[simp] theorem keeps_execVfsubH (o : VA) (s : State) (hI : s.memInv = true) : keepsOut (execVfsubH o s) = true := by
  unfold execVfsubH; simp (maxDischargeDepth := 40) +contextual [*]
@[simp] theorem keeps_execVfmul (o : VA) (s : State) (hI : s.memInv = true) : keepsOut (execVfmul o s) = true := by
  unfold execVfmul; simp (maxDischargeDepth := 40) +contextual [*]
@[simp] theorem keeps_execVfmulH (o : VA) (s : State) (hI : s.memInv = true) : keepsOut (execVfmulH o s) = true := by
  unfold execVfmulH; simp (maxDischargeDepth := 40) +contextual [*]
@[simp] theorem keeps_execVfma (o : VA) (s : State) (hI : s.memInv = true) : keepsOut (execVfma o s) = true := by
  unfold execVfma; simp (maxDischargeDepth := 40) +contextual [*]
@[simp] theorem keeps_execVfmaH (o : VA) (s : State) (hI : s.memInv = true) : keepsOut (execVfmaH o s) = true := by
  unfold execVfmaH; simp (maxDischargeDepth := 40) +contextual [*]
@[simp] theorem keeps_execVfms (o : VA) (s : State) (hI : s.memInv = true) : keepsOut (execVfms o s) = true := by
  unfold execVfms; simp (maxDischargeDepth := 40) +contextual [*]
@[simp] theorem keeps_execVfmsH (o : VA) (s : State) (hI : s.memInv = true) : keepsOut (execVfmsH o s) = true := by
  unfold execVfmsH; simp (maxDischargeDepth := 40) +contextual [*]
@[simp] theorem keeps_execVfmin (o : VA) (s : State) (hI : s.memInv = true) : keepsOut (execVfmin o s) = true := by
  unfold execVfmin; simp (maxDischargeDepth := 40) +contextual [*]
@[simp] theorem keeps_execVfminH (o : VA) (s : State) (hI : s.memInv = true) : keepsOut (execVfminH o s) = true := by
  unfold execVfminH; simp (maxDischargeDepth := 40) +contextual [*]
@[simp] theorem keeps_execVfmax (o : VA) (s : State) (hI : s.memInv = true) : keepsOut (execVfmax o s) = true := by
  unfold execVfmax; simp (maxDischargeDepth := 40) +contextual [*]
@[simp] theorem keeps_execVfmaxH (o : VA) (s : State) (hI : s.memInv = true) : keepsOut (execVfmaxH o s) = true := by
  unfold execVfmaxH; simp (maxDischargeDepth := 40) +contextual [*]
@[simp] theorem keeps_execVfabs (o : VA) (s : State) (hI : s.memInv = true) : keepsOut (execVfabs o s) = true := by
  unfold execVfabs; simp (maxDischargeDepth := 40) +contextual [*]
@[simp] theorem keeps_execVfabsH (o : VA) (s : State) (hI : s.memInv = true) : keepsOut (execVfabsH o s) = true := by
  unfold execVfabsH; simp (maxDischargeDepth := 40) +contextual [*]
@[simp] theorem keeps_execVfneg (o : VA) (s : State) (hI : s.memInv = true) : keepsOut (execVfneg o s) = true := by
  unfold execVfneg; simp (maxDischargeDepth := 40) +contextual [*]
@[simp] theorem keeps_execVfnegH (o : VA) (s : State) (hI : s.memInv = true) : keepsOut (execVfnegH o s) = true := by
  unfold execVfnegH; simp (maxDischargeDepth := 40) +contextual [*]
@[simp] theorem keeps_execVfcmp (o : VA) (s : State) (hI : s.memInv = true) : keepsOut (execVfcmp o s) = true := by
  unfold execVfcmp; simp (maxDischargeDepth := 40) +contextual [*]
@[simp] theorem keeps_execVfcmpH (o : VA) (s : State) (hI : s.memInv = true) : keepsOut (execVfcmpH o s) = true := by
  unfold execVfcmpH; simp (maxDischargeDepth := 40) +contextual [*]
@[simp] theorem keeps_execVrcp (o : VA) (s : State) (hI : s.memInv = true) : keepsOut (execVrcp o s) = true := by
  unfold execVrcp; simp (maxDischargeDepth := 40) +contextual [*]
@[simp] theorem keeps_execVrsq (o : VA) (s : State) (hI : s.memInv = true) : keepsOut (execVrsq o s) = true := by
  unfold execVrsq; simp (maxDischargeDepth := 40) +contextual [*]
@[simp] theorem keeps_execVsqrt (o : VA) (s : State) (hI : s.memInv = true) : keepsOut (execVsqrt o s) = true := by
  unfold execVsqrt; simp (maxDischargeDepth := 40) +contextual [*]
@[simp] theorem keeps_execVexp2 (o : VA) (s : State) (hI : s.memInv = true) : keepsOut (execVexp2 o s) = true := by
  unfold execVexp2; simp (maxDischargeDepth := 40) +contextual [*]
@[simp] theorem keeps_execVlog2 (o : VA) (s : State) (hI : s.memInv = true) : keepsOut (execVlog2 o s) = true := by
  unfold execVlog2; simp (maxDischargeDepth := 40) +contextual [*]
@[simp] theorem keeps_convert (o : VA) (c : Nat) (f : Fmt → Nat → FVal → Rounded) (s : State) (hI : s.memInv = true) : (convert o c f s).memInv = true := by
  unfold convert; (repeat' split) <;> simp (maxDischargeDepth := 40) +contextual [*]
@[simp] theorem keeps_execVcvt (o : VA) (s : State) (hI : s.memInv = true) : keepsOut (execVcvt o s) = true := by
  unfold execVcvt; simp (maxDischargeDepth := 40) +contextual [*]
@[simp] theorem keeps_execVcvtRs (o : VA) (s : State) (hI : s.memInv = true) : keepsOut (execVcvtRs o s) = true := by
  unfold execVcvtRs; simp (maxDischargeDepth := 40) +contextual [*]
@[simp] theorem keeps_sendDelta (s : State) (asid recid : Nat) (h : Half) (hI : s.memInv = true) : (State.sendDelta s asid recid h).memInv = true := by
  unfold State.sendDelta; simp (maxDischargeDepth := 40) +contextual [*]
@[simp] theorem keeps_askRescale (s : State) (v : Word) (hI : s.memInv = true) : (State.askRescale s v).memInv = true := by
  unfold State.askRescale; (repeat' split) <;> simp (maxDischargeDepth := 40) +contextual [*]
@[simp] theorem keeps_overflowed (s : State) (o : VA) (l : List Nat) (hI : s.memInv = true) : (State.overflowed s o l).memInv = true := by
  unfold State.overflowed; (repeat' split) <;> simp (maxDischargeDepth := 40) +contextual [*]
@[simp] theorem keeps_execVqnt (o : VA) (s : State) (hI : s.memInv = true) : keepsOut (execVqnt o s) = true := by
  unfold execVqnt
  refine keeps_issueOp _ (fun t ht => ?_) _ hI
  (repeat' split) <;> simp (maxDischargeDepth := 40) +contextual [*]
@[simp] theorem keeps_execVdqnt (o : VA) (s : State) (hI : s.memInv = true) : keepsOut (execVdqnt o s) = true := by
  unfold execVdqnt; simp (maxDischargeDepth := 40) +contextual [*]
@[simp] theorem keeps_execVstat (o : VA) (s : State) (hI : s.memInv = true) : keepsOut (execVstat o s) = true := by
  unfold execVstat
  refine keeps_issueOp _ (fun t ht => ?_) _ hI
  (repeat' split) <;> simp (maxDischargeDepth := 40) +contextual [*]
@[simp] theorem keeps_reduce (o : VA) (c n id bits : Nat) (get : Nat → Nat) (op : Nat → Nat → Nat × Nat) (s : State) (hI : s.memInv = true) : (reduce o c n id bits get op s).memInv = true := by
  unfold reduce; simp (maxDischargeDepth := 40) +contextual [*]
@[simp] theorem keeps_execVrsum (o : VA) (s : State) (hI : s.memInv = true) : keepsOut (execVrsum o s) = true := by
  unfold execVrsum; simp (maxDischargeDepth := 40) +contextual [*]
@[simp] theorem keeps_vrpick (o : VA) (max : Bool) (s : State) (hI : s.memInv = true) : (vrpick o max s).memInv = true := by
  unfold vrpick; simp (maxDischargeDepth := 40) +contextual [*]
@[simp] theorem keeps_execVrmax (o : VA) (s : State) (hI : s.memInv = true) : keepsOut (execVrmax o s) = true := by
  unfold execVrmax; simp (maxDischargeDepth := 40) +contextual [*]
@[simp] theorem keeps_execVrmin (o : VA) (s : State) (hI : s.memInv = true) : keepsOut (execVrmin o s) = true := by
  unfold execVrmin; simp (maxDischargeDepth := 40) +contextual [*]
@[simp] theorem keeps_vredF (o : VA) (c op : Nat) (s : State) (hI : s.memInv = true) : (vredF o c op s).memInv = true := by
  unfold vredF; simp (maxDischargeDepth := 40) +contextual [*]
@[simp] theorem keeps_execVrsumF (o : VA) (s : State) (hI : s.memInv = true) : keepsOut (execVrsumF o s) = true := by
  unfold execVrsumF; simp (maxDischargeDepth := 40) +contextual [*]
@[simp] theorem keeps_execVrmaxF (o : VA) (s : State) (hI : s.memInv = true) : keepsOut (execVrmaxF o s) = true := by
  unfold execVrmaxF; simp (maxDischargeDepth := 40) +contextual [*]
@[simp] theorem keeps_execVrminF (o : VA) (s : State) (hI : s.memInv = true) : keepsOut (execVrminF o s) = true := by
  unfold execVrminF; simp (maxDischargeDepth := 40) +contextual [*]
@[simp] theorem keeps_vscanOp (o : VA) (c w id : Nat) (first : Nat → Nat) (op : Nat → Nat → Nat × Nat) (s : State) (hI : s.memInv = true) : (vscanOp o c w id first op s).memInv = true := by
  unfold vscanOp; simp (maxDischargeDepth := 40) +contextual [*]
@[simp] theorem keeps_execVscan (o : VA) (s : State) (hI : s.memInv = true) : keepsOut (execVscan o s) = true := by
  unfold execVscan; simp (maxDischargeDepth := 40) +contextual [*]
@[simp] theorem keeps_execVscanF (o : VA) (s : State) (hI : s.memInv = true) : keepsOut (execVscanF o s) = true := by
  unfold execVscanF; simp (maxDischargeDepth := 40) +contextual [*]
@[simp] theorem keeps_vmove (o : VA) (f : Nat → Nat → (Nat → Nat) → (Nat → Nat) → Nat → Nat) (s : State) (hI : s.memInv = true) : (vmove o f s).memInv = true := by
  unfold vmove; simp (maxDischargeDepth := 40) +contextual [*]
@[simp] theorem keeps_execVperm (o : VA) (s : State) (hI : s.memInv = true) : keepsOut (execVperm o s) = true := by
  unfold execVperm; simp (maxDischargeDepth := 40) +contextual [*]
@[simp] theorem keeps_execVbcast (o : VA) (s : State) (hI : s.memInv = true) : keepsOut (execVbcast o s) = true := by
  unfold execVbcast; simp (maxDischargeDepth := 40) +contextual [*]
@[simp] theorem keeps_execVslide (o : VA) (s : State) (hI : s.memInv = true) : keepsOut (execVslide o s) = true := by
  unfold execVslide; (repeat' split) <;> simp (maxDischargeDepth := 40) +contextual [*]
@[simp] theorem keeps_execVsel (o : VA) (s : State) (hI : s.memInv = true) : keepsOut (execVsel o s) = true := by
  unfold execVsel; simp (maxDischargeDepth := 40) +contextual [*]
@[simp] theorem keeps_execVmov (o : VA) (s : State) (hI : s.memInv = true) : keepsOut (execVmov o s) = true := by
  unfold execVmov; simp (maxDischargeDepth := 40) +contextual [*]
@[simp] theorem keeps_execVsplat (o : VA) (s : State) (hI : s.memInv = true) : keepsOut (execVsplat o s) = true := by
  unfold execVsplat; simp (maxDischargeDepth := 40) +contextual [*]
@[simp] theorem keeps_execVlane (o : VA) (s : State) (hI : s.memInv = true) : keepsOut (execVlane o s) = true := by
  unfold execVlane; simp (maxDischargeDepth := 40) +contextual [*]

/-! ## Slots L0, L1 and ST -/

@[simp] theorem keeps_issueAt (s : State) (slot : Nat) (write : Bool) (t : Except (Nat × Nat) Target) {f : Target → State}
    (hf : ∀ a, (f a).memInv = true) (hI : s.memInv = true) : (s.issueAt slot write t f).memInv = true := by
  unfold State.issueAt; split
  · exact hf _
  · simp [hI]
@[simp] theorem keeps_addLoad (s : State) (u : MemUnit) (hI : s.memInv = true) : (State.addLoad s u).memInv = true := by
  unfold State.addLoad; simp (maxDischargeDepth := 40) +contextual [*]
@[simp] theorem keeps_laOp (o : LA) (v : Word) (s : State) (hI : s.memInv = true) : (laOp o v s).memInv = true := by
  unfold laOp; simp (maxDischargeDepth := 40) +contextual [*]
@[simp] theorem keeps_execAadd (o : LA) (s : State) (hI : s.memInv = true) : keepsOut (execAadd o s) = true := by
  unfold execAadd; simp (maxDischargeDepth := 40) +contextual [*]
@[simp] theorem keeps_execAaddi (o : LA) (s : State) (hI : s.memInv = true) : keepsOut (execAaddi o s) = true := by
  unfold execAaddi; simp (maxDischargeDepth := 40) +contextual [*]
@[simp] theorem keeps_execXmova (o : LA) (s : State) (hI : s.memInv = true) : keepsOut (execXmova o s) = true := by
  unfold execXmova; simp (maxDischargeDepth := 40) +contextual [*]
@[simp] theorem keeps_ldsOp (o : LT) (n : Nat) (s : State) (hI : s.memInv = true) : (ldsOp o n s).memInv = true := by
  unfold ldsOp; (repeat' split) <;> simp (maxDischargeDepth := 40) +contextual [*]
@[simp] theorem keeps_execLds8 (o : LT) (s : State) (hI : s.memInv = true) : keepsOut (execLds8 o s) = true := by
  unfold execLds8; simp (maxDischargeDepth := 40) +contextual [*]
@[simp] theorem keeps_execLds16 (o : LT) (s : State) (hI : s.memInv = true) : keepsOut (execLds16 o s) = true := by
  unfold execLds16; simp (maxDischargeDepth := 40) +contextual [*]
@[simp] theorem keeps_execLds32 (o : LT) (s : State) (hI : s.memInv = true) : keepsOut (execLds32 o s) = true := by
  unfold execLds32; simp (maxDischargeDepth := 40) +contextual [*]
@[simp] theorem keeps_execLds64 (o : LT) (s : State) (hI : s.memInv = true) : keepsOut (execLds64 o s) = true := by
  unfold execLds64; simp (maxDischargeDepth := 40) +contextual [*]
@[simp] theorem keeps_execLdv (o : LT) (s : State) (hI : s.memInv = true) : keepsOut (execLdv o s) = true := by
  unfold execLdv
  refine keeps_issueOp _ (fun t ht => ?_) _ hI
  (repeat' split) <;> simp (maxDischargeDepth := 40) +contextual [*]
@[simp] theorem keeps_execLdvt (o : LT) (s : State) (hI : s.memInv = true) : keepsOut (execLdvt o s) = true := by
  unfold execLdvt; simp (maxDischargeDepth := 40) +contextual [*]
@[simp] theorem keeps_slotStore (s : State) (a n v : Nat) (hI : s.memInv = true) : (State.slotStore s a n v).memInv = true := by
  unfold State.slotStore; simp (maxDischargeDepth := 40) +contextual [*]
@[simp] theorem keeps_scratchStore (a n unit v : Nat) (s : State) (hI : s.memInv = true) : (scratchStore a n unit v s).memInv = true := by
  unfold scratchStore; simp (maxDischargeDepth := 40) +contextual [*]
@[simp] theorem keeps_stsOp (o : SM) (n : Nat) (s : State) (hI : s.memInv = true) : (stsOp o n s).memInv = true := by
  unfold stsOp; simp (maxDischargeDepth := 40) +contextual [*]
@[simp] theorem keeps_execSts8 (o : SM) (s : State) (hI : s.memInv = true) : keepsOut (execSts8 o s) = true := by
  unfold execSts8; simp (maxDischargeDepth := 40) +contextual [*]
@[simp] theorem keeps_execSts16 (o : SM) (s : State) (hI : s.memInv = true) : keepsOut (execSts16 o s) = true := by
  unfold execSts16; simp (maxDischargeDepth := 40) +contextual [*]
@[simp] theorem keeps_execSts32 (o : SM) (s : State) (hI : s.memInv = true) : keepsOut (execSts32 o s) = true := by
  unfold execSts32; simp (maxDischargeDepth := 40) +contextual [*]
@[simp] theorem keeps_execSts64 (o : SM) (s : State) (hI : s.memInv = true) : keepsOut (execSts64 o s) = true := by
  unfold execSts64; simp (maxDischargeDepth := 40) +contextual [*]
@[simp] theorem keeps_execStv (o : SM) (s : State) (hI : s.memInv = true) : keepsOut (execStv o s) = true := by
  unfold execStv; simp (maxDischargeDepth := 40) +contextual [*]
@[simp] theorem keeps_execStvt (o : SM) (s : State) (hI : s.memInv = true) : keepsOut (execStvt o s) = true := by
  unfold execStvt
  refine keeps_issueOp _ (fun t ht => ?_) _ hI
  dsimp only
  (repeat' split) <;> simp (maxDischargeDepth := 40) +contextual [*]
@[simp] theorem keeps_lmLoad (o : LM) (op : UnitOp) (d : Option Dest) (unit : Nat) (n : Need) (s : State) (hI : s.memInv = true) : (lmLoad o op d unit n s).memInv = true := by
  unfold lmLoad; simp (maxDischargeDepth := 40) +contextual [*]
@[simp] theorem keeps_ldgOp (o : LM) (n : Nat) (s : State) (hI : s.memInv = true) : (ldgOp o n s).memInv = true := by
  unfold ldgOp; simp (maxDischargeDepth := 40) +contextual [*]
@[simp] theorem keeps_ldacqOp (o : LM) (n : Nat) (s : State) (hI : s.memInv = true) : (ldacqOp o n s).memInv = true := by
  unfold ldacqOp; simp (maxDischargeDepth := 40) +contextual [*]
@[simp] theorem keeps_ldkOp (o : LM) (n : Nat) (s : State) (hI : s.memInv = true) : (ldkOp o n s).memInv = true := by
  unfold ldkOp; simp (maxDischargeDepth := 40) +contextual [*]
@[simp] theorem keeps_execLdg8 (o : LM) (s : State) (hI : s.memInv = true) : keepsOut (execLdg8 o s) = true := by
  unfold execLdg8; simp (maxDischargeDepth := 40) +contextual [*]
@[simp] theorem keeps_execLdg16 (o : LM) (s : State) (hI : s.memInv = true) : keepsOut (execLdg16 o s) = true := by
  unfold execLdg16; simp (maxDischargeDepth := 40) +contextual [*]
@[simp] theorem keeps_execLdg32 (o : LM) (s : State) (hI : s.memInv = true) : keepsOut (execLdg32 o s) = true := by
  unfold execLdg32; simp (maxDischargeDepth := 40) +contextual [*]
@[simp] theorem keeps_execLdg64 (o : LM) (s : State) (hI : s.memInv = true) : keepsOut (execLdg64 o s) = true := by
  unfold execLdg64; simp (maxDischargeDepth := 40) +contextual [*]
@[simp] theorem keeps_execLdgV (o : LM) (s : State) (hI : s.memInv = true) : keepsOut (execLdgV o s) = true := by
  unfold execLdgV; simp (maxDischargeDepth := 40) +contextual [*]
@[simp] theorem keeps_execLdk32 (o : LM) (s : State) (hI : s.memInv = true) : keepsOut (execLdk32 o s) = true := by
  unfold execLdk32; simp (maxDischargeDepth := 40) +contextual [*]
@[simp] theorem keeps_execLdk64 (o : LM) (s : State) (hI : s.memInv = true) : keepsOut (execLdk64 o s) = true := by
  unfold execLdk64; simp (maxDischargeDepth := 40) +contextual [*]
@[simp] theorem keeps_execLdacq32 (o : LM) (s : State) (hI : s.memInv = true) : keepsOut (execLdacq32 o s) = true := by
  unfold execLdacq32; simp (maxDischargeDepth := 40) +contextual [*]
@[simp] theorem keeps_execLdacq64 (o : LM) (s : State) (hI : s.memInv = true) : keepsOut (execLdacq64 o s) = true := by
  unfold execLdacq64; simp (maxDischargeDepth := 40) +contextual [*]
@[simp] theorem keeps_execLdsc (o : LM) (s : State) (hI : s.memInv = true) : keepsOut (execLdsc o s) = true := by
  unfold execLdsc; simp (maxDischargeDepth := 40) +contextual [*]
@[simp] theorem keeps_dropPf (s : State) (hI : s.memInv = true) : (State.dropPf s).memInv = true := by
  unfold State.dropPf; simp (maxDischargeDepth := 40) +contextual [*]
@[simp] theorem keeps_prefetchLine (s : State) (c line : Nat) (near : Bool) (hI : s.memInv = true) : (State.prefetchLine s c line near).memInv = true := by
  unfold State.prefetchLine; (repeat' split) <;> simp (maxDischargeDepth := 40) +contextual [*]
@[simp] theorem keeps_prefetchPool (s : State) (c : Nat) (k : Word128) (off : Nat) (hI : s.memInv = true) : (State.prefetchPool s c k off).memInv = true := by
  unfold State.prefetchPool; (repeat' split) <;> simp (maxDischargeDepth := 40) +contextual [*]
@[simp] theorem keeps_execPf (o : LM) (s : State) (hI : s.memInv = true) : keepsOut (execPf o s) = true := by
  unfold execPf
  refine keeps_issueOp _ (fun t ht => ?_) _ hI
  (repeat' split) <;> simp (maxDischargeDepth := 40) +contextual [*]
@[simp] theorem keeps_addStore (s : State) (u : MemUnit) (hI : s.memInv = true) : (State.addStore s u).memInv = true := by
  unfold State.addStore; (repeat' split) <;> simp (maxDischargeDepth := 40) +contextual [*]
@[simp] theorem keeps_stgOp (o : SM) (n : Nat) (rel : Bool) (s : State) (hI : s.memInv = true) : (stgOp o n rel s).memInv = true := by
  unfold stgOp; simp (maxDischargeDepth := 40) +contextual [*]
@[simp] theorem keeps_stkOp (o : SM) (n : Nat) (s : State) (hI : s.memInv = true) : (stkOp o n s).memInv = true := by
  unfold stkOp; simp (maxDischargeDepth := 40) +contextual [*]
@[simp] theorem keeps_execStg8 (o : SM) (s : State) (hI : s.memInv = true) : keepsOut (execStg8 o s) = true := by
  unfold execStg8; simp (maxDischargeDepth := 40) +contextual [*]
@[simp] theorem keeps_execStg16 (o : SM) (s : State) (hI : s.memInv = true) : keepsOut (execStg16 o s) = true := by
  unfold execStg16; simp (maxDischargeDepth := 40) +contextual [*]
@[simp] theorem keeps_execStg32 (o : SM) (s : State) (hI : s.memInv = true) : keepsOut (execStg32 o s) = true := by
  unfold execStg32; simp (maxDischargeDepth := 40) +contextual [*]
@[simp] theorem keeps_execStg64 (o : SM) (s : State) (hI : s.memInv = true) : keepsOut (execStg64 o s) = true := by
  unfold execStg64; simp (maxDischargeDepth := 40) +contextual [*]
@[simp] theorem keeps_execStk32 (o : SM) (s : State) (hI : s.memInv = true) : keepsOut (execStk32 o s) = true := by
  unfold execStk32; simp (maxDischargeDepth := 40) +contextual [*]
@[simp] theorem keeps_execStk64 (o : SM) (s : State) (hI : s.memInv = true) : keepsOut (execStk64 o s) = true := by
  unfold execStk64; simp (maxDischargeDepth := 40) +contextual [*]
@[simp] theorem keeps_execStrel32 (o : SM) (s : State) (hI : s.memInv = true) : keepsOut (execStrel32 o s) = true := by
  unfold execStrel32; simp (maxDischargeDepth := 40) +contextual [*]
@[simp] theorem keeps_execStrel64 (o : SM) (s : State) (hI : s.memInv = true) : keepsOut (execStrel64 o s) = true := by
  unfold execStrel64; simp (maxDischargeDepth := 40) +contextual [*]
@[simp] theorem keeps_atIssue (o : AT) (op : UnitOp) (n cap kind v v2 : Nat) (d d2 : Option Dest) (s : State) (hI : s.memInv = true) : (atIssue o op n cap kind v v2 d d2 s).memInv = true := by
  unfold atIssue; simp (maxDischargeDepth := 40) +contextual [*]
@[simp] theorem keeps_amoOp (o : AT) (op n : Nat) (s : State) (hI : s.memInv = true) : (amoOp o op n s).memInv = true := by
  unfold amoOp; simp (maxDischargeDepth := 40) +contextual [*]
@[simp] theorem keeps_redOp (o : AT) (op n : Nat) (s : State) (hI : s.memInv = true) : (redOp o op n s).memInv = true := by
  unfold redOp; simp (maxDischargeDepth := 40) +contextual [*]
@[simp] theorem keeps_casOp (o : AT) (n : Nat) (s : State) (hI : s.memInv = true) : (casOp o n s).memInv = true := by
  unfold casOp; simp (maxDischargeDepth := 40) +contextual [*]
@[simp] theorem keeps_cas128Op (o : AT) (s : State) (hI : s.memInv = true) : (cas128Op o s).memInv = true := by
  unfold cas128Op; simp (maxDischargeDepth := 40) +contextual [*]
@[simp] theorem keeps_execAmoAdd32 (o : AT) (s : State) (hI : s.memInv = true) : keepsOut (execAmoAdd32 o s) = true := by
  unfold execAmoAdd32; simp (maxDischargeDepth := 40) +contextual [*]
@[simp] theorem keeps_execAmoAdd64 (o : AT) (s : State) (hI : s.memInv = true) : keepsOut (execAmoAdd64 o s) = true := by
  unfold execAmoAdd64; simp (maxDischargeDepth := 40) +contextual [*]
@[simp] theorem keeps_execAmoAnd32 (o : AT) (s : State) (hI : s.memInv = true) : keepsOut (execAmoAnd32 o s) = true := by
  unfold execAmoAnd32; simp (maxDischargeDepth := 40) +contextual [*]
@[simp] theorem keeps_execAmoAnd64 (o : AT) (s : State) (hI : s.memInv = true) : keepsOut (execAmoAnd64 o s) = true := by
  unfold execAmoAnd64; simp (maxDischargeDepth := 40) +contextual [*]
@[simp] theorem keeps_execAmoOr32 (o : AT) (s : State) (hI : s.memInv = true) : keepsOut (execAmoOr32 o s) = true := by
  unfold execAmoOr32; simp (maxDischargeDepth := 40) +contextual [*]
@[simp] theorem keeps_execAmoOr64 (o : AT) (s : State) (hI : s.memInv = true) : keepsOut (execAmoOr64 o s) = true := by
  unfold execAmoOr64; simp (maxDischargeDepth := 40) +contextual [*]
@[simp] theorem keeps_execAmoXor32 (o : AT) (s : State) (hI : s.memInv = true) : keepsOut (execAmoXor32 o s) = true := by
  unfold execAmoXor32; simp (maxDischargeDepth := 40) +contextual [*]
@[simp] theorem keeps_execAmoXor64 (o : AT) (s : State) (hI : s.memInv = true) : keepsOut (execAmoXor64 o s) = true := by
  unfold execAmoXor64; simp (maxDischargeDepth := 40) +contextual [*]
@[simp] theorem keeps_execAmoMin32 (o : AT) (s : State) (hI : s.memInv = true) : keepsOut (execAmoMin32 o s) = true := by
  unfold execAmoMin32; simp (maxDischargeDepth := 40) +contextual [*]
@[simp] theorem keeps_execAmoMin64 (o : AT) (s : State) (hI : s.memInv = true) : keepsOut (execAmoMin64 o s) = true := by
  unfold execAmoMin64; simp (maxDischargeDepth := 40) +contextual [*]
@[simp] theorem keeps_execAmoMax32 (o : AT) (s : State) (hI : s.memInv = true) : keepsOut (execAmoMax32 o s) = true := by
  unfold execAmoMax32; simp (maxDischargeDepth := 40) +contextual [*]
@[simp] theorem keeps_execAmoMax64 (o : AT) (s : State) (hI : s.memInv = true) : keepsOut (execAmoMax64 o s) = true := by
  unfold execAmoMax64; simp (maxDischargeDepth := 40) +contextual [*]
@[simp] theorem keeps_execAmoMinu32 (o : AT) (s : State) (hI : s.memInv = true) : keepsOut (execAmoMinu32 o s) = true := by
  unfold execAmoMinu32; simp (maxDischargeDepth := 40) +contextual [*]
@[simp] theorem keeps_execAmoMinu64 (o : AT) (s : State) (hI : s.memInv = true) : keepsOut (execAmoMinu64 o s) = true := by
  unfold execAmoMinu64; simp (maxDischargeDepth := 40) +contextual [*]
@[simp] theorem keeps_execAmoMaxu32 (o : AT) (s : State) (hI : s.memInv = true) : keepsOut (execAmoMaxu32 o s) = true := by
  unfold execAmoMaxu32; simp (maxDischargeDepth := 40) +contextual [*]
@[simp] theorem keeps_execAmoMaxu64 (o : AT) (s : State) (hI : s.memInv = true) : keepsOut (execAmoMaxu64 o s) = true := by
  unfold execAmoMaxu64; simp (maxDischargeDepth := 40) +contextual [*]
@[simp] theorem keeps_execAmoSwap32 (o : AT) (s : State) (hI : s.memInv = true) : keepsOut (execAmoSwap32 o s) = true := by
  unfold execAmoSwap32; simp (maxDischargeDepth := 40) +contextual [*]
@[simp] theorem keeps_execAmoSwap64 (o : AT) (s : State) (hI : s.memInv = true) : keepsOut (execAmoSwap64 o s) = true := by
  unfold execAmoSwap64; simp (maxDischargeDepth := 40) +contextual [*]
@[simp] theorem keeps_execRedAdd32 (o : AT) (s : State) (hI : s.memInv = true) : keepsOut (execRedAdd32 o s) = true := by
  unfold execRedAdd32; simp (maxDischargeDepth := 40) +contextual [*]
@[simp] theorem keeps_execRedAdd64 (o : AT) (s : State) (hI : s.memInv = true) : keepsOut (execRedAdd64 o s) = true := by
  unfold execRedAdd64; simp (maxDischargeDepth := 40) +contextual [*]
@[simp] theorem keeps_execRedAnd32 (o : AT) (s : State) (hI : s.memInv = true) : keepsOut (execRedAnd32 o s) = true := by
  unfold execRedAnd32; simp (maxDischargeDepth := 40) +contextual [*]
@[simp] theorem keeps_execRedAnd64 (o : AT) (s : State) (hI : s.memInv = true) : keepsOut (execRedAnd64 o s) = true := by
  unfold execRedAnd64; simp (maxDischargeDepth := 40) +contextual [*]
@[simp] theorem keeps_execRedOr32 (o : AT) (s : State) (hI : s.memInv = true) : keepsOut (execRedOr32 o s) = true := by
  unfold execRedOr32; simp (maxDischargeDepth := 40) +contextual [*]
@[simp] theorem keeps_execRedOr64 (o : AT) (s : State) (hI : s.memInv = true) : keepsOut (execRedOr64 o s) = true := by
  unfold execRedOr64; simp (maxDischargeDepth := 40) +contextual [*]
@[simp] theorem keeps_execRedXor32 (o : AT) (s : State) (hI : s.memInv = true) : keepsOut (execRedXor32 o s) = true := by
  unfold execRedXor32; simp (maxDischargeDepth := 40) +contextual [*]
@[simp] theorem keeps_execRedXor64 (o : AT) (s : State) (hI : s.memInv = true) : keepsOut (execRedXor64 o s) = true := by
  unfold execRedXor64; simp (maxDischargeDepth := 40) +contextual [*]
@[simp] theorem keeps_execRedMin32 (o : AT) (s : State) (hI : s.memInv = true) : keepsOut (execRedMin32 o s) = true := by
  unfold execRedMin32; simp (maxDischargeDepth := 40) +contextual [*]
@[simp] theorem keeps_execRedMin64 (o : AT) (s : State) (hI : s.memInv = true) : keepsOut (execRedMin64 o s) = true := by
  unfold execRedMin64; simp (maxDischargeDepth := 40) +contextual [*]
@[simp] theorem keeps_execRedMax32 (o : AT) (s : State) (hI : s.memInv = true) : keepsOut (execRedMax32 o s) = true := by
  unfold execRedMax32; simp (maxDischargeDepth := 40) +contextual [*]
@[simp] theorem keeps_execRedMax64 (o : AT) (s : State) (hI : s.memInv = true) : keepsOut (execRedMax64 o s) = true := by
  unfold execRedMax64; simp (maxDischargeDepth := 40) +contextual [*]
@[simp] theorem keeps_execRedMinu32 (o : AT) (s : State) (hI : s.memInv = true) : keepsOut (execRedMinu32 o s) = true := by
  unfold execRedMinu32; simp (maxDischargeDepth := 40) +contextual [*]
@[simp] theorem keeps_execRedMinu64 (o : AT) (s : State) (hI : s.memInv = true) : keepsOut (execRedMinu64 o s) = true := by
  unfold execRedMinu64; simp (maxDischargeDepth := 40) +contextual [*]
@[simp] theorem keeps_execRedMaxu32 (o : AT) (s : State) (hI : s.memInv = true) : keepsOut (execRedMaxu32 o s) = true := by
  unfold execRedMaxu32; simp (maxDischargeDepth := 40) +contextual [*]
@[simp] theorem keeps_execRedMaxu64 (o : AT) (s : State) (hI : s.memInv = true) : keepsOut (execRedMaxu64 o s) = true := by
  unfold execRedMaxu64; simp (maxDischargeDepth := 40) +contextual [*]
@[simp] theorem keeps_execRedFadd32 (o : AT) (s : State) (hI : s.memInv = true) : keepsOut (execRedFadd32 o s) = true := by
  unfold execRedFadd32; simp (maxDischargeDepth := 40) +contextual [*]
@[simp] theorem keeps_execCas32 (o : AT) (s : State) (hI : s.memInv = true) : keepsOut (execCas32 o s) = true := by
  unfold execCas32; simp (maxDischargeDepth := 40) +contextual [*]
@[simp] theorem keeps_execCas64 (o : AT) (s : State) (hI : s.memInv = true) : keepsOut (execCas64 o s) = true := by
  unfold execCas64; simp (maxDischargeDepth := 40) +contextual [*]
@[simp] theorem keeps_execCas128 (o : AT) (s : State) (hI : s.memInv = true) : keepsOut (execCas128 o s) = true := by
  unfold execCas128; simp (maxDischargeDepth := 40) +contextual [*]
@[simp] theorem keeps_fenceWrites (s : State) (hI : s.memInv = true) : (State.fenceWrites s).memInv = true := by
  unfold State.fenceWrites; simp (maxDischargeDepth := 40) +contextual [*]
@[simp] theorem keeps_fenceReads (s : State) (hI : s.memInv = true) : (State.fenceReads s).memInv = true := by
  unfold State.fenceReads; simp (maxDischargeDepth := 40) +contextual [*]
@[simp] theorem keeps_execFence (o : FB) (s : State) (hI : s.memInv = true) : keepsOut (execFence o s) = true := by
  unfold execFence; simp (maxDischargeDepth := 40) +contextual [*]
@[simp] theorem keeps_execFenceRel (o : FB) (s : State) (hI : s.memInv = true) : keepsOut (execFenceRel o s) = true := by
  unfold execFenceRel; simp (maxDischargeDepth := 40) +contextual [*]
@[simp] theorem keeps_execFenceAcq (o : FB) (s : State) (hI : s.memInv = true) : keepsOut (execFenceAcq o s) = true := by
  unfold execFenceAcq; simp (maxDischargeDepth := 40) +contextual [*]
@[simp] theorem keeps_execBind (o : FB) (s : State) (hI : s.memInv = true) : keepsOut (execBind o s) = true := by
  unfold execBind; simp (maxDischargeDepth := 40) +contextual [*]
@[simp] theorem keeps_execUnbind (o : FB) (s : State) (hI : s.memInv = true) : keepsOut (execUnbind o s) = true := by
  unfold execUnbind; simp (maxDischargeDepth := 40) +contextual [*]
@[simp] theorem keeps_execHalloc (o : LH) (s : State) (hI : s.memInv = true) : keepsOut (execHalloc o s) = true := by
  unfold execHalloc; simp (maxDischargeDepth := 40) +contextual [*]
@[simp] theorem keeps_execHfree (o : LH) (s : State) (hI : s.memInv = true) : keepsOut (execHfree o s) = true := by
  unfold execHfree; simp (maxDischargeDepth := 40) +contextual [*]
@[simp] theorem keeps_execHinfo (o : LH) (s : State) (hI : s.memInv = true) : keepsOut (execHinfo o s) = true := by
  unfold execHinfo; simp (maxDischargeDepth := 40) +contextual [*]
@[simp] theorem keeps_execKderiveLd (o : LH) (s : State) (hI : s.memInv = true) : keepsOut (execKderiveLd o s) = true := by
  unfold execKderiveLd; simp (maxDischargeDepth := 40) +contextual [*]
@[simp] theorem keeps_execKderiveRs (o : LH) (s : State) (hI : s.memInv = true) : keepsOut (execKderiveRs o s) = true := by
  unfold execKderiveRs; simp (maxDischargeDepth := 40) +contextual [*]
@[simp] theorem keeps_execKderiveSt (o : LH) (s : State) (hI : s.memInv = true) : keepsOut (execKderiveSt o s) = true := by
  unfold execKderiveSt; simp (maxDischargeDepth := 40) +contextual [*]
@[simp] theorem keeps_execKchk (o : LH) (s : State) (hI : s.memInv = true) : keepsOut (execKchk o s) = true := by
  unfold execKchk; simp (maxDischargeDepth := 40) +contextual [*]

/-! ## The slots of the fabric -/

@[simp] theorem keeps_modPort (s : State) (p : Nat) (f : Port → Port) (hI : s.memInv = true) : (State.modPort s p f).memInv = true := by
  unfold State.modPort; simp (maxDischargeDepth := 40) +contextual [*]
@[simp] theorem keeps_modFab (s : State) (f : Fabric → Fabric) (hI : s.memInv = true) : (State.modFab s f).memInv = true := by
  unfold State.modFab; simp (maxDischargeDepth := 40) +contextual [*]
@[simp] theorem keeps_fabricArrives (s : State) {act : State → State} (hf : ∀ t, t.memInv = true → (act t).memInv = true)
    (hI : s.memInv = true) : (s.fabricArrives act).memInv = true := by
  unfold State.fabricArrives
  split
  · exact hf _ (memInv_of hI rfl rfl rfl)
  · exact hI
@[simp] theorem keeps_fabricError (s : State) (code : Nat) (hI : s.memInv = true) : (State.fabricError s code).memInv = true := by
  unfold State.fabricError; simp (maxDischargeDepth := 40) +contextual [*]
@[simp] theorem keeps_reserve (s : State) (job : Option (Nat × Nat)) (places : List (Nat × Nat × Option Nat)) (flits : List Flit) (hI : s.memInv = true) : (State.reserve s job places flits).memInv = true := by
  unfold State.reserve; simp (maxDischargeDepth := 40) +contextual [*]
@[simp] theorem keeps_dropFlits (s : State) (j : Nat × Nat) (hI : s.memInv = true) : (State.dropFlits s j).memInv = true := by
  unfold State.dropFlits; simp (maxDischargeDepth := 40) +contextual [*]
@[simp] theorem keeps_placeFlit (s : State) (e : Placed) (hI : s.memInv = true) : (State.placeFlit s e).memInv = true := by
  unfold State.placeFlit; (repeat' split) <;> simp (maxDischargeDepth := 40) +contextual [*]
@[simp] theorem keeps_placeOwed (s : State) (hI : s.memInv = true) : (State.placeOwed s).memInv = true := by
  unfold State.placeOwed; simp (maxDischargeDepth := 40) +contextual [*]
@[simp] theorem keeps_sendOpen (s : State) (job : Option (Nat × Nat)) (cls dst body n : Nat) (hI : s.memInv = true) : (State.sendOpen s job cls dst body n).memInv = true := by
  unfold State.sendOpen; simp (maxDischargeDepth := 40) +contextual [*]
@[simp] theorem keeps_viaMessages (s : State) (j : Nat × Nat) (l : List (Nat × Nat × Nat × Nat)) {act : State → State}
    (hf : ∀ t, t.memInv = true → (act t).memInv = true) (hI : s.memInv = true) : (s.viaMessages j l act).memInv = true := by
  unfold State.viaMessages
  split
  · exact hf _ hI
  · split
    · exact keeps_foldl _ _ _ (fun t a ht => by simp [ht]) (by simp [hI])
    · split
      · exact hI
      · apply hf; split
        · exact hI
        · simp [hI]
@[simp] theorem keeps_viaMessage (s : State) (j : Nat × Nat) (cls dst body n : Nat) {act : State → State}
    (hf : ∀ t, t.memInv = true → (act t).memInv = true) (hI : s.memInv = true) : (s.viaMessage j cls dst body n act).memInv = true :=
  keeps_viaMessages _ _ _ hf hI
@[simp] theorem keeps_settleSent (s : State) (hI : s.memInv = true) : (State.settleSent s).memInv = true := by
  unfold State.settleSent; simp (maxDischargeDepth := 40) +contextual [*]
@[simp] theorem keeps_unitMessage (s : State) (c : Nat) (u : MemUnit) {act : State → State}
    (hf : ∀ t, t.memInv = true → (act t).memInv = true) (hI : s.memInv = true) : (s.unitMessage c u act).memInv = true := by
  unfold State.unitMessage
  split
  · exact keeps_viaMessage _ _ _ _ _ _ hf hI
  · exact hf _ hI
@[simp] theorem keeps_countOp (s : State) (o : EngOp) (hI : s.memInv = true) : (State.countOp s o).memInv = true := by
  unfold State.countOp; (repeat' split) <;> simp (maxDischargeDepth := 40) +contextual [*]
@[simp] theorem keeps_opMessage (s : State) (c : Nat) (o : EngOp) {act : State → State}
    (hf : ∀ t, t.memInv = true → (act t).memInv = true) (hI : s.memInv = true) : (s.opMessage c o act).memInv = true := by
  unfold State.opMessage; dsimp only
  split
  · exact hf _ hI
  · refine keeps_viaMessages _ _ _ (fun t ht => ?_) hI
    split
    · exact ht
    · exact hf _ ht

/-! ## Engine operations -/

@[simp] theorem keeps_addEng (s : State) (o : EngOp) (hI : s.memInv = true) : (State.addEng s o).memInv = true := by
  unfold State.addEng; simp (maxDischargeDepth := 40) +contextual [*]
@[simp] theorem keeps_onCtx (c : Nat) (t : State) (hI : t.memInv = true) : keepsOut (onCtx c t) = true := by
  unfold onCtx; (repeat' split) <;> simp (maxDischargeDepth := 40) +contextual [*]
@[simp] theorem keeps_completing (c id : Nat) (q : Engine) (s : State) {f : EngOp → State} (hf : ∀ o, (f o).memInv = true)
    (hI : s.memInv = true) : keepsOut (completing c id q s f) = true := by
  unfold completing; apply keeps_onCtx; split
  · exact keeps_ite (keeps_opMessage _ _ _ (fun _ _ => hf _) hI) hI
  · exact hI
@[simp] theorem keeps_accRows (s : State) (k acc r0 n : Nat) (rows : List (List Nat)) (hI : s.memInv = true) : (State.accRows s k acc r0 n rows).memInv = true := by
  unfold State.accRows; simp (maxDischargeDepth := 40) +contextual [*]

/-! ## Slot M -/

@[simp] theorem keeps_mxIssue (i : Instr) (o : MX) (f : MxFmt) (s : State) (hI : s.memInv = true) : (mxIssue i o f s).memInv = true := by
  unfold mxIssue; dsimp only; (repeat' split) <;> simp (maxDischargeDepth := 40) +contextual [*]
@[simp] theorem keeps_clearGroups (s : State) (k acc mask : Nat) (hI : s.memInv = true) : (State.clearGroups s k acc mask).memInv = true := by
  unfold State.clearGroups; simp (maxDischargeDepth := 40) +contextual [*]
@[simp] theorem keeps_execMatrixOpComplete (c id : Nat) (s : State) (hI : s.memInv = true) : keepsOut (execMatrixOpComplete c id s) = true := by
  unfold execMatrixOpComplete
  refine keeps_completing _ _ _ _ (fun o => ?_) hI
  (repeat' split) <;> simp (maxDischargeDepth := 40) +contextual [*]
@[simp] theorem keeps_execMopaNf (o : MX) (s : State) (hI : s.memInv = true) : keepsOut (execMopaNf o s) = true := by
  unfold execMopaNf; simp (maxDischargeDepth := 40) +contextual [*]
@[simp] theorem keeps_execMopaInt4 (o : MX) (s : State) (hI : s.memInv = true) : keepsOut (execMopaInt4 o s) = true := by
  unfold execMopaInt4; simp (maxDischargeDepth := 40) +contextual [*]
@[simp] theorem keeps_execMopaInt8 (o : MX) (s : State) (hI : s.memInv = true) : keepsOut (execMopaInt8 o s) = true := by
  unfold execMopaInt8; simp (maxDischargeDepth := 40) +contextual [*]
@[simp] theorem keeps_execMopaUint8 (o : MX) (s : State) (hI : s.memInv = true) : keepsOut (execMopaUint8 o s) = true := by
  unfold execMopaUint8; simp (maxDischargeDepth := 40) +contextual [*]
@[simp] theorem keeps_execMopaF16 (o : MX) (s : State) (hI : s.memInv = true) : keepsOut (execMopaF16 o s) = true := by
  unfold execMopaF16; simp (maxDischargeDepth := 40) +contextual [*]
@[simp] theorem keeps_execMopaBf16 (o : MX) (s : State) (hI : s.memInv = true) : keepsOut (execMopaBf16 o s) = true := by
  unfold execMopaBf16; simp (maxDischargeDepth := 40) +contextual [*]
@[simp] theorem keeps_execMopaF32 (o : MX) (s : State) (hI : s.memInv = true) : keepsOut (execMopaF32 o s) = true := by
  unfold execMopaF32; simp (maxDischargeDepth := 40) +contextual [*]
@[simp] theorem keeps_execMopsNf (o : MX) (s : State) (hI : s.memInv = true) : keepsOut (execMopsNf o s) = true := by
  unfold execMopsNf; simp (maxDischargeDepth := 40) +contextual [*]
@[simp] theorem keeps_execMopsInt4 (o : MX) (s : State) (hI : s.memInv = true) : keepsOut (execMopsInt4 o s) = true := by
  unfold execMopsInt4; simp (maxDischargeDepth := 40) +contextual [*]
@[simp] theorem keeps_execMopsInt8 (o : MX) (s : State) (hI : s.memInv = true) : keepsOut (execMopsInt8 o s) = true := by
  unfold execMopsInt8; simp (maxDischargeDepth := 40) +contextual [*]
@[simp] theorem keeps_execMopsUint8 (o : MX) (s : State) (hI : s.memInv = true) : keepsOut (execMopsUint8 o s) = true := by
  unfold execMopsUint8; simp (maxDischargeDepth := 40) +contextual [*]
@[simp] theorem keeps_execMopsF16 (o : MX) (s : State) (hI : s.memInv = true) : keepsOut (execMopsF16 o s) = true := by
  unfold execMopsF16; simp (maxDischargeDepth := 40) +contextual [*]
@[simp] theorem keeps_execMopsBf16 (o : MX) (s : State) (hI : s.memInv = true) : keepsOut (execMopsBf16 o s) = true := by
  unfold execMopsBf16; simp (maxDischargeDepth := 40) +contextual [*]
@[simp] theorem keeps_execMopsF32 (o : MX) (s : State) (hI : s.memInv = true) : keepsOut (execMopsF32 o s) = true := by
  unfold execMopsF32; simp (maxDischargeDepth := 40) +contextual [*]
@[simp] theorem keeps_execMzero (o : MC) (s : State) (hI : s.memInv = true) : keepsOut (execMzero o s) = true := by
  unfold execMzero
  refine keeps_issueOp _ (fun t ht => ?_) _ hI
  (repeat' split) <;> simp (maxDischargeDepth := 40) +contextual [*]
@[simp] theorem keeps_execMcfg (o : MC) (s : State) (hI : s.memInv = true) : keepsOut (execMcfg o s) = true := by
  unfold execMcfg; simp (maxDischargeDepth := 40) +contextual [*]
@[simp] theorem keeps_execMfence (o : MC) (s : State) (hI : s.memInv = true) : keepsOut (execMfence o s) = true := by
  unfold execMfence; simp (maxDischargeDepth := 40) +contextual [*]

/-! ## Slot D -/

@[simp] theorem keeps_drTile (i : Instr) (o : DR) (fill : Bool) (s : State) (hI : s.memInv = true) : (drTile i o fill s).memInv = true := by
  unfold drTile; (repeat' split) <;> simp (maxDischargeDepth := 40) +contextual [*]
@[simp] theorem keeps_drMemory (i : Instr) (o : DR) (fill : Bool) (s : State) (hI : s.memInv = true) : (drMemory i o fill s).memInv = true := by
  unfold drMemory; (repeat' split) <;> simp (maxDischargeDepth := 40) +contextual [*]
@[simp] theorem keeps_drPiece (i : Instr) (o : DR) (fill : Bool) (s : State) (hI : s.memInv = true) : (drPiece i o fill s).memInv = true := by
  unfold drPiece; (repeat' split) <;> simp (maxDischargeDepth := 40) +contextual [*]
@[simp] theorem keeps_drainDelta (s : State) (c : Nat) (o : EngOp) (f : Fmt) (l : List (List Rounded)) (hI : s.memInv = true) : (State.drainDelta s c o f l).memInv = true := by
  unfold State.drainDelta; simp (maxDischargeDepth := 40) +contextual [*]
@[simp] theorem keeps_putFoot (s : State) (c : Nat) (o : EngOp) (f : Foot) (v : Nat) (hI : s.memInv = true) : (State.putFoot s c o f v).memInv = true := by
  unfold State.putFoot; (repeat' split) <;> simp (maxDischargeDepth := 40) +contextual [*]
@[simp] theorem keeps_getFoot (s : State) (c : Nat) (o : EngOp) (f : Foot) (hI : s.memInv = true) : (State.getFoot s c o f).2.memInv = true := by
  unfold State.getFoot; (repeat' split) <;> simp (maxDischargeDepth := 40) +contextual [*]
@[simp] theorem keeps_suspendEng (s : State) (c : Nat) (o : EngOp) (slot card : Nat) (f : Foot) (e : Nat × Nat × Nat) (hI : s.memInv = true) : (State.suspendEng s c o slot card f e).memInv = true := by
  unfold State.suspendEng; simp (maxDischargeDepth := 40) +contextual [*]
@[simp] theorem keeps_drDone (s : State) (c : Nat) (o : EngOp) (fl : Nat) (hI : s.memInv = true) : (State.drDone s c o fl).memInv = true := by
  unfold State.drDone; simp (maxDischargeDepth := 40) +contextual [*]
@[simp] theorem keeps_drainRows (s : State) (c : Nat) (o : EngOp) (f : Fmt) (g : Nat) (hI : s.memInv = true) : (State.drainRows s c o f g).memInv = true := by
  unfold State.drainRows; (repeat' split) <;> simp (maxDischargeDepth := 40) +contextual [*]
@[simp] theorem keeps_fillRows (s : State) (c : Nat) (o : EngOp) (f : Fmt) (g : Nat) (hI : s.memInv = true) : (State.fillRows s c o f g).memInv = true := by
  unfold State.fillRows; (repeat' split) <;> simp (maxDischargeDepth := 40) +contextual [*]
@[simp] theorem keeps_drainPiece (s : State) (c : Nat) (o : EngOp) (f : Fmt) (d : DR) (hI : s.memInv = true) : (State.drainPiece s c o f d).memInv = true := by
  unfold State.drainPiece; simp (maxDischargeDepth := 40) +contextual [*]
@[simp] theorem keeps_fillPiece (s : State) (c : Nat) (o : EngOp) (f : Fmt) (d : DR) (hI : s.memInv = true) : (State.fillPiece s c o f d).memInv = true := by
  unfold State.fillPiece; simp (maxDischargeDepth := 40) +contextual [*]
@[simp] theorem keeps_execDrainOpComplete (c id : Nat) (s : State) (hI : s.memInv = true) : keepsOut (execDrainOpComplete c id s) = true := by
  unfold execDrainOpComplete
  refine keeps_completing _ _ _ _ (fun o => ?_) hI
  (repeat' split) <;> simp (maxDischargeDepth := 40) +contextual [*]
@[simp] theorem keeps_execDrain (o : DR) (s : State) (hI : s.memInv = true) : keepsOut (execDrain o s) = true := by
  unfold execDrain; simp (maxDischargeDepth := 40) +contextual [*]
@[simp] theorem keeps_execDrainM (o : DR) (s : State) (hI : s.memInv = true) : keepsOut (execDrainM o s) = true := by
  unfold execDrainM; simp (maxDischargeDepth := 40) +contextual [*]
@[simp] theorem keeps_execDrainv (o : DR) (s : State) (hI : s.memInv = true) : keepsOut (execDrainv o s) = true := by
  unfold execDrainv; simp (maxDischargeDepth := 40) +contextual [*]
@[simp] theorem keeps_execFill (o : DR) (s : State) (hI : s.memInv = true) : keepsOut (execFill o s) = true := by
  unfold execFill; simp (maxDischargeDepth := 40) +contextual [*]
@[simp] theorem keeps_execFillM (o : DR) (s : State) (hI : s.memInv = true) : keepsOut (execFillM o s) = true := by
  unfold execFillM; simp (maxDischargeDepth := 40) +contextual [*]
@[simp] theorem keeps_execFillv (o : DR) (s : State) (hI : s.memInv = true) : keepsOut (execFillv o s) = true := by
  unfold execFillv; simp (maxDischargeDepth := 40) +contextual [*]
@[simp] theorem keeps_execDzero (o : DR) (s : State) (hI : s.memInv = true) : keepsOut (execDzero o s) = true := by
  unfold execDzero
  refine keeps_issueOp _ (fun t ht => ?_) _ hI
  (repeat' split) <;> simp (maxDischargeDepth := 40) +contextual [*]

/-! ## Slot O -/

@[simp] theorem keeps_setOpb (s : State) (o : OP) (hI : s.memInv = true) : (State.setOpb s o).memInv = true := by
  unfold State.setOpb; (repeat' split) <;> simp (maxDischargeDepth := 40) +contextual [*]
@[simp] theorem keeps_opIssue (i : Instr) (o : OP) (clip : Bool) (hs : List (Nat × Nat)) (s : State) (hI : s.memInv = true) : (opIssue i o clip hs s).memInv = true := by
  unfold opIssue; dsimp only; (repeat' split) <;> simp (maxDischargeDepth := 40) +contextual [*]
@[simp] theorem keeps_opUpdate (i : Instr) (o : OP) (k : OptKind) (bf : Bool) (s : State) (hI : s.memInv = true) : (opUpdate i o k bf s).memInv = true := by
  unfold opUpdate; simp (maxDischargeDepth := 40) +contextual [*]
@[simp] theorem keeps_pendOpt (s : State) (c : Nat) (val : Word) (hI : s.memInv = true) : (State.pendOpt s c val).memInv = true := by
  unfold State.pendOpt; simp (maxDischargeDepth := 40) +contextual [*]
@[simp] theorem keeps_optDelta (s : State) (c : Nat) (p : Nat) (t : OptRun) (hI : s.memInv = true) : (State.optDelta s c p t).memInv = true := by
  unfold State.optDelta; simp (maxDischargeDepth := 40) +contextual [*]
theorem keeps_optRun (c : Nat) (o : EngOp) (k : OptKind) (bf : Bool) (l : List Nat) (t : OptRun) (h : t.s.memInv = true) :
    (l.foldl (optStep c o k bf) t).s.memInv = true := by
  induction l generalizing t with
  | nil => exact h
  | cons n l ih =>
    refine ih _ ?_
    unfold optStep; dsimp only; split
    · exact h
    · simp (maxDischargeDepth := 40) +contextual [h]
@[simp] theorem keeps_optDone (s : State) (c : Nat) (o : EngOp) (k : OptKind) (bf : Bool) (hI : s.memInv = true) :
    (s.optDone c o k bf).memInv = true := by
  have h := keeps_optRun c o k bf (List.range 2048) { s := s, vals := [], fl := 0, ovf := 0, sup := 0 } hI
  unfold State.optDone; dsimp only
  generalize (List.range 2048).foldl (optStep c o k bf) { s := s, vals := [], fl := 0, ovf := 0, sup := 0 } = t at h ⊢
  simp (maxDischargeDepth := 40) +contextual [h]
@[simp] theorem keeps_accMap (s : State) (c : Nat) (o : EngOp) (f : Nat → Nat × Nat) (hI : s.memInv = true) : (State.accMap s c o f).memInv = true := by
  unfold State.accMap; simp (maxDischargeDepth := 40) +contextual [*]
@[simp] theorem keeps_execOptimiserOpComplete (c id : Nat) (s : State) (hI : s.memInv = true) : keepsOut (execOptimiserOpComplete c id s) = true := by
  unfold execOptimiserOpComplete
  refine keeps_completing _ _ _ _ (fun o => ?_) hI
  (repeat' split) <;> simp (maxDischargeDepth := 40) +contextual [*]
@[simp] theorem keeps_execOptimiserTrapTaken (c : Nat) (s : State) (hI : s.memInv = true) : keepsOut (execOptimiserTrapTaken c s) = true := by
  unfold execOptimiserTrapTaken; dsimp only; (repeat' split) <;> simp (maxDischargeDepth := 40) +contextual [*]
@[simp] theorem keeps_execOadamF32 (o : OP) (s : State) (hI : s.memInv = true) : keepsOut (execOadamF32 o s) = true := by
  unfold execOadamF32; simp (maxDischargeDepth := 40) +contextual [*]
@[simp] theorem keeps_execOadamBf16 (o : OP) (s : State) (hI : s.memInv = true) : keepsOut (execOadamBf16 o s) = true := by
  unfold execOadamBf16; simp (maxDischargeDepth := 40) +contextual [*]
@[simp] theorem keeps_execOadamwF32 (o : OP) (s : State) (hI : s.memInv = true) : keepsOut (execOadamwF32 o s) = true := by
  unfold execOadamwF32; simp (maxDischargeDepth := 40) +contextual [*]
@[simp] theorem keeps_execOadamwBf16 (o : OP) (s : State) (hI : s.memInv = true) : keepsOut (execOadamwBf16 o s) = true := by
  unfold execOadamwBf16; simp (maxDischargeDepth := 40) +contextual [*]
@[simp] theorem keeps_execOlionF32 (o : OP) (s : State) (hI : s.memInv = true) : keepsOut (execOlionF32 o s) = true := by
  unfold execOlionF32; simp (maxDischargeDepth := 40) +contextual [*]
@[simp] theorem keeps_execOlionBf16 (o : OP) (s : State) (hI : s.memInv = true) : keepsOut (execOlionBf16 o s) = true := by
  unfold execOlionBf16; simp (maxDischargeDepth := 40) +contextual [*]
@[simp] theorem keeps_execOsgdmF32 (o : OP) (s : State) (hI : s.memInv = true) : keepsOut (execOsgdmF32 o s) = true := by
  unfold execOsgdmF32; simp (maxDischargeDepth := 40) +contextual [*]
@[simp] theorem keeps_execOsgdmBf16 (o : OP) (s : State) (hI : s.memInv = true) : keepsOut (execOsgdmBf16 o s) = true := by
  unfold execOsgdmBf16; simp (maxDischargeDepth := 40) +contextual [*]
@[simp] theorem keeps_execOclip (o : OP) (s : State) (hI : s.memInv = true) : keepsOut (execOclip o s) = true := by
  unfold execOclip; simp (maxDischargeDepth := 40) +contextual [*]
@[simp] theorem keeps_execOscale (o : OP) (s : State) (hI : s.memInv = true) : keepsOut (execOscale o s) = true := by
  unfold execOscale; simp (maxDischargeDepth := 40) +contextual [*]

end Sys2Proof.Machine
end

