-- ==== Sys2Proof/Laws/MemoriesJobs.lean ====
section
/-! SUPPORT. Every operation keeps the memories in canonical form (`State.memInv`): records, jobs, tasks, walkers and spills. -/

namespace Sys2Proof.Machine

/-! ## Records -/

@[simp] theorem keeps_setRec (s : State) (id : Nat) (r : Rec) (hI : s.memInv = true) : (State.setRec s id r).memInv = true := by
  unfold State.setRec; simp (maxDischargeDepth := 40) +contextual [*]
@[simp] theorem keeps_freeRec (s : State) (id : Nat) (hI : s.memInv = true) : (State.freeRec s id).memInv = true := by
  unfold State.freeRec; simp (maxDischargeDepth := 40) +contextual [*]
@[simp] theorem keeps_mergeDelta (s : State) (d : Delta) (hI : s.memInv = true) : (State.mergeDelta s d).memInv = true := by
  unfold State.mergeDelta; (repeat' split) <;> simp (maxDischargeDepth := 40) +contextual [*]
@[simp] theorem keeps_execDeltaMerge (n : Nat) (s : State) (hI : s.memInv = true) : keepsOut (execDeltaMerge n s) = true := by
  unfold execDeltaMerge; (repeat' split) <;> simp (maxDischargeDepth := 40) +contextual [*]
@[simp] theorem keeps_mergeAll (s : State) (asid id : Nat) (hI : s.memInv = true) : (State.mergeAll s asid id).memInv = true := by
  unfold State.mergeAll; simp (maxDischargeDepth := 40) +contextual [*]
@[simp] theorem keeps_closeRec (s : State) (asid id : Nat) (hI : s.memInv = true) : (State.closeRec s asid id).1.memInv = true := by
  unfold State.closeRec; dsimp only; (repeat' split) <;> simp (maxDischargeDepth := 40) +contextual [*]
@[simp] theorem keeps_allocRec (s : State) (asid id : Nat) (policy : BitVec 8) (o : RecOrigin) (hI : s.memInv = true) : (State.allocRec s asid id policy o).memInv = true := by
  unfold State.allocRec; simp (maxDischargeDepth := 40) +contextual [*]
@[simp] theorem keeps_execRecAlloc (h : PktHdr) (recid : Nat) (any : Bool) (policy : BitVec 8) (s : State) (hI : s.memInv = true) : keepsOut (execRecAlloc h recid any policy s) = true := by
  unfold execRecAlloc; (repeat' split) <;> simp (maxDischargeDepth := 40) +contextual [*]
@[simp] theorem keeps_execRecFree (h : PktHdr) (recid : Nat) (s : State) (hI : s.memInv = true) : keepsOut (execRecFree h recid s) = true := by
  unfold execRecFree; (repeat' split) <;> simp (maxDischargeDepth := 40) +contextual [*]

/-! ## Jobs -/

@[simp] theorem keeps_addJob (s : State) (i : Instr) (hJ hW : Handle) (card : Nat) (p : JobPlan) (fs : List Foot) (hI : s.memInv = true) : (State.addJob s i hJ hW card p fs).memInv = true := by
  unfold State.addJob; simp (maxDischargeDepth := 40) +contextual [*]
@[simp] theorem keeps_jobIssue (i : Instr) (o : EJ) (minRow : Nat) (nest : Bool) (plan : State → Nat → Option JobPlan) (s : State) (hI : s.memInv = true) : (jobIssue i o minRow nest plan s).memInv = true := by
  unfold jobIssue; dsimp only; (repeat' split) <;> simp (maxDischargeDepth := 40) +contextual [*]
@[simp] theorem keeps_placeRead (s : State) (c : Nat) (o : EngOp) (p : Place) (n : Nat) (hI : s.memInv = true) : (State.placeRead s c o p n).2.memInv = true := by
  unfold State.placeRead; (repeat' split) <;> simp (maxDischargeDepth := 40) +contextual [*]
@[simp] theorem keeps_placeWrite (s : State) (c : Nat) (o : EngOp) (p : Place) (n v : Nat) (hI : s.memInv = true) : (State.placeWrite s c o p n v).memInv = true := by
  unfold State.placeWrite; (repeat' split) <;> simp (maxDischargeDepth := 40) +contextual [*]
@[simp] theorem keeps_tryRead (s : State) (c : Nat) (o : EngOp) (p : Place) (n : Nat) (hI : s.memInv = true) {r : Nat × State}
    (h : s.tryRead c o p n = .ok r) : r.2.memInv = true := by
  unfold State.tryRead at h; split at h
  · cases h
  · cases h; exact keeps_placeRead _ _ _ _ _ hI
@[simp] theorem keeps_tryWrite (s : State) (c : Nat) (o : EngOp) (p : Place) (n v : Nat) (hI : s.memInv = true) {t : State}
    (h : s.tryWrite c o p n v = .ok t) : t.memInv = true := by
  unfold State.tryWrite at h; split at h
  · cases h
  · cases h; exact keeps_placeWrite _ _ _ _ _ _ hI
theorem keeps_runElems {f : Nat → State → Except Stop (State × Nat)}
    (hf : ∀ i s r, s.memInv = true → f i s = .ok r → r.1.memInv = true) (n i st : Nat) (s : State) (hI : s.memInv = true) :
    (runElems f n i st s).1.memInv = true := by
  induction n generalizing i st s with
  | zero => exact hI
  | succ n ih =>
    unfold runElems; split
    · rename_i h; exact ih _ _ _ (hf _ _ _ hI h)
    · exact hI
    · exact hI
@[simp] theorem keeps_report (s : State) (k addr n status : Nat) (hI : s.memInv = true) : (State.report s k addr n status).memInv = true := by
  unfold State.report; simp (maxDischargeDepth := 40) +contextual [*]
@[simp] theorem keeps_execWaymarkReport (core addr bytes status : Nat) (s : State) (hI : s.memInv = true) : keepsOut (execWaymarkReport core addr bytes status s) = true := by
  unfold execWaymarkReport; (repeat' split) <;> simp (maxDischargeDepth := 40) +contextual [*]
@[simp] theorem keeps_jobEnd (s : State) (c : Nat) (o : EngOp) (status : Nat) (hI : s.memInv = true) : (State.jobEnd s c o status).memInv = true := by
  unfold State.jobEnd; simp (maxDischargeDepth := 40) +contextual [*]
@[simp] theorem keeps_jobSuspend (s : State) (c : Nat) (o : EngOp) (st : Nat) (e : Nat × Bool × Nat × Nat) (hI : s.memInv = true) : (State.jobSuspend s c o st e).memInv = true := by
  unfold State.jobSuspend; simp (maxDischargeDepth := 40) +contextual [*]
@[simp] theorem keeps_jobHold (s : State) (c : Nat) (o : EngOp) (wr : Bool) (unit addr : Nat) (hI : s.memInv = true) : (State.jobHold s c o wr unit addr).memInv = true := by
  unfold State.jobHold; simp (maxDischargeDepth := 40) +contextual [*]
theorem keeps_jobRun (s : State) (c : Nat) (o : EngOp) (n : Nat) {f : Nat → State → Except Stop (State × Nat)} {fin : State → Nat → State}
    (hf : ∀ i s r, s.memInv = true → f i s = .ok r → r.1.memInv = true) (hn : ∀ t k, t.memInv = true → (fin t k).memInv = true)
    (hI : s.memInv = true) : (s.jobRun c o n f fin).memInv = true := by
  unfold State.jobRun
  have h := keeps_runElems hf (n - o.pos) o.pos o.status s hI
  split <;> (rename_i e; rw [e] at h)
  · exact keeps_jobSuspend _ _ _ _ _ h
  · exact hn _ _ h
@[simp] theorem keeps_wmarmEnd (s : State) (c : Nat) (o : EngOp) (hI : s.memInv = true) : (State.wmarmEnd s c o).memInv = true := by
  unfold State.wmarmEnd; simp (maxDischargeDepth := 40) +contextual [*]
@[simp] theorem keeps_execWmarm (o : EJ) (s : State) (hI : s.memInv = true) : keepsOut (execWmarm o s) = true := by
  unfold execWmarm; simp (maxDischargeDepth := 40) +contextual [*]

/-! ## Copies -/

@[simp] theorem keeps_addStats (s : State) (c id : Nat) (l : List FVal) (hI : s.memInv = true) : (State.addStats s c id l).memInv = true := by
  unfold State.addStats; simp (maxDischargeDepth := 40) +contextual [*]
theorem keeps_copyVisit (s : State) (c : Nat) (o : EngOp) (na nb : Nat) {conv : Nat → State → Nat × State}
    (hf : ∀ v t, t.memInv = true → (conv v t).2.memInv = true) (i : Nat) (r : State × Nat) (hI : s.memInv = true)
    (h : s.copyVisit c o na nb conv i = .ok r) : r.1.memInv = true := by
  unfold State.copyVisit at h; dsimp only at h
  split at h
  · cases h
  · cases h
  · cases h; exact keeps_placeWrite _ _ _ _ _ _ (hf _ _ (keeps_placeRead _ _ _ _ _ hI))
@[simp] theorem keeps_cpyConv (c : Nat) (o : EngOp) (v : Nat) (s : State) (hI : s.memInv = true) : (cpyConv c o v s).2.memInv = true := by
  unfold cpyConv; (repeat' split) <;> simp (maxDischargeDepth := 40) +contextual [*]
@[simp] theorem keeps_recdDelta (s : State) (c : Nat) (o : EngOp) (hI : s.memInv = true) : (State.recdDelta s c o).memInv = true := by
  unfold State.recdDelta; simp (maxDischargeDepth := 40) +contextual [*]
@[simp] theorem keeps_cpyRun (s : State) (c : Nat) (o : EngOp) (hI : s.memInv = true) : (s.cpyRun c o).memInv = true := by
  unfold State.cpyRun
  exact keeps_jobRun _ _ _ _ (fun i s r hs h => keeps_copyVisit s c o _ _ (fun v t ht => keeps_cpyConv c o v t ht) i r hs h)
    (fun t k ht => by simp [ht]) hI
@[simp] theorem keeps_cpyqBegin (s : State) (c : Nat) (o : EngOp) (f : Fmt) (hI : s.memInv = true) : (State.cpyqBegin s c o f).memInv = true := by
  unfold State.cpyqBegin; simp (maxDischargeDepth := 40) +contextual [*]
@[simp] theorem keeps_cpyqConv (c : Nat) (o : EngOp) (sf df : Fmt) (v : Nat) (s : State) (hI : s.memInv = true) : (cpyqConv c o sf df v s).2.memInv = true := by
  unfold cpyqConv; simp (maxDischargeDepth := 40) +contextual [*]
@[simp] theorem keeps_cpyqEnd (s : State) (c : Nat) (o : EngOp) (st : Nat) (hI : s.memInv = true) : (State.cpyqEnd s c o st).memInv = true := by
  unfold State.cpyqEnd; simp (maxDischargeDepth := 40) +contextual [*]
@[simp] theorem keeps_cpyqRun (s : State) (c : Nat) (o : EngOp) (hI : s.memInv = true) : (s.cpyqRun c o).memInv = true := by
  unfold State.cpyqRun; split
  · exact keeps_jobRun _ _ _ _ (fun i s r hs h => keeps_copyVisit s c _ _ _ (fun v t ht => keeps_cpyqConv c _ _ _ v t ht) i r hs h)
      (fun t k ht => by simp [ht]) (by simp [hI])
  · exact hI
theorem keeps_map {e : Except Stop State} (h : ∀ t, e = .ok t → t.memInv = true) {r : State × Nat}
    (hr : (e.map fun t => (t, 0)) = .ok r) : r.1.memInv = true := by
  cases e with
  | error e => cases hr
  | ok t => cases hr; exact h t rfl
theorem keeps_gatherElem (s : State) (c : Nat) (o : EngOp) (g : Bool) (kN : Option Nat) (j : Nat) (r : State × Nat) (hI : s.memInv = true)
    (h : s.gatherElem c o g kN j = .ok r) : r.1.memInv = true := by
  unfold State.gatherElem at h; dsimp only at h
  split at h
  · cases h
  · rename_i i t he
    have ht := keeps_tryRead _ _ _ _ _ hI he
    split at h
    · split at h
      · exact keeps_map (fun u hu => keeps_tryWrite _ _ _ _ _ _ ht hu) h
      · cases h; exact ht
    · split at h
      · cases h; exact ht
      · split at h
        · cases h
        · rename_i he2
          exact keeps_map (fun u hu => keeps_tryWrite _ _ _ _ _ _ (keeps_tryRead _ _ _ _ _ ht he2) hu) h
@[simp] theorem keeps_gatherRun (s : State) (c : Nat) (o : EngOp) (g : Bool) (kN : Option Nat) (hI : s.memInv = true) :
    (s.gatherRun c o g kN).memInv = true := by
  unfold State.gatherRun
  exact keeps_jobRun _ _ _ _ (fun i s r hs h => keeps_gatherElem s c o g kN i r hs h) (fun t k ht => by simp [ht]) hI
@[simp] theorem keeps_contributeAll (s : State) (c : Nat) (o : EngOp) (k off v : Nat) (hI : s.memInv = true) : (State.contributeAll s c o k off v).1.memInv = true := by
  unfold State.contributeAll; simp (maxDischargeDepth := 40) +contextual [*]
theorem keeps_bulkElem (s : State) (c : Nat) (o : EngOp) (b : Bulk) (k i : Nat) (r : State × Nat) (hI : s.memInv = true)
    (h : s.bulkElem c o b k i = .ok r) : r.1.memInv = true := by
  unfold State.bulkElem at h; dsimp only at h
  split at h
  · split at h
    · cases h
    · rename_i he; exact keeps_map (fun u hu => keeps_tryWrite _ _ _ _ _ _ (keeps_tryRead _ _ _ _ _ hI he) hu) h
  · split at h
    · cases h
    · rename_i he; exact keeps_map (fun u hu => keeps_tryWrite _ _ _ _ _ _ (keeps_tryRead _ _ _ _ _ hI he) hu) h
  · split at h
    · cases h
    · rename_i he
      have ht := keeps_tryRead _ _ _ _ _ hI he
      split at h
      · cases h
      · cases h; exact keeps_contributeAll _ _ _ _ _ _ ht
@[simp] theorem keeps_bulkRun (s : State) (c : Nat) (o : EngOp) (b : Bulk) (k : Nat) (hI : s.memInv = true) : (s.bulkRun c o b k).memInv = true := by
  unfold State.bulkRun
  exact keeps_jobRun _ _ _ _ (fun i s r hs h => keeps_bulkElem s c o b k i r hs h) (fun t n ht => by simp [ht]) hI
@[simp] theorem keeps_execCpy (o : EJ) (s : State) (hI : s.memInv = true) : keepsOut (execCpy o s) = true := by
  unfold execCpy; simp (maxDischargeDepth := 40) +contextual [*]
@[simp] theorem keeps_execCpyq (o : EJ) (s : State) (hI : s.memInv = true) : keepsOut (execCpyq o s) = true := by
  unfold execCpyq; simp (maxDischargeDepth := 40) +contextual [*]
@[simp] theorem keeps_execGath (o : EJ) (s : State) (hI : s.memInv = true) : keepsOut (execGath o s) = true := by
  unfold execGath; simp (maxDischargeDepth := 40) +contextual [*]
@[simp] theorem keeps_execScat (o : EJ) (s : State) (hI : s.memInv = true) : keepsOut (execScat o s) = true := by
  unfold execScat; simp (maxDischargeDepth := 40) +contextual [*]
@[simp] theorem keeps_execGathK (o : EJ) (s : State) (hI : s.memInv = true) : keepsOut (execGathK o s) = true := by
  unfold execGathK; simp (maxDischargeDepth := 40) +contextual [*]
@[simp] theorem keeps_execScatK (o : EJ) (s : State) (hI : s.memInv = true) : keepsOut (execScatK o s) = true := by
  unfold execScatK; simp (maxDischargeDepth := 40) +contextual [*]
@[simp] theorem keeps_execBget (o : EJ) (s : State) (hI : s.memInv = true) : keepsOut (execBget o s) = true := by
  unfold execBget; simp (maxDischargeDepth := 40) +contextual [*]
@[simp] theorem keeps_execBwr (o : EJ) (s : State) (hI : s.memInv = true) : keepsOut (execBwr o s) = true := by
  unfold execBwr; simp (maxDischargeDepth := 40) +contextual [*]
@[simp] theorem keeps_execBred (o : EJ) (s : State) (hI : s.memInv = true) : keepsOut (execBred o s) = true := by
  unfold execBred; simp (maxDischargeDepth := 40) +contextual [*]

/-! ## Record commands -/

@[simp] theorem keeps_scloseRun (s : State) (c : Nat) (o : EngOp) (hI : s.memInv = true) : (State.scloseRun s c o).memInv = true := by
  unfold State.scloseRun; simp (maxDischargeDepth := 40) +contextual [*]
@[simp] theorem keeps_sfreeRun (s : State) (c : Nat) (o : EngOp) (hI : s.memInv = true) : (s.sfreeRun c o).memInv = true := by
  unfold State.sfreeRun; dsimp only
  apply keeps_jobEnd
  refine keeps_foldl_fst _ _ _ (fun t a ht => ?_) hI
  split
  · split
    · simp [ht]
    · exact ht
  · exact ht
@[simp] theorem keeps_jobResult (s : State) (c : Nat) (d : Dest) (v : Nat) (hI : s.memInv = true) : (State.jobResult s c d v).memInv = true := by
  unfold State.jobResult; simp (maxDischargeDepth := 40) +contextual [*]
@[simp] theorem keeps_sreadRun (s : State) (c : Nat) (o : EngOp) (e : EJ) (opened : Bool) (hI : s.memInv = true) : (State.sreadRun s c o e opened).memInv = true := by
  unfold State.sreadRun; (repeat' split) <;> simp (maxDischargeDepth := 40) +contextual [*]
@[simp] theorem keeps_sallocRun (s : State) (c : Nat) (o : EngOp) (e : EJ) (hI : s.memInv = true) : (State.sallocRun s c o e).memInv = true := by
  unfold State.sallocRun; dsimp only; (repeat' split) <;> simp (maxDischargeDepth := 40) +contextual [*]
@[simp] theorem keeps_execSclose (o : EJ) (s : State) (hI : s.memInv = true) : keepsOut (execSclose o s) = true := by
  unfold execSclose; simp (maxDischargeDepth := 40) +contextual [*]
@[simp] theorem keeps_execSfree (o : EJ) (s : State) (hI : s.memInv = true) : keepsOut (execSfree o s) = true := by
  unfold execSfree; simp (maxDischargeDepth := 40) +contextual [*]
@[simp] theorem keeps_execSread (o : EJ) (s : State) (hI : s.memInv = true) : keepsOut (execSread o s) = true := by
  unfold execSread; simp (maxDischargeDepth := 40) +contextual [*]
@[simp] theorem keeps_execSreadO (o : EJ) (s : State) (hI : s.memInv = true) : keepsOut (execSreadO o s) = true := by
  unfold execSreadO; simp (maxDischargeDepth := 40) +contextual [*]
@[simp] theorem keeps_execSalloc (o : EJ) (s : State) (hI : s.memInv = true) : keepsOut (execSalloc o s) = true := by
  unfold execSalloc; simp (maxDischargeDepth := 40) +contextual [*]

/-! ## Tasks -/

@[simp] theorem keeps_setTask (s : State) (id : Nat) (t : Task) (hI : s.memInv = true) : (State.setTask s id t).memInv = true := by
  unfold State.setTask; simp (maxDischargeDepth := 40) +contextual [*]
@[simp] theorem keeps_modTask (s : State) (id : Nat) (f : Task → Task) (hI : s.memInv = true) : (State.modTask s id f).memInv = true := by
  unfold State.modTask; (repeat' split) <;> simp (maxDischargeDepth := 40) +contextual [*]
@[simp] theorem keeps_makeReady (s : State) (id : Nat) (hI : s.memInv = true) : (State.makeReady s id).memInv = true := by
  unfold State.makeReady; (repeat' split) <;> simp (maxDischargeDepth := 40) +contextual [*]
@[simp] theorem keeps_decTask (s : State) (id n : Nat) (hI : s.memInv = true) : (State.decTask s id n).1.memInv = true := by
  unfold State.decTask; (repeat' split) <;> simp (maxDischargeDepth := 40) +contextual [*]
@[simp] theorem keeps_zeroTask (s : State) (id : Nat) (hI : s.memInv = true) : (State.zeroTask s id).1.memInv = true := by
  unfold State.zeroTask; (repeat' split) <;> simp (maxDischargeDepth := 40) +contextual [*]
@[simp] theorem keeps_createAt (s : State) (id : Nat) (t : Task) (hI : s.memInv = true) : (State.createAt s id t).memInv = true := by
  unfold State.createAt; simp (maxDischargeDepth := 40) +contextual [*]
@[simp] theorem keeps_feRead (s : State) (ia n : Nat) (hI : s.memInv = true) : (State.feRead s ia n).memInv = true := by
  unfold State.feRead; simp (maxDischargeDepth := 40) +contextual [*]
@[simp] theorem keeps_enqTemplate (s : State) (asid tid prio dep : Nat) (delta : Nat) (hI : s.memInv = true) : (State.enqTemplate s asid tid prio dep delta).1.memInv = true := by
  unfold State.enqTemplate; dsimp only; (repeat' split) <;> simp (maxDischargeDepth := 40) +contextual [*]
theorem keeps_launchRecs (t : Machine.Task) (l : List Nat) (s : State) (r : State × List (Nat × Nat)) (hI : s.memInv = true)
    (h : State.launchRecs t l s = .ok r) : r.1.memInv = true := by
  induction l generalizing s r with
  | nil => cases h; exact hI
  | cons n l ih =>
    unfold State.launchRecs at h
    split at h
    · exact ih _ _ hI h
    · split at h
      · cases h
      · split at h
        · cases h
        · split at h
          · rename_i he; cases h
            have := ih _ _ (keeps_allocRec _ _ _ _ _ hI) he
            exact this
          · cases h
theorem keeps_writeArecs (s : State) (t : Machine.Task) (ids : List (Nat × Nat)) (u : State) (hI : s.memInv = true)
    (h : s.writeArecs t ids = .ok u) : u.memInv = true := by
  unfold State.writeArecs at h
  split at h
  · cases h
    refine keeps_foldl _ _ _ (fun u e hu => ?_) hI
    split
    · simp [hu]
    · exact hu
  · cases h
@[simp] theorem keeps_nameRecs (s : State) (t : Task) (ids : List (Nat × Nat)) (hI : s.memInv = true) : (State.nameRecs s t ids).memInv = true := by
  unfold State.nameRecs; simp (maxDischargeDepth := 40) +contextual [*]
theorem keeps_prepare (s : State) (id : Nat) (t : Machine.Task) (u : State) (hI : s.memInv = true) (h : s.prepare id t = .ok u) :
    u.memInv = true := by
  unfold State.prepare at h; dsimp only at h
  split at h
  · cases h
  · split at h
    · cases h
    · split at h
      · cases h
      · split at h
        · split at h
          · cases h
          · split at h
            · cases h
            · rename_i he
              split at h
              · cases h
              · rename_i hw; cases h
                have hu := keeps_writeArecs _ _ _ _ (keeps_launchRecs _ _ _ _ hI he) hw
                simp (maxDischargeDepth := 40) [hu]
        · cases h
@[simp] theorem keeps_postHint (s : State) (ident misses base : Nat) (hI : s.memInv = true) : (State.postHint s ident misses base).memInv = true := by
  unfold State.postHint; simp (maxDischargeDepth := 40) +contextual [*]
@[simp] theorem keeps_checkHints (s : State) (task : Nat) (t : Task) (hI : s.memInv = true) : (State.checkHints s task t).memInv = true := by
  unfold State.checkHints; (repeat' split) <;> simp (maxDischargeDepth := 40) +contextual [*]
@[simp] theorem keeps_launchReads (s : State) (t : Task) (hI : s.memInv = true) : (State.launchReads s t).memInv = true := by
  unfold State.launchReads; dsimp only; (repeat' split) <;> simp (maxDischargeDepth := 40) +contextual [*]
@[simp] theorem keeps_checkDone (s : State) (id : Nat) (hI : s.memInv = true) : (State.checkDone s id).memInv = true := by
  unfold State.checkDone; (repeat' split) <;> simp (maxDischargeDepth := 40) +contextual [*]
@[simp] theorem keeps_refuseTask (s : State) (id status : Nat) (hI : s.memInv = true) : (State.refuseTask s id status).memInv = true := by
  unfold State.refuseTask; simp (maxDischargeDepth := 40) +contextual [*]
@[simp] theorem keeps_tileEnds (s : State) (id : Nat) (abandoned : Bool) (hI : s.memInv = true) : (State.tileEnds s id abandoned).memInv = true := by
  unfold State.tileEnds; simp (maxDischargeDepth := 40) +contextual [*]
@[simp] theorem keeps_reportTask (s : State) (id : Nat) (t : Task) (status : Nat) (hI : s.memInv = true) : (State.reportTask s id t status).memInv = true := by
  unfold State.reportTask; (repeat' split) <;> simp (maxDischargeDepth := 40) +contextual [*]
@[simp] theorem keeps_lastTask (s : State) (hI : s.memInv = true) : (State.lastTask s).memInv = true := by
  unfold State.lastTask; simp (maxDischargeDepth := 40) +contextual [*]
@[simp] theorem keeps_execTaskDone (task : Nat) (s : State) (hI : s.memInv = true) : keepsOut (execTaskDone task s) = true := by
  unfold execTaskDone; (repeat' split) <;> simp (maxDischargeDepth := 40) +contextual [*]
@[simp] theorem keeps_releaseTask (s : State) (c : Nat) (o : EngOp) (task : Nat) (hI : s.memInv = true) : (State.releaseTask s c o task).memInv = true := by
  unfold State.releaseTask; simp (maxDischargeDepth := 40) +contextual [*]
@[simp] theorem keeps_tdecRun (s : State) (c : Nat) (o : EngOp) (hI : s.memInv = true) : (State.tdecRun s c o).memInv = true := by
  unfold State.tdecRun; simp (maxDischargeDepth := 40) +contextual [*]
@[simp] theorem keeps_tspawnRun (s : State) (c : Nat) (o : EngOp) (e : EJ) (hI : s.memInv = true) : (State.tspawnRun s c o e).memInv = true := by
  unfold State.tspawnRun; dsimp only; (repeat' split) <;> simp (maxDischargeDepth := 40) +contextual [*]
@[simp] theorem keeps_execTdec (o : EJ) (s : State) (hI : s.memInv = true) : keepsOut (execTdec o s) = true := by
  unfold execTdec; simp (maxDischargeDepth := 40) +contextual [*]
@[simp] theorem keeps_execTspawn (o : EJ) (s : State) (hI : s.memInv = true) : keepsOut (execTspawn o s) = true := by
  unfold execTspawn; simp (maxDischargeDepth := 40) +contextual [*]
@[simp] theorem keeps_execLaunch (h : PktHdr) (lrec id : Nat) (any : Bool) (step : Word) (s : State) (hI : s.memInv = true) : keepsOut (execLaunch h lrec id any step s) = true := by
  unfold execLaunch; dsimp only; (repeat' split) <;> simp (maxDischargeDepth := 40) +contextual [*]
@[simp] theorem keeps_execReady (h : PktHdr) (id : Nat) (s : State) (hI : s.memInv = true) : keepsOut (execReady h id s) = true := by
  unfold execReady; simp (maxDischargeDepth := 40) +contextual [*]
@[simp] theorem keeps_execDec (h : PktHdr) (id n : Nat) (s : State) (hI : s.memInv = true) : keepsOut (execDec h id n s) = true := by
  unfold execDec; simp (maxDischargeDepth := 40) +contextual [*]
@[simp] theorem keeps_execTemplate (h : PktHdr) (tid lrec tcmpl : Nat) (s : State) (hI : s.memInv = true) : keepsOut (execTemplate h tid lrec tcmpl s) = true := by
  unfold execTemplate; simp (maxDischargeDepth := 40) +contextual [*]

/-! ## Walkers -/

theorem wf_declare (p : Nat) (l : List Word) (t : Core × Ctx) (h : Memory.wf t.1.scratch = true) :
    Memory.wf (l.foldl (fun k d => declareHandle p k d) t).1.scratch = true := by
  induction l generalizing t with
  | nil => exact h
  | cons d l ih =>
    refine ih _ ?_
    unfold declareHandle; dsimp only
    split
    · exact h
    · exact Memory.wf_clear _ _ _ h
    · split
      · exact wf_take _ _ _ h
      · exact h
@[simp] theorem keeps_startTile (s : State) (c : Nat) (t : Machine.Task) (id walker n : Nat) (hI : s.memInv = true) :
    (s.startTile c t id walker n).memInv = true := by
  unfold State.startTile; dsimp only
  apply keeps_acquire
  apply keeps_setCtx
  exact keeps_setCore hI _ _ (wf_declare _ _ _ (memInv_core hI _))
@[simp] theorem keeps_setWalker (s : State) (w : Nat) (x : Walker) (hI : s.memInv = true) : (State.setWalker s w x).memInv = true := by
  unfold State.setWalker; simp (maxDischargeDepth := 40) +contextual [*]
@[simp] theorem keeps_freeWalker (s : State) (w : Nat) (hI : s.memInv = true) : (State.freeWalker s w).memInv = true := by
  unfold State.freeWalker; simp (maxDischargeDepth := 40) +contextual [*]
@[simp] theorem keeps_checkDraining (s : State) (id : Nat) (hI : s.memInv = true) : (State.checkDraining s id).memInv = true := by
  unfold State.checkDraining; (repeat' split) <;> simp (maxDischargeDepth := 40) +contextual [*]
@[simp] theorem keeps_issueTile (s : State) (w c : Nat) (x : Walker) (t : Task) (hI : s.memInv = true) : (State.issueTile s w c x t).memInv = true := by
  unfold State.issueTile; simp (maxDischargeDepth := 40) +contextual [*]
@[simp] theorem keeps_execWalkerUpdate (w : Nat) (s : State) (hI : s.memInv = true) : keepsOut (execWalkerUpdate w s) = true := by
  unfold execWalkerUpdate; dsimp only; (repeat' split) <;> simp (maxDischargeDepth := 40) +contextual [*]
@[simp] theorem keeps_dropWalkers (s : State) (hI : s.memInv = true) : (State.dropWalkers s).memInv = true := by
  unfold State.dropWalkers; simp (maxDischargeDepth := 40) +contextual [*]
@[simp] theorem keeps_execForkRequest (die : Nat) (s : State) (hI : s.memInv = true) : keepsOut (execForkRequest die s) = true := by
  unfold execForkRequest; dsimp only; (repeat' split) <;> simp (maxDischargeDepth := 40) +contextual [*]
@[simp] theorem keeps_execDispatch (s : State) (hI : s.memInv = true) : keepsOut (execDispatch s) = true := by
  unfold execDispatch; (repeat' split) <;> simp (maxDischargeDepth := 40) +contextual [*]
@[simp] theorem keeps_execWalkerAssign (task : Nat) (s : State) (hI : s.memInv = true) : keepsOut (execWalkerAssign task s) = true := by
  unfold execWalkerAssign
  split
  · exact hI
  · rename_i t _
    have hl := keeps_launchReads s.settleFe t (keeps_settleFe _ hI)
    dsimp only
    split
    · exact hI
    · split
      · simp [hl]
      · rename_i he
        have hu := keeps_prepare _ _ _ _ hl he
        split
        · split <;> simp (maxDischargeDepth := 40) [hu]
        · exact hl
theorem keeps_restoreAll (s : State) (task : Nat) (l : List (Nat × Nat × Nat × Nat)) (hI : s.memInv = true) :
    (s.restoreAll task l).1.memInv = true := by
  induction l generalizing s with
  | nil => exact hI
  | cons e l ih =>
    obtain ⟨a, b, c, d⟩ := e
    unfold State.restoreAll; split
    · exact ih _ (by simp [hI])
    · exact ih _ hI
@[simp] theorem keeps_execWalkerRestore (task : Nat) (s : State) (hI : s.memInv = true) : keepsOut (execWalkerRestore task s) = true := by
  unfold execWalkerRestore
  split
  · exact hI
  · rename_i t _
    split
    · exact hI
    · have h := keeps_restoreAll s task t.saved hI
      dsimp only
      simp (maxDischargeDepth := 40) [h]
@[simp] theorem keeps_saveWalker (s : State) (w : Nat) (hI : s.memInv = true) : (State.saveWalker s w).memInv = true := by
  unfold State.saveWalker; (repeat' split) <;> simp (maxDischargeDepth := 40) +contextual [*]
@[simp] theorem keeps_execWalkerSave (w : Nat) (s : State) (hI : s.memInv = true) : keepsOut (execWalkerSave w s) = true := by
  unfold execWalkerSave
  (repeat' split) <;> (try refine keeps_foldl _ _ _ (fun t a ht => ?_) ?_) <;> (repeat' split) <;> simp (maxDischargeDepth := 40) +contextual [*]
@[simp] theorem keeps_freeCtx (s : State) (c : Nat) (hI : s.memInv = true) : (State.freeCtx s c).memInv = true := by
  unfold State.freeCtx; simp (maxDischargeDepth := 40) +contextual [*]
@[simp] theorem keeps_execTileRetired (c : Nat) (s : State) (hI : s.memInv = true) : keepsOut (execTileRetired c s) = true := by
  unfold execTileRetired; (repeat' split) <;> simp (maxDischargeDepth := 40) +contextual [*]

/-! ## Spills -/

@[simp] theorem keeps_writeImage (s : State) (area c : Nat) (hI : s.memInv = true) : (State.writeImage s area c).memInv = true := by
  unfold State.writeImage; simp (maxDischargeDepth := 40) +contextual [*]
@[simp] theorem keeps_checkConfig (s : State) (hI : s.memInv = true) : (State.checkConfig s).memInv = true := by
  unfold State.checkConfig; simp (maxDischargeDepth := 40) +contextual [*]
@[simp] theorem keeps_freeArea (s : State) (area : Nat) (hI : s.memInv = true) : (State.freeArea s area).memInv = true := by
  unfold State.freeArea; simp (maxDischargeDepth := 40) +contextual [*]
@[simp] theorem keeps_execContextSwitchStart (w core : Nat) (s : State) (hI : s.memInv = true) : keepsOut (execContextSwitchStart w core s) = true := by
  unfold execContextSwitchStart; (repeat' split) <;> simp (maxDischargeDepth := 40) +contextual [*]
@[simp] theorem keeps_offerTo (s : State) (c : Nat) (w : Option Nat) (hI : s.memInv = true) : (State.offerTo s c w).memInv = true := by
  unfold State.offerTo; (repeat' split) <;> simp (maxDischargeDepth := 40) +contextual [*]
@[simp] theorem keeps_execSpillSave (c : Nat) (s : State) (hI : s.memInv = true) : keepsOut (execSpillSave c s) = true := by
  unfold execSpillSave; dsimp only; (repeat' split) <;> simp (maxDischargeDepth := 40) +contextual [*]
@[simp] theorem keeps_imageStorage (s : State) (area c : Nat) (x : Ctx) (hI : s.memInv = true) : (State.imageStorage s area c x).memInv = true := by
  unfold State.imageStorage; simp (maxDischargeDepth := 40) +contextual [*]
@[simp] theorem keeps_execRefill (c : Nat) (s : State) (hI : s.memInv = true) : keepsOut (execRefill c s) = true := by
  unfold execRefill; dsimp only; (repeat' split) <;> simp (maxDischargeDepth := 40) +contextual [*]
@[simp] theorem keeps_sendAgain (s : State) (c : Nat) (hI : s.memInv = true) : (State.sendAgain s c).memInv = true := by
  unfold State.sendAgain; simp (maxDischargeDepth := 40) +contextual [*]
@[simp] theorem keeps_resume (s : State) (c : Nat) (hI : s.memInv = true) : (State.resume s c).memInv = true := by
  unfold State.resume; simp (maxDischargeDepth := 40) +contextual [*]
@[simp] theorem keeps_sentStores (s : State) (c : Nat) (hI : s.memInv = true) : (State.sentStores s c).memInv = true := by
  unfold State.sentStores
  (repeat' split) <;> (try refine keeps_foldl _ _ _ (fun t a ht => ?_) ?_) <;> (repeat' split) <;> simp (maxDischargeDepth := 40) +contextual [*]
@[simp] theorem keeps_countBegun (s : State) (c : Nat) (hI : s.memInv = true) : (State.countBegun s c).memInv = true := by
  unfold State.countBegun; simp (maxDischargeDepth := 40) +contextual [*]
@[simp] theorem keeps_abandon (s : State) (c : Nat) (hI : s.memInv = true) : (State.abandon s c).memInv = true := by
  unfold State.abandon; simp (maxDischargeDepth := 40) +contextual [*]
@[simp] theorem keeps_abandonImage (s : State) (area : Nat) (hI : s.memInv = true) : (State.abandonImage s area).memInv = true := by
  unfold State.abandonImage; (repeat' split) <;> simp (maxDischargeDepth := 40) +contextual [*]
@[simp] theorem keeps_supervisorFor (h : PktHdr) (names : List Nat) (s : State) {f : Out} (hf : keepsOut f = true) (hI : s.memInv = true) :
    keepsOut (supervisorFor h names s f) = true := keepsOut_ite hf (keeps_complete _ _ _ _ hI)
@[simp] theorem keeps_supervisor (h : PktHdr) (s : State) {f : Out} (hf : keepsOut f = true) (hI : s.memInv = true) :
    keepsOut (supervisor h s f) = true := keeps_supervisorFor h [] s hf hI
@[simp] theorem keeps_notFrozen (s : State) (h : PktHdr) (ctx : Nat) (hI : s.memInv = true) : (State.notFrozen s h ctx).memInv = true := by
  unfold State.notFrozen; simp (maxDischargeDepth := 40) +contextual [*]
@[simp] theorem keeps_execResume (h : PktHdr) (ctx : Nat) (setPc : Bool) (pc : Nat) (regs : List (Nat × Word)) (s : State) (hI : s.memInv = true) : keepsOut (execResume h ctx setPc pc regs s) = true := by
  unfold execResume; simp (maxDischargeDepth := 40) +contextual [*]
@[simp] theorem keeps_execAbandon (h : PktHdr) (ctx : Nat) (s : State) (hI : s.memInv = true) : keepsOut (execAbandon h ctx s) = true := by
  unfold execAbandon; simp (maxDischargeDepth := 40) +contextual [*]
@[simp] theorem keeps_execSwitch (h : PktHdr) (ctx : Nat) (s : State) (hI : s.memInv = true) : keepsOut (execSwitch h ctx s) = true := by
  unfold execSwitch; dsimp only; (repeat' split) <;> simp (maxDischargeDepth := 40) +contextual [*]
@[simp] theorem keeps_execWsave (h : PktHdr) (walker : Nat) (s : State) (hI : s.memInv = true) : keepsOut (execWsave h walker s) = true := by
  unfold execWsave; simp (maxDischargeDepth := 40) +contextual [*]

end Sys2Proof.Machine
end

