-- ==== Sys2Proof/Laws/MemoriesModule.lean ====
section
/-! SUPPORT. Every operation keeps the memories in canonical form (`State.memInv`): the fabric, groups, leases, milestones and what completes after issue. -/

namespace Sys2Proof.Machine

/-! ## Fabric -/

@[simp] theorem keeps_endExpired (s : State) (hI : s.memInv = true) : (State.endExpired s).memInv = true := by
  unfold State.endExpired; simp (maxDischargeDepth := 40) +contextual [*]
@[simp] theorem keeps_answer (s : State) (c id st : Nat) (hI : s.memInv = true) : (State.answer s c id st).memInv = true := by
  unfold State.answer; simp (maxDischargeDepth := 40) +contextual [*]
@[simp] theorem keeps_placeAgain (s : State) (j : Nat × Nat) (flits : List Flit) (fail : Nat) (hI : s.memInv = true) :
    (s.placeAgain j flits fail).memInv = true := by
  unfold State.placeAgain
  split
  · exact hI
  · split
    · exact keeps_reserve _ _ _ _ hI
    · exact keeps_answer _ _ _ _ (keeps_dropFlits _ _ hI)
@[simp] theorem keeps_replace (s : State) (lost : List Placed) (fail : Nat) (hI : s.memInv = true) : (State.replace s lost fail).memInv = true := by
  unfold State.replace; simp (maxDischargeDepth := 40) +contextual [*]
@[simp] theorem keeps_displace (s : State) (p : Placed → Bool) (fail : Nat) (hI : s.memInv = true) : (State.displace s p fail).memInv = true := by
  unfold State.displace; simp (maxDischargeDepth := 40) +contextual [*]
@[simp] theorem keeps_leaseSent (s : State) (j : Option (Nat × Nat)) (hI : s.memInv = true) : (State.leaseSent s j).memInv = true := by
  unfold State.leaseSent; simp (maxDischargeDepth := 40) +contextual [*]
@[simp] theorem keeps_sendFlit (s : State) (e : Placed) (hI : s.memInv = true) : (State.sendFlit s e).memInv = true := by
  unfold State.sendFlit; simp (maxDischargeDepth := 40) +contextual [*]
@[simp] theorem keeps_sendPlaced (s : State) (hI : s.memInv = true) : (State.sendPlaced s).memInv = true := by
  unfold State.sendPlaced; simp (maxDischargeDepth := 40) +contextual [*]
@[simp] theorem keeps_acknowledge (s : State) (hI : s.memInv = true) : (State.acknowledge s).memInv = true := by
  unfold State.acknowledge; simp (maxDischargeDepth := 40) +contextual [*]
@[simp] theorem keeps_execFlitForward (s : State) (hI : s.memInv = true) : keepsOut (execFlitForward s) = true := by
  unfold execFlitForward; simp (maxDischargeDepth := 40) +contextual [*]
@[simp] theorem keeps_endRealigns (s : State) (hI : s.memInv = true) : (s.endRealigns).memInv = true := by
  unfold State.endRealigns
  refine keeps_foldl _ _ _ (fun t e ht => ?_) hI
  refine keeps_foldl _ _ _ (fun t o ht => ?_) ht
  split
  · exact keeps_ite (keeps_answer _ _ _ _ ht) ht
  · exact ht
@[simp] theorem keeps_frameStart (s : State) (hI : s.memInv = true) : (State.frameStart s).memInv = true := by
  unfold State.frameStart; dsimp only; (repeat' split) <;> simp (maxDischargeDepth := 40) +contextual [*]
@[simp] theorem keeps_sample (s : State) (j : Nat × Nat) (p m : Nat) (hI : s.memInv = true) : (State.sample s j p m).memInv = true := by
  unfold State.sample; simp (maxDischargeDepth := 40) +contextual [*]
@[simp] theorem keeps_takeSamples (s : State) (j : Nat × Nat) (mask n : Nat) (hI : s.memInv = true) : (State.takeSamples s j mask n).memInv = true := by
  unfold State.takeSamples
  (repeat' split) <;> (try refine keeps_foldl _ _ _ (fun t a ht => ?_) ?_) <;> (repeat' split) <;> simp (maxDischargeDepth := 40) +contextual [*]
@[simp] theorem keeps_exchanges (s : State) (hI : s.memInv = true) : s.exchanges.memInv = true := by
  unfold State.exchanges; dsimp only
  have h := keeps_foldl (fun t (e : Nat × Ctx) => e.2.eng.foldl (fun (t : State) o => match o.instr with
    | .realign _ => if o.begun ∧ o.pos = 0 then t.takeSamples (e.1, o.id) (cardBits o.card 0x80 0 16) (cardBits o.card 0x80 16 4) else t
    | _ => t) t) s.ctxs s (fun t e ht => keeps_foldl _ _ _ (fun t o ht => by
      split
      · exact keeps_ite (keeps_takeSamples _ _ _ _ ht) ht
      · exact ht) ht) hI
  exact keeps_ite (keeps_takeSamples _ _ _ _ h) h
@[simp] theorem keeps_endExchange (s : State) (hI : s.memInv = true) : (State.endExchange s).memInv = true := by
  unfold State.endExchange; simp (maxDischargeDepth := 40) +contextual [*]
@[simp] theorem keeps_execSlotBoundary (s : State) (hI : s.memInv = true) : keepsOut (execSlotBoundary s) = true := by
  unfold execSlotBoundary; simp (maxDischargeDepth := 40) +contextual [*]
@[simp] theorem keeps_relockPulse (s : State) (port : Nat) (valid : Bool) (frame : Nat) (hI : s.memInv = true) : (State.relockPulse s port valid frame).memInv = true := by
  unfold State.relockPulse; (repeat' split) <;> simp (maxDischargeDepth := 40) +contextual [*]
@[simp] theorem keeps_notePulse (s : State) (port : Nat) (valid : Bool) (frame : Nat) (hI : s.memInv = true) : (State.notePulse s port valid frame).memInv = true := by
  unfold State.notePulse; simp (maxDischargeDepth := 40) +contextual [*]
@[simp] theorem keeps_setCounter (s : State) (new : Nat) (hI : s.memInv = true) : (State.setCounter s new).memInv = true := by
  unfold State.setCounter; simp (maxDischargeDepth := 40) +contextual [*]
@[simp] theorem keeps_followPulse (s : State) (frame : Nat) (hI : s.memInv = true) : (State.followPulse s frame).memInv = true := by
  unfold State.followPulse; simp (maxDischargeDepth := 40) +contextual [*]
@[simp] theorem keeps_timePulse (s : State) (port : Nat) (valid good : Bool) (frame : Nat) (hI : s.memInv = true) : (State.timePulse s port valid good frame).memInv = true := by
  unfold State.timePulse; (repeat' split) <;> simp (maxDischargeDepth := 40) +contextual [*]
@[simp] theorem keeps_execFramePulse (port : Nat) (valid : Bool) (frame : Nat) (s : State) (hI : s.memInv = true) : keepsOut (execFramePulse port valid frame s) = true := by
  unfold execFramePulse; (repeat' split) <;> simp (maxDischargeDepth := 40) +contextual [*]
@[simp] theorem keeps_execRelock (port frame : Nat) (inGuard : Bool) (s : State) (hI : s.memInv = true) : keepsOut (execRelock port frame inGuard s) = true := by
  unfold execRelock; (repeat' split) <;> simp (maxDischargeDepth := 40) +contextual [*]
@[simp] theorem keeps_execPhase2Entry (s : State) (hI : s.memInv = true) : keepsOut (execPhase2Entry s) = true := by
  unfold execPhase2Entry; simp (maxDischargeDepth := 40) +contextual [*]
@[simp] theorem keeps_failPlaced (s : State) (st : Nat) (hI : s.memInv = true) : (State.failPlaced s st).memInv = true := by
  unfold State.failPlaced; simp (maxDischargeDepth := 40) +contextual [*]
@[simp] theorem keeps_failWindowed (s : State) (st : Nat) (hI : s.memInv = true) : (State.failWindowed s st).memInv = true := by
  unfold State.failWindowed; simp (maxDischargeDepth := 40) +contextual [*]
@[simp] theorem keeps_execNosyncEntry (s : State) (hI : s.memInv = true) : keepsOut (execNosyncEntry s) = true := by
  unfold execNosyncEntry; simp (maxDischargeDepth := 40) +contextual [*]
@[simp] theorem keeps_execHoldoverExchange (offs : List Int) (s : State) (hI : s.memInv = true) : keepsOut (execHoldoverExchange offs s) = true := by
  unfold execHoldoverExchange; simp (maxDischargeDepth := 40) +contextual [*]
@[simp] theorem keeps_onPort (p : Nat) (t : State) (hI : t.memInv = true) : keepsOut (onPort p t) = true := by
  unfold onPort; (repeat' split) <;> simp (maxDischargeDepth := 40) +contextual [*]
@[simp] theorem keeps_execPortPause (p : Nat) (s : State) (hI : s.memInv = true) : keepsOut (execPortPause p s) = true := by
  unfold execPortPause; simp (maxDischargeDepth := 40) +contextual [*]
@[simp] theorem keeps_execPortRetrain (p : Nat) (s : State) (hI : s.memInv = true) : keepsOut (execPortRetrain p s) = true := by
  unfold execPortRetrain; simp (maxDischargeDepth := 40) +contextual [*]
@[simp] theorem keeps_execPortFence (p : Nat) (s : State) (hI : s.memInv = true) : keepsOut (execPortFence p s) = true := by
  unfold execPortFence; simp (maxDischargeDepth := 40) +contextual [*]
@[simp] theorem keeps_execPortRejoin (p : Nat) (s : State) (hI : s.memInv = true) : keepsOut (execPortRejoin p s) = true := by
  unfold execPortRejoin; simp (maxDischargeDepth := 40) +contextual [*]
@[simp] theorem keeps_execFlitReceive (port : Nat) (f : Flit) (s : State) (hI : s.memInv = true) : keepsOut (execFlitReceive port f s) = true := by
  unfold execFlitReceive; dsimp only; (repeat' split) <;> simp (maxDischargeDepth := 40) +contextual [*]
@[simp] theorem keeps_countBytes (s : State) (k first len : Nat) (hI : s.memInv = true) : (State.countBytes s k first len).memInv = true := by
  unfold State.countBytes; simp (maxDischargeDepth := 40) +contextual [*]
@[simp] theorem keeps_ack (s : State) (src num st : Nat) (hI : s.memInv = true) : (State.ack s src num st).memInv = true := by
  unfold State.ack; simp (maxDischargeDepth := 40) +contextual [*]
@[simp] theorem keeps_answerMessage (s : State) (m : HeldMsg) (st : Nat) (hI : s.memInv = true) : (State.answerMessage s m st).memInv = true := by
  unfold State.answerMessage; simp (maxDischargeDepth := 40) +contextual [*]
@[simp] theorem keeps_rejectHeld (s : State) (src stream : Nat) (p : HeldMsg → Bool) (hI : s.memInv = true) : (State.rejectHeld s src stream p).memInv = true := by
  unfold State.rejectHeld; simp (maxDischargeDepth := 40) +contextual [*]
@[simp] theorem keeps_askRelease (s : State) (src stream : Nat) (hI : s.memInv = true) : (State.askRelease s src stream).memInv = true := by
  unfold State.askRelease; simp (maxDischargeDepth := 40) +contextual [*]
@[simp] theorem keeps_writeData (s : State) (k first ia : Nat) (f : Flit) (hI : s.memInv = true) : (State.writeData s k first ia f).memInv = true := by
  unfold State.writeData; simp (maxDischargeDepth := 40) +contextual [*]
@[simp] theorem keeps_noteMessage (s : State) (k first n : Nat) (hI : s.memInv = true) : (State.noteMessage s k first n).memInv = true := by
  unfold State.noteMessage; simp (maxDischargeDepth := 40) +contextual [*]
@[simp] theorem keeps_ackData (s : State) (f : Flit) (first : Nat) (hI : s.memInv = true) : (State.ackData s f first).memInv = true := by
  unfold State.ackData; simp (maxDischargeDepth := 40) +contextual [*]
@[simp] theorem keeps_execDataReceive (f : Flit) (s : State) (hI : s.memInv = true) : keepsOut (execDataReceive f s) = true := by
  unfold execDataReceive; dsimp only; (repeat' split) <;> simp (maxDischargeDepth := 40) +contextual [*]
@[simp] theorem keeps_actMessage (s : State) (m : HeldMsg) (hI : s.memInv = true) : (State.actMessage s m).memInv = true := by
  unfold State.actMessage; dsimp only; (repeat' split) <;> simp (maxDischargeDepth := 40) +contextual [*]
@[simp] theorem keeps_takeMessage (s : State) (f : Flit) (hI : s.memInv = true) : (State.takeMessage s f).memInv = true := by
  unfold State.takeMessage; simp (maxDischargeDepth := 40) +contextual [*]
@[simp] theorem keeps_execEnqReceive (f : Flit) (s : State) (hI : s.memInv = true) : keepsOut (execEnqReceive f s) = true := by
  unfold execEnqReceive; simp (maxDischargeDepth := 40) +contextual [*]
@[simp] theorem keeps_execArriveReceive (f : Flit) (s : State) (hI : s.memInv = true) : keepsOut (execArriveReceive f s) = true := by
  unfold execArriveReceive; simp (maxDischargeDepth := 40) +contextual [*]
@[simp] theorem keeps_execHeldMessageRelease (src stream : Nat) (s : State) (hI : s.memInv = true) : keepsOut (execHeldMessageRelease src stream s) = true := by
  unfold execHeldMessageRelease; simp (maxDischargeDepth := 40) +contextual [*]
@[simp] theorem keeps_execStreamAbort (src stream count : Nat) (s : State) (hI : s.memInv = true) : keepsOut (execStreamAbort src stream count s) = true := by
  unfold execStreamAbort; simp (maxDischargeDepth := 40) +contextual [*]

/-! ## Messages -/

@[simp] theorem keeps_sendAbort (s : State) (peer stream : Nat) (hI : s.memInv = true) : (State.sendAbort s peer stream).memInv = true := by
  unfold State.sendAbort; simp (maxDischargeDepth := 40) +contextual [*]
@[simp] theorem keeps_messageEnd (s : State) (c : Nat) (o : EngOp) (st : Nat) (hI : s.memInv = true) : (State.messageEnd s c o st).memInv = true := by
  unfold State.messageEnd; simp (maxDischargeDepth := 40) +contextual [*]
@[simp] theorem keeps_placeMessage (s : State) (c : Nat) (o : EngOp) (flits : List Flit) (f : Fabric → Fabric) (hI : s.memInv = true) :
    (s.placeMessage c o flits f).memInv = true := by
  unfold State.placeMessage
  split
  · exact keeps_messageEnd _ _ _ _ hI
  · exact keeps_modCtx _ _ _ (keeps_modFab _ _ (keeps_reserve _ _ _ _ hI))
@[simp] theorem keeps_releaseCounter (s : State) (c : Nat) (o : EngOp) (hI : s.memInv = true) : (State.releaseCounter s c o).memInv = true := by
  unfold State.releaseCounter; (repeat' split) <;> simp (maxDischargeDepth := 40) +contextual [*]
@[simp] theorem keeps_messageBegin (s : State) (c : Nat) (o : EngOp) (hI : s.memInv = true) : (State.messageBegin s c o).memInv = true := by
  unfold State.messageBegin; dsimp only; (repeat' split) <;> simp (maxDischargeDepth := 40) +contextual [*]
@[simp] theorem keeps_messageRun (s : State) (c : Nat) (o : EngOp) (hI : s.memInv = true) : (State.messageRun s c o).memInv = true := by
  unfold State.messageRun; (repeat' split) <;> simp (maxDischargeDepth := 40) +contextual [*]
@[simp] theorem keeps_realignRun (s : State) (c : Nat) (o : EngOp) (hI : s.memInv = true) : (State.realignRun s c o).memInv = true := by
  unfold State.realignRun; dsimp only; (repeat' split) <;> simp (maxDischargeDepth := 40) +contextual [*]
@[simp] theorem keeps_execMsend (o : EJ) (s : State) (hI : s.memInv = true) : keepsOut (execMsend o s) = true := by
  unfold execMsend; simp (maxDischargeDepth := 40) +contextual [*]
@[simp] theorem keeps_execEnq (o : EJ) (s : State) (hI : s.memInv = true) : keepsOut (execEnq o s) = true := by
  unfold execEnq; simp (maxDischargeDepth := 40) +contextual [*]
@[simp] theorem keeps_execArrive (o : EJ) (s : State) (hI : s.memInv = true) : keepsOut (execArrive o s) = true := by
  unfold execArrive; simp (maxDischargeDepth := 40) +contextual [*]
@[simp] theorem keeps_execRealign (o : EJ) (s : State) (hI : s.memInv = true) : keepsOut (execRealign o s) = true := by
  unfold execRealign; simp (maxDischargeDepth := 40) +contextual [*]

/-! ## Groups -/

@[simp] theorem keeps_setGroup (s : State) (key : Nat) (g : Group) (hI : s.memInv = true) : (State.setGroup s key g).memInv = true := by
  unfold State.setGroup; simp (maxDischargeDepth := 40) +contextual [*]
@[simp] theorem keeps_forgetGreds (s : State) (asid gid : Nat) (hI : s.memInv = true) : (State.forgetGreds s asid gid).memInv = true := by
  unfold State.forgetGreds; simp (maxDischargeDepth := 40) +contextual [*]
@[simp] theorem keeps_keepOutcomes (s : State) (c id asid gid : Nat) (hI : s.memInv = true) : (State.keepOutcomes s c id asid gid).memInv = true := by
  unfold State.keepOutcomes
  (repeat' split) <;> first
    | exact hI
    | exact memInv_of hI rfl rfl rfl
@[simp] theorem keeps_armGroup (s : State) (c : Nat) (o : EngOp) (mlist : List Nat) (hI : s.memInv = true) : (State.armGroup s c o mlist).memInv = true := by
  unfold State.armGroup; simp (maxDischargeDepth := 40) +contextual [*]
@[simp] theorem keeps_grpsetRun (s : State) (c : Nat) (o : EngOp) (hI : s.memInv = true) : (State.grpsetRun s c o).memInv = true := by
  unfold State.grpsetRun; dsimp only; (repeat' split) <;> simp (maxDischargeDepth := 40) +contextual [*]
@[simp] theorem keeps_execGroupPhaseComplete (asid gid phase : Nat) (lost : Bool) (s : State) (hI : s.memInv = true) : keepsOut (execGroupPhaseComplete asid gid phase lost s) = true := by
  unfold execGroupPhaseComplete; dsimp only; (repeat' split) <;> simp (maxDischargeDepth := 40) +contextual [*]
@[simp] theorem keeps_gredEnd (s : State) (c : Nat) (o : EngOp) (count status : Nat) (hI : s.memInv = true) : (State.gredEnd s c o count status).memInv = true := by
  unfold State.gredEnd; simp (maxDischargeDepth := 40) +contextual [*]
@[simp] theorem keeps_contributePhase (s : State) (c : Nat) (o : EngOp) (key : Nat) (g : Group) (v : Nat) (hI : s.memInv = true) : (State.contributePhase s c o key g v).memInv = true := by
  unfold State.contributePhase; simp (maxDischargeDepth := 40) +contextual [*]
@[simp] theorem keeps_gredRun (s : State) (c : Nat) (o : EngOp) (hI : s.memInv = true) : (State.gredRun s c o).memInv = true := by
  unfold State.gredRun; dsimp only; (repeat' split) <;> simp (maxDischargeDepth := 40) +contextual [*]
@[simp] theorem keeps_gmldWrite (s : State) (c : Nat) (o : EngOp) (status v : Nat) (hI : s.memInv = true) :
    (s.gmldWrite c o status v).memInv = true := by
  unfold State.gmldWrite; dsimp only
  split
  · simp [hI]
  · simp [hI]
  · rename_i he
    have ht := keeps_tryWrite _ _ _ _ _ _ hI he
    simp [ht]
@[simp] theorem keeps_gmldRun (s : State) (c : Nat) (o : EngOp) (hI : s.memInv = true) : (State.gmldRun s c o).memInv = true := by
  unfold State.gmldRun
  generalize gsKept o.card = k
  generalize o.vec.toNat = e
  generalize o.answer = a
  have h1 (st v : Nat) := keeps_gmldWrite s c o st v hI
  have h2 (st : Nat) := keeps_jobEnd s c o st hI
  dsimp only
  repeat' split
  all_goals first
    | with_reducible exact h2 _
    | with_reducible exact h1 _ _
    | with_reducible exact hI
@[simp] theorem keeps_loseMember (s : State) (id : Nat) (hI : s.memInv = true) : (State.loseMember s id).memInv = true := by
  unfold State.loseMember; simp (maxDischargeDepth := 40) +contextual [*]
@[simp] theorem keeps_execGrpset (o : EJ) (s : State) (hI : s.memInv = true) : keepsOut (execGrpset o s) = true := by
  unfold execGrpset; simp (maxDischargeDepth := 40) +contextual [*]
@[simp] theorem keeps_execGred (o : EJ) (s : State) (hI : s.memInv = true) : keepsOut (execGred o s) = true := by
  unfold execGred; simp (maxDischargeDepth := 40) +contextual [*]
@[simp] theorem keeps_execGmld (o : EJ) (s : State) (hI : s.memInv = true) : keepsOut (execGmld o s) = true := by
  unfold execGmld; simp (maxDischargeDepth := 40) +contextual [*]

/-! ## Leases -/

@[simp] theorem keeps_evictFrame (s : State) (f : Nat) (hI : s.memInv = true) : (State.evictFrame s f).memInv = true := by
  unfold State.evictFrame; simp (maxDischargeDepth := 40) +contextual [*]
@[simp] theorem keeps_evictFrames (s : State) (p : Nat × PoolFrame → Bool) (hI : s.memInv = true) : (State.evictFrames s p).memInv = true := by
  unfold State.evictFrames; simp (maxDischargeDepth := 40) +contextual [*]
@[simp] theorem keeps_evictTo (s : State) (l : List (Nat × PoolFrame)) (hI : s.memInv = true) : (s.evictTo l).memInv = true := by
  induction l generalizing s with
  | nil => exact hI
  | cons e l ih =>
    unfold State.evictTo; split
    · exact hI
    · exact ih _ (keeps_evictFrame _ _ hI)
@[simp] theorem keeps_shrink (s : State) (hI : s.memInv = true) : (State.shrink s).memInv = true := by
  unfold State.shrink
  (repeat' split) <;> (try refine keeps_foldl _ _ _ (fun t a ht => ?_) ?_) <;> (repeat' split) <;> simp (maxDischargeDepth := 40) +contextual [*]
@[simp] theorem keeps_setLease (s : State) (l : Nat) (x : Lease) (hI : s.memInv = true) : (State.setLease s l x).memInv = true := by
  unfold State.setLease; simp (maxDischargeDepth := 40) +contextual [*]
@[simp] theorem keeps_dropLease (s : State) (l : Nat) (hI : s.memInv = true) : (State.dropLease s l).memInv = true := by
  unfold State.dropLease; simp (maxDischargeDepth := 40) +contextual [*]
@[simp] theorem keeps_leaseMessage (s : State) (job : Option (Nat × Nat)) (cap : Word128) (off : Nat) (step : Word) (hI : s.memInv = true) : (State.leaseMessage s job cap off step).memInv = true := by
  unfold State.leaseMessage; simp (maxDischargeDepth := 40) +contextual [*]
@[simp] theorem keeps_releaseLease (s : State) (l : Nat) (hI : s.memInv = true) : (State.releaseLease s l).memInv = true := by
  unfold State.releaseLease; (repeat' split) <;> simp (maxDischargeDepth := 40) +contextual [*]
@[simp] theorem keeps_askLease (s : State) (l asid : Nat) (cap : Word128) (off len : Nat) (write : Bool) (job : Option (Nat × Nat)) (sheet : Option (Word × Nat)) (step : Word) (hI : s.memInv = true) : (State.askLease s l asid cap off len write job sheet step).memInv = true := by
  unfold State.askLease; simp (maxDischargeDepth := 40) +contextual [*]
@[simp] theorem keeps_lacqRun (s : State) (c : Nat) (o : EngOp) (write : Bool) (hI : s.memInv = true) : (State.lacqRun s c o write).memInv = true := by
  unfold State.lacqRun; (repeat' split) <;> simp (maxDischargeDepth := 40) +contextual [*]
@[simp] theorem keeps_lrelRun (s : State) (c : Nat) (o : EngOp) (hI : s.memInv = true) : (State.lrelRun s c o).memInv = true := by
  unfold State.lrelRun; simp (maxDischargeDepth := 40) +contextual [*]
@[simp] theorem keeps_execLacq (o : EJ) (s : State) (hI : s.memInv = true) : keepsOut (execLacq o s) = true := by
  unfold execLacq; simp (maxDischargeDepth := 40) +contextual [*]
@[simp] theorem keeps_execLrel (o : EJ) (s : State) (hI : s.memInv = true) : keepsOut (execLrel o s) = true := by
  unfold execLrel; simp (maxDischargeDepth := 40) +contextual [*]
@[simp] theorem keeps_setSheet (s : State) (asid : Nat) (step : Word) (x : Sheet) (hI : s.memInv = true) : (State.setSheet s asid step x).memInv = true := by
  unfold State.setSheet; simp (maxDischargeDepth := 40) +contextual [*]
@[simp] theorem keeps_entryMark (s : State) (ia i state cause : Nat) (hI : s.memInv = true) : (State.entryMark s ia i state cause).memInv = true := by
  unfold State.entryMark; simp (maxDischargeDepth := 40) +contextual [*]
@[simp] theorem keeps_entryDone (s : State) (asid : Nat) (step : Word) (i state cause : Nat) (hI : s.memInv = true) : (State.entryDone s asid step i state cause).memInv = true := by
  unfold State.entryDone; (repeat' split) <;> simp (maxDischargeDepth := 40) +contextual [*]
@[simp] theorem keeps_frameRoom (s : State) (cls n : Nat) (hI : s.memInv = true) : (s.frameRoom cls n).2.memInv = true := by
  induction n generalizing s with
  | zero => exact hI
  | succ n ih =>
    unfold State.frameRoom
    split
    · exact hI
    · exact ih _ (keeps_evictFrame _ _ hI)
    · exact hI
@[simp] theorem keeps_takeFrame (s : State) (cls : Nat) (hI : s.memInv = true) : (s.takeFrame cls).2.memInv = true :=
  keeps_frameRoom _ _ _ hI
@[simp] theorem keeps_tierFill (s : State) (asid : Nat) (r : RouteEntry) (f : Nat) (hI : s.memInv = true) : (State.tierFill s asid r f).memInv = true := by
  unfold State.tierFill; simp (maxDischargeDepth := 40) +contextual [*]
@[simp] theorem keeps_fillFrame (s : State) (asid lease : Nat) (step : Word) (r : RouteEntry) (off : Nat) (hI : s.memInv = true) :
    (s.fillFrame asid lease step r off).2.memInv = true := by
  unfold State.fillFrame
  split
  · simp [hI]
  · have h := keeps_takeFrame s (s.classOf asid) hI
    split
    · rename_i he; rw [he] at h; exact h
    · rename_i he; rw [he] at h
      simp (maxDischargeDepth := 40) [h]
@[simp] theorem keeps_fillPages (s : State) (asid lease : Nat) (step : Word) (r : RouteEntry) (n i : Nat) (hI : s.memInv = true) :
    (s.fillPages asid lease step r n i).2.memInv = true := by
  induction n generalizing s i with
  | zero => exact hI
  | succ n ih =>
    have h := keeps_fillFrame s asid lease step r (r.off + 0x10000 * i) hI
    unfold State.fillPages
    split
    · rename_i he; rw [he] at h; exact ih _ _ h
    · rename_i he; rw [he] at h; exact h
@[simp] theorem keeps_failEntry (s : State) (asid : Nat) (step : Word) (i : Nat) (r : RouteEntry) (cause : Nat) (hI : s.memInv = true) : (State.failEntry s asid step i r cause).memInv = true := by
  unfold State.failEntry; simp (maxDischargeDepth := 40) +contextual [*]
@[simp] theorem keeps_fetchRecord (s : State) (asid : Nat) (step : Word) (r : RouteEntry) (hI : s.memInv = true) : (State.fetchRecord s asid step r).memInv = true := by
  unfold State.fetchRecord; simp (maxDischargeDepth := 40) +contextual [*]
@[simp] theorem keeps_loadRecord (s : State) (asid : Nat) (step : Word) (r : RouteEntry) (hI : s.memInv = true) : (State.loadRecord s asid step r).2.memInv = true := by
  unfold State.loadRecord; (repeat' split) <;> simp (maxDischargeDepth := 40) +contextual [*]
@[simp] theorem keeps_fillEntry (s : State) (asid : Nat) (step : Word) (i lease : Nat) (r : RouteEntry) (hI : s.memInv = true) :
    (s.fillEntry asid step i lease r).memInv = true := by
  unfold State.fillEntry
  refine keeps_viaMessage _ _ _ _ _ _ (fun t ht => ?_) hI
  apply keeps_ite (keeps_failEntry _ _ _ _ _ _ ht)
  have h : (if r.kind = 0 then t.fillPages asid lease step r (r.len / 0x10000) 0 else t.loadRecord asid step r).2.memInv = true := by
    split
    · exact keeps_fillPages _ _ _ _ _ _ _ ht
    · exact keeps_loadRecord _ _ _ _ ht
  exact keeps_ite (keeps_entryDone _ _ _ _ _ _ h) (keeps_failEntry _ _ _ _ _ _ h)
@[simp] theorem keeps_doEntry (s : State) (asid : Nat) (step : Word) (x : Sheet) (i : Nat) (hI : s.memInv = true) : (State.doEntry s asid step x i).memInv = true := by
  unfold State.doEntry; dsimp only; (repeat' split) <;> simp (maxDischargeDepth := 40) +contextual [*]
@[simp] theorem keeps_execRouteSheetEntry (asid step entry : Nat) (s : State) (hI : s.memInv = true) : keepsOut (execRouteSheetEntry asid step entry s) = true := by
  unfold execRouteSheetEntry; dsimp only; (repeat' split) <;> simp (maxDischargeDepth := 40) +contextual [*]
@[simp] theorem keeps_entriesPending (s : State) (ia : Nat) (l : List Nat) (hI : s.memInv = true) : (State.entriesPending s ia l).memInv = true := by
  unfold State.entriesPending; simp (maxDischargeDepth := 40) +contextual [*]
@[simp] theorem keeps_execRouteRecordRetry (asid step : Nat) (s : State) (hI : s.memInv = true) : keepsOut (execRouteRecordRetry asid step s) = true := by
  unfold execRouteRecordRetry; dsimp only; (repeat' split) <;> simp (maxDischargeDepth := 40) +contextual [*]
@[simp] theorem keeps_execRoute (h : PktHdr) (sheet : Nat) (s : State) (hI : s.memInv = true) : keepsOut (execRoute h sheet s) = true := by
  unfold execRoute; simp (maxDischargeDepth := 40) +contextual [*]
@[simp] theorem keeps_leaseAnswer (s : State) (l : Nat) (x : Lease) (st : Nat) (hI : s.memInv = true) : (State.leaseAnswer s l x st).memInv = true := by
  unfold State.leaseAnswer; dsimp only; (repeat' split) <;> simp (maxDischargeDepth := 40) +contextual [*]
@[simp] theorem keeps_execLeaseGrant (lease : Nat) (granted : Bool) (s : State) (hI : s.memInv = true) : keepsOut (execLeaseGrant lease granted s) = true := by
  unfold execLeaseGrant; (repeat' split) <;> simp (maxDischargeDepth := 40) +contextual [*]
@[simp] theorem keeps_execLeaseRenewal (lease : Nat) (accepted : Bool) (s : State) (hI : s.memInv = true) : keepsOut (execLeaseRenewal lease accepted s) = true := by
  unfold execLeaseRenewal; (repeat' split) <;> simp (maxDischargeDepth := 40) +contextual [*]
@[simp] theorem keeps_discardParties (s : State) (l : List (Nat × Word)) (hI : s.memInv = true) : (State.discardParties s l).memInv = true := by
  unfold State.discardParties; simp (maxDischargeDepth := 40) +contextual [*]
@[simp] theorem keeps_discardAll (s : State) (hI : s.memInv = true) : (State.discardAll s).memInv = true := by
  unfold State.discardAll; simp (maxDischargeDepth := 40) +contextual [*]
@[simp] theorem keeps_poolRemoves (s : State) (hI : s.memInv = true) : (State.poolRemoves s).memInv = true := by
  unfold State.poolRemoves; simp (maxDischargeDepth := 40) +contextual [*]
@[simp] theorem keeps_poolLapses (s : State) (hI : s.memInv = true) : (State.poolLapses s).memInv = true := by
  unfold State.poolLapses; simp (maxDischargeDepth := 40) +contextual [*]
@[simp] theorem keeps_runOut (s : State) (l : Nat) (x : Lease) (hI : s.memInv = true) : (State.runOut s l x).memInv = true := by
  unfold State.runOut; simp (maxDischargeDepth := 40) +contextual [*]
@[simp] theorem keeps_execLeaseEnd (lease : Nat) (s : State) (hI : s.memInv = true) : keepsOut (execLeaseEnd lease s) = true := by
  unfold execLeaseEnd; dsimp only; (repeat' split) <;> simp (maxDischargeDepth := 40) +contextual [*]
@[simp] theorem keeps_execLeaseRecall (objid lo len : Nat) (s : State) (hI : s.memInv = true) : keepsOut (execLeaseRecall objid lo len s) = true := by
  unfold execLeaseRecall; simp (maxDischargeDepth := 40) +contextual [*]
@[simp] theorem keeps_execQuota (h : PktHdr) (cls : Nat) (w0 w1 : Word) (s : State) (hI : s.memInv = true) : keepsOut (execQuota h cls w0 w1 s) = true := by
  unfold execQuota; simp (maxDischargeDepth := 40) +contextual [*]
@[simp] theorem keeps_execConfig (h : PktHdr) (size spillBase areas : Nat) (s : State) (hI : s.memInv = true) : keepsOut (execConfig h size spillBase areas s) = true := by
  unfold execConfig; simp (maxDischargeDepth := 40) +contextual [*]

/-! ## Milestones -/

@[simp] theorem keeps_foldDeltas (s : State) (asid : Nat) (step : Word) (hI : s.memInv = true) : (State.foldDeltas s asid step).memInv = true := by
  unfold State.foldDeltas; simp (maxDischargeDepth := 40) +contextual [*]
@[simp] theorem keeps_foldFrames (s : State) (token : Nat) (f : Folded) (hI : s.memInv = true) : (State.foldFrames s token f).memInv = true := by
  unfold State.foldFrames; simp (maxDischargeDepth := 40) +contextual [*]
@[simp] theorem keeps_applyFolds (s : State) (step : Word) (hI : s.memInv = true) : (State.applyFolds s step).memInv = true := by
  unfold State.applyFolds
  (repeat' split) <;> (try refine keeps_foldl _ _ _ (fun t a ht => ?_) ?_) <;> (repeat' split) <;> simp (maxDischargeDepth := 40) +contextual [*]
@[simp] theorem keeps_commitSteps (s : State) (l : List Word) (hI : s.memInv = true) : (State.commitSteps s l).memInv = true := by
  unfold State.commitSteps; simp (maxDischargeDepth := 40) +contextual [*]
@[simp] theorem keeps_setMilestone (s : State) (asid : Nat) (m : Milestone) (hI : s.memInv = true) : (State.setMilestone s asid m).memInv = true := by
  unfold State.setMilestone; simp (maxDischargeDepth := 40) +contextual [*]
@[simp] theorem keeps_modAspace (s : State) (asid : Nat) (f : Aspace → Aspace) (hI : s.memInv = true) : (State.modAspace s asid f).memInv = true := by
  unfold State.modAspace; simp (maxDischargeDepth := 40) +contextual [*]
@[simp] theorem keeps_closeAll (s : State) (asid : Nat) (l : List Nat) (hI : s.memInv = true) : (State.closeAll s asid l).1.memInv = true := by
  unfold State.closeAll; simp (maxDischargeDepth := 40) +contextual [*]
@[simp] theorem keeps_writeBackRec (s : State) (asid : Nat) (step : Word) (e : Nat × Word128 × Nat) (hI : s.memInv = true) : (State.writeBackRec s asid step e).memInv = true := by
  unfold State.writeBackRec; (repeat' split) <;> simp (maxDischargeDepth := 40) +contextual [*]
@[simp] theorem keeps_commitMessage (s : State) (asid : Nat) (step : Word) (count : Option Nat) (hI : s.memInv = true) : (State.commitMessage s asid step count).memInv = true := by
  unfold State.commitMessage; simp (maxDischargeDepth := 40) +contextual [*]
@[simp] theorem keeps_sendCommit (s : State) (asid : Nat) (m : Milestone) (hI : s.memInv = true) : (State.sendCommit s asid m).memInv = true := by
  unfold State.sendCommit; simp (maxDischargeDepth := 40) +contextual [*]
@[simp] theorem keeps_stepMilestone (s : State) (asid : Nat) (m : Milestone) (hI : s.memInv = true) : (State.stepMilestone s asid m).memInv = true := by
  unfold State.stepMilestone; simp (maxDischargeDepth := 40) +contextual [*]
@[simp] theorem keeps_joinMilestone (s : State) (c : Nat) (o : EngOp) (m : Milestone) (hI : s.memInv = true) : (State.joinMilestone s c o m).memInv = true := by
  unfold State.joinMilestone; simp (maxDischargeDepth := 40) +contextual [*]
@[simp] theorem keeps_mstoneRun (s : State) (c : Nat) (o : EngOp) (hI : s.memInv = true) : (State.mstoneRun s c o).memInv = true := by
  unfold State.mstoneRun; dsimp only; (repeat' split) <;> simp (maxDischargeDepth := 40) +contextual [*]
@[simp] theorem keeps_execMstone (o : EJ) (s : State) (hI : s.memInv = true) : keepsOut (execMstone o s) = true := by
  unfold execMstone; simp (maxDischargeDepth := 40) +contextual [*]
@[simp] theorem keeps_endSheetLeases (s : State) (asid : Nat) (next : Word) (hI : s.memInv = true) : (State.endSheetLeases s asid next).memInv = true := by
  unfold State.endSheetLeases; simp (maxDischargeDepth := 40) +contextual [*]
@[simp] theorem keeps_reloadEntries (s : State) (asid : Nat) (step : Word) (e : Nat × Word128 × Nat) (hI : s.memInv = true) : (State.reloadEntries s asid step e).memInv = true := by
  unfold State.reloadEntries; simp (maxDischargeDepth := 40) +contextual [*]
@[simp] theorem keeps_freeStepRecs (s : State) (asid : Nat) (step : Word) (hI : s.memInv = true) : (State.freeStepRecs s asid step).memInv = true := by
  unfold State.freeStepRecs
  (repeat' split) <;> (try refine keeps_foldl _ _ _ (fun t a ht => ?_) ?_) <;> (repeat' split) <;> simp (maxDischargeDepth := 40) +contextual [*]
@[simp] theorem keeps_endMilestone (s : State) (asid : Nat) (m : Milestone) (status : Nat) (hI : s.memInv = true) : (State.endMilestone s asid m status).memInv = true := by
  unfold State.endMilestone; dsimp only; (repeat' split) <;> simp (maxDischargeDepth := 40) +contextual [*]
@[simp] theorem keeps_endCommitted (s : State) (asid : Nat) (m : Milestone) (hI : s.memInv = true) : (State.endCommitted s asid m).memInv = true := by
  unfold State.endCommitted; simp (maxDischargeDepth := 40) +contextual [*]
@[simp] theorem keeps_commitTaken (s : State) (asid : Nat) (m : Milestone) (ok : Bool) (hI : s.memInv = true) : (State.commitTaken s asid m ok).memInv = true := by
  unfold State.commitTaken; simp (maxDischargeDepth := 40) +contextual [*]
@[simp] theorem keeps_execCommitAnswer (asid : Nat) (step : Word) (ok : Bool) (s : State) (hI : s.memInv = true) : keepsOut (execCommitAnswer asid step ok s) = true := by
  unfold execCommitAnswer; (repeat' split) <;> simp (maxDischargeDepth := 40) +contextual [*]
@[simp] theorem keeps_suspendUnit (s : State) (c : Nat) (u : MemUnit) (cause sub faddr uaddr objid : Nat) (hI : s.memInv = true) : (State.suspendUnit s c u cause sub faddr uaddr objid).memInv = true := by
  unfold State.suspendUnit; simp (maxDischargeDepth := 40) +contextual [*]
@[simp] theorem keeps_rejectUnit (s : State) (c : Nat) (u : MemUnit) (hI : s.memInv = true) : (State.rejectUnit s c u).memInv = true := by
  unfold State.rejectUnit; (repeat' split) <;> simp (maxDischargeDepth := 40) +contextual [*]
@[simp] theorem keeps_execPoolWriteAcknowledgement (c id : Nat) (s : State) (hI : s.memInv = true) : keepsOut (execPoolWriteAcknowledgement c id s) = true := by
  unfold execPoolWriteAcknowledgement; (repeat' split) <;> simp (maxDischargeDepth := 40) +contextual [*]
@[simp] theorem keeps_memberRecord (s : State) (code epoch : Nat) (hI : s.memInv = true) : (State.memberRecord s code epoch).memInv = true := by
  unfold State.memberRecord; simp (maxDischargeDepth := 40) +contextual [*]
@[simp] theorem keeps_applyAdd (s : State) (epoch id : Nat) (hI : s.memInv = true) : (State.applyAdd s epoch id).memInv = true := by
  unfold State.applyAdd; dsimp only; (repeat' split) <;> simp (maxDischargeDepth := 40) +contextual [*]
@[simp] theorem keeps_execMembershipAdd (epoch id : Nat) (s : State) (hI : s.memInv = true) : keepsOut (execMembershipAdd epoch id s) = true := by
  unfold execMembershipAdd
  (repeat' split) <;> (try refine keeps_foldl _ _ _ (fun t a ht => ?_) ?_) <;> (repeat' split) <;> simp (maxDischargeDepth := 40) +contextual [*]
@[simp] theorem keeps_rejectJobs (s : State) (p : EngOp → Bool) (hI : s.memInv = true) : (State.rejectJobs s p).memInv = true := by
  unfold State.rejectJobs; simp (maxDischargeDepth := 40) +contextual [*]
@[simp] theorem keeps_removePeer (s : State) (id : Nat) (hI : s.memInv = true) : (State.removePeer s id).memInv = true := by
  unfold State.removePeer; simp (maxDischargeDepth := 40) +contextual [*]
@[simp] theorem keeps_endLeases (s : State) (hI : s.memInv = true) : (State.endLeases s).memInv = true := by
  unfold State.endLeases
  (repeat' split) <;> (try refine keeps_foldl _ _ _ (fun t a ht => ?_) ?_) <;> (repeat' split) <;> simp (maxDischargeDepth := 40) +contextual [*]
@[simp] theorem keeps_removeSelf (s : State) (hI : s.memInv = true) : (State.removeSelf s).memInv = true := by
  unfold State.removeSelf; simp (maxDischargeDepth := 40) +contextual [*]
@[simp] theorem keeps_applyRemove (s : State) (epoch id : Nat) (hI : s.memInv = true) : (State.applyRemove s epoch id).memInv = true := by
  unfold State.applyRemove; dsimp only; (repeat' split) <;> simp (maxDischargeDepth := 40) +contextual [*]
@[simp] theorem keeps_execMembershipRemove (epoch id : Nat) (s : State) (hI : s.memInv = true) : keepsOut (execMembershipRemove epoch id s) = true := by
  unfold execMembershipRemove
  (repeat' split) <;> (try refine keeps_foldl _ _ _ (fun t a ht => ?_) ?_) <;> (repeat' split) <;> simp (maxDischargeDepth := 40) +contextual [*]

/-! ## Completions -/

@[simp] theorem keeps_runJob (s : State) (c : Nat) (o : EngOp) (hI : s.memInv = true) : (State.runJob s c o).memInv = true := by
  unfold State.runJob; (repeat' split) <;> simp (maxDischargeDepth := 40) +contextual [*]
@[simp] theorem keeps_execEngineJobComplete (c id : Nat) (s : State) (hI : s.memInv = true) : keepsOut (execEngineJobComplete c id s) = true := by
  unfold execEngineJobComplete; simp (maxDischargeDepth := 40) +contextual [*]
@[simp] theorem keeps_execHiddenResultWrite (c id : Nat) (s : State) (hI : s.memInv = true) : keepsOut (execHiddenResultWrite c id s) = true := by
  unfold execHiddenResultWrite; (repeat' split) <;> simp (maxDischargeDepth := 40) +contextual [*]
@[simp] theorem keeps_faultOp (s : State) (c id : Nat) (hI : s.memInv = true) : (s.faultOp c id).memInv = true := by
  have hd := keeps_execDrainOpComplete c id s hI
  unfold State.faultOp
  split
  · exact hI
  · rename_i o _
    split
    · exact hI
    · have key : ∀ t : State, t.memInv = true → (match (t.ctx c).engOp id with
          | some p => if p.suspended then t else s
          | none => s).memInv = true := by
        intro t ht
        split
        · exact keeps_ite ht hI
        · exact hI
      apply key
      split
      · exact keeps_runJob _ _ _ hI
      · generalize execDrainOpComplete c id s = u at hd ⊢
        cases u with
        | next t => exact hd
        | fault _ => exact hI
        | refused _ => exact hI
      · exact hI
@[simp] theorem keeps_execPageFault (c id : Nat) (s : State) (hI : s.memInv = true) : keepsOut (execPageFault c id s) = true := by
  unfold execPageFault; (repeat' split) <;> simp (maxDischargeDepth := 40) +contextual [*]
@[simp] theorem keeps_execPoolReject (c id : Nat) (s : State) (hI : s.memInv = true) : keepsOut (execPoolReject c id s) = true := by
  unfold execPoolReject; (repeat' split) <;> simp (maxDischargeDepth := 40) +contextual [*]
@[simp] theorem keeps_bindHandle (s : State) (c : Nat) (e : Nat × Nat × Nat × Nat) (hI : s.memInv = true) : (State.bindHandle s c e).memInv = true := by
  unfold State.bindHandle; dsimp only; (repeat' split) <;> simp (maxDischargeDepth := 40) +contextual [*]
@[simp] theorem keeps_execHallocComplete (c h : Nat) (s : State) (hI : s.memInv = true) : keepsOut (execHallocComplete c h s) = true := by
  unfold execHallocComplete; (repeat' split) <;> simp (maxDischargeDepth := 40) +contextual [*]
@[simp] theorem keeps_execHandleStorageRelease (c h : Nat) (s : State) (hI : s.memInv = true) : keepsOut (execHandleStorageRelease c h s) = true := by
  unfold execHandleStorageRelease; (repeat' split) <;> simp (maxDischargeDepth := 40) +contextual [*]

/-! ## Issue events -/

@[simp] theorem keeps_execLanding (c : Nat) (s : State) (hI : s.memInv = true) : keepsOut (execLanding c s) = true := by
  unfold execLanding; simp (maxDischargeDepth := 40) +contextual [*]
@[simp] theorem keeps_execLoopEndMark (c : Nat) (s : State) (hI : s.memInv = true) : keepsOut (execLoopEndMark c s) = true := by
  unfold execLoopEndMark; simp (maxDischargeDepth := 40) +contextual [*]
@[simp] theorem keeps_execSegmentBoundaryMark (c : Nat) (s : State) (hI : s.memInv = true) : keepsOut (execSegmentBoundaryMark c s) = true := by
  unfold execSegmentBoundaryMark; simp (maxDischargeDepth := 40) +contextual [*]
@[simp] theorem keeps_execSegmentMiss (c : Nat) (s : State) (hI : s.memInv = true) : keepsOut (execSegmentMiss c s) = true := by
  unfold execSegmentMiss; (repeat' split) <;> simp (maxDischargeDepth := 40) +contextual [*]
@[simp] theorem keeps_endCopy (s : State) (k f : Nat) (hI : s.memInv = true) : (State.endCopy s k f).memInv = true := by
  unfold State.endCopy; dsimp only; (repeat' split) <;> simp (maxDischargeDepth := 40) +contextual [*]
@[simp] theorem keeps_missFail (s : State) (code n c : Nat) (hI : s.memInv = true) : (State.missFail s code n c).memInv = true := by
  unfold State.missFail; (repeat' split) <;> simp (maxDischargeDepth := 40) +contextual [*]
@[simp] theorem keeps_missFails (s : State) (k code n : Nat) (hI : s.memInv = true) : (State.missFails s k code n).memInv = true := by
  unfold State.missFails; simp (maxDischargeDepth := 40) +contextual [*]
@[simp] theorem keeps_execSegmentCopyComplete (core frame : Nat) (s : State) (hI : s.memInv = true) : keepsOut (execSegmentCopyComplete core frame s) = true := by
  unfold execSegmentCopyComplete; dsimp only; (repeat' split) <;> simp (maxDischargeDepth := 40) +contextual [*]
@[simp] theorem keeps_idleTurn (s : State) (c : Nat) (z0 : Turn) (hI : s.memInv = true) : (State.idleTurn s c z0).memInv = true := by
  unfold State.idleTurn; (repeat' split) <;> simp (maxDischargeDepth := 40) +contextual [*]
@[simp] theorem keeps_countStarved (s : State) (core : Nat) (cands issued : List Nat) (hI : s.memInv = true) : (State.countStarved s core cands issued).memInv = true := by
  unfold State.countStarved; simp (maxDischargeDepth := 40) +contextual [*]
@[simp] theorem keeps_execJunctionCycle (core : Nat) (s : State) (hI : s.memInv = true) : keepsOut (execJunctionCycle core s) = true := by
  unfold execJunctionCycle; dsimp only; (repeat' split) <;> simp (maxDischargeDepth := 40) +contextual [*]
@[simp] theorem keeps_execRotationRebase (core : Nat) (s : State) (hI : s.memInv = true) : keepsOut (execRotationRebase core s) = true := by
  unfold execRotationRebase; (repeat' split) <;> simp (maxDischargeDepth := 40) +contextual [*]

/-! ## Memory events -/

@[simp] theorem keeps_releaseInputs (s : State) (l : List (Nat × MemUnit)) (hI : s.memInv = true) : (State.releaseInputs s l).memInv = true := by
  unfold State.releaseInputs; simp (maxDischargeDepth := 40) +contextual [*]
@[simp] theorem keeps_inputDone (s : State) (phase : Nat) (e : Nat × MemUnit) (hI : s.memInv = true) : (State.inputDone s phase e).memInv = true := by
  unfold State.inputDone; simp (maxDischargeDepth := 40) +contextual [*]
@[simp] theorem keeps_updateBarrier (s : State) (cl b : Nat) (hI : s.memInv = true) : (State.updateBarrier s cl b).memInv = true := by
  unfold State.updateBarrier; simp (maxDischargeDepth := 40) +contextual [*]
@[simp] theorem keeps_execBarrierUpdate (cl b : Nat) (s : State) (hI : s.memInv = true) : keepsOut (execBarrierUpdate cl b s) = true := by
  unfold execBarrierUpdate; (repeat' split) <;> simp (maxDischargeDepth := 40) +contextual [*]
@[simp] theorem keeps_execClusterCacheWriteback (cl line : Nat) (s : State) (hI : s.memInv = true) : keepsOut (execClusterCacheWriteback cl line s) = true := by
  unfold execClusterCacheWriteback; (repeat' split) <;> simp (maxDischargeDepth := 40) +contextual [*]
@[simp] theorem keeps_execClusterCacheEccError (cl line chunk : Nat) (correctable : Bool) (s : State) (hI : s.memInv = true) : keepsOut (execClusterCacheEccError cl line chunk correctable s) = true := by
  unfold execClusterCacheEccError; (repeat' split) <;> simp (maxDischargeDepth := 40) +contextual [*]
@[simp] theorem keeps_execLlcEccError (line chunk : Nat) (correctable : Bool) (s : State) (hI : s.memInv = true) : keepsOut (execLlcEccError line chunk correctable s) = true := by
  unfold execLlcEccError; (repeat' split) <;> simp (maxDischargeDepth := 40) +contextual [*]
@[simp] theorem keeps_execCarrierMemoryEccError (ia : Nat) (correctable : Bool) (s : State) (hI : s.memInv = true) : keepsOut (execCarrierMemoryEccError ia correctable s) = true := by
  unfold execCarrierMemoryEccError; (repeat' split) <;> simp (maxDischargeDepth := 40) +contextual [*]
@[simp] theorem keeps_execAtomicPlacementNear (line cl : Nat) (s : State) (hI : s.memInv = true) : keepsOut (execAtomicPlacementNear line cl s) = true := by
  unfold execAtomicPlacementNear; (repeat' split) <;> simp (maxDischargeDepth := 40) +contextual [*]
@[simp] theorem keeps_execOwnershipRecall (line : Nat) (s : State) (hI : s.memInv = true) : keepsOut (execOwnershipRecall line s) = true := by
  unfold execOwnershipRecall; simp (maxDischargeDepth := 40) +contextual [*]
@[simp] theorem keeps_endInvals (s : State) (hI : s.memInv = true) : (State.endInvals s).memInv = true := by
  unfold State.endInvals
  (repeat' split) <;> (try refine keeps_foldl _ _ _ (fun t a ht => ?_) ?_) <;> (repeat' split) <;> simp (maxDischargeDepth := 40) +contextual [*]
@[simp] theorem keeps_execTranslationInvalidateAck (slice : Nat) (s : State) (hI : s.memInv = true) : keepsOut (execTranslationInvalidateAck slice s) = true := by
  unfold execTranslationInvalidateAck; (repeat' split) <;> simp (maxDischargeDepth := 40) +contextual [*]
@[simp] theorem keeps_takeSharers (s : State) (l : List Nat) (hI : s.memInv = true) : (State.takeSharers s l).2.memInv = true := by
  unfold State.takeSharers; simp (maxDischargeDepth := 40) +contextual [*]
@[simp] theorem keeps_invalidate (s : State) (l : List (Nat × Nat)) (keys : List Nat) (hdr : Option PktHdr) (value ia : Nat) (hI : s.memInv = true) : (State.invalidate s l keys hdr value ia).memInv = true := by
  unfold State.invalidate; simp (maxDischargeDepth := 40) +contextual [*]
@[simp] theorem keeps_execMigrationCopyComplete (ia : Nat) (s : State) (hI : s.memInv = true) : keepsOut (execMigrationCopyComplete ia s) = true := by
  unfold execMigrationCopyComplete; (repeat' split) <;> simp (maxDischargeDepth := 40) +contextual [*]
@[simp] theorem keeps_execHintWindowCheck (slice task entry misses : Nat) (s : State) (hI : s.memInv = true) : keepsOut (execHintWindowCheck slice task entry misses s) = true := by
  unfold execHintWindowCheck; dsimp only; (repeat' split) <;> simp (maxDischargeDepth := 40) +contextual [*]

end Sys2Proof.Machine
end

