-- ==== Sys2Proof/Laws/MemoriesPackage.lean ====
section
/-! SUPPORT. Every operation keeps the memories in canonical form (`State.memInv`): pages, interfaces, queues, power and the schedule. -/

namespace Sys2Proof.Machine

/-! ## Pages -/

@[simp] theorem keeps_uncharge (s : State) (ia : Nat) (hI : s.memInv = true) : (State.uncharge s ia).memInv = true := by
  unfold State.uncharge; (repeat' split) <;> simp (maxDischargeDepth := 40) +contextual [*]
@[simp] theorem keeps_chargePage (s : State) (ia asid tier code : Nat) (hI : s.memInv = true) : (State.chargePage s ia asid tier code).memInv = true := by
  unfold State.chargePage; simp (maxDischargeDepth := 40) +contextual [*]
@[simp] theorem keeps_flushPage (s : State) (e : Nat × Nat) (hI : s.memInv = true) : (State.flushPage s e).memInv = true := by
  unfold State.flushPage; simp (maxDischargeDepth := 40) +contextual [*]
@[simp] theorem keeps_settle (s : State) (ia n : Nat) (hI : s.memInv = true) : (s.settle ia n).memInv = true :=
  keeps_foldl _ _ _ (fun _ m ht => keeps_finishMigration _ m ht) hI
@[simp] theorem keeps_dropPage (s : State) (e : Nat × Nat) (hI : s.memInv = true) : (State.dropPage s e).memInv = true := by
  unfold State.dropPage; simp (maxDischargeDepth := 40) +contextual [*]
@[simp] theorem keeps_execMap (h : PktHdr) (ia pa size tier : Nat) (r w : Bool) (asid : Nat) (s : State) (hI : s.memInv = true) : keepsOut (execMap h ia pa size tier r w asid s) = true := by
  unfold execMap; simp (maxDischargeDepth := 40) +contextual [*]
@[simp] theorem keeps_execUnmap (h : PktHdr) (ia size : Nat) (s : State) (hI : s.memInv = true) : keepsOut (execUnmap h ia size s) = true := by
  unfold execUnmap; simp (maxDischargeDepth := 40) +contextual [*]
@[simp] theorem keeps_protectPage (s : State) (r w : Bool) (e : Nat × Nat) (hI : s.memInv = true) : (State.protectPage s r w e).memInv = true := by
  unfold State.protectPage; dsimp only; (repeat' split) <;> simp (maxDischargeDepth := 40) +contextual [*]
@[simp] theorem keeps_execProtect (h : PktHdr) (ia size : Nat) (r w : Bool) (s : State) (hI : s.memInv = true) : keepsOut (execProtect h ia size r w s) = true := by
  unfold execProtect; simp (maxDischargeDepth := 40) +contextual [*]
@[simp] theorem keeps_execMigrate (h : PktHdr) (ia pa size tier asid : Nat) (s : State) (hI : s.memInv = true) : keepsOut (execMigrate h ia pa size tier asid s) = true := by
  unfold execMigrate; dsimp only; (repeat' split) <;> simp (maxDischargeDepth := 40) +contextual [*]
@[simp] theorem keeps_execSegtab (h : PktHdr) (code table count : Nat) (s : State) (hI : s.memInv = true) : keepsOut (execSegtab h code table count s) = true := by
  unfold execSegtab; simp (maxDischargeDepth := 40) +contextual [*]
@[simp] theorem keeps_install (s : State) (asid cls recQuota : Nat) (l : List Range) (hI : s.memInv = true) : (State.install s asid cls recQuota l).memInv = true := by
  unfold State.install; simp (maxDischargeDepth := 40) +contextual [*]
@[simp] theorem keeps_tearDown (s : State) (asid : Nat) (hI : s.memInv = true) : (s.tearDown asid).memInv = true := by
  unfold State.tearDown
  have h := keeps_foldl (fun (t : State) (e : Nat × Lease) => t.releaseLease e.1) (s.fe.leases.filter fun e => e.2.asid == asid) s
    (fun t e ht => keeps_releaseLease _ _ ht) hI
  exact keeps_modFe _ _ (memInv_of (keeps_evictFrames _ _ h) rfl rfl rfl)
@[simp] theorem keeps_execAspace (h : PktHdr) (asid cls : Nat) (teardown : Bool) (recQuota desc : Nat) (s : State) (hI : s.memInv = true) : keepsOut (execAspace h asid cls teardown recQuota desc s) = true := by
  unfold execAspace; simp (maxDischargeDepth := 40) +contextual [*]

/-! ## Interfaces -/

@[simp] theorem keeps_modHost (s : State) (f : HostIf → HostIf) (hI : s.memInv = true) : (State.modHost s f).memInv = true := by
  unfold State.modHost; simp (maxDischargeDepth := 40) +contextual [*]
@[simp] theorem keeps_answerHost (s : State) (code : Nat) (bytes : List Byte) (hI : s.memInv = true) : (State.answerHost s code bytes).memInv = true := by
  unfold State.answerHost; simp (maxDischargeDepth := 40) +contextual [*]
@[simp] theorem keeps_setVf (s : State) (v : Nat) (x : Vf) (hI : s.memInv = true) : (State.setVf s v x).memInv = true := by
  unfold State.setVf; simp (maxDischargeDepth := 40) +contextual [*]
@[simp] theorem keeps_endTask (s : State) (id : Nat) (hI : s.memInv = true) : (State.endTask s id).memInv = true := by
  unfold State.endTask; (repeat' split) <;> simp (maxDischargeDepth := 40) +contextual [*]
@[simp] theorem keeps_silence (s : State) (v : Nat) (hI : s.memInv = true) : (State.silence s v).memInv = true := by
  unfold State.silence; simp (maxDischargeDepth := 40) +contextual [*]
@[simp] theorem keeps_endTasks (s : State) (v : Nat) (hI : s.memInv = true) : (State.endTasks s v).memInv = true := by
  unfold State.endTasks; simp (maxDischargeDepth := 40) +contextual [*]
@[simp] theorem keeps_interfaceError (s : State) (v : Nat) (hI : s.memInv = true) : (State.interfaceError s v).memInv = true := by
  unfold State.interfaceError; simp (maxDischargeDepth := 40) +contextual [*]
@[simp] theorem keeps_frozenWrite (s : State) (v : Nat) (hI : s.memInv = true) : (State.frozenWrite s v).memInv = true := by
  unfold State.frozenWrite; simp (maxDischargeDepth := 40) +contextual [*]
theorem keeps_onVf (v : Nat) {s : State} {f : Out} (hf : keepsOut f = true) (hI : s.memInv = true) : keepsOut (onVf v s f) = true := by
  unfold onVf; split
  · rfl
  · exact keepsOut_ite hf hI
@[simp] theorem keeps_execFrozenItemWrite (vf : Nat) (s : State) (hI : s.memInv = true) : keepsOut (execFrozenItemWrite vf s) = true := by
  unfold execFrozenItemWrite
  refine keeps_onVf _ ?_ hI
  (repeat' split) <;> simp (maxDischargeDepth := 40) +contextual [*]
@[simp] theorem keeps_execIdeIntegrityFailure (vf : Nat) (s : State) (hI : s.memInv = true) : keepsOut (execIdeIntegrityFailure vf s) = true := by
  unfold execIdeIntegrityFailure
  refine keeps_onVf _ ?_ hI
  (repeat' split) <;> simp (maxDischargeDepth := 40) +contextual [*]
@[simp] theorem keeps_execFunctionLevelReset (vf : Nat) (s : State) (hI : s.memInv = true) : keepsOut (execFunctionLevelReset vf s) = true := by
  unfold execFunctionLevelReset
  refine keeps_onVf _ ?_ hI
  (repeat' split) <;> simp (maxDischargeDepth := 40) +contextual [*]
@[simp] theorem keeps_execLockInterfaceRequest (vf : Nat) (s : State) (hI : s.memInv = true) : keepsOut (execLockInterfaceRequest vf s) = true := by
  unfold execLockInterfaceRequest
  refine keeps_onVf _ ?_ hI
  (repeat' split) <;> simp (maxDischargeDepth := 40) +contextual [*]
@[simp] theorem keeps_execStartInterfaceRequest (vf : Nat) (nonce : Word) (s : State) (hI : s.memInv = true) : keepsOut (execStartInterfaceRequest vf nonce s) = true := by
  unfold execStartInterfaceRequest
  refine keeps_onVf _ ?_ hI
  (repeat' split) <;> simp (maxDischargeDepth := 40) +contextual [*]
@[simp] theorem keeps_forgetLines (s : State) (ia n : Nat) (hI : s.memInv = true) : (State.forgetLines s ia n).memInv = true := by
  unfold State.forgetLines; simp (maxDischargeDepth := 40) +contextual [*]
@[simp] theorem keeps_scrubPage (s : State) (ia code : Nat) (hI : s.memInv = true) : (State.scrubPage s ia code).memInv = true := by
  unfold State.scrubPage; dsimp only; (repeat' split) <;> simp (maxDischargeDepth := 40) +contextual [*]
@[simp] theorem keeps_scrub (s : State) (v : Nat) (hI : s.memInv = true) : (State.scrub s v).memInv = true := by
  unfold State.scrub; simp (maxDischargeDepth := 40) +contextual [*]
@[simp] theorem keeps_execStopInterfaceRequest (vf : Nat) (s : State) (hI : s.memInv = true) : keepsOut (execStopInterfaceRequest vf s) = true := by
  unfold execStopInterfaceRequest
  refine keeps_onVf _ ?_ hI
  (repeat' split) <;> simp (maxDischargeDepth := 40) +contextual [*]
@[simp] theorem keeps_execGetDeviceInterfaceReport (vf : Nat) (s : State) (hI : s.memInv = true) : keepsOut (execGetDeviceInterfaceReport vf s) = true := by
  unfold execGetDeviceInterfaceReport
  refine keeps_onVf _ ?_ hI
  (repeat' split) <;> simp (maxDischargeDepth := 40) +contextual [*]
@[simp] theorem keeps_keyStreams (s : State) (hI : s.memInv = true) : (State.keyStreams s).memInv = true := by
  unfold State.keyStreams; simp (maxDischargeDepth := 40) +contextual [*]
@[simp] theorem keeps_execSpdmAlgorithmNegotiation (sig hash kex aead : Nat) (s : State) (hI : s.memInv = true) : keepsOut (execSpdmAlgorithmNegotiation sig hash kex aead s) = true := by
  unfold execSpdmAlgorithmNegotiation; simp (maxDischargeDepth := 40) +contextual [*]
@[simp] theorem keeps_returnData (s : State) (g : Nat) (hI : s.memInv = true) : (State.returnData s g).memInv = true := by
  unfold State.returnData; (repeat' split) <;> simp (maxDischargeDepth := 40) +contextual [*]
@[simp] theorem keeps_dropGranule (s : State) (g : Nat) (hI : s.memInv = true) : (State.dropGranule s g).memInv = true := by
  unfold State.dropGranule; simp (maxDischargeDepth := 40) +contextual [*]
@[simp] theorem keeps_execSnpinv (granule : Nat) (s : State) (hI : s.memInv = true) : keepsOut (execSnpinv granule s) = true := by
  unfold execSnpinv; simp (maxDischargeDepth := 40) +contextual [*]
@[simp] theorem keeps_execSnpdata (granule : Nat) (s : State) (hI : s.memInv = true) : keepsOut (execSnpdata granule s) = true := by
  unfold execSnpdata; (repeat' split) <;> simp (maxDischargeDepth := 40) +contextual [*]
@[simp] theorem keeps_execCxlCapacityEviction (granule : Nat) (s : State) (hI : s.memInv = true) : keepsOut (execCxlCapacityEviction granule s) = true := by
  unfold execCxlCapacityEviction; simp (maxDischargeDepth := 40) +contextual [*]
@[simp] theorem keeps_trackLine (s : State) (line : Nat) (hI : s.memInv = true) : (State.trackLine s line).memInv = true := by
  unfold State.trackLine; simp (maxDischargeDepth := 40) +contextual [*]
@[simp] theorem keeps_hostAccess (s : State) (write : Bool) (ia n : Nat) (data : VWord) (hI : s.memInv = true) : keepsOut (State.hostAccess s write ia n data) = true := by
  unfold State.hostAccess; simp (maxDischargeDepth := 40) +contextual [*]
@[simp] theorem keeps_execHostHdmAccess (write : Bool) (hpa n : Nat) (data : VWord) (s : State) (hI : s.memInv = true) : keepsOut (execHostHdmAccess write hpa n data s) = true := by
  unfold execHostHdmAccess; (repeat' split) <;> simp (maxDischargeDepth := 40) +contextual [*]

/-! ## Queues -/

@[simp] theorem keeps_wake (s : State) (hI : s.memInv = true) : (State.wake s).memInv = true := by
  unfold State.wake; simp (maxDischargeDepth := 40) +contextual [*]
@[simp] theorem keeps_ringFault (s : State) (q : Nat) (hI : s.memInv = true) : (State.ringFault s q).memInv = true := by
  unfold State.ringFault; simp (maxDischargeDepth := 40) +contextual [*]
theorem keeps_visit (s : State) (q : Nat) (behind : Bool) (n : Nat) (hI : s.memInv = true) : (s.visit q behind n).2.memInv = true := by
  induction n generalizing s behind with
  | zero => exact hI
  | succ n ih =>
    unfold State.visit; dsimp only
    split
    · exact hI
    · split
      · exact keeps_ringFault _ _ hI
      · have hr := keeps_feRead s.settleFe (s.fe.queue q).headIa 8 (keeps_settleFe _ hI)
        split
        · exact hr
        · split
          · exact ih _ _ (by simp [hr])
          · split
            · exact hr
            · exact ih _ _ (by simp [hr])
          · split
            · exact hr
            · exact ih _ _ (by simp [hr])
@[simp] theorem keeps_execQueueFetch (q : Nat) (s : State) (hI : s.memInv = true) : keepsOut (execQueueFetch q s) = true := by
  unfold execQueueFetch
  split
  · rfl
  · split
    · exact hI
    · exact memInv_of (keeps_visit s q false 4 hI) rfl rfl rfl
@[simp] theorem keeps_hintWrite (s : State) (q v : Nat) (hI : s.memInv = true) : (State.hintWrite s q v).memInv = true := by
  unfold State.hintWrite; simp (maxDischargeDepth := 40) +contextual [*]
@[simp] theorem keeps_bar0 (s : State) {act : State → State} (hf : ∀ t, t.memInv = true → (act t).memInv = true)
    (hI : s.memInv = true) : (s.bar0 act).memInv = true := by
  unfold State.bar0
  split
  · exact hf _ (keeps_wake _ hI)
  · exact hI
@[simp] theorem keeps_execQueueHintWrite (q : Nat) (v : Word32) (s : State) (hI : s.memInv = true) : keepsOut (execQueueHintWrite q v s) = true := by
  unfold execQueueHintWrite; (repeat' split) <;> simp (maxDischargeDepth := 40) +contextual [*]
@[simp] theorem keeps_execQueueReset (q : Nat) (s : State) (hI : s.memInv = true) : keepsOut (execQueueReset q s) = true := by
  unfold execQueueReset; (repeat' split) <;> simp (maxDischargeDepth := 40) +contextual [*]
@[simp] theorem keeps_enWrite (s : State) (q : Nat) (en : Bool) (hI : s.memInv = true) : (State.enWrite s q en).memInv = true := by
  unfold State.enWrite; simp (maxDischargeDepth := 40) +contextual [*]
@[simp] theorem keeps_execQueueEnWrite (q : Nat) (en : Bool) (s : State) (hI : s.memInv = true) : keepsOut (execQueueEnWrite q en s) = true := by
  unfold execQueueEnWrite; (repeat' split) <;> simp (maxDischargeDepth := 40) +contextual [*]
@[simp] theorem keeps_blockWrite (s : State) (q r : Nat) (v : Nat) (pf : Bool) (hI : s.memInv = true) : (State.blockWrite s q r v pf).memInv = true := by
  unfold State.blockWrite; (repeat' split) <;> simp (maxDischargeDepth := 40) +contextual [*]
@[simp] theorem keeps_ownerWrite (s : State) (q v : Nat) (hI : s.memInv = true) : (State.ownerWrite s q v).memInv = true := by
  unfold State.ownerWrite; simp (maxDischargeDepth := 40) +contextual [*]
@[simp] theorem keeps_execQownerWrite (q : Nat) (v : Word) (s : State) (hI : s.memInv = true) : keepsOut (execQownerWrite q v s) = true := by
  unfold execQownerWrite; (repeat' split) <;> simp (maxDischargeDepth := 40) +contextual [*]
@[simp] theorem keeps_asidOwnWrite (s : State) (asid v : Nat) (hI : s.memInv = true) : (State.asidOwnWrite s asid v).memInv = true := by
  unfold State.asidOwnWrite; simp (maxDischargeDepth := 40) +contextual [*]
@[simp] theorem keeps_ringConfig (s : State) (log2n : Bool) (v : Nat) (hI : s.memInv = true) : (State.ringConfig s log2n v).memInv = true := by
  unfold State.ringConfig; simp (maxDischargeDepth := 40) +contextual [*]
@[simp] theorem keeps_execEventRingConfigWrite (log2n : Bool) (v : Word) (s : State) (hI : s.memInv = true) : keepsOut (execEventRingConfigWrite log2n v s) = true := by
  unfold execEventRingConfigWrite; simp (maxDischargeDepth := 40) +contextual [*]
@[simp] theorem keeps_writeHeld (s : State) (hI : s.memInv = true) : (State.writeHeld s).memInv = true := by
  unfold State.writeHeld; (repeat' split) <;> simp (maxDischargeDepth := 40) +contextual [*]
@[simp] theorem keeps_execHeldFaultRecordWrite (s : State) (hI : s.memInv = true) : keepsOut (execHeldFaultRecordWrite s) = true := by
  unfold execHeldFaultRecordWrite; simp (maxDischargeDepth := 40) +contextual [*]
@[simp] theorem keeps_pf0Write (s : State) (off v : Nat) (hI : s.memInv = true) : (State.pf0Write s off v).memInv = true := by
  unfold State.pf0Write; simp (maxDischargeDepth := 40) +contextual [*]
@[simp] theorem keeps_windowWrite (s : State) (func off v : Nat) (hI : s.memInv = true) : (State.windowWrite s func off v).memInv = true := by
  unfold State.windowWrite; (repeat' split) <;> simp (maxDischargeDepth := 40) +contextual [*]
@[simp] theorem keeps_dvsecWrite (s : State) (off v : Nat) (hI : s.memInv = true) : (State.dvsecWrite s off v).memInv = true := by
  unfold State.dvsecWrite; simp (maxDischargeDepth := 40) +contextual [*]
@[simp] theorem keeps_execRegisterWrite (func off : Nat) (v : Word) (s : State) (hI : s.memInv = true) : keepsOut (execRegisterWrite func off v s) = true := by
  unfold execRegisterWrite; (repeat' split) <;> simp (maxDischargeDepth := 40) +contextual [*]
@[simp] theorem keeps_firmwareStops (s : State) (stop : Nat) (hI : s.memInv = true) : (State.firmwareStops s stop).memInv = true := by
  unfold State.firmwareStops; simp (maxDischargeDepth := 40) +contextual [*]
@[simp] theorem keeps_execWatchdogExpiry (stop : Nat) (s : State) (hI : s.memInv = true) : keepsOut (execWatchdogExpiry stop s) = true := by
  unfold execWatchdogExpiry; simp (maxDischargeDepth := 40) +contextual [*]
@[simp] theorem keeps_execParityError (stop : Nat) (s : State) (hI : s.memInv = true) : keepsOut (execParityError stop s) = true := by
  unfold execParityError; simp (maxDischargeDepth := 40) +contextual [*]
@[simp] theorem keeps_execFencePacket (h : PktHdr) (s : State) (hI : s.memInv = true) : keepsOut (execFencePacket h s) = true := by
  unfold execFencePacket; simp (maxDischargeDepth := 40) +contextual [*]
@[simp] theorem keeps_execNopPacket (h : PktHdr) (s : State) (hI : s.memInv = true) : keepsOut (execNopPacket h s) = true := by
  unfold execNopPacket; simp (maxDischargeDepth := 40) +contextual [*]
@[simp] theorem keeps_storeImage (s : State) (hI : s.memInv = true) : (State.storeImage s).memInv = true := by
  unfold State.storeImage; simp (maxDischargeDepth := 40) +contextual [*]
@[simp] theorem keeps_imageWritten (s : State) (hI : s.memInv = true) : (State.imageWritten s).memInv = true := by
  unfold State.imageWritten; (repeat' split) <;> simp (maxDischargeDepth := 40) +contextual [*]
@[simp] theorem keeps_execFwupdate (h : PktHdr) (image bytes : Nat) (s : State) (hI : s.memInv = true) : keepsOut (execFwupdate h image bytes s) = true := by
  unfold execFwupdate; simp (maxDischargeDepth := 40) +contextual [*]

/-! ## Power -/

@[simp] theorem keeps_modPow (s : State) (f : Power → Power) (hI : s.memInv = true) : (State.modPow s f).memInv = true := by
  unfold State.modPow; simp (maxDischargeDepth := 40) +contextual [*]
@[simp] theorem keeps_forgoLeases (s : State) (hI : s.memInv = true) : (State.forgoLeases s).memInv = true := by
  unfold State.forgoLeases; simp (maxDischargeDepth := 40) +contextual [*]
@[simp] theorem keeps_restart (s : State) (warm : Bool) (hI : s.memInv = true) : (s.restart warm).memInv = true :=
  (memInv_iff _).2 ⟨wf_clear' (wf_mem hI) _ _, wf_hostMem (s := s) hI, rfl⟩
@[simp] theorem keeps_fullService (s : State) (hI : s.memInv = true) : (State.fullService s).memInv = true := by
  unfold State.fullService; simp (maxDischargeDepth := 40) +contextual [*]
@[simp] theorem keeps_nextStage (s : State) (hI : s.memInv = true) : (State.nextStage s).memInv = true := by
  unfold State.nextStage; simp (maxDischargeDepth := 40) +contextual [*]
@[simp] theorem keeps_failCold (s : State) (hI : s.memInv = true) : (State.failCold s).memInv = true := by
  unfold State.failCold; simp (maxDischargeDepth := 40) +contextual [*]
@[simp] theorem keeps_execColdStart (ok : Bool) (s : State) (hI : s.memInv = true) : keepsOut (execColdStart ok s) = true := by
  unfold execColdStart; simp (maxDischargeDepth := 40) +contextual [*]
@[simp] theorem keeps_execWarmStart (ok : Bool) (s : State) (hI : s.memInv = true) : keepsOut (execWarmStart ok s) = true := by
  unfold execWarmStart; simp (maxDischargeDepth := 40) +contextual [*]
@[simp] theorem keeps_execWarm (s : State) (hI : s.memInv = true) : keepsOut (execWarm s) = true := by
  unfold execWarm; simp (maxDischargeDepth := 40) +contextual [*]
@[simp] theorem keeps_execGo (s : State) (hI : s.memInv = true) : keepsOut (execGo s) = true := by
  unfold execGo; simp (maxDischargeDepth := 40) +contextual [*]
@[simp] theorem keeps_execStartTimeout (s : State) (hI : s.memInv = true) : keepsOut (execStartTimeout s) = true := by
  unfold execStartTimeout; simp (maxDischargeDepth := 40) +contextual [*]
@[simp] theorem keeps_execPowerStateEntry (s : State) (hI : s.memInv = true) : keepsOut (execPowerStateEntry s) = true := by
  unfold execPowerStateEntry; simp (maxDischargeDepth := 40) +contextual [*]
@[simp] theorem keeps_wakeUp (s : State) (hI : s.memInv = true) : (State.wakeUp s).memInv = true := by
  unfold State.wakeUp; simp (maxDischargeDepth := 40) +contextual [*]
@[simp] theorem keeps_execTolWrite (v : Word32) (s : State) (hI : s.memInv = true) : keepsOut (execTolWrite v s) = true := by
  unfold execTolWrite; simp (maxDischargeDepth := 40) +contextual [*]
@[simp] theorem keeps_execPowerStateWake (bar0 fabric : Bool) (s : State) (hI : s.memInv = true) : keepsOut (execPowerStateWake bar0 fabric s) = true := by
  unfold execPowerStateWake; simp (maxDischargeDepth := 40) +contextual [*]
@[simp] theorem keeps_execThrottleStep (temp : BitVec 8) (s : State) (hI : s.memInv = true) : keepsOut (execThrottleStep temp s) = true := by
  unfold execThrottleStep; simp (maxDischargeDepth := 40) +contextual [*]
@[simp] theorem keeps_abandonAll (s : State) (hI : s.memInv = true) : (State.abandonAll s).memInv = true := by
  unfold State.abandonAll; simp (maxDischargeDepth := 40) +contextual [*]
@[simp] theorem keeps_execThermalTrip (temp : BitVec 8) (s : State) (hI : s.memInv = true) : keepsOut (execThermalTrip temp s) = true := by
  unfold execThermalTrip; simp (maxDischargeDepth := 40) +contextual [*]

/-! ## Schedule -/

@[simp] theorem keeps_slotTime (s : State) (hI : s.memInv = true) : (State.slotTime s).memInv = true := by
  unfold State.slotTime; simp (maxDischargeDepth := 40) +contextual [*]
@[simp] theorem keeps_restCounts (s : State) (hI : s.memInv = true) : (State.restCounts s).memInv = true := by
  unfold State.restCounts; simp (maxDischargeDepth := 40) +contextual [*]
@[simp] theorem keeps_drainAll (s : State) (hI : s.memInv = true) : (State.drainAll s).memInv = true := by
  unfold State.drainAll; simp (maxDischargeDepth := 40) +contextual [*]
theorem keeps_clearSlotted {s : State} (h : s.memInv = true) :
    coresWf (s.cores.map fun e => (e.1, { e.2 with slotted := [] })) = true := by
  have hc := wf_cores h
  unfold coresWf at hc ⊢
  rw [List.all_map]
  exact hc
@[simp] theorem keeps_newCycle (s : State) (hI : s.memInv = true) : s.newCycle.memInv = true := by
  unfold State.newCycle
  split
  · exact memInv_of (keeps_spend _ hI) rfl rfl rfl
  have h0 : ({ s.dropWalkers with cycles := s.cycles + 1 } : State).memInv = true := memInv_of (keeps_dropWalkers _ hI) rfl rfl rfl
  have h : ((State.drainAll { s.dropWalkers with cycles := s.cycles + 1 }).settleSent.restCounts.slotTime.imageWritten).memInv = true :=
    keeps_imageWritten _ (keeps_slotTime _ (keeps_restCounts _ (keeps_settleSent _ (keeps_drainAll _ h0))))
  dsimp only
  generalize (State.drainAll { s.dropWalkers with cycles := s.cycles + 1 }).settleSent.restCounts.slotTime.imageWritten = t at h ⊢
  have h2 : (if (t.fe.configWait.isEmpty && t.fe.poolSize == t.fe.poolGoal) = true then t else t.shrink.checkConfig).memInv = true := by
    split
    · exact h
    · simp [h]
  generalize (if (t.fe.configWait.isEmpty && t.fe.poolSize == t.fe.poolGoal) = true then t else t.shrink.checkConfig) = u at h2 ⊢
  have h3 := keeps_spend u h2
  have hm : Memory.wf u.spend.mem = true := wf_mem h3
  exact (memInv_iff _).2 ⟨hm, wf_hostMem (s := u.spend) h3, keeps_clearSlotted h2⟩
theorem keeps_nextStep {run : Instr → State → Out} (hf : ∀ i t, t.memInv = true → keepsOut (run i t) = true) (s : State)
    (hI : s.memInv = true) : keepsOut (nextStep run s) = true := by
  unfold nextStep
  split
  · exact hf _ _ (memInv_of hI rfl rfl rfl)
  · split
    · exact keeps_issueNext hf _ _ (memInv_of hI rfl rfl rfl)
    · split
      · exact hf _ _ (memInv_of hI rfl rfl rfl)
      · split
        · exact memInv_of hI rfl rfl rfl
        · exact keeps_newCycle _ hI
@[simp] theorem keeps_loadWords (s : State) (l : List Word32) (hI : s.memInv = true) : (State.loadWords s l).memInv = true := by
  unfold State.loadWords; simp (maxDischargeDepth := 40) +contextual [*]

end Sys2Proof.Machine
end

