-- ==== Sys2Proof/Tests/Slice0.lean ====
section
/-! SUPPORT. The model's own tests: syllables and packets written out from the spec's encodings decode to what they stand for; ill-formed
terms of each check are refused; worked examples of the spec; and, for each statement that has hypotheses, a witness that meets them. -/
open Sys2Proof Sys2Proof.Machine
namespace Sys2Proof.Tests
set_option Elab.async false

/-! ## Decoding: a word of every syllable of the spec's tables -/

theorem test_decode_C_0 :
    decodeSyl 0 0x00200000 none = .ok (.nop { g := 2, z := 0, ext := none }) ∧
    decodeSyl 0 0x01212345 none = .ok (.br { g := 2, off := 74565, ext := none }) ∧
    decodeSyl 0 0x02271234 none = .ok (.brp { g := 2, p := 3, sense := 1, off := 4660, ext := none }) ∧
    decodeSyl 0 0x03212345 none = .ok (.brl { g := 2, off := 74565, ext := none }) ∧
    decodeSyl 0 0x04200000 none = .ok (.ret { g := 2, z := 0, ext := none }) ∧
    decodeSyl 0 0x05248000 none = .ok (.jmp { g := 2, s := 9, z := 0, ext := none }) ∧
    decodeSyl 0 0x06248000 none = .ok (.jmpL { g := 2, s := 9, z := 0, ext := none }) ∧
    decodeSyl 0 0x07245123 none = .ok (.loop { g := 2, lc := 2, s := 5, imm := 291, ext := none }) ∧
    decodeSyl 0 0x08245123 none = .ok (.loopn { g := 2, lc := 2, s := 5, imm := 291, ext := none }) ∧
    decodeSyl 0 0x09269000 none = .ok (.fmtw { g := 2, fmt := 3, s := 9, z := 0, ext := none }) ∧
    decodeSyl 0 0x0A201138 none = .ok (.csrr { g := 2, num := 17, s := 7, z := 0, ext := none }) ∧
    decodeSyl 0 0x0B201138 none = .ok (.csrw { g := 2, num := 17, s := 7, z := 0, ext := none }) ∧
    decodeSyl 0 0x0CA01100 (some 0x80000001) = .ok (.csrwI { g := 2, num := 17, s := 0, z := 0, ext := some 0x80000001 }) :=
  ⟨rfl, rfl, rfl, rfl, rfl, rfl, rfl, rfl, rfl, rfl, rfl, rfl, rfl⟩

theorem test_decode_C_1 :
    decodeSyl 0 0x0D229800 none = .ok (.pand { g := 2, pd := 1, pa := 2, pb := 3, z := 0, ext := none }) ∧
    decodeSyl 0 0x0E229800 none = .ok (.por { g := 2, pd := 1, pa := 2, pb := 3, z := 0, ext := none }) ∧
    decodeSyl 0 0x0F229800 none = .ok (.pxor { g := 2, pd := 1, pa := 2, pb := 3, z := 0, ext := none }) ∧
    decodeSyl 0 0x10228000 none = .ok (.pnot { g := 2, pd := 1, pa := 2, pb := 0, z := 0, ext := none }) ∧
    decodeSyl 0 0x112ABCDE none = .ok (.trapC { g := 2, code := 703710, ext := none }) ∧
    decodeSyl 0 0x122ABCDE none = .ok (.sysc { g := 2, code := 703710, ext := none }) ∧
    decodeSyl 0 0x13200000 none = .ok (.rft { g := 2, z := 0, ext := none }) ∧
    decodeSyl 0 0x14200000 none = .ok (.retire { g := 2, z := 0, ext := none }) ∧
    decodeSyl 0 0x15200000 none = .ok (.yield { g := 2, z := 0, ext := none }) :=
  ⟨rfl, rfl, rfl, rfl, rfl, rfl, rfl, rfl, rfl⟩

theorem test_decode_S_0 :
    decodeSyl 1 0x01308C80 none = .ok (.add { g := 3, d := 1, a := 3, b := 4, c := 0, ext := none }) ∧
    decodeSyl 1 0x02308C80 none = .ok (.sub { g := 3, d := 1, a := 3, b := 4, c := 0, ext := none }) ∧
    decodeSyl 1 0x03308C80 none = .ok (.mul { g := 3, d := 1, a := 3, b := 4, c := 0, ext := none }) ∧
    decodeSyl 1 0x04308C80 none = .ok (.mulh { g := 3, d := 1, a := 3, b := 4, c := 0, ext := none }) ∧
    decodeSyl 1 0x05308C80 none = .ok (.mulhu { g := 3, d := 1, a := 3, b := 4, c := 0, ext := none }) ∧
    decodeSyl 1 0x06308C80 none = .ok (.div_ { g := 3, d := 1, a := 3, b := 4, c := 0, ext := none }) ∧
    decodeSyl 1 0x07308C80 none = .ok (.divu { g := 3, d := 1, a := 3, b := 4, c := 0, ext := none }) ∧
    decodeSyl 1 0x08308C80 none = .ok (.rem { g := 3, d := 1, a := 3, b := 4, c := 0, ext := none }) ∧
    decodeSyl 1 0x09308C80 none = .ok (.remu { g := 3, d := 1, a := 3, b := 4, c := 0, ext := none }) ∧
    decodeSyl 1 0x0A308C80 none = .ok (.and_ { g := 3, d := 1, a := 3, b := 4, c := 0, ext := none }) ∧
    decodeSyl 1 0x0B308C80 none = .ok (.or_ { g := 3, d := 1, a := 3, b := 4, c := 0, ext := none }) ∧
    decodeSyl 1 0x0C308C80 none = .ok (.xor_ { g := 3, d := 1, a := 3, b := 4, c := 0, ext := none }) ∧
    decodeSyl 1 0x0D308C80 none = .ok (.andn { g := 3, d := 1, a := 3, b := 4, c := 0, ext := none }) :=
  ⟨rfl, rfl, rfl, rfl, rfl, rfl, rfl, rfl, rfl, rfl, rfl, rfl, rfl⟩

theorem test_decode_S_1 :
    decodeSyl 1 0x0E308C80 none = .ok (.shl { g := 3, d := 1, a := 3, b := 4, c := 0, ext := none }) ∧
    decodeSyl 1 0x0F308C80 none = .ok (.shr { g := 3, d := 1, a := 3, b := 4, c := 0, ext := none }) ∧
    decodeSyl 1 0x10308C80 none = .ok (.sra { g := 3, d := 1, a := 3, b := 4, c := 0, ext := none }) ∧
    decodeSyl 1 0x11308C80 none = .ok (.rol { g := 3, d := 1, a := 3, b := 4, c := 0, ext := none }) ∧
    decodeSyl 1 0x12308C00 none = .ok (.clz { g := 3, d := 1, a := 3, b := 0, c := 0, ext := none }) ∧
    decodeSyl 1 0x13308C00 none = .ok (.ctz { g := 3, d := 1, a := 3, b := 0, c := 0, ext := none }) ∧
    decodeSyl 1 0x14308C00 none = .ok (.popc { g := 3, d := 1, a := 3, b := 0, c := 0, ext := none }) ∧
    decodeSyl 1 0x15308C80 none = .ok (.min_ { g := 3, d := 1, a := 3, b := 4, c := 0, ext := none }) ∧
    decodeSyl 1 0x16308C80 none = .ok (.max_ { g := 3, d := 1, a := 3, b := 4, c := 0, ext := none }) ∧
    decodeSyl 1 0x17308C80 none = .ok (.minu { g := 3, d := 1, a := 3, b := 4, c := 0, ext := none }) ∧
    decodeSyl 1 0x18308C80 none = .ok (.maxu { g := 3, d := 1, a := 3, b := 4, c := 0, ext := none }) ∧
    decodeSyl 1 0x19308C85 none = .ok (.sel { g := 3, d := 1, a := 3, b := 4, c := 5, ext := none }) ∧
    decodeSyl 1 0x1A318C82 none = .ok (.cmp { g := 3, d := 3, a := 3, b := 4, c := 2, ext := none }) :=
  ⟨rfl, rfl, rfl, rfl, rfl, rfl, rfl, rfl, rfl, rfl, rfl, rfl, rfl⟩

theorem test_decode_S_2 :
    decodeSyl 1 0x20308C80 none = .ok (.addW { g := 3, d := 1, a := 3, b := 4, c := 0, ext := none }) ∧
    decodeSyl 1 0x21308C80 none = .ok (.subW { g := 3, d := 1, a := 3, b := 4, c := 0, ext := none }) ∧
    decodeSyl 1 0x22308C80 none = .ok (.mulW { g := 3, d := 1, a := 3, b := 4, c := 0, ext := none }) ∧
    decodeSyl 1 0x23308C80 none = .ok (.divW { g := 3, d := 1, a := 3, b := 4, c := 0, ext := none }) ∧
    decodeSyl 1 0x24308C80 none = .ok (.divuW { g := 3, d := 1, a := 3, b := 4, c := 0, ext := none }) ∧
    decodeSyl 1 0x25308C80 none = .ok (.remW { g := 3, d := 1, a := 3, b := 4, c := 0, ext := none }) ∧
    decodeSyl 1 0x26308C80 none = .ok (.remuW { g := 3, d := 1, a := 3, b := 4, c := 0, ext := none }) ∧
    decodeSyl 1 0x27308C80 none = .ok (.shlW { g := 3, d := 1, a := 3, b := 4, c := 0, ext := none }) ∧
    decodeSyl 1 0x28308C80 none = .ok (.shrW { g := 3, d := 1, a := 3, b := 4, c := 0, ext := none }) ∧
    decodeSyl 1 0x29308C80 none = .ok (.sraW { g := 3, d := 1, a := 3, b := 4, c := 0, ext := none }) ∧
    decodeSyl 1 0x30308C12 none = .ok (.addi { g := 3, d := 1, a := 3, imm := 18, ext := none }) ∧
    decodeSyl 1 0x31308C12 none = .ok (.andI { g := 3, d := 1, a := 3, imm := 18, ext := none }) ∧
    decodeSyl 1 0x32308C12 none = .ok (.orI { g := 3, d := 1, a := 3, imm := 18, ext := none }) :=
  ⟨rfl, rfl, rfl, rfl, rfl, rfl, rfl, rfl, rfl, rfl, rfl, rfl, rfl⟩

theorem test_decode_S_3 :
    decodeSyl 1 0x33308C12 none = .ok (.xorI { g := 3, d := 1, a := 3, imm := 18, ext := none }) ∧
    decodeSyl 1 0x34308C12 none = .ok (.shlI { g := 3, d := 1, a := 3, imm := 18, ext := none }) ∧
    decodeSyl 1 0x35308C12 none = .ok (.shrI { g := 3, d := 1, a := 3, imm := 18, ext := none }) ∧
    decodeSyl 1 0x36308C12 none = .ok (.sraI { g := 3, d := 1, a := 3, imm := 18, ext := none }) ∧
    decodeSyl 1 0x37308C12 none = .ok (.rolI { g := 3, d := 1, a := 3, imm := 18, ext := none }) ∧
    decodeSyl 1 0x38361447 none = .ok (.cmpI { g := 3, pd := 3, z := 0, a := 5, cond := 2, imm := 7, ext := none }) ∧
    decodeSyl 1 0x40329234 none = .ok (.movi { g := 3, d := 5, imm := 4660, ext := none }) ∧
    decodeSyl 1 0x41329234 none = .ok (.movhi { g := 3, d := 5, imm := 4660, ext := none }) ∧
    decodeSyl 1 0x48314600 none = .ok (.xmovSl { g := 3, d := 5, a := 6, port := 0, sel := 0, ext := none }) ∧
    decodeSyl 1 0x49314600 none = .ok (.xmovLs { g := 3, d := 5, a := 6, port := 0, sel := 0, ext := none }) ∧
    decodeSyl 1 0x4A3A0602 none = .ok (.xmovSv { g := 3, d := 40, a := 6, port := 0, sel := 2, ext := none }) ∧
    decodeSyl 1 0x4B316843 none = .ok (.xmovVs { g := 3, d := 5, a := 40, port := 2, sel := 3, ext := none }) ∧
    decodeSyl 1 0x50308C81 none = .ok (.fadd { g := 3, d := 1, a := 3, b := 4, c := 1, ext := none }) :=
  ⟨rfl, rfl, rfl, rfl, rfl, rfl, rfl, rfl, rfl, rfl, rfl, rfl, rfl⟩

theorem test_decode_S_4 :
    decodeSyl 1 0x51308C81 none = .ok (.fmul { g := 3, d := 1, a := 3, b := 4, c := 1, ext := none }) ∧
    decodeSyl 1 0x52318C82 none = .ok (.fcmp { g := 3, d := 3, a := 3, b := 4, c := 2, ext := none }) ∧
    decodeSyl 1 0x53308C89 none = .ok (.fma { g := 3, d := 1, a := 3, b := 4, c := 9, ext := none }) :=
  ⟨rfl, rfl, rfl⟩

theorem test_decode_L0_0 :
    decodeSyl 2 0x01212345 none = .ok (.aadd { g := 2, d := 1, a := 2, b := 3, imm := 69, ext := none, l1 := false }) ∧
    decodeSyl 2 0x02212045 none = .ok (.aaddi { g := 2, d := 1, a := 2, b := 0, imm := 69, ext := none, l1 := false }) ∧
    decodeSyl 2 0x03212000 none = .ok (.xmova { g := 2, d := 1, a := 2, b := 0, imm := 0, ext := none, l1 := false }) ∧
    decodeSyl 2 0x08226323 none = .ok (.lds8 { g := 2, d := 9, h := 35, row := 2, col := 3, ext := none, l1 := false }) ∧
    decodeSyl 2 0x09226323 none = .ok (.lds16 { g := 2, d := 9, h := 35, row := 2, col := 3, ext := none, l1 := false }) ∧
    decodeSyl 2 0x0A226323 none = .ok (.lds32 { g := 2, d := 9, h := 35, row := 2, col := 3, ext := none, l1 := false }) ∧
    decodeSyl 2 0x0B226323 none = .ok (.lds64 { g := 2, d := 9, h := 35, row := 2, col := 3, ext := none, l1 := false }) ∧
    decodeSyl 2 0x0C2A2323 none = .ok (.ldv { g := 2, d := 40, h := 35, row := 2, col := 3, ext := none, l1 := false }) ∧
    decodeSyl 2 0x0D2A2323 none = .ok (.ldvt { g := 2, d := 40, h := 35, row := 2, col := 3, ext := none, l1 := false }) ∧
    decodeSyl 2 0x10285523 none = .ok (.ldg8 { g := 2, d := 33, base := 5, off := 291, ext := none, l1 := false }) ∧
    decodeSyl 2 0x11285523 none = .ok (.ldg16 { g := 2, d := 33, base := 5, off := 291, ext := none, l1 := false }) ∧
    decodeSyl 2 0x12285523 none = .ok (.ldg32 { g := 2, d := 33, base := 5, off := 291, ext := none, l1 := false }) ∧
    decodeSyl 2 0x13285523 none = .ok (.ldg64 { g := 2, d := 33, base := 5, off := 291, ext := none, l1 := false }) :=
  ⟨rfl, rfl, rfl, rfl, rfl, rfl, rfl, rfl, rfl, rfl, rfl, rfl, rfl⟩

theorem test_decode_L0_1 :
    decodeSyl 2 0x142A1523 none = .ok (.ldgV { g := 2, d := 40, base := 5, off := 291, ext := none, l1 := false }) ∧
    decodeSyl 2 0x18285523 none = .ok (.ldk32 { g := 2, d := 33, base := 5, off := 291, ext := none, l1 := false }) ∧
    decodeSyl 2 0x19285523 none = .ok (.ldk64 { g := 2, d := 33, base := 5, off := 291, ext := none, l1 := false }) ∧
    decodeSyl 2 0x1A285523 none = .ok (.ldacq32 { g := 2, d := 33, base := 5, off := 291, ext := none, l1 := false }) ∧
    decodeSyl 2 0x1B285523 none = .ok (.ldacq64 { g := 2, d := 33, base := 5, off := 291, ext := none, l1 := false }) ∧
    decodeSyl 2 0x1C20D523 none = .ok (.ldsc { g := 2, d := 3, base := 5, off := 291, ext := none, l1 := false }) ∧
    decodeSyl 2 0x20224031 none = .ok (.halloc { g := 2, d := 9, h := 0, a := 3, sub := 1, ext := none, l1 := false }) ∧
    decodeSyl 2 0x21224000 none = .ok (.hfree { g := 2, d := 9, h := 0, a := 0, sub := 0, ext := none, l1 := false }) ∧
    decodeSyl 2 0x22226300 none = .ok (.hinfo { g := 2, d := 9, h := 35, a := 0, sub := 0, ext := none, l1 := false }) ∧
    decodeSyl 2 0x23224030 none = .ok (.kderiveLd { g := 2, d := 9, h := 0, a := 3, sub := 0, ext := none, l1 := false }) ∧
    decodeSyl 2 0x23224531 none = .ok (.kderiveRs { g := 2, d := 9, h := 5, a := 3, sub := 1, ext := none, l1 := false }) ∧
    decodeSyl 2 0x23200532 none = .ok (.kderiveSt { g := 2, d := 0, h := 5, a := 3, sub := 2, ext := none, l1 := false }) ∧
    decodeSyl 2 0x24224500 none = .ok (.kchk { g := 2, d := 9, h := 5, a := 0, sub := 0, ext := none, l1 := false }) :=
  ⟨rfl, rfl, rfl, rfl, rfl, rfl, rfl, rfl, rfl, rfl, rfl, rfl, rfl⟩

theorem test_decode_L0_2 :
    decodeSyl 2 0x28209523 none = .ok (.pf { g := 2, d := 2, base := 5, off := 291, ext := none, l1 := false }) :=
  rfl

theorem test_decode_L1_0 :
    decodeSyl 3 0x01312345 none = .ok (.aadd { g := 3, d := 1, a := 2, b := 3, imm := 69, ext := none, l1 := true }) ∧
    decodeSyl 3 0x0B326323 none = .ok (.lds64 { g := 3, d := 9, h := 35, row := 2, col := 3, ext := none, l1 := true }) ∧
    decodeSyl 3 0x13385523 none = .ok (.ldg64 { g := 3, d := 33, base := 5, off := 291, ext := none, l1 := true }) ∧
    decodeSyl 3 0x1C30D523 none = .ok (.ldsc { g := 3, d := 3, base := 5, off := 291, ext := none, l1 := true }) ∧
    decodeSyl 3 0x23300532 none = .ok (.kderiveSt { g := 3, d := 0, h := 5, a := 3, sub := 2, ext := none, l1 := true }) :=
  ⟨rfl, rfl, rfl, rfl, rfl⟩

theorem test_decode_ST_0 :
    decodeSyl 4 0x0128D215 none = .ok (.sts8 { g := 2, data := 35, base := 9, port := 0, off := 21, ext := none }) ∧
    decodeSyl 4 0x0228D215 none = .ok (.sts16 { g := 2, data := 35, base := 9, port := 0, off := 21, ext := none }) ∧
    decodeSyl 4 0x0328D215 none = .ok (.sts32 { g := 2, data := 35, base := 9, port := 0, off := 21, ext := none }) ∧
    decodeSyl 4 0x0428D215 none = .ok (.sts64 { g := 2, data := 35, base := 9, port := 0, off := 21, ext := none }) ∧
    decodeSyl 4 0x052A1295 none = .ok (.stv { g := 2, data := 40, base := 9, port := 2, off := 21, ext := none }) ∧
    decodeSyl 4 0x062A1295 none = .ok (.stvt { g := 2, data := 40, base := 9, port := 2, off := 21, ext := none }) ∧
    decodeSyl 4 0x0828D215 none = .ok (.stg8 { g := 2, data := 35, base := 9, port := 0, off := 21, ext := none }) ∧
    decodeSyl 4 0x0928D215 none = .ok (.stg16 { g := 2, data := 35, base := 9, port := 0, off := 21, ext := none }) ∧
    decodeSyl 4 0x0A28D215 none = .ok (.stg32 { g := 2, data := 35, base := 9, port := 0, off := 21, ext := none }) ∧
    decodeSyl 4 0x0B28D215 none = .ok (.stg64 { g := 2, data := 35, base := 9, port := 0, off := 21, ext := none }) ∧
    decodeSyl 4 0x0C28D215 none = .ok (.stk32 { g := 2, data := 35, base := 9, port := 0, off := 21, ext := none }) ∧
    decodeSyl 4 0x0D28D215 none = .ok (.stk64 { g := 2, data := 35, base := 9, port := 0, off := 21, ext := none }) ∧
    decodeSyl 4 0x0E28D215 none = .ok (.strel32 { g := 2, data := 35, base := 9, port := 0, off := 21, ext := none }) :=
  ⟨rfl, rfl, rfl, rfl, rfl, rfl, rfl, rfl, rfl, rfl, rfl, rfl, rfl⟩

theorem test_decode_ST_1 :
    decodeSyl 4 0x0F28D215 none = .ok (.strel64 { g := 2, data := 35, base := 9, port := 0, off := 21, ext := none }) ∧
    decodeSyl 4 0x1024A970 none = .ok (.amoAdd32 { g := 2, d := 9, data := 10, base := 11, ord := 2, z := 0, ext := none }) ∧
    decodeSyl 4 0x1124A970 none = .ok (.amoAdd64 { g := 2, d := 9, data := 10, base := 11, ord := 2, z := 0, ext := none }) ∧
    decodeSyl 4 0x1224A970 none = .ok (.amoAnd32 { g := 2, d := 9, data := 10, base := 11, ord := 2, z := 0, ext := none }) ∧
    decodeSyl 4 0x1324A970 none = .ok (.amoAnd64 { g := 2, d := 9, data := 10, base := 11, ord := 2, z := 0, ext := none }) ∧
    decodeSyl 4 0x1424A970 none = .ok (.amoOr32 { g := 2, d := 9, data := 10, base := 11, ord := 2, z := 0, ext := none }) ∧
    decodeSyl 4 0x1524A970 none = .ok (.amoOr64 { g := 2, d := 9, data := 10, base := 11, ord := 2, z := 0, ext := none }) ∧
    decodeSyl 4 0x1624A970 none = .ok (.amoXor32 { g := 2, d := 9, data := 10, base := 11, ord := 2, z := 0, ext := none }) ∧
    decodeSyl 4 0x1724A970 none = .ok (.amoXor64 { g := 2, d := 9, data := 10, base := 11, ord := 2, z := 0, ext := none }) ∧
    decodeSyl 4 0x1824A970 none = .ok (.amoMin32 { g := 2, d := 9, data := 10, base := 11, ord := 2, z := 0, ext := none }) ∧
    decodeSyl 4 0x1924A970 none = .ok (.amoMin64 { g := 2, d := 9, data := 10, base := 11, ord := 2, z := 0, ext := none }) ∧
    decodeSyl 4 0x1A24A970 none = .ok (.amoMax32 { g := 2, d := 9, data := 10, base := 11, ord := 2, z := 0, ext := none }) ∧
    decodeSyl 4 0x1B24A970 none = .ok (.amoMax64 { g := 2, d := 9, data := 10, base := 11, ord := 2, z := 0, ext := none }) :=
  ⟨rfl, rfl, rfl, rfl, rfl, rfl, rfl, rfl, rfl, rfl, rfl, rfl, rfl⟩

theorem test_decode_ST_2 :
    decodeSyl 4 0x1C24A970 none = .ok (.amoMinu32 { g := 2, d := 9, data := 10, base := 11, ord := 2, z := 0, ext := none }) ∧
    decodeSyl 4 0x1D24A970 none = .ok (.amoMinu64 { g := 2, d := 9, data := 10, base := 11, ord := 2, z := 0, ext := none }) ∧
    decodeSyl 4 0x1E24A970 none = .ok (.amoMaxu32 { g := 2, d := 9, data := 10, base := 11, ord := 2, z := 0, ext := none }) ∧
    decodeSyl 4 0x1F24A970 none = .ok (.amoMaxu64 { g := 2, d := 9, data := 10, base := 11, ord := 2, z := 0, ext := none }) ∧
    decodeSyl 4 0x2024A970 none = .ok (.amoSwap32 { g := 2, d := 9, data := 10, base := 11, ord := 2, z := 0, ext := none }) ∧
    decodeSyl 4 0x2124A970 none = .ok (.amoSwap64 { g := 2, d := 9, data := 10, base := 11, ord := 2, z := 0, ext := none }) ∧
    decodeSyl 4 0x24A4A970 (some 0xC) = .ok (.cas32 { g := 2, d := 9, data := 10, base := 11, ord := 2, z := 0, ext := some 0xC }) ∧
    decodeSyl 4 0x25A4A970 (some 0xC) = .ok (.cas64 { g := 2, d := 9, data := 10, base := 11, ord := 2, z := 0, ext := some 0xC }) ∧
    decodeSyl 4 0x26A42970 (some 0xC) = .ok (.cas128 { g := 2, d := 8, data := 10, base := 11, ord := 2, z := 0, ext := some 0xC }) ∧
    decodeSyl 4 0x30202970 none = .ok (.redAdd32 { g := 2, d := 0, data := 10, base := 11, ord := 2, z := 0, ext := none }) ∧
    decodeSyl 4 0x31202970 none = .ok (.redAdd64 { g := 2, d := 0, data := 10, base := 11, ord := 2, z := 0, ext := none }) ∧
    decodeSyl 4 0x32202970 none = .ok (.redAnd32 { g := 2, d := 0, data := 10, base := 11, ord := 2, z := 0, ext := none }) ∧
    decodeSyl 4 0x33202970 none = .ok (.redAnd64 { g := 2, d := 0, data := 10, base := 11, ord := 2, z := 0, ext := none }) :=
  ⟨rfl, rfl, rfl, rfl, rfl, rfl, rfl, rfl, rfl, rfl, rfl, rfl, rfl⟩

theorem test_decode_ST_3 :
    decodeSyl 4 0x34202970 none = .ok (.redOr32 { g := 2, d := 0, data := 10, base := 11, ord := 2, z := 0, ext := none }) ∧
    decodeSyl 4 0x35202970 none = .ok (.redOr64 { g := 2, d := 0, data := 10, base := 11, ord := 2, z := 0, ext := none }) ∧
    decodeSyl 4 0x36202970 none = .ok (.redXor32 { g := 2, d := 0, data := 10, base := 11, ord := 2, z := 0, ext := none }) ∧
    decodeSyl 4 0x37202970 none = .ok (.redXor64 { g := 2, d := 0, data := 10, base := 11, ord := 2, z := 0, ext := none }) ∧
    decodeSyl 4 0x38202970 none = .ok (.redMin32 { g := 2, d := 0, data := 10, base := 11, ord := 2, z := 0, ext := none }) ∧
    decodeSyl 4 0x39202970 none = .ok (.redMin64 { g := 2, d := 0, data := 10, base := 11, ord := 2, z := 0, ext := none }) ∧
    decodeSyl 4 0x3A202970 none = .ok (.redMax32 { g := 2, d := 0, data := 10, base := 11, ord := 2, z := 0, ext := none }) ∧
    decodeSyl 4 0x3B202970 none = .ok (.redMax64 { g := 2, d := 0, data := 10, base := 11, ord := 2, z := 0, ext := none }) ∧
    decodeSyl 4 0x3C202970 none = .ok (.redMinu32 { g := 2, d := 0, data := 10, base := 11, ord := 2, z := 0, ext := none }) ∧
    decodeSyl 4 0x3D202970 none = .ok (.redMinu64 { g := 2, d := 0, data := 10, base := 11, ord := 2, z := 0, ext := none }) ∧
    decodeSyl 4 0x3E202970 none = .ok (.redMaxu32 { g := 2, d := 0, data := 10, base := 11, ord := 2, z := 0, ext := none }) ∧
    decodeSyl 4 0x3F202970 none = .ok (.redMaxu64 { g := 2, d := 0, data := 10, base := 11, ord := 2, z := 0, ext := none }) ∧
    decodeSyl 4 0x40202970 none = .ok (.redFadd32 { g := 2, d := 0, data := 10, base := 11, ord := 2, z := 0, ext := none }) :=
  ⟨rfl, rfl, rfl, rfl, rfl, rfl, rfl, rfl, rfl, rfl, rfl, rfl, rfl⟩

theorem test_decode_ST_4 :
    decodeSyl 4 0x48200000 none = .ok (.fence { g := 2, base := 0, len := 0, obj := 0, kind := 0, z := 0, ext := none }) ∧
    decodeSyl 4 0x48200004 none = .ok (.fenceRel { g := 2, base := 0, len := 0, obj := 0, kind := 1, z := 0, ext := none }) ∧
    decodeSyl 4 0x48200008 none = .ok (.fenceAcq { g := 2, base := 0, len := 0, obj := 0, kind := 2, z := 0, ext := none }) ∧
    decodeSyl 4 0x49208864 none = .ok (.bind { g := 2, base := 1, len := 2, obj := 3, kind := 1, z := 0, ext := none }) ∧
    decodeSyl 4 0x4A208064 none = .ok (.unbind { g := 2, base := 1, len := 0, obj := 3, kind := 1, z := 0, ext := none }) :=
  ⟨rfl, rfl, rfl, rfl, rfl⟩

theorem test_decode_V0_0 :
    decodeSyl 5 0x01B14A48 (some 0x2D800000) = .ok (.vadd { g := 3, vd := 5, va := 10, pa := 2, ty := 8, ext := some 0x2D800000, v1 := false }) ∧
    decodeSyl 5 0x02B14A48 (some 0x2D800000) = .ok (.vsub { g := 3, vd := 5, va := 10, pa := 2, ty := 8, ext := some 0x2D800000, v1 := false }) ∧
    decodeSyl 5 0x03B14A48 (some 0x2D800000) = .ok (.vmul { g := 3, vd := 5, va := 10, pa := 2, ty := 8, ext := some 0x2D800000, v1 := false }) ∧
    decodeSyl 5 0x04B14A48 (some 0x2D800000) = .ok (.vmulh { g := 3, vd := 5, va := 10, pa := 2, ty := 8, ext := some 0x2D800000, v1 := false }) ∧
    decodeSyl 5 0x05B14A48 (some 0x2D800000) = .ok (.vand { g := 3, vd := 5, va := 10, pa := 2, ty := 8, ext := some 0x2D800000, v1 := false }) ∧
    decodeSyl 5 0x06B14A48 (some 0x2D800000) = .ok (.vor { g := 3, vd := 5, va := 10, pa := 2, ty := 8, ext := some 0x2D800000, v1 := false }) ∧
    decodeSyl 5 0x07B14A48 (some 0x2D800000) = .ok (.vxor { g := 3, vd := 5, va := 10, pa := 2, ty := 8, ext := some 0x2D800000, v1 := false }) ∧
    decodeSyl 5 0x08B14A48 (some 0x2D800000) = .ok (.vandn { g := 3, vd := 5, va := 10, pa := 2, ty := 8, ext := some 0x2D800000, v1 := false }) ∧
    decodeSyl 5 0x09B14A48 (some 0x2D800000) = .ok (.vshl { g := 3, vd := 5, va := 10, pa := 2, ty := 8, ext := some 0x2D800000, v1 := false }) ∧
    decodeSyl 5 0x0AB14A48 (some 0x2D800000) = .ok (.vshr { g := 3, vd := 5, va := 10, pa := 2, ty := 8, ext := some 0x2D800000, v1 := false }) ∧
    decodeSyl 5 0x0BB14A48 (some 0x2D800000) = .ok (.vsra { g := 3, vd := 5, va := 10, pa := 2, ty := 8, ext := some 0x2D800000, v1 := false }) ∧
    decodeSyl 5 0x0CB14A48 (some 0x2D800000) = .ok (.vmin { g := 3, vd := 5, va := 10, pa := 2, ty := 8, ext := some 0x2D800000, v1 := false }) ∧
    decodeSyl 5 0x0DB14A48 (some 0x2D800000) = .ok (.vmax { g := 3, vd := 5, va := 10, pa := 2, ty := 8, ext := some 0x2D800000, v1 := false }) :=
  ⟨rfl, rfl, rfl, rfl, rfl, rfl, rfl, rfl, rfl, rfl, rfl, rfl, rfl⟩

theorem test_decode_V0_1 :
    decodeSyl 5 0x0EB14A48 (some 0x2D800000) = .ok (.vminu { g := 3, vd := 5, va := 10, pa := 2, ty := 8, ext := some 0x2D800000, v1 := false }) ∧
    decodeSyl 5 0x0FB14A48 (some 0x2D800000) = .ok (.vmaxu { g := 3, vd := 5, va := 10, pa := 2, ty := 8, ext := some 0x2D800000, v1 := false }) ∧
    decodeSyl 5 0x10314A48 none = .ok (.vabs { g := 3, vd := 5, va := 10, pa := 2, ty := 8, ext := none, v1 := false }) ∧
    decodeSyl 5 0x11314A48 none = .ok (.vneg { g := 3, vd := 5, va := 10, pa := 2, ty := 8, ext := none, v1 := false }) ∧
    decodeSyl 5 0x12B14A48 (some 0x2D800002) = .ok (.vcmp { g := 3, vd := 5, va := 10, pa := 2, ty := 8, ext := some 0x2D800002, v1 := false }) ∧
    decodeSyl 5 0x13B14A48 (some 0x2D800000) = .ok (.vaddSat { g := 3, vd := 5, va := 10, pa := 2, ty := 8, ext := some 0x2D800000, v1 := false }) ∧
    decodeSyl 5 0x14B14A48 (some 0x2D800000) = .ok (.vsubSat { g := 3, vd := 5, va := 10, pa := 2, ty := 8, ext := some 0x2D800000, v1 := false }) ∧
    decodeSyl 5 0x20B14A40 (some 0x2D800001) = .ok (.vfadd { g := 3, vd := 5, va := 10, pa := 2, ty := 0, ext := some 0x2D800001, v1 := false }) ∧
    decodeSyl 5 0x21B14A40 (some 0x2D800001) = .ok (.vfsub { g := 3, vd := 5, va := 10, pa := 2, ty := 0, ext := some 0x2D800001, v1 := false }) ∧
    decodeSyl 5 0x22B14A40 (some 0x2D800001) = .ok (.vfmul { g := 3, vd := 5, va := 10, pa := 2, ty := 0, ext := some 0x2D800001, v1 := false }) ∧
    decodeSyl 5 0x23B14A40 (some 0x2D990001) = .ok (.vfma { g := 3, vd := 5, va := 10, pa := 2, ty := 0, ext := some 0x2D990001, v1 := false }) ∧
    decodeSyl 5 0x24B14A40 (some 0x2D990001) = .ok (.vfms { g := 3, vd := 5, va := 10, pa := 2, ty := 0, ext := some 0x2D990001, v1 := false }) ∧
    decodeSyl 5 0x25B14A40 (some 0x2D800000) = .ok (.vfmin { g := 3, vd := 5, va := 10, pa := 2, ty := 0, ext := some 0x2D800000, v1 := false }) :=
  ⟨rfl, rfl, rfl, rfl, rfl, rfl, rfl, rfl, rfl, rfl, rfl, rfl, rfl⟩

theorem test_decode_V0_2 :
    decodeSyl 5 0x26B14A40 (some 0x2D800000) = .ok (.vfmax { g := 3, vd := 5, va := 10, pa := 2, ty := 0, ext := some 0x2D800000, v1 := false }) ∧
    decodeSyl 5 0x27314A40 none = .ok (.vfabs { g := 3, vd := 5, va := 10, pa := 2, ty := 0, ext := none, v1 := false }) ∧
    decodeSyl 5 0x28314A40 none = .ok (.vfneg { g := 3, vd := 5, va := 10, pa := 2, ty := 0, ext := none, v1 := false }) ∧
    decodeSyl 5 0x29B14A40 (some 0x2D800002) = .ok (.vfcmp { g := 3, vd := 5, va := 10, pa := 2, ty := 0, ext := some 0x2D800002, v1 := false }) ∧
    decodeSyl 5 0x2AB14A40 (some 0x1) = .ok (.vrcp { g := 3, vd := 5, va := 10, pa := 2, ty := 0, ext := some 0x1, v1 := false }) ∧
    decodeSyl 5 0x2BB14A40 (some 0x1) = .ok (.vrsq { g := 3, vd := 5, va := 10, pa := 2, ty := 0, ext := some 0x1, v1 := false }) ∧
    decodeSyl 5 0x2CB14A40 (some 0x1) = .ok (.vsqrt { g := 3, vd := 5, va := 10, pa := 2, ty := 0, ext := some 0x1, v1 := false }) ∧
    decodeSyl 5 0x2DB14A40 (some 0x1) = .ok (.vexp2 { g := 3, vd := 5, va := 10, pa := 2, ty := 0, ext := some 0x1, v1 := false }) ∧
    decodeSyl 5 0x2EB14A40 (some 0x1) = .ok (.vlog2 { g := 3, vd := 5, va := 10, pa := 2, ty := 0, ext := some 0x1, v1 := false }) ∧
    decodeSyl 5 0x30B14A41 (some 0x2D800001) = .ok (.vfaddH { g := 3, vd := 5, va := 10, pa := 2, ty := 1, ext := some 0x2D800001, v1 := false }) ∧
    decodeSyl 5 0x31B14A41 (some 0x2D800001) = .ok (.vfsubH { g := 3, vd := 5, va := 10, pa := 2, ty := 1, ext := some 0x2D800001, v1 := false }) ∧
    decodeSyl 5 0x32B14A41 (some 0x2D800001) = .ok (.vfmulH { g := 3, vd := 5, va := 10, pa := 2, ty := 1, ext := some 0x2D800001, v1 := false }) ∧
    decodeSyl 5 0x33B14A42 (some 0x2D990001) = .ok (.vfmaH { g := 3, vd := 5, va := 10, pa := 2, ty := 2, ext := some 0x2D990001, v1 := false }) :=
  ⟨rfl, rfl, rfl, rfl, rfl, rfl, rfl, rfl, rfl, rfl, rfl, rfl, rfl⟩

theorem test_decode_V0_3 :
    decodeSyl 5 0x34B14A42 (some 0x2D990001) = .ok (.vfmsH { g := 3, vd := 5, va := 10, pa := 2, ty := 2, ext := some 0x2D990001, v1 := false }) ∧
    decodeSyl 5 0x35B14A41 (some 0x2D800000) = .ok (.vfminH { g := 3, vd := 5, va := 10, pa := 2, ty := 1, ext := some 0x2D800000, v1 := false }) ∧
    decodeSyl 5 0x36B14A41 (some 0x2D800000) = .ok (.vfmaxH { g := 3, vd := 5, va := 10, pa := 2, ty := 1, ext := some 0x2D800000, v1 := false }) ∧
    decodeSyl 5 0x37314A41 none = .ok (.vfabsH { g := 3, vd := 5, va := 10, pa := 2, ty := 1, ext := none, v1 := false }) ∧
    decodeSyl 5 0x38314A41 none = .ok (.vfnegH { g := 3, vd := 5, va := 10, pa := 2, ty := 1, ext := none, v1 := false }) ∧
    decodeSyl 5 0x39B14A41 (some 0x2D800002) = .ok (.vfcmpH { g := 3, vd := 5, va := 10, pa := 2, ty := 1, ext := some 0x2D800002, v1 := false }) ∧
    decodeSyl 5 0x40B14A40 (some 0x41) = .ok (.vcvt { g := 3, vd := 5, va := 10, pa := 2, ty := 0, ext := some 0x41, v1 := false }) ∧
    decodeSyl 5 0x41B14A40 (some 0x2D800001) = .ok (.vcvtRs { g := 3, vd := 5, va := 10, pa := 2, ty := 0, ext := some 0x2D800001, v1 := false }) ∧
    decodeSyl 5 0x42B14A40 (some 0x2D800003) = .ok (.vqnt { g := 3, vd := 5, va := 10, pa := 2, ty := 0, ext := some 0x2D800003, v1 := false }) ∧
    decodeSyl 5 0x43B14A43 (some 0x2D800000) = .ok (.vdqnt { g := 3, vd := 5, va := 10, pa := 2, ty := 3, ext := some 0x2D800000, v1 := false }) ∧
    decodeSyl 5 0x48314A48 none = .ok (.vrsum { g := 3, vd := 5, va := 10, pa := 2, ty := 8, ext := none, v1 := false }) ∧
    decodeSyl 5 0x49314A48 none = .ok (.vrmax { g := 3, vd := 5, va := 10, pa := 2, ty := 8, ext := none, v1 := false }) ∧
    decodeSyl 5 0x4A314A48 none = .ok (.vrmin { g := 3, vd := 5, va := 10, pa := 2, ty := 8, ext := none, v1 := false }) :=
  ⟨rfl, rfl, rfl, rfl, rfl, rfl, rfl, rfl, rfl, rfl, rfl, rfl, rfl⟩

theorem test_decode_V0_4 :
    decodeSyl 5 0x4BB14A48 (some 0x1) = .ok (.vscan { g := 3, vd := 5, va := 10, pa := 2, ty := 8, ext := some 0x1, v1 := false }) ∧
    decodeSyl 5 0x4C314A40 none = .ok (.vrsumF { g := 3, vd := 5, va := 10, pa := 2, ty := 0, ext := none, v1 := false }) ∧
    decodeSyl 5 0x4D314A40 none = .ok (.vrmaxF { g := 3, vd := 5, va := 10, pa := 2, ty := 0, ext := none, v1 := false }) ∧
    decodeSyl 5 0x4E314A40 none = .ok (.vrminF { g := 3, vd := 5, va := 10, pa := 2, ty := 0, ext := none, v1 := false }) ∧
    decodeSyl 5 0x4FB14A40 (some 0x1) = .ok (.vscanF { g := 3, vd := 5, va := 10, pa := 2, ty := 0, ext := some 0x1, v1 := false }) ∧
    decodeSyl 5 0x50B14A48 (some 0x2D800000) = .ok (.vperm { g := 3, vd := 5, va := 10, pa := 2, ty := 8, ext := some 0x2D800000, v1 := false }) ∧
    decodeSyl 5 0x51B14A48 (some 0x5) = .ok (.vbcast { g := 3, vd := 5, va := 10, pa := 2, ty := 8, ext := some 0x5, v1 := false }) ∧
    decodeSyl 5 0x52B14A48 (some 0x2D800085) = .ok (.vslide { g := 3, vd := 5, va := 10, pa := 2, ty := 8, ext := some 0x2D800085, v1 := false }) ∧
    decodeSyl 5 0x53B14A48 (some 0x2D800002) = .ok (.vsel { g := 3, vd := 5, va := 10, pa := 2, ty := 8, ext := some 0x2D800002, v1 := false }) ∧
    decodeSyl 5 0x54314A48 none = .ok (.vmov { g := 3, vd := 5, va := 10, pa := 2, ty := 8, ext := none, v1 := false }) ∧
    decodeSyl 5 0x55B14008 (some 0x1234) = .ok (.vsplat { g := 3, vd := 5, va := 0, pa := 0, ty := 8, ext := some 0x1234, v1 := false }) ∧
    decodeSyl 5 0x56B14008 (some 0x1234) = .ok (.vlane { g := 3, vd := 5, va := 0, pa := 0, ty := 8, ext := some 0x1234, v1 := false }) ∧
    decodeSyl 5 0x58B00A40 (some 0x2D800000) = .ok (.vstat { g := 3, vd := 0, va := 10, pa := 2, ty := 0, ext := some 0x2D800000, v1 := false }) :=
  ⟨rfl, rfl, rfl, rfl, rfl, rfl, rfl, rfl, rfl, rfl, rfl, rfl, rfl⟩

theorem test_decode_V1_0 :
    decodeSyl 6 0x01A14A48 (some 0x2D800000) = .ok (.vadd { g := 2, vd := 5, va := 10, pa := 2, ty := 8, ext := some 0x2D800000, v1 := true }) ∧
    decodeSyl 6 0x07A14A48 (some 0x2D800000) = .ok (.vxor { g := 2, vd := 5, va := 10, pa := 2, ty := 8, ext := some 0x2D800000, v1 := true }) ∧
    decodeSyl 6 0x0DA14A48 (some 0x2D800000) = .ok (.vmax { g := 2, vd := 5, va := 10, pa := 2, ty := 8, ext := some 0x2D800000, v1 := true }) ∧
    decodeSyl 6 0x13A14A48 (some 0x2D800000) = .ok (.vaddSat { g := 2, vd := 5, va := 10, pa := 2, ty := 8, ext := some 0x2D800000, v1 := true }) ∧
    decodeSyl 6 0x24A14A40 (some 0x2D990001) = .ok (.vfms { g := 2, vd := 5, va := 10, pa := 2, ty := 0, ext := some 0x2D990001, v1 := true }) ∧
    decodeSyl 6 0x2AA14A40 (some 0x1) = .ok (.vrcp { g := 2, vd := 5, va := 10, pa := 2, ty := 0, ext := some 0x1, v1 := true }) ∧
    decodeSyl 6 0x31A14A41 (some 0x2D800001) = .ok (.vfsubH { g := 2, vd := 5, va := 10, pa := 2, ty := 1, ext := some 0x2D800001, v1 := true }) ∧
    decodeSyl 6 0x37214A41 none = .ok (.vfabsH { g := 2, vd := 5, va := 10, pa := 2, ty := 1, ext := none, v1 := true }) ∧
    decodeSyl 6 0x43A14A43 (some 0x2D800000) = .ok (.vdqnt { g := 2, vd := 5, va := 10, pa := 2, ty := 3, ext := some 0x2D800000, v1 := true }) ∧
    decodeSyl 6 0x4D214A40 none = .ok (.vrmaxF { g := 2, vd := 5, va := 10, pa := 2, ty := 0, ext := none, v1 := true }) ∧
    decodeSyl 6 0x53A14A48 (some 0x2D800002) = .ok (.vsel { g := 2, vd := 5, va := 10, pa := 2, ty := 8, ext := some 0x2D800002, v1 := true }) :=
  ⟨rfl, rfl, rfl, rfl, rfl, rfl, rfl, rfl, rfl, rfl, rfl⟩

theorem test_decode_M_0 :
    decodeSyl 7 0x01B35158 (some 0xAA800000) = .ok (.mopaNf { g := 3, acc := 3, hA := 20, hB := 21, order := 2, z := 0, ext := some 0xAA800000 }) ∧
    decodeSyl 7 0x02B35158 (some 0x2800000) = .ok (.mopaInt4 { g := 3, acc := 3, hA := 20, hB := 21, order := 2, z := 0, ext := some 0x2800000 }) ∧
    decodeSyl 7 0x03B35158 (some 0x2800000) = .ok (.mopaInt8 { g := 3, acc := 3, hA := 20, hB := 21, order := 2, z := 0, ext := some 0x2800000 }) ∧
    decodeSyl 7 0x04B35158 (some 0x2800000) = .ok (.mopaUint8 { g := 3, acc := 3, hA := 20, hB := 21, order := 2, z := 0, ext := some 0x2800000 }) ∧
    decodeSyl 7 0x05B35158 (some 0x800000) = .ok (.mopaF16 { g := 3, acc := 3, hA := 20, hB := 21, order := 2, z := 0, ext := some 0x800000 }) ∧
    decodeSyl 7 0x06B35158 (some 0x800000) = .ok (.mopaBf16 { g := 3, acc := 3, hA := 20, hB := 21, order := 2, z := 0, ext := some 0x800000 }) ∧
    decodeSyl 7 0x07B35158 (some 0x800000) = .ok (.mopaF32 { g := 3, acc := 3, hA := 20, hB := 21, order := 2, z := 0, ext := some 0x800000 }) ∧
    decodeSyl 7 0x09B35158 (some 0xAA800000) = .ok (.mopsNf { g := 3, acc := 3, hA := 20, hB := 21, order := 2, z := 0, ext := some 0xAA800000 }) ∧
    decodeSyl 7 0x0AB35158 (some 0x2800000) = .ok (.mopsInt4 { g := 3, acc := 3, hA := 20, hB := 21, order := 2, z := 0, ext := some 0x2800000 }) ∧
    decodeSyl 7 0x0BB35158 (some 0x2800000) = .ok (.mopsInt8 { g := 3, acc := 3, hA := 20, hB := 21, order := 2, z := 0, ext := some 0x2800000 }) ∧
    decodeSyl 7 0x0CB35158 (some 0x2800000) = .ok (.mopsUint8 { g := 3, acc := 3, hA := 20, hB := 21, order := 2, z := 0, ext := some 0x2800000 }) ∧
    decodeSyl 7 0x0DB35158 (some 0x800000) = .ok (.mopsF16 { g := 3, acc := 3, hA := 20, hB := 21, order := 2, z := 0, ext := some 0x800000 }) ∧
    decodeSyl 7 0x0EB35158 (some 0x800000) = .ok (.mopsBf16 { g := 3, acc := 3, hA := 20, hB := 21, order := 2, z := 0, ext := some 0x800000 }) :=
  ⟨rfl, rfl, rfl, rfl, rfl, rfl, rfl, rfl, rfl, rfl, rfl, rfl, rfl⟩

theorem test_decode_M_1 :
    decodeSyl 7 0x0FB35158 (some 0x800000) = .ok (.mopsF32 { g := 3, acc := 3, hA := 20, hB := 21, order := 2, z := 0, ext := some 0x800000 }) ∧
    decodeSyl 7 0x1033005A none = .ok (.mzero { g := 3, acc := 3, imm := 90, ext := none }) ∧
    decodeSyl 7 0x11301123 none = .ok (.mcfg { g := 3, acc := 0, imm := 4387, ext := none }) ∧
    decodeSyl 7 0x12300000 none = .ok (.mfence { g := 3, acc := 0, imm := 0, ext := none }) :=
  ⟨rfl, rfl, rfl, rfl⟩

theorem test_decode_D_0 :
    decodeSyl 8 0x01235025 none = .ok (.drain { g := 2, acc := 3, t := 20, port := 0, fmt := 2, row := 5, ext := none }) ∧
    decodeSyl 8 0x02A35025 (some 0x40) = .ok (.drainM { g := 2, acc := 3, t := 20, port := 0, fmt := 2, row := 5, ext := some 0x40 }) ∧
    decodeSyl 8 0x03235025 none = .ok (.drainv { g := 2, acc := 3, t := 20, port := 0, fmt := 2, row := 5, ext := none }) ∧
    decodeSyl 8 0x04235025 none = .ok (.fill { g := 2, acc := 3, t := 20, port := 0, fmt := 2, row := 5, ext := none }) ∧
    decodeSyl 8 0x05A35025 (some 0x40) = .ok (.fillM { g := 2, acc := 3, t := 20, port := 0, fmt := 2, row := 5, ext := some 0x40 }) ∧
    decodeSyl 8 0x06235125 none = .ok (.fillv { g := 2, acc := 3, t := 20, port := 2, fmt := 2, row := 5, ext := none }) ∧
    decodeSyl 8 0x07230005 none = .ok (.dzero { g := 2, acc := 3, t := 0, port := 0, fmt := 0, row := 5, ext := none }) :=
  ⟨rfl, rfl, rfl, rfl, rfl, rfl, rfl⟩

theorem test_decode_O_0 :
    decodeSyl 9 0x01335150 none = .ok (.oadamF32 { g := 3, acc := 3, hW := 20, hM := 21, z := 0, ext := none }) ∧
    decodeSyl 9 0x02335150 none = .ok (.oadamBf16 { g := 3, acc := 3, hW := 20, hM := 21, z := 0, ext := none }) ∧
    decodeSyl 9 0x03335150 none = .ok (.oadamwF32 { g := 3, acc := 3, hW := 20, hM := 21, z := 0, ext := none }) ∧
    decodeSyl 9 0x04335150 none = .ok (.oadamwBf16 { g := 3, acc := 3, hW := 20, hM := 21, z := 0, ext := none }) ∧
    decodeSyl 9 0x05335150 none = .ok (.olionF32 { g := 3, acc := 3, hW := 20, hM := 21, z := 0, ext := none }) ∧
    decodeSyl 9 0x06335150 none = .ok (.olionBf16 { g := 3, acc := 3, hW := 20, hM := 21, z := 0, ext := none }) ∧
    decodeSyl 9 0x07335150 none = .ok (.osgdmF32 { g := 3, acc := 3, hW := 20, hM := 21, z := 0, ext := none }) ∧
    decodeSyl 9 0x08335150 none = .ok (.osgdmBf16 { g := 3, acc := 3, hW := 20, hM := 21, z := 0, ext := none }) ∧
    decodeSyl 9 0x09330000 none = .ok (.oclip { g := 3, acc := 3, hW := 0, hM := 0, z := 0, ext := none }) ∧
    decodeSyl 9 0x0A330000 none = .ok (.oscale { g := 3, acc := 3, hW := 0, hM := 0, z := 0, ext := none }) :=
  ⟨rfl, rfl, rfl, rfl, rfl, rfl, rfl, rfl, rfl, rfl⟩

theorem test_decode_E_0 :
    decodeSyl 10 0x01251500 none = .ok (.cpy { g := 2, hJ := 20, hW := 21, k := 0, sub := 0, ext := none }) ∧
    decodeSyl 10 0x02251500 none = .ok (.cpyq { g := 2, hJ := 20, hW := 21, k := 0, sub := 0, ext := none }) ∧
    decodeSyl 10 0x03251500 none = .ok (.gath { g := 2, hJ := 20, hW := 21, k := 0, sub := 0, ext := none }) ∧
    decodeSyl 10 0x04251500 none = .ok (.scat { g := 2, hJ := 20, hW := 21, k := 0, sub := 0, ext := none }) ∧
    decodeSyl 10 0x05251550 none = .ok (.gathK { g := 2, hJ := 20, hW := 21, k := 5, sub := 0, ext := none }) ∧
    decodeSyl 10 0x06251550 none = .ok (.scatK { g := 2, hJ := 20, hW := 21, k := 5, sub := 0, ext := none }) ∧
    decodeSyl 10 0x08251550 none = .ok (.bget { g := 2, hJ := 20, hW := 21, k := 5, sub := 0, ext := none }) ∧
    decodeSyl 10 0x09251550 none = .ok (.bwr { g := 2, hJ := 20, hW := 21, k := 5, sub := 0, ext := none }) ∧
    decodeSyl 10 0x0A251550 none = .ok (.bred { g := 2, hJ := 20, hW := 21, k := 5, sub := 0, ext := none }) ∧
    decodeSyl 10 0x0B251550 none = .ok (.gred { g := 2, hJ := 20, hW := 21, k := 5, sub := 0, ext := none }) ∧
    decodeSyl 10 0x0C251550 none = .ok (.gmld { g := 2, hJ := 20, hW := 21, k := 5, sub := 0, ext := none }) ∧
    decodeSyl 10 0x0D251550 none = .ok (.grpset { g := 2, hJ := 20, hW := 21, k := 5, sub := 0, ext := none }) ∧
    decodeSyl 10 0x10251500 none = .ok (.msend { g := 2, hJ := 20, hW := 21, k := 0, sub := 0, ext := none }) :=
  ⟨rfl, rfl, rfl, rfl, rfl, rfl, rfl, rfl, rfl, rfl, rfl, rfl, rfl⟩

theorem test_decode_E_1 :
    decodeSyl 10 0x11251500 none = .ok (.enq { g := 2, hJ := 20, hW := 21, k := 0, sub := 0, ext := none }) ∧
    decodeSyl 10 0x12251500 none = .ok (.arrive { g := 2, hJ := 20, hW := 21, k := 0, sub := 0, ext := none }) ∧
    decodeSyl 10 0x13251500 none = .ok (.tdec { g := 2, hJ := 20, hW := 21, k := 0, sub := 0, ext := none }) ∧
    decodeSyl 10 0x14A51500 (some 0x15) = .ok (.tspawn { g := 2, hJ := 20, hW := 21, k := 0, sub := 0, ext := some 0x15 }) ∧
    decodeSyl 10 0x18251500 none = .ok (.sclose { g := 2, hJ := 20, hW := 21, k := 0, sub := 0, ext := none }) ∧
    decodeSyl 10 0x19A51500 (some 0x21) = .ok (.sread { g := 2, hJ := 20, hW := 21, k := 0, sub := 0, ext := some 0x21 }) ∧
    decodeSyl 10 0x1AA51500 (some 0x21) = .ok (.sreadO { g := 2, hJ := 20, hW := 21, k := 0, sub := 0, ext := some 0x21 }) ∧
    decodeSyl 10 0x1BA51500 (some 0x11) = .ok (.salloc { g := 2, hJ := 20, hW := 21, k := 0, sub := 0, ext := some 0x11 }) ∧
    decodeSyl 10 0x1C251500 none = .ok (.sfree { g := 2, hJ := 20, hW := 21, k := 0, sub := 0, ext := none }) ∧
    decodeSyl 10 0x20251550 none = .ok (.lacq { g := 2, hJ := 20, hW := 21, k := 5, sub := 0, ext := none }) ∧
    decodeSyl 10 0x21251550 none = .ok (.lrel { g := 2, hJ := 20, hW := 21, k := 5, sub := 0, ext := none }) ∧
    decodeSyl 10 0x22251500 none = .ok (.realign { g := 2, hJ := 20, hW := 21, k := 0, sub := 0, ext := none }) ∧
    decodeSyl 10 0x23251500 none = .ok (.mstone { g := 2, hJ := 20, hW := 21, k := 0, sub := 0, ext := none }) :=
  ⟨rfl, rfl, rfl, rfl, rfl, rfl, rfl, rfl, rfl, rfl, rfl, rfl, rfl⟩

theorem test_decode_E_2 :
    decodeSyl 10 0x28A01500 (some 0x1234) = .ok (.wmarm { g := 2, hJ := 0, hW := 21, k := 0, sub := 0, ext := some 0x1234 }) :=
  rfl

theorem test_decode_W_0 :
    decodeSyl 11 0x01350A07 none = .ok (.wait { g := 3, h := 20, s := 5, imm := 7, ext := none }) ∧
    decodeSyl 11 0x02300A07 none = .ok (.waitc { g := 3, h := 0, s := 5, imm := 7, ext := none }) ∧
    decodeSyl 11 0x03300007 none = .ok (.waitb { g := 3, h := 0, s := 0, imm := 7, ext := none }) ∧
    decodeSyl 11 0x04300A07 none = .ok (.waitt { g := 3, h := 0, s := 5, imm := 7, ext := none }) :=
  ⟨rfl, rfl, rfl, rfl⟩

theorem test_decode_X_0 :
    decodeSyl 12 0x01060000 none = .ok (.scope { g := 0, scope := 3, z := 0, ext := none }) :=
  rfl

/-! ## Well-formedness: an ill-formed term for each check -/

theorem test_illformed_control_0 :
    (Instr.nop { g := 0, z := 1, ext := none }).illegal = some 6 ∧
    (Instr.nop { g := 0, z := 0, ext := some 0x0 }).illegal = some 5 ∧
    (Instr.br { g := 0, off := 74565, ext := some 0x5 }).illegal = some 6 ∧
    (Instr.brp { g := 0, p := 3, sense := 1, off := 4660, ext := some 0x5 }).illegal = some 6 ∧
    (Instr.jmp { g := 0, s := 9, z := 1, ext := none }).illegal = some 6 ∧
    (Instr.jmp { g := 0, s := 9, z := 0, ext := some 0x0 }).illegal = some 5 ∧
    (Instr.loop { g := 0, lc := 6, s := 5, imm := 291, ext := none }).illegal = some 7 ∧
    (Instr.loopn { g := 0, lc := 2, s := 5, imm := 291, ext := some 0x3 }).illegal = some 6 ∧
    (Instr.csrr { g := 0, num := 5, s := 7, z := 0, ext := none }).illegal = some 7 ∧
    (Instr.csrr { g := 0, num := 17, s := 7, z := 1, ext := none }).illegal = some 6 ∧
    (Instr.csrw { g := 0, num := 0, s := 7, z := 0, ext := none }).illegal = some 7 ∧
    (Instr.csrwI { g := 0, num := 17, s := 0, z := 0, ext := none }).illegal = some 5 ∧
    (Instr.csrwI { g := 0, num := 17, s := 1, z := 0, ext := some 0x80000001 }).illegal = some 6 ∧
    (Instr.csrwI { g := 0, num := 32, s := 0, z := 0, ext := some 0x80000001 }).illegal = some 7 ∧
    (Instr.fmtw { g := 0, fmt := 3, s := 9, z := 1, ext := none }).illegal = some 6 ∧
    (Instr.fmtw { g := 0, fmt := 3, s := 9, z := 0, ext := some 0x7 }).illegal = some 6 ∧
    (Instr.pand { g := 0, pd := 1, pa := 2, pb := 3, z := 1, ext := none }).illegal = some 6 ∧
    (Instr.pnot { g := 0, pd := 1, pa := 2, pb := 1, z := 0, ext := none }).illegal = some 6 ∧
    (Instr.trapC { g := 0, code := 703710, ext := some 0x0 }).illegal = some 5 ∧
    (Instr.wait { g := 0, h := 20, s := 5, imm := 7, ext := some 0x7 }).illegal = some 6 :=
  ⟨rfl, rfl, rfl, rfl, rfl, rfl, rfl, rfl, rfl, rfl, rfl, rfl, rfl, rfl, rfl, rfl, rfl, rfl, rfl, rfl⟩

theorem test_illformed_control_1 :
    (Instr.waitc { g := 0, h := 1, s := 5, imm := 7, ext := none }).illegal = some 6 ∧
    (Instr.waitb { g := 0, h := 0, s := 1, imm := 7, ext := none }).illegal = some 6 ∧
    (Instr.waitb { g := 0, h := 0, s := 0, imm := 0, ext := some 0x200 }).illegal = some 6 ∧
    (Instr.waitt { g := 0, h := 1, s := 5, imm := 7, ext := none }).illegal = some 6 ∧
    (Instr.scope { g := 0, scope := 5, z := 0, ext := none }).illegal = some 7 ∧
    (Instr.scope { g := 1, scope := 3, z := 0, ext := none }).illegal = some 6 ∧
    (Instr.scope { g := 0, scope := 3, z := 1, ext := none }).illegal = some 6 :=
  ⟨rfl, rfl, rfl, rfl, rfl, rfl, rfl⟩

theorem test_illformed_scalar_0 :
    (Instr.add { g := 0, d := 1, a := 3, b := 4, c := 1, ext := none }).illegal = some 6 ∧
    (Instr.add { g := 0, d := 1, a := 3, b := 4, c := 0, ext := some 0x0 }).illegal = some 5 ∧
    (Instr.clz { g := 0, d := 1, a := 3, b := 1, c := 0, ext := none }).illegal = some 6 ∧
    (Instr.sel { g := 0, d := 1, a := 3, b := 4, c := 8, ext := none }).illegal = some 6 ∧
    (Instr.cmp { g := 0, d := 8, a := 3, b := 4, c := 2, ext := none }).illegal = some 6 ∧
    (Instr.cmp { g := 0, d := 3, a := 3, b := 4, c := 10, ext := none }).illegal = some 7 ∧
    (Instr.addi { g := 0, d := 1, a := 3, imm := 18, ext := some 0x1 }).illegal = some 6 ∧
    (Instr.shlI { g := 0, d := 1, a := 3, imm := 64, ext := none }).illegal = some 7 ∧
    (Instr.shlI { g := 0, d := 1, a := 3, imm := 0, ext := some 0x40 }).illegal = some 7 ∧
    (Instr.cmpI { g := 0, pd := 3, z := 0, a := 5, cond := 10, imm := 7, ext := none }).illegal = some 7 ∧
    (Instr.cmpI { g := 0, pd := 3, z := 1, a := 5, cond := 2, imm := 7, ext := none }).illegal = some 6 ∧
    (Instr.movi { g := 0, d := 5, imm := 4660, ext := some 0x1 }).illegal = some 6 ∧
    (Instr.xmovSl { g := 0, d := 32, a := 6, port := 0, sel := 0, ext := none }).illegal = some 7 ∧
    (Instr.xmovSl { g := 0, d := 5, a := 6, port := 1, sel := 0, ext := none }).illegal = some 6 ∧
    (Instr.xmovSv { g := 0, d := 40, a := 6, port := 0, sel := 4, ext := none }).illegal = some 7 ∧
    (Instr.xmovVs { g := 0, d := 5, a := 40, port := 2, sel := 16, ext := none }).illegal = some 7 ∧
    (Instr.fadd { g := 0, d := 1, a := 3, b := 4, c := 4, ext := none }).illegal = some 7 ∧
    (Instr.fadd { g := 0, d := 1, a := 3, b := 4, c := 8, ext := none }).illegal = some 6 ∧
    (Instr.fcmp { g := 0, d := 3, a := 3, b := 4, c := 4, ext := none }).illegal = some 7 ∧
    (Instr.fma { g := 0, d := 1, a := 3, b := 4, c := 9, ext := some 0x0 }).illegal = some 5 :=
  ⟨rfl, rfl, rfl, rfl, rfl, rfl, rfl, rfl, rfl, rfl, rfl, rfl, rfl, rfl, rfl, rfl, rfl, rfl, rfl, rfl⟩

theorem test_illformed_memory_0 :
    (Instr.aadd { g := 0, d := 1, a := 2, b := 3, imm := 69, ext := some 0x1, l1 := false }).illegal = some 6 ∧
    (Instr.aaddi { g := 0, d := 1, a := 2, b := 1, imm := 69, ext := none, l1 := false }).illegal = some 6 ∧
    (Instr.xmova { g := 0, d := 1, a := 2, b := 0, imm := 1, ext := none, l1 := false }).illegal = some 6 ∧
    (Instr.lds8 { g := 0, d := 16, h := 35, row := 2, col := 3, ext := none, l1 := false }).illegal = some 6 ∧
    (Instr.ldv { g := 0, d := 40, h := 35, row := 2, col := 3, ext := some 0x1, l1 := false }).illegal = some 6 ∧
    (Instr.ldg8 { g := 0, d := 48, base := 5, off := 291, ext := none, l1 := false }).illegal = some 7 ∧
    (Instr.ldgV { g := 0, d := 40, base := 5, off := 291, ext := some 0x1, l1 := false }).illegal = some 6 ∧
    (Instr.ldsc { g := 0, d := 4, base := 5, off := 291, ext := none, l1 := false }).illegal = some 6 ∧
    (Instr.halloc { g := 0, d := 9, h := 0, a := 3, sub := 3, ext := none, l1 := false }).illegal = some 7 ∧
    (Instr.halloc { g := 0, d := 9, h := 1, a := 3, sub := 1, ext := none, l1 := false }).illegal = some 6 ∧
    (Instr.hfree { g := 0, d := 9, h := 0, a := 1, sub := 0, ext := none, l1 := false }).illegal = some 6 ∧
    (Instr.hinfo { g := 0, d := 32, h := 35, a := 0, sub := 0, ext := none, l1 := false }).illegal = some 7 ∧
    (Instr.hinfo { g := 0, d := 9, h := 35, a := 1, sub := 0, ext := none, l1 := false }).illegal = some 6 ∧
    (Instr.kderiveLd { g := 0, d := 9, h := 1, a := 3, sub := 0, ext := none, l1 := false }).illegal = some 6 ∧
    (Instr.kderiveRs { g := 0, d := 9, h := 16, a := 3, sub := 1, ext := none, l1 := false }).illegal = some 6 ∧
    (Instr.kderiveSt { g := 0, d := 1, h := 5, a := 3, sub := 2, ext := none, l1 := false }).illegal = some 6 ∧
    (Instr.kderiveSt { g := 0, d := 0, h := 5, a := 3, sub := 3, ext := none, l1 := false }).illegal = some 7 ∧
    (Instr.kchk { g := 0, d := 9, h := 5, a := 0, sub := 1, ext := none, l1 := false }).illegal = some 7 ∧
    (Instr.pf { g := 0, d := 3, base := 5, off := 291, ext := none, l1 := false }).illegal = some 7 ∧
    (Instr.sts8 { g := 0, data := 35, base := 9, port := 1, off := 21, ext := none }).illegal = some 6 :=
  ⟨rfl, rfl, rfl, rfl, rfl, rfl, rfl, rfl, rfl, rfl, rfl, rfl, rfl, rfl, rfl, rfl, rfl, rfl, rfl, rfl⟩

theorem test_illformed_memory_1 :
    (Instr.stv { g := 0, data := 40, base := 9, port := 2, off := 21, ext := some 0x1 }).illegal = some 6 ∧
    (Instr.stk32 { g := 0, data := 35, base := 16, port := 0, off := 21, ext := none }).illegal = some 7 ∧
    (Instr.stg8 { g := 0, data := 35, base := 9, port := 1, off := 21, ext := none }).illegal = some 6 ∧
    (Instr.amoAdd32 { g := 0, d := 9, data := 10, base := 11, ord := 2, z := 1, ext := none }).illegal = some 6 ∧
    (Instr.amoAdd32 { g := 0, d := 9, data := 10, base := 11, ord := 2, z := 0, ext := some 0x1 }).illegal = some 6 ∧
    (Instr.cas32 { g := 0, d := 9, data := 10, base := 11, ord := 2, z := 0, ext := none }).illegal = some 5 ∧
    (Instr.cas32 { g := 0, d := 9, data := 10, base := 11, ord := 2, z := 0, ext := some 0x20 }).illegal = some 6 ∧
    (Instr.cas128 { g := 0, d := 8, data := 10, base := 11, ord := 2, z := 0, ext := some 0xD }).illegal = some 7 ∧
    (Instr.redAdd32 { g := 0, d := 1, data := 10, base := 11, ord := 2, z := 0, ext := none }).illegal = some 7 ∧
    (Instr.redAdd32 { g := 0, d := 0, data := 10, base := 11, ord := 1, z := 0, ext := none }).illegal = some 7 ∧
    (Instr.fence { g := 0, base := 1, len := 0, obj := 0, kind := 0, z := 0, ext := none }).illegal = some 6 ∧
    (Instr.fence { g := 0, base := 0, len := 0, obj := 0, kind := 0, z := 0, ext := some 0x0 }).illegal = some 5 ∧
    (Instr.bind { g := 0, base := 1, len := 2, obj := 3, kind := 5, z := 0, ext := none }).illegal = some 7 ∧
    (Instr.unbind { g := 0, base := 1, len := 1, obj := 3, kind := 1, z := 0, ext := none }).illegal = some 6 :=
  ⟨rfl, rfl, rfl, rfl, rfl, rfl, rfl, rfl, rfl, rfl, rfl, rfl, rfl, rfl⟩

theorem test_illformed_vector_0 :
    (Instr.vadd { g := 0, vd := 5, va := 10, pa := 2, ty := 8, ext := none, v1 := false }).illegal = some 5 ∧
    (Instr.vadd { g := 0, vd := 5, va := 10, pa := 2, ty := 8, ext := some 0x2D820000, v1 := false }).illegal = some 6 ∧
    (Instr.vadd { g := 0, vd := 5, va := 10, pa := 2, ty := 0, ext := some 0x2D800000, v1 := false }).illegal = some 7 ∧
    (Instr.vabs { g := 0, vd := 5, va := 10, pa := 2, ty := 9, ext := none, v1 := false }).illegal = some 7 ∧
    (Instr.vneg { g := 0, vd := 5, va := 10, pa := 2, ty := 8, ext := some 0x0, v1 := false }).illegal = some 5 ∧
    (Instr.vcmp { g := 0, vd := 8, va := 10, pa := 2, ty := 8, ext := some 0x2D800002, v1 := false }).illegal = some 6 ∧
    (Instr.vcmp { g := 0, vd := 5, va := 10, pa := 2, ty := 8, ext := some 0x2D80000A, v1 := false }).illegal = some 7 ∧
    (Instr.vfadd { g := 0, vd := 5, va := 10, pa := 2, ty := 0, ext := some 0x2D800004, v1 := false }).illegal = some 7 ∧
    (Instr.vfadd { g := 0, vd := 5, va := 10, pa := 2, ty := 0, ext := some 0x2D800008, v1 := false }).illegal = some 6 ∧
    (Instr.vfma { g := 0, vd := 5, va := 10, pa := 2, ty := 1, ext := some 0x2D990001, v1 := false }).illegal = some 7 ∧
    (Instr.vfmin { g := 0, vd := 5, va := 10, pa := 2, ty := 0, ext := some 0x2D800001, v1 := false }).illegal = some 6 ∧
    (Instr.vfabs { g := 0, vd := 5, va := 10, pa := 2, ty := 8, ext := none, v1 := false }).illegal = some 7 ∧
    (Instr.vfcmp { g := 0, vd := 5, va := 10, pa := 2, ty := 0, ext := some 0x2D800004, v1 := false }).illegal = some 7 ∧
    (Instr.vrcp { g := 0, vd := 5, va := 10, pa := 2, ty := 0, ext := some 0x2D800000, v1 := false }).illegal = some 6 ∧
    (Instr.vfaddH { g := 0, vd := 5, va := 10, pa := 2, ty := 0, ext := some 0x2D800001, v1 := false }).illegal = some 7 ∧
    (Instr.vfcmpH { g := 0, vd := 8, va := 10, pa := 2, ty := 1, ext := some 0x2D800002, v1 := false }).illegal = some 6 ∧
    (Instr.vcvt { g := 0, vd := 5, va := 10, pa := 2, ty := 0, ext := some 0x81, v1 := false }).illegal = some 7 ∧
    (Instr.vcvt { g := 0, vd := 5, va := 10, pa := 2, ty := 0, ext := some 0x2C000000, v1 := false }).illegal = some 6 ∧
    (Instr.vcvtRs { g := 0, vd := 5, va := 10, pa := 2, ty := 0, ext := some 0x2D800021, v1 := false }).illegal = some 6 ∧
    (Instr.vqnt { g := 0, vd := 5, va := 10, pa := 2, ty := 0, ext := some 0x2D800000, v1 := false }).illegal = some 7 :=
  ⟨rfl, rfl, rfl, rfl, rfl, rfl, rfl, rfl, rfl, rfl, rfl, rfl, rfl, rfl, rfl, rfl, rfl, rfl, rfl, rfl⟩

theorem test_illformed_vector_1 :
    (Instr.vqnt { g := 0, vd := 5, va := 10, pa := 2, ty := 0, ext := some 0x2D800103, v1 := false }).illegal = some 6 ∧
    (Instr.vdqnt { g := 0, vd := 5, va := 10, pa := 2, ty := 0, ext := some 0x2D800000, v1 := false }).illegal = some 7 ∧
    (Instr.vscan { g := 0, vd := 5, va := 10, pa := 2, ty := 8, ext := some 0x3, v1 := false }).illegal = some 7 ∧
    (Instr.vrsumF { g := 0, vd := 5, va := 10, pa := 2, ty := 8, ext := none, v1 := false }).illegal = some 7 ∧
    (Instr.vscanF { g := 0, vd := 5, va := 10, pa := 2, ty := 0, ext := some 0x4000000, v1 := false }).illegal = some 6 ∧
    (Instr.vperm { g := 0, vd := 5, va := 10, pa := 2, ty := 8, ext := some 0x2D800001, v1 := false }).illegal = some 6 ∧
    (Instr.vbcast { g := 0, vd := 5, va := 10, pa := 2, ty := 8, ext := some 0x80, v1 := false }).illegal = some 6 ∧
    (Instr.vbcast { g := 0, vd := 5, va := 10, pa := 2, ty := 8, ext := some 0x7F, v1 := false }).illegal = some 7 ∧
    (Instr.vslide { g := 0, vd := 5, va := 10, pa := 2, ty := 8, ext := some 0x2D800100, v1 := false }).illegal = some 6 ∧
    (Instr.vsel { g := 0, vd := 5, va := 10, pa := 2, ty := 8, ext := some 0x2D800008, v1 := false }).illegal = some 6 ∧
    (Instr.vmov { g := 0, vd := 5, va := 10, pa := 2, ty := 10, ext := none, v1 := false }).illegal = some 7 ∧
    (Instr.vsplat { g := 0, vd := 5, va := 1, pa := 0, ty := 8, ext := some 0x1234, v1 := false }).illegal = some 6 ∧
    (Instr.vstat { g := 0, vd := 1, va := 10, pa := 2, ty := 0, ext := some 0x2D800000, v1 := false }).illegal = some 6 ∧
    (Instr.vstat { g := 0, vd := 0, va := 10, pa := 2, ty := 8, ext := some 0x2D800000, v1 := false }).illegal = some 7 :=
  ⟨rfl, rfl, rfl, rfl, rfl, rfl, rfl, rfl, rfl, rfl, rfl, rfl, rfl, rfl⟩

theorem test_illformed_engine_0 :
    (Instr.mopaNf { g := 0, acc := 3, hA := 20, hB := 21, order := 2, z := 0, ext := none }).illegal = some 5 ∧
    (Instr.mopaNf { g := 0, acc := 3, hA := 20, hB := 21, order := 2, z := 1, ext := some 0xAA800000 }).illegal = some 6 ∧
    (Instr.mopaInt4 { g := 0, acc := 3, hA := 20, hB := 21, order := 2, z := 0, ext := some 0x20000000 }).illegal = some 6 ∧
    (Instr.mopaF16 { g := 0, acc := 3, hA := 20, hB := 21, order := 2, z := 0, ext := some 0x2000000 }).illegal = some 7 ∧
    (Instr.mzero { g := 0, acc := 3, imm := 256, ext := none }).illegal = some 6 ∧
    (Instr.mcfg { g := 0, acc := 1, imm := 4387, ext := none }).illegal = some 6 ∧
    (Instr.mcfg { g := 0, acc := 0, imm := 20480, ext := none }).illegal = some 7 ∧
    (Instr.mcfg { g := 0, acc := 0, imm := 16448, ext := none }).illegal = some 7 ∧
    (Instr.mfence { g := 0, acc := 0, imm := 1, ext := none }).illegal = some 6 ∧
    (Instr.drain { g := 0, acc := 3, t := 20, port := 1, fmt := 2, row := 5, ext := none }).illegal = some 6 ∧
    (Instr.drain { g := 0, acc := 3, t := 20, port := 0, fmt := 2, row := 8, ext := none }).illegal = some 7 ∧
    (Instr.drainM { g := 0, acc := 3, t := 20, port := 0, fmt := 2, row := 5, ext := some 0x41 }).illegal = some 7 ∧
    (Instr.drainM { g := 0, acc := 3, t := 32, port := 0, fmt := 2, row := 5, ext := some 0x40 }).illegal = some 7 ∧
    (Instr.drainM { g := 0, acc := 3, t := 20, port := 0, fmt := 2, row := 5, ext := none }).illegal = some 5 ∧
    (Instr.drainv { g := 0, acc := 3, t := 20, port := 1, fmt := 2, row := 5, ext := none }).illegal = some 6 ∧
    (Instr.fillv { g := 0, acc := 3, t := 20, port := 2, fmt := 2, row := 5, ext := some 0x80 }).illegal = some 6 ∧
    (Instr.dzero { g := 0, acc := 3, t := 1, port := 0, fmt := 0, row := 5, ext := none }).illegal = some 6 ∧
    (Instr.oadamF32 { g := 0, acc := 3, hW := 20, hM := 21, z := 1, ext := none }).illegal = some 6 ∧
    (Instr.oclip { g := 0, acc := 3, hW := 1, hM := 0, z := 0, ext := none }).illegal = some 6 ∧
    (Instr.cpy { g := 0, hJ := 20, hW := 21, k := 1, sub := 0, ext := none }).illegal = some 6 :=
  ⟨rfl, rfl, rfl, rfl, rfl, rfl, rfl, rfl, rfl, rfl, rfl, rfl, rfl, rfl, rfl, rfl, rfl, rfl, rfl, rfl⟩

theorem test_illformed_engine_1 :
    (Instr.cpy { g := 0, hJ := 20, hW := 21, k := 0, sub := 1, ext := none }).illegal = some 7 ∧
    (Instr.gathK { g := 0, hJ := 20, hW := 21, k := 5, sub := 0, ext := some 0x0 }).illegal = some 5 ∧
    (Instr.enq { g := 0, hJ := 20, hW := 21, k := 0, sub := 2, ext := none }).illegal = some 7 ∧
    (Instr.tspawn { g := 0, hJ := 20, hW := 21, k := 0, sub := 0, ext := some 0x20 }).illegal = some 6 ∧
    (Instr.sread { g := 0, hJ := 20, hW := 21, k := 0, sub := 0, ext := none }).illegal = some 5 ∧
    (Instr.lacq { g := 0, hJ := 20, hW := 21, k := 5, sub := 2, ext := none }).illegal = some 7 ∧
    (Instr.wmarm { g := 0, hJ := 1, hW := 21, k := 0, sub := 0, ext := some 0x1234 }).illegal = some 6 ∧
    (Instr.wmarm { g := 0, hJ := 0, hW := 21, k := 0, sub := 1, ext := some 0x1234 }).illegal = some 7 :=
  ⟨rfl, rfl, rfl, rfl, rfl, rfl, rfl, rfl⟩

/-! ## Packets, as numbers of 128 bytes from the first byte (R439, R440) -/

theorem test_decode_packets :
    decodePacket 3 0 7 false (BitVec.ofNat 1024 (21 + 0x1234 * 2 ^ 16 + 0x1000 * 2 ^ 64)) =
      .ok (.nopPacket { queue := 3, entry := 0, opc := 21, tag := 0x1234, cmpl := 0x1000, asid := 7 }) ∧
    decodePacket 3 1 7 false (BitVec.ofNat 1024 (2 + 0x41 * 2 ^ 128)) =
      .ok (.ready { queue := 3, entry := 1, opc := 2, tag := 0, cmpl := 0, asid := 7 } 0x41) ∧
    decodePacket 3 1 7 false (BitVec.ofNat 1024 (3 + 0x41 * 2 ^ 128 + 9 * 2 ^ 160)) =
      .ok (.dec { queue := 3, entry := 1, opc := 3, tag := 0, cmpl := 0, asid := 7 } 0x41 9) ∧
    decodePacket 3 1 7 false (BitVec.ofNat 1024 (14 + 0x203 * 2 ^ 128 + 2 ^ 144 + 0x1F * 2 ^ 152)) =
      .ok (.recAlloc { queue := 3, entry := 1, opc := 14, tag := 0, cmpl := 0, asid := 7 } 0x203 true 0x1F) ∧
    decodePacket 0 1 0 true (BitVec.ofNat 1024 (17 + 0x2A * 2 ^ 128)) =
      .ok (.abandon { queue := 0, entry := 1, opc := 17, tag := 0, cmpl := 0, asid := 0 } 0x2A) := by
  decide +kernel

theorem test_refuse_packets :
    decodePacket 3 1 7 false (BitVec.ofNat 1024 (17 + 0x2A * 2 ^ 128)) = .denied { queue := 3, entry := 1, opc := 17, tag := 0, cmpl := 0, asid := 7 } ∧
    decodePacket 3 1 7 false (BitVec.ofNat 1024 (3 + 0x41 * 2 ^ 128)) = .bad { queue := 3, entry := 1, opc := 3, tag := 0, cmpl := 0, asid := 7 } ∧
    decodePacket 3 1 7 false (BitVec.ofNat 1024 (2 + 2 ^ 15 * 2 ^ 128)) = .bad { queue := 3, entry := 1, opc := 2, tag := 0, cmpl := 0, asid := 7 } ∧
    decodePacket 3 1 7 false 0 = .bad { queue := 3, entry := 1, opc := 0, tag := 0, cmpl := 0, asid := 7 } := by
  decide +kernel

theorem test_decode_supervisor_packets :
    let h : PktHdr := { queue := 3, entry := 1, opc := 16, tag := 0, cmpl := 0, asid := 7 }
    let d := fun (opc body : Nat) => decodePacket 3 1 7 true (BitVec.ofNat 1024 (opc + 2 ^ 128 * body))
    d 16 (5 + 2 ^ 20 + 2 ^ 128 * 3 + 2 ^ 192 * 7) = .ok (.resume h 5 false 0 [(3, 7)]) ∧
    d 16 (5 + 2 ^ 20 + 2 ^ 192 * 7) = .bad h ∧ d 16 (5 + 2 ^ 16 + 2 ^ 64 * 0x120) = .ok (.resume h 5 true 0x120 []) ∧
    d 9 (0x10000 + 2 ^ 64 * 0x2000 + 2 ^ 128 * (1 + 2 ^ 4 * 2 + 2 ^ 8 + 2 ^ 9 + 2 ^ 16 * 77)) =
      .ok (.map { h with opc := 9 } 0x10000 0x2000 1 2 true true 77) ∧
    d 11 (0x10000 + 2 ^ 128 * (1 + 2 ^ 9 + 2 ^ 16 * 77)) = .ok (.protect { h with opc := 11, named := 77 } 0x10000 1 false true) ∧
    d 6 (77 + 2 ^ 16 * 5 + 2 ^ 24 + 2 ^ 32 * 9 + 2 ^ 64 * 0x40) = .ok (.aspace { h with opc := 6 } 77 5 true 9 0x40) ∧
    d 13 (77 + 2 ^ 64 * 5 + 2 ^ 128 * 4096) = .ok (.segtab { h with opc := 13 } 77 5 4096) ∧
    d 13 (77 + 2 ^ 64 * 5 + 2 ^ 128 * 4097) = .bad { h with opc := 13 } ∧
    d 1 (128 + 2 ^ 64 * (5 + 2 ^ 15) + 2 ^ 128 * 9) = .ok (.launch { h with opc := 1 } 128 5 true 9) ∧
    d 5 (2 ^ 52 - 1) = .ok (.route { h with opc := 5 } (2 ^ 52 - 1)) ∧ d 5 (2 ^ 52) = .bad { h with opc := 5 } := by
  decide +kernel

/-! ## Small states -/

/-- The slots of a bundle of context 0 run, with registers `x`. -/
def tAt (x : Ctx) : State :=
  { State.reset with
    ctxs := [(0, x)]
    issue := { Issue.reset with
      active := true
      pre := x } }

/-- A context with handles of each group, a waymark, a mapped accumulator 3, a range register, and a capability in k5. -/
def tCtx : Ctx :=
  { Ctx.reset with
    state := .running
    s := [(1, 2 ^ 60 + 15), (2, 2 ^ 14), (3, 2 ^ 14 - 1), (4, 64)]
    a := [(1, 0x10000), (2, 1), (3, 64), (4, 0x40000), (6, 0x4040), (7, 0x40080)]
    k := [(5, 0x2020)]
    fmt := [(0, 0x418), (1, 0x214)]
    handles := [(0, { Handle.reset with bound := true, kind := 0, roww := 32, rows := 128, base := 0 }),
      (1, { Handle.reset with bound := true, kind := 1, roww := 32, rows := 128, base := 0x20000 }),
      (2, { Handle.reset with bound := true, kind := 2, roww := 16, rows := 256, base := 0x40000 }),
      (3, { Handle.reset with bound := true, kind := 4, roww := 1, rows := 1, base := 0x47C00 }),
      (4, { Handle.reset with bound := true, kind := 2, roww := 64, rows := 16, base := 0x50000 }),
      (5, { Handle.reset with bound := true, kind := 2, roww := 64, rows := 16, base := 0x54000 })]
    ranges := [(0, { va := 1, len := 1, ia := 0, asid := 0, w := true, r := true })]
    accMap := [0, 3]
    mat := { MatCfg.reset with dpb := 2, opb := some 2 } }

/-- The bundle of `tCtx`. -/
def tRun : State := tAt tCtx

/-! ## Witnesses: each shows states and operands that meet the hypotheses of a statement, clause by clause -/

theorem witness_DecodeOfEncode : ∃ i e, Instr.wellFormed i = true ∧ encode i = some e ∧ e.ext = some 0x40 :=
  ⟨.drainM { g := 2, acc := 3, t := 20, port := 0, fmt := 2, row := 5, ext := some 0x40 }, _, rfl, rfl, rfl⟩
theorem witness_OneSpelling : (∃ i, hasExt 0x01008C80 = (none : Option Word32).isSome ∧ decodeSyl 1 0x01008C80 none = .ok i) ∧
    ∃ h, decodeHead 0x08400002 = .header h := ⟨⟨_, rfl, rfl⟩, _, rfl⟩
theorem witness_RegisterWrite : (rV 5).fixed = false ∧ rS 1 ≠ rV 5 ∧ (rV 5).file ≠ .lk ∧ rLk.fixed = false ∧ rS 1 ≠ rLk ∧ (rS 1).file ≠ .lk := by decide
theorem witness_FixedRegisters : ∃ d, d = rS 0 ∨ d = rP 0 ∨ d = rQ 0 := ⟨rS 0, .inl rfl⟩
theorem witness_LandingQueue : (∃ x e, Ctx.queue x = [e] ∧ e.left = 1 + 1) ∧ (∃ x e, Ctx.queue x = [e] ∧ e.left = 0 + 1) ∧
    (∃ x : Ctx, (∀ e ∈ x.queue, 0 < e.left) ∧ (∃ e ∈ x.queue, e.left = 1) ∧ ∃ e ∈ x.queue, e.left = 2) ∧
    (∀ d ∈ [rS 2, rLk], ∃ x, (∀ e ∈ Ctx.queue x, e.left ≤ 1 → e.dest ≠ d ∧ (d.file = .lk → e.dest.file ≠ .lk)) ∧ Ctx.queue x ≠ []) :=
  ⟨⟨{ Ctx.reset with queue := [{ dest := rS 1, value := 5, mask := allV, left := 2, order := 0 }] }, _, rfl, rfl⟩,
   ⟨{ Ctx.reset with queue := [{ dest := rS 1, value := 5, mask := allV, left := 1, order := 0 }] }, _, rfl, rfl⟩,
   ⟨{ Ctx.reset with queue := [{ dest := rS 1, value := 5, mask := allV, left := 1, order := 0 }, { dest := rS 2, value := 5, mask := allV, left := 2, order := 0 }] },
    by decide, by decide, by decide⟩,
   fun d h => ⟨{ Ctx.reset with queue := [{ dest := rS 1, value := 5, mask := allV, left := 1, order := 0 }] }, by revert d; decide, by decide⟩⟩
theorem witness_HiddenResult : ∃ (x : Ctx) (d : Dest), d.fixed = false ∧ (∃ e ∈ x.queue, e.dest ≠ d) ∧ rS 2 ≠ d :=
  ⟨{ Ctx.reset with queue := [{ dest := rS 1, value := 5, mask := allV, left := 2, order := 0 }] }, rV 1, by decide, by decide, by decide⟩
theorem witness_StepKeepsMemories : ∃ s t, State.memInv s = true ∧ step s = .next t :=
  ⟨{ State.reset with agenda := [.startTimeout] }, _, rfl, rfl⟩
theorem witness_MemoryBytes : Memory.wf [(3, 1#8), (7, 2#8)] = true := by decide

/-- A context whose loop buffer gives its next bundle: the bytes of a header with no slot. -/
def tLoop : State :=
  { State.reset with ctxs := [(0, { tCtx with nest := { Nest.reset with isOpen := true, replay := true, buffer := [(0, (16, [0x00000000#32]))] } })] }
theorem witness_StepRunsDecoded : (∃ a after h l ws, ({ tLoop with issueQ := [] } : State).fetch 0 = .bundle a h l after ws) ∧
    ({ tLoop with issueQ := [0] } : State).agenda = [] ∧ ({ tLoop with issueQ := [0] } : State).issueQ = 0 :: [] ∧
    ∃ i l, ({ State.reset with agenda := [.startTimeout] } : State).agenda = i :: l :=
  ⟨⟨_, _, _, _, _, rfl⟩, rfl, rfl, _, _, rfl⟩

/-- nop, with an unguarded syllable. -/
def tNop : Instr := .nop { g := 0, z := 0, ext := none }
/-- Between bundles, in a running context. -/
def tIdle (x : Ctx) : State := { State.reset with ctxs := [(0, x)] }
theorem witness_SoloBundle : ((infoOf tNop).slot < 13 ∧ (tIdle tCtx).issue.active = false ∧
      lowest ((tIdle tCtx).illegalCodes ((tIdle tCtx).ctx 0) (soloBundle ((tIdle tCtx).ctx 0) tNop)) = none ∧
      (tIdle tCtx).stalls 0 (soloBundle ((tIdle tCtx).ctx 0) tNop) = false ∧
      ∃ t, exec tNop ((tIdle tCtx).begin 0 (soloBundle ((tIdle tCtx).ctx 0) tNop)) = .next t) ∧
    (let i : Instr := .rft { g := 0, z := 0, ext := none };
      lowest ((tIdle tCtx).illegalCodes ((tIdle tCtx).ctx 0) (soloBundle ((tIdle tCtx).ctx 0) i)) = some 7) ∧
    (let s := tIdle { tCtx with busy := [rS 1] };
      let i : Instr := .add { g := 0, d := 2, a := 1, b := 1, c := 0, ext := none };
      lowest (s.illegalCodes (s.ctx 0) (soloBundle (s.ctx 0) i)) = none ∧ s.stalls 0 (soloBundle (s.ctx 0) i) = true) :=
  ⟨⟨by decide, rfl, rfl, rfl, _, rfl⟩, rfl, rfl, rfl⟩
theorem witness_GuardOff : ∃ i, (infoOf i).slot < 13 ∧ tRun.issue.active = true ∧ tRun.pre.preg (infoOf i).guard = false :=
  ⟨.add { g := 1, d := 2, a := 1, b := 1, c := 0, ext := none }, by decide, rfl, rfl⟩
theorem witness_FailedCheck : ∃ p, (tRun.fail cProt 2 0).issue.raised = some p ∧ 16 ≤ p.cause := ⟨_, rfl, by decide⟩
theorem witness_UserTrapEntry : (plainCause 2 0 0).cause < 16 ∧ ((tIdle tCtx).ctx 0).state = .running ∧
    ((tIdle tCtx).ctx 0).csr.trapHandler.getLsbD 0 = false ∧
    ((tIdle { tCtx with csr := { Csrs.reset with trapHandler := 0x11 } }).ctx 0).csr.trapHandler.getLsbD 0 = true := ⟨by decide, rfl, rfl, rfl⟩
theorem witness_FreezeAndResume : ({ State.reset with fe := { FrontEnd.reset with ring := { EvRing.reset with log2n := 4 } } } : State).fe.ring.room = true ∧
    State.reset.fe.ring.heldFaults = [] ∧ ({ EvRing.reset with tail := 1 } : EvRing).room = false ∧ tCtx.switching = none ∧ tCtx.state ≠ .frozen ∧ tCtx.pc < 2 ^ 32 ∧ { tCtx with state := .handler }.state = CtxState.handler ∧
    ((tIdle { tCtx with state := .frozen }).ctx 0).state = .frozen :=
  ⟨by decide, rfl, by decide, rfl, by decide, by decide, rfl, rfl⟩
/-- A handler of a trapped context, with a landing of its own still to come. -/
def tHandler : Ctx := { tCtx with
  state := .handler
  snapshot := some { queue := [{ dest := rS 2, value := 6, mask := allV, left := 8, order := 1 }], reps := 0, nest := Nest.reset, lc := [] }
  queue := [{ dest := rS 1, value := 5, mask := allV, left := 8, order := 0 }] }
theorem witness_HandlerReturn : ((∃ n, tHandler.snapshot = some n) ∧ tHandler.pcReplaced = false ∧ tHandler.queue ≠ [] ∧
      (∀ e ∈ tHandler.queue, e.left ≤ 8) ∧ rS 3 ≠ rS 1 ∧ (rS 3).file ≠ .lc) ∧
    (let e : Landing := { dest := rS 1, value := 5, mask := allV, left := 1, order := 0 }
     let f : Landing := { dest := rS 1, value := 6, mask := allV, left := 8, order := 0 }
     (∃ x : Ctx, x.queue = [e, f] ∧ e.left ≤ f.left ∧ ∀ g ∈ x.queue, g.left ≤ 8) ∧
     (∃ x : Ctx, x.queue = [f, e] ∧ e.left < f.left ∧ ∀ g ∈ x.queue, g.left ≤ 8) ∧
     ∃ x : Ctx, ∀ g ∈ x.queue, g.dest ≠ rLk ∧ (rLk.file = .lk → g.dest.file ≠ .lk)) ∧
    ((∃ n, ({ tHandler with pcReplaced := true } : Ctx).snapshot = some n) ∧ ({ tHandler with pcReplaced := true } : Ctx).pcReplaced = true) ∧
    tCtx.pcReplaced = false ∧ tCtx.state = .running ∧ tCtx.pc < 2 ^ 32 ∧ tCtx.snapshot = none :=
  ⟨⟨⟨_, rfl⟩, rfl, by decide, by decide, by decide, by decide⟩,
   ⟨⟨{ tCtx with queue := [{ dest := rS 1, value := 5, mask := allV, left := 1, order := 0 }, { dest := rS 1, value := 6, mask := allV, left := 8, order := 0 }] },
     rfl, by decide, by decide⟩,
    ⟨{ tCtx with queue := [{ dest := rS 1, value := 6, mask := allV, left := 8, order := 0 }, { dest := rS 1, value := 5, mask := allV, left := 1, order := 0 }] },
     rfl, by decide, by decide⟩, tHandler, by decide⟩, ⟨⟨_, rfl⟩, rfl⟩, rfl, rfl, by decide, rfl⟩
theorem witness_runs : tRun.runs 0 := ⟨rfl, rfl⟩
theorem witness_Loops : tRun.runs 0 ∧
    (let x : Ctx := { tCtx with lc := [(0, 1), (1, 3)], nest := { Nest.reset with isOpen := true, dims := [(0, 4), (1, 5)] } };
      x.nest.isOpen = true ∧ x.nest.dims = [(0, 4)] ++ (1, 5) :: [] ∧ Store.rising x.nest.dims = true ∧
      (∀ e ∈ [(0, (4 : Word32))], Store.get 0 x.lc e.1 = 1) ∧ Store.get 0 x.lc 1 ≠ 1) ∧
    (let x : Ctx := { tCtx with lc := [(0, 1)], nest := { Nest.reset with isOpen := true, dims := [(0, 4)] } };
      x.nest.isOpen = true ∧ (∀ e ∈ x.nest.dims, Store.get 0 x.lc e.1 = 1) ∧ Store.rising x.nest.dims = true) :=
  ⟨⟨rfl, rfl⟩, ⟨rfl, rfl, rfl, by decide, by decide⟩, rfl, by decide, rfl⟩
theorem witness_ScalarRegisterForms : ∀ o : SR, o.g = 0 → tRun.runs o.g := fun _ h => h ▸ ⟨rfl, rfl⟩
theorem witness_ScalarDivision : tRun.runs 0 ∧ tRun.pre.sreg 2 ≠ 0 ∧ tRun.pre.sreg 9 = 0 := ⟨⟨rfl, rfl⟩, by decide +kernel, rfl⟩
theorem witness_ScalarImmediateAndFloatForms : tRun.runs 0 ∧ tRun.pre.preg 0 = true := ⟨⟨rfl, rfl⟩, rfl⟩
theorem witness_PredicatesFormatsCsrReads : tRun.runs 0 ∧ ∃ o : PL, o.g = 0 := ⟨⟨rfl, rfl⟩, { g := 0, pd := 1, pa := 0, pb := 0, z := 0, ext := none }, rfl⟩
/-- A code object of 64 bytes. -/
def tCode : State := { tRun with fe := { FrontEnd.reset with codes := [(0, { codeSize := 64, codeOff := 128, segCount := 1, latency := 0x48524131, fmts := [], decls := [] })] } }
theorem witness_ControlTransfers : tCode.runs 0 ∧ (tCode.codeOf tCode.pre).codeSize = 64 ∧
    (let base : Int := (tCode.pre.pc / 16 * 16 : Nat);
      (0 ≤ base + 16 * immS 20 3 none ∧ base + 16 * immS 20 3 none < 64) ∧ 64 ≤ base + 16 * immS 20 4 none ∧ base + 16 * immS 20 0xFFFFF none < 0 ∧
      (0 ≤ base + 16 * immS 16 3 none ∧ base + 16 * immS 16 3 none < 64)) ∧
    tCode.pre.preg 0 = decide ((1 : BitVec 1) = 1) ∧ tCode.pre.preg 0 ≠ decide ((0 : BitVec 1) = 1) ∧ (tCode.pre.lk.toNat : Int) < 64 ∧
    (tCode.pre.sreg 0).toNat < 64 ∧ 2 ^ 32 ≤ (tCode.pre.sreg 1).toNat ∧
    (∃ r, (64 : Int) ≤ (tCode.pre.sreg r).toNat ∧ (tCode.pre.sreg r).toNat < 2 ^ 32) ∧
    (∃ x : Ctx, (64 : Int) ≤ x.lk.toNat) ∧ tCode.issue.raised = none ∧ (tCode.fail cSeg 0 0).issue.raised ≠ none :=
  ⟨⟨rfl, rfl⟩, rfl, by decide, rfl, by decide, by decide, by decide, by decide, ⟨2, by decide, by decide⟩, ⟨{ tCtx with lk := 64 }, by decide⟩, rfl, by decide⟩
theorem witness_CsrWrites : tRun.runs 0 ∧ csrWritable 0x020 = false := ⟨⟨rfl, rfl⟩, rfl⟩
theorem witness_EndingsAndWaits : tRun.runs 0 ∧ (tRun.pre.handle 3).isWaymark = true ∧ (tRun.pre.handle 2).isWaymark = false ∧
    (tRun.pre.sreg 3).toNat < 2 ^ 14 ∧ (tRun.pre.sreg 1).toNat = 2 ^ 60 + 15 ∧
    (2 ^ 14 ≤ (tRun.pre.sreg 2).toNat ∧ ∀ b < 16, (tRun.pre.sreg 2).toNat ≠ 2 ^ 60 + b) ∧
    (∃ x : Ctx, x.sreg 1 = 2 ^ 60 + 16 ∧ 2 ^ 14 ≤ (x.sreg 1).toNat ∧ ∀ b < 16, (x.sreg 1).toNat ≠ 2 ^ 60 + b) ∧
    ∃ i j k : Issue, i.ending = 1 ∧ j.ending = 2 ∧ k.ending = 3 :=
  ⟨⟨rfl, rfl⟩, rfl, rfl, by decide, by decide, by decide, ⟨{ tCtx with s := [(1, 2 ^ 60 + 16)] }, rfl, by decide, by decide⟩, { Issue.reset with ending := 1 }, { Issue.reset with ending := 2 },
    { Issue.reset with ending := 3 }, rfl, rfl, rfl⟩
theorem witness_AddressAndScratchLoads : tRun.runs 0 ∧
    (∀ c ∈ [0, 15], let o : LT := { g := 0, d := 1, h := 2, row := 0, col := c, ext := none, l1 := false };
      (tRun.pre.handle 2).isGroup = true ∧ ltRow tRun.pre o < (tRun.pre.handle 2).rows ∧ ltCol o 1 + 1 ≤ 16 * (tRun.pre.handle 2).roww ∧
      ltCol o 2 + 2 ≤ 16 * (tRun.pre.handle 2).roww ∧ ltCol o 4 + 4 ≤ 16 * (tRun.pre.handle 2).roww ∧
      ltCol o 8 + 8 ≤ 16 * (tRun.pre.handle 2).roww) ∧
    (∀ c ∈ [0, 8], let o : LT := { g := 0, d := 1, h := 2, row := 0, col := c, ext := none, l1 := false };
      ltCol o 16 + 128 ≤ 16 * (tRun.pre.handle 2).roww) ∧
    (let o : LT := { g := 0, d := 1, h := 2, row := 0, col := 15, ext := none, l1 := false };
      (tRun.pre.handle 2).roww = 16 ∧ ltRow tRun.pre o % (64 / 16) = 0 ∧ ltRow tRun.pre o + 8 ≤ (tRun.pre.handle 2).rows ∧
      ltCol o 16 + 16 ≤ 16 * (tRun.pre.handle 2).roww) ∧
    (let o : LT := { g := 0, d := 1, h := 2, row := 2, col := 0, ext := none, l1 := false };
      ltRow tRun.pre o % (64 / (tRun.pre.handle 2).roww) ≠ 0) ∧
    (let o : LT := { g := 0, d := 1, h := 3, row := 0, col := 0, ext := none, l1 := false };
      (tRun.pre.handle 3).isWaymark = true ∧ (tRun.pre.handle 3).isGroup = false ∧ ltRow tRun.pre o < (tRun.pre.handle 3).rows ∧
      ltCol o 8 + 8 ≤ 16 * (tRun.pre.handle 3).roww) ∧
    ((tRun.pre.handle 9).isGroup = false ∧ (tRun.pre.handle 9).isWaymark = false) ∧
    (let o : LT := { g := 0, d := 1, h := 2, row := 0, col := 0, ext := some 0x01000100, l1 := false };
      ¬(ltRow tRun.pre o < (tRun.pre.handle 2).rows ∧ ltCol o 1 + 1 ≤ 16 * (tRun.pre.handle 2).roww) ∧ (tRun.pre.handle 2).rows < ltRow tRun.pre o + 8 ∧
      ltRow tRun.pre o % (64 / (tRun.pre.handle 2).roww) = 0) ∧
    ({ Handle.reset with bound := true, kind := 2, roww := 24, rows := 16 } : Handle).isGroup = true ∧
    (let u : MemUnit := { tRun.unitOf 2 (.store false) (.ia (2 ^ 52 - 2 ^ 24 + 0x40010)) 16 with data := 7 };
      (tAt { tCtx with units := [u] }).comingStores 0x40000 32 = [(0x40010, 16, 7)] ∧ ownScratch 0 u = some 0x40010) ∧
    tRun.comingStores 0x40000 16 = [] :=
  ⟨⟨rfl, rfl⟩, by decide, by decide, by decide, by decide, by decide, by decide, by decide, by decide, by decide, rfl⟩
theorem witness_ScratchStores : tRun.runs 0 ∧
    (let ok := fun (a n u : Nat) => a % u = 0 ∧ tRun.pre.scratchOk a n = true ∧ touchesWaymarks a n = false;
     let o : SM := { g := 0, data := 1, base := 4, port := 0, off := 0, ext := none };
     ok (stsAddr tRun.pre o 1) 1 1 ∧ ok (stsAddr tRun.pre o 2) 2 2 ∧ ok (stsAddr tRun.pre o 4) 4 4 ∧ ok (stsAddr tRun.pre o 8) 8 8 ∧
     ok (stsAddr tRun.pre o 16) 128 16 ∧ ¬ ok (stsAddr tRun.pre { o with base := 2 } 8) 8 8 ∧
     ∃ h, tRun.pre.handleAt (stsAddr tRun.pre o 16) = some h ∧ columnShape h = true ∧
       (stsAddr tRun.pre o 16 - h.base) / (16 * h.roww) % (64 / h.roww) = 0 ∧ stsAddr tRun.pre o 16 % 16 = 0 ∧
       (stsAddr tRun.pre o 16 - h.base) / (16 * h.roww) + 8 ≤ h.rows) ∧
    (let u : MemUnit := { tRun.unitOf 2 (.store false) (.ia (2 ^ 52 - 2 ^ 24 + 0x40010)) 16 with data := 7 };
      ∀ v ∈ ((tAt { tCtx with units := [u] }).ctx 0).units, ownScratch 0 v = some 0x40010 ∧ 0x40010 < 0x40000 + 32 ∧ 0x40000 < 0x40010 + v.size) :=
  ⟨⟨rfl, rfl⟩, ⟨by decide, by decide, by decide, by decide, by decide, by decide, _, rfl, by decide, by decide, by decide, by decide⟩, by decide⟩

/-- The page table at PTBASE: a table at the next address that the machine gives one, whose first entry is a leaf of 512 MiB. -/
def tPages (leaf : Nat) (m : Memory) : Memory := Memory.writeLE (Memory.writeLE m (2 ^ 51) 8 (2 ^ 51 + 0x8001)) (2 ^ 51 + 0x8000) 8 leaf
/-- Pages 0 to 2^29 of memory, readable and writable, valid. -/
def tMapped (s : State) : State := { s with mem := tPages 0x3B s.mem }
/-- The same page with the ACC bit clear. -/
def tUnused (s : State) : State := { s with mem := tPages 0x1B s.mem }
/-- Does a check answer a value? -/
def okB {e a : Type} : Except e a → Bool
  | .ok _ => true
  | .error _ => false
/-- The address a check answers, 1 where it answers none in home memory. -/
def iaB {e : Type} : Except e Target → Nat
  | .ok (.ia a) => a
  | _ => 1
/-- The access of `n` bytes to a1 + `off` in `tRun`. -/
def tAcc (n align cap : Nat) (off : Int) (kind data : Nat) (rd wr : Bool) : Except Nat Target :=
  match tRun.pre.targetOf tRun.cur (tRun.pre.areg 1) off { size := n, align := align, cap := cap, rd := rd, wr := wr, kind := kind, data := data } with
  | .ok t => .ok t
  | .error _ => .error 0
theorem witness_MemoryLoads : tRun.runs 0 ∧ tRun.issue.raised = none ∧
    (∀ p ∈ [(1, 1, 0), (2, 2, 0), (4, 4, 0), (8, 8, 0), (4, 4, 2), (8, 8, 2), (128, 8, 0), (128, 16, 9)],
      okB (tAcc p.1 p.2.1 1 (immS 10 0 none * p.1) p.2.2 0 true false) = true) ∧
    (tMapped tRun).homeFault (128 * (iaB (tAcc 1 1 1 (immS 10 0 none * 1) 9 0 true false) / 128)) 128 false = none ∧
    okB (tRun.pre.targetOf tRun.cur (tRun.pre.areg 0) 0 { size := 8, align := 8, cap := 1, rd := true, wr := false, kind := 0, data := 0 }) = false ∧
    okB (tRun.pre.targetOf tRun.cur (tRun.pre.areg 0) 0 { size := 1, align := 1, cap := 1, rd := true, wr := false, kind := 9, data := 0 }) = false :=
  ⟨⟨rfl, rfl⟩, rfl, by decide +kernel, by decide +kernel, by decide +kernel, by decide +kernel⟩
/-- The capability in k5 with every right and length class 1. -/
def tCap : State := tAt { tCtx with k := [(5, 0x17F)], s := [(3, 2 ^ 14 - 1)] }
theorem witness_MemoryLoads_capability : tCap.runs 0 ∧
    okB (tCap.pre.capTarget 5 0 { size := 4, align := 4, cap := 1, rd := true, wr := false, kind := 0, data := 0 }) = true ∧
    okB (tCap.pre.capTarget 5 0x1FF8 { size := 8, align := 8, cap := 1, rd := true, wr := false, kind := 0, data := 0 }) = true :=
  ⟨⟨rfl, rfl⟩, by decide +kernel, by decide +kernel⟩
/-- The window address of context 0's cluster, bound for a8's read. -/
def tWindow : State := tAt { tCtx with
  a := [(1, BitVec.ofNat 64 winBase)]
  ranges := [(0, { va := winBase / 65536, len := 16, ia := winBase / 65536, asid := 0, w := true, r := true })] }
theorem witness_MemoryLoads_prefetch : isWindow (iaB (tAcc 1 1 1 (immS 10 0 none * 1) 9 0 true false)) = false ∧
    isWindow (iaB (tWindow.pre.targetOf tWindow.cur (tWindow.pre.areg 1) 0
      { size := 1, align := 1, cap := 1, rd := true, wr := false, kind := 9, data := 0 })) = true ∧
    (let a := iaB (tAcc 1 1 1 (immS 10 0 none * 1) 9 0 true false);
      tRun.leafFor (128 * (a / 128)) false = none ∧
      ((tUnused tRun).leafFor (128 * (a / 128)) false).map (fun l => l.word.getLsbD 5) = some false ∧
      ((tMapped tRun).leafFor (128 * (a / 128)) false).map (fun l => l.word.getLsbD 5) = some true) := by decide +kernel
/-- Does a check answer an object's offset? -/
def poolB {e : Type} : Except e Target → Bool
  | .ok (.pool _ _) => true
  | _ => false
theorem witness_MemoryLoads_prefetch_pool : tCap.runs 0 ∧
    poolB (tCap.pre.targetOf tCap.cur 0xC500000000000000 0 { size := 1, align := 1, cap := 1, rd := true, wr := false, kind := 9, data := 0 }) = true :=
  ⟨⟨rfl, rfl⟩, by decide +kernel⟩
theorem witness_MemoryStores :
    (∀ p ∈ [(1, 1), (2, 1), (4, 1), (8, 1), (4, 8), (8, 8)],
      okB (tAcc p.1 p.1 2 (immS 6 0 none * p.1) p.2 (mValue tRun.pre 1 p.1) false true) = true) ∧
    okB (tCap.pre.capTarget 5 0 { size := 4, align := 4, cap := 2, rd := false, wr := true, kind := 1, data := mValue tCap.pre 1 4 }) = true ∧
    okB (tCap.pre.capTarget 5 0 { size := 8, align := 8, cap := 2, rd := false, wr := true, kind := 1, data := mValue tCap.pre 1 8 }) = true ∧
    okB (tRun.pre.targetOf tRun.cur (tRun.pre.areg 0) 0 { size := 8, align := 8, cap := 2, rd := false, wr := true, kind := 1, data := mValue tRun.pre 1 8 }) = false := by
  decide +kernel
theorem witness_Atomics :
    (∀ p ∈ [(4, 4, 3, 0), (8, 4, 3, 0), (4, 4, 5, 0), (8, 4, 5, 0), (4, 8, 4, 0), (8, 8, 4, 0), (4, 8, 6, 0), (4, 8, 5, 0), (8, 8, 5, 0),
        (16, 4, 6, sPair tRun.pre 0)],
      okB (tAcc p.1 p.1 p.2.1 0 p.2.2.1 p.2.2.2 true true) = true) ∧
    (2 ^ 32 - 1 < 2 ^ (8 * 4)) ∧ (2 ^ 64 - 1 < 2 ^ (8 * 8)) := by decide +kernel
/-- bind with a base of a1 and a length register of `len`, for an object of handle `obj`. -/
def tBind (kind : BitVec 4) (len obj : Nat) : Binding :=
  bindingOf tRun.pre { g := 0, base := 1, len := BitVec.ofNat _ len, obj := BitVec.ofNat _ obj, kind := BitVec.ofNat _ kind.toNat, z := 0, ext := none }
theorem witness_FencesBindingsHandles : tRun.runs 0 ∧
    ((tBind 3 3 3).len ≠ 0 ∧ tRun.pre.objOk (tBind 3 3 3).kind (tBind 3 3 3).obj = true ∧ tRun.pre.binds.length < 16 ∧ (tBind 3 3 3).kind ≠ 0) ∧
    ((tBind 0 3 1).len ≠ 0 ∧ tRun.pre.objOk (tBind 0 3 1).kind (tBind 0 3 1).obj = true ∧
     okB (tRun.pre.targetOf tRun.cur (tBind 0 3 1).obj 0 { size := 8, align := 8, cap := 1, rd := true, wr := false, kind := 0, data := 0 }) = true) ∧
    (tBind 0 0 1).len = 0 ∧ (tRun.pre.handle 9).bound = false ∧ (tRun.now.handle 9).pending = false ∧ (tRun.pre.handle 2).bound = true ∧
    hallocSize tRun.pre { g := 0, d := 9, h := 0, a := 0, sub := 1, ext := some 0xFFFFFF, l1 := false } < 2 ^ 24 ∧
    ((tCap.pre.areg 3).toNat < 2 ^ 14 ∧ (tCap.pre.kreg 5).getLsbD 5 = true) ∧
    iaB (tAcc 16 16 1 0 9 0 true false) ≠ 1 ∧ iaB (tAcc 16 16 2 0 9 (tRun.pre.kreg 5).toNat false true) ≠ 1 :=
  ⟨⟨rfl, rfl⟩, by decide +kernel⟩
theorem witness_VectorIntegerForms : tRun.issue.active = true := rfl
theorem witness_VectorFloatForms : tRun.issue.active = true ∧ (tyFmt 2).w ≠ 0 := ⟨rfl, by decide⟩
theorem witness_VectorReductionsAndMoves : tRun.issue.active = true ∧ fmtWidth (fun _ => 0) 0 ≠ 0 := ⟨rfl, by decide⟩
theorem witness_LaneWrites : 0 < 512 ∧ (([(0, 5), (1, 6)] : List (Nat × Nat)).map (·.1)).Nodup ∧ ∀ e ∈ [(0, 5), (1, 6)], 0 + 512 * (e.1 + 1) ≤ 1024 := by decide
theorem witness_VectorConversions :
    (fmtOf tRun.pre.fmtreg 0).isSome ∧ (fmtOf tRun.pre.fmtreg 1).isSome ∧ scaleBad (tRun.pre.vreg 0) = false ∧
    fmtOf (tAt { tCtx with fmt := [(0, 0xFFFFFFFF)] }).pre.fmtreg 0x10 = none := by decide +kernel
/-- An outer product of 2 steps, with the scale flag. -/
def tMx (bs : Bool) : MX := { g := 0, acc := 3, hA := 0, hB := 1, order := 0, z := 0, ext := some (if bs then 0x02040000 else 0x00040000) }
/-- `tRun` with scales of A and B in turn, and fmt1 a 4-bit format. -/
def tScaled : State := tAt { tCtx with
  scaleQ := (List.range 16).map fun i => { id := i, isB := i % 2 == 1, ue4m3 := false } }
theorem witness_MatrixForms : tScaled.runs 0 ∧
    ∀ bs ∈ [false, true], ∀ f ∈ [MxFmt.nf, .fix (sintFmt 4), .fix (sintFmt 8), .fix (uintFmt 8), .fix fp16, .fix bf16, .fix fp32],
    (tScaled.pre.accOf tScaled.cur 3).isSome = true ∧
    (match f.of (tScaled.pre.fmtreg (tMx bs).fmtA.toNat), f.of (tScaled.pre.fmtreg (tMx bs).fmtB.toNat) with
      | some fa, some fb => fitsTile (tScaled.pre.handle 0) ((tMx bs).order.getLsbD 0) tScaled.pre.mat.offA.toNat (tMx bs).depth fa.w &&
          fitsTile (tScaled.pre.handle 1) ((tMx bs).order.getLsbD 1) tScaled.pre.mat.offB.toNat (tMx bs).depth fb.w
      | _, _ => false) = true ∧
    (tScaled.pre.handle 0).bound = true ∧ (tScaled.pre.handle 0).kind = 0 ∧ (tScaled.pre.handle 0).roww % 8 = 0 ∧
    (tScaled.pre.handle 1).bound = true ∧ (tScaled.pre.handle 1).kind = 1 ∧ (tScaled.pre.handle 1).roww % 8 = 0 ∧
    2 * mxBlocks (tMx bs) ≤ tScaled.now.scaleQ.length ∧ alternates false (tScaled.now.scaleQ.take (2 * mxBlocks (tMx bs))) = true :=
  ⟨⟨rfl, rfl⟩, by decide +kernel⟩
theorem witness_MatrixForms_mzero : (∃ acc, tRun.pre.accOf tRun.cur 3 = some acc) ∧ tRun.pre.accOf tRun.cur 4 = none := ⟨⟨_, rfl⟩, rfl⟩
/-! Drains, optimiser forms and engine jobs -/

/-- `tRun` with bytes of core 0's scratch. -/
def tScr (l : List (Nat × Nat × Nat)) : State :=
  { tAt { tCtx with k := [(5, 0x17F)] } with
    cores := [(0, { Core.reset with scratch := l.foldl (fun m e => Memory.writeLE m e.1 e.2.1 e.2.2) [] })] }
/-- A drain or fill of row group 0 of accumulator 3 with entry 0; `t` is the handle, the address register or the vector register. -/
def tDr (t : Nat) : DR := { g := 0, acc := 3, t := BitVec.ofNat 6 t, port := 0, fmt := 0, row := 0, ext := none }
/-- Entry 0 names FP32, MODE 0 and no offset. -/
def tDrain : State := tScr []
theorem witness_DrainForms : tDrain.runs 0 ∧ tDrain.pre.accOf tDrain.cur 3 = some 1 ∧ tDrain.drEntry (tDr 2) false = some (0, fp32, 0) ∧
    tDrain.drEntry (tDr 2) true = some (0, fp32, 0) ∧ (tDrain.pre.handle 4).isGroup = true ∧ (tDrain.pre.handle 4).kind = 2 ∧
    (dpRow 0 + 16 * 0 + 15 < (tDrain.pre.handle 4).rows ∧ dpCol 0 + 32 ≤ (tDrain.pre.handle 4).roww) ∧
    okB (drTargets tDrain.pre tDrain.cur (tDr 1) false (16 * 32)) = true ∧ okB (drTargets tDrain.pre tDrain.cur (tDr 1) true (16 * 32)) = true ∧
    ((3 + 1) * pieceLen 32 ≤ 128) := ⟨⟨rfl, rfl⟩, by decide +kernel⟩

/-- An optimiser form on accumulator 3 with operand handles 4 and 5 and the parameter block of OPB. -/
def tOp : OP := { g := 0, acc := 3, hW := 4, hM := 5, z := 0, ext := none }
theorem witness_OptimiserForms : tDrain.pre.accOf tDrain.cur 3 = some 1 ∧ opBlock tDrain.pre tOp = some 2 ∧ (tDrain.pre.handle 2).isGroup = true ∧
    4 ≤ (tDrain.pre.handle 2).roww ∧ opBad (tDrain.scratchRead 0 (tDrain.pre.handle 2).base 64) true = false ∧
    opBad (tDrain.scratchRead 0 (tDrain.pre.handle 2).base 64) false = false ∧
    ∀ w ∈ [16, 32, 64], ∀ h ∈ [4, 5], (tDrain.pre.handle h).isGroup = true ∧ 16 ≤ (tDrain.pre.handle h).rows ∧ w ≤ (tDrain.pre.handle h).roww := by
  decide +kernel

/-- A job of handle 2 with waymark 3, and k5 where a form names one. -/
def tJob : EJ := { g := 0, hJ := 2, hW := 3, k := 5, sub := 0, ext := none }
/-- A card with fields (byte, value), the scratch entry [0x50000, 0x51000) and the entry [0, 0x1000) of the object of k5. -/
def tCard (l : List (Nat × Nat)) : Nat :=
  ([(0, 3 + 0x1000 * 2 ^ 32), (8, 0x50000), (16, 3 + 4 + 0x1000 * 2 ^ 32), (24, 0xC5 * 2 ^ 56)] ++ l).foldl (fun n (e : Nat × Nat) => n + e.2 * 2 ^ (8 * e.1)) 0
/-- The card, in row 0 of handle 2. -/
def tJobs (l : List (Nat × Nat)) : State := tScr [(0x40000, 256, tCard l)]
/-- Does the card pass the checks of a job with a plan? -/
def tJobOk (l : List (Nat × Nat)) (nest : Bool) (plan : State → Nat → Option JobPlan) : Bool :=
  let s := tJobs l
  let card := s.cardOf 0 (s.pre.handle 2)
  match plan s card with
  | some p => card == tCard l && headerOk card nest && (jobFault s.pre card p ((cardFoots card).map (s.pre.entryOf 0))).isNone
  | none => false
/-- SRC, DST, IDX and LEN of a copy of 16 bytes or elements. -/
def tCopyCard (idx : Nat) : List (Nat × Nat) := [(0x80, 0x50000), (0x88, 0x50800), (0x90, idx), (0x98, 16)]
theorem witness_EngineJobs_start : (tJobs []).runs 0 ∧ ((tJobs []).pre.handle 3).isWaymark = true ∧ ((tJobs []).pre.handle 2).isGroup = true ∧
    ((tJobs []).pre.handle 2).kind = 2 ∧ 16 ≤ ((tJobs []).pre.handle 2).roww := ⟨⟨rfl, rfl⟩, by decide +kernel⟩
theorem witness_EngineJobs_copies :
    tJobOk (tCopyCard 0) true cpyPlan = true ∧ tJobOk (tCopyCard 0 ++ [(0xA0, 3 * 2 ^ 38)]) true cpyqPlan = true ∧
    tJobOk (tCopyCard 0x50100 ++ [(0x9C, 4)]) false (fun _ => gatherPlan true none) = true ∧
    tJobOk (tCopyCard 0x50100 ++ [(0x9C, 4)]) false (fun _ => gatherPlan false none) = true ∧
    tJobOk (tCopyCard 0x50100 ++ [(0x9C, 4)]) false (fun _ => gatherPlan true (some 5)) = true ∧
    tJobOk (tCopyCard 0x50100 ++ [(0x9C, 4)]) false (fun _ => gatherPlan false (some 5)) = true ∧
    tJobOk [(0x80, 0x50000), (0x90, 16)] true (fun _ => bulkPlan .get 5) = true ∧
    tJobOk [(0x80, 0x50000), (0x90, 16)] true (fun _ => bulkPlan .write 5) = true ∧
    tJobOk [(0x80, 0x50000), (0x90, 16)] true (fun _ => bulkPlan .reduce 5) = true := by decide +kernel
theorem witness_EngineJobs_groups_messages :
    tJobOk [(0x80, 0x50000)] false (groupPlan true 5) = true ∧ tJobOk [(0x80, 0x50000)] false (groupPlan false 5) = true ∧
    tJobOk [(0x84, 1), (0x8C, 128), (0x98, 0x50000)] false (fun _ => grpsetPlan 5) = true ∧
    tJobOk [(0x80, 1), (0x90, 0x50000), (0xA0, 16)] false msendPlan = true ∧ tJobOk [(0x80, 1)] false enqPlan = true ∧
    tJobOk [(0x80, 1), (0x94, 1)] false arrivePlan = true ∧ tJobOk [(0x80, 0x10001)] false (fun _ => realignPlan) = true := by decide +kernel
theorem witness_EngineJobs_records_tasks :
    tJobOk [(0x80, 1)] false (fun _ => recListPlan) = true ∧ tJobOk [(0x80, 3 * 2 ^ 16)] false (sreadPlan tJob) = true ∧
    tJobOk [] false (fun _ => sallocPlan) = true ∧ tJobOk [(0x88, 8)] false (fun _ => leasePlan 5) = true ∧
    tJobOk [(0x84, 1)] false (fun _ => tdecPlan) = true ∧ tJobOk [(0x80, 0x50000)] false (fun _ => tspawnPlan) = true ∧
    tJobOk [] false (fun s card => if cardBits card 0x80 0 64 ≠ s.pre.csr.stepid.toNat ∨ !restZero card 0x88 then none
      else some { JobPlan.plain 16 with after := true }) = true := by decide +kernel
theorem witness_JobEnd : (∃ gen count target fstat n st : Nat, gen < 2 ^ 32 ∧ count < 2 ^ 32 ∧ target < 2 ^ 32 ∧ fstat < 2 ^ 16 ∧ st < 2 ^ 16 ∧
      0 < target ∧ target ≤ count + n ∧ gen = 2 ^ 32 - 1) ∧
    ∃ gen count target fstat n st : Nat, gen < 2 ^ 32 ∧ count < 2 ^ 32 ∧ fstat < 2 ^ 16 ∧ st < 2 ^ 16 ∧ 2 ^ 32 ≤ count + n ∧ target = 0 ∧ fstat = 0 ∧ st ≠ 0 :=
  ⟨⟨2 ^ 32 - 1, 100, 128, 0, 28, 0, by decide⟩, ⟨0, 2 ^ 32 - 1, 0, 0, 1, 5, by decide⟩⟩

/-! Frames -/

theorem witness_IssueFrame : (infoOf tNop).slot < 13 ∧ tRun.issue.active = true ∧ ∃ t, exec tNop tRun = .next t := ⟨by decide +kernel, rfl, _, rfl⟩
theorem witness_Commit : (tAt Ctx.reset).pre.nest.isOpen = false ∧ (if Ctx.reset.repLeft = 0 then (0 : BitVec 4).toNat + 1 else Ctx.reset.repLeft) = 1 := ⟨rfl, rfl⟩
/-- The same page under migration. -/
def tMoving : State :=
  { tRun with
    mem := tPages 0x83B tRun.mem
    migrations := [{ ia := 0, pa := 2 ^ 29, size := 3, tier := 0, held := [], copied := false, hdr := { queue := 1, entry := 0, opc := 0, tag := 7, cmpl := 0, asid := 0 } }] }
theorem witness_StoredBytes : ((tMapped tRun).leafFor 0x40 true).map (fun l => l.tier) = some 0 ∧ isWindow 0x40 = false ∧
    (∃ m, tMoving.migrations = [m] ∧ tMoving.migHolds 0x40 8 = true ∧ m.ia ≤ 0x40 ∧ 0x40 + 8 ≤ m.ia + pageBytes m.size) ∧
    tRun.migHolds 0x40 8 = false ∧
    (∀ line ∈ linesOf 0x40 128, (tRun.line 0 line).isSome = true ∨
      ((tRun.cluster 0).cache.filter fun e => e.1 % 4096 == line % 4096).length < 16) :=
  ⟨by decide +kernel, by decide +kernel, ⟨_, rfl, by decide +kernel, by decide +kernel, by decide +kernel⟩, by decide +kernel, by decide +kernel⟩
/-! Events -/

/-- Two candidates of core 0, with other starvation counts and yields. -/
def tTwo (a b : Nat) (y z : Nat) : State :=
  let x := { tCtx with nest := { Nest.reset with isOpen := true, replay := true, buffer := [(0, (16, [0x00000000#32]))] } }
  { State.reset with
    cycles := 5
    ctxs := [(0, { x with
      starve := a
      yieldUntil := y }), (3, { x with
      starve := b
      yieldUntil := z })] }
theorem witness_IssueEvents_candidates :
    (∀ p ∈ [(0, 1020, 9, 9), (1020, 0, 9, 9), (0, 0, 0, 0), (0, 0, 9, 0), (0, 0, 0, 9), (0, 0, 9, 9), (1020, 1021, 9, 9), (1020, 1020, 0, 0)],
      let s := tTwo p.1 p.2.1 p.2.2.1 p.2.2.2
      (∃ b ∈ [0, 3], ∃ c ∈ [0, 3], b ≠ c ∧ s.before (s.core 0).rp b c = true) ∧ (∀ d ∈ ctxsOf 0, d ≠ 0 → d ≠ 3 → s.turn d = .out)) ∧
    (∃ b, (tTwo 0 0 0 0).turn 0 = .ready b ∧ (tTwo 0 0 0 0).turn 3 = .ready b ∧ mergeable b b = true) ∧
    (∃ b : Bundle, mergeable b b = false) ∧
    (∃ b, (tTwo 0 0 0 0).turn 0 = .ready b ∧ (tTwo 0 0 0 0).turn 3 = .ready b ∧
      (([(0, b), (3, b)] : List Candidate).Pairwise fun x y => (tTwo 0 0 0 0).before ((tTwo 0 0 0 0).core 0).rp x.1 y.1 = true) ∧
      (([(0, b), (3, b)] : List Candidate).map (·.1)).Nodup) :=
  ⟨by decide +kernel, ⟨_, rfl, rfl, by decide +kernel⟩, ⟨soloBundle tCtx (.scope { g := 0, scope := 0, z := 0, ext := none }), by decide +kernel⟩,
   _, rfl, rfl, by decide +kernel, by decide +kernel⟩
theorem witness_IssueEvents :
    (let s : State := { State.reset with
        ctxs := [(0, { tCtx with code := 0x10000 })]
        fe := { FrontEnd.reset with codes := [(0x10000, { codeSize := 64, codeOff := 128, segCount := 1, latency := 0x48524131, fmts := [], decls := [] })] } };
      s.fetch 0 = .miss 0 0) ∧
    (let s : State := { State.reset with cores := [(255, { Core.reset with frames := [(3, { SegFrame.reset with seg := some (0x10000, 1), copying := true, needed := true })] })] };
      ((s.core 255).frame 3).seg = some (0x10000, 1) ∧ ((s.core 255).frame 3).copying = true ∧ ((s.core 255).frame 3).needed = true ∧
      (((s.endCopy 255 3).core 255).resident 0x10000 1).isSome = false) ∧
    ((∃ b, tLoop.turn 0 = .ready b) ∧ ∀ d ∈ ctxsOf 0, d ≠ 0 → tLoop.turn d = .out) ∧ State.reset.cycles.toNat % 64 = 0 :=
  ⟨rfl, ⟨rfl, rfl, rfl, by decide +kernel⟩, ⟨⟨_, rfl⟩, by decide +kernel⟩, rfl⟩

theorem witness_MergeCondition :
    (let b : Bundle := soloBundle tCtx (.fence { g := 0, base := 0, len := 0, obj := 0, kind := 0, z := 0, ext := none });
      ∃ k ∈ b.ops.map fun i => (infoOf i).slot, k ∈ [2, 3, 4, 10, 11]) ∧
    ∃ i : Instr, (infoOf i).slot = 12 := by
  refine ⟨by decide +kernel, .scope { g := 0, scope := 0, z := 0, ext := none }, rfl⟩

/-- An access in flight. -/
def tUnit (op : UnitOp) (at_ : Target) : MemUnit :=
  { id := 5, slot := 2, op := op, target := at_, size := 8, data := 0, data2 := 0, dest := none, dest2 := none, order := 0, scope := 0,
    stepTag := 0, suspended := false, framed := false, taken := none }
/-- An operation in flight. -/
def tEng (eng : Engine) (i : Instr) : EngOp := { tRun.engOf i eng with id := 9 }
/-- A context with `u` and `o` in flight, over mapped memory. -/
def tFly (us : List MemUnit) (os : List EngOp) : State := tMapped { State.reset with ctxs := [(1023, { tCtx with units := us, eng := os })] }
/-- A capability that the pool sealed. -/
def tSealed (b : BitVec 80) : Word128 := BitVec.ofNat 128 (b.toNat + 2 ^ 80 * (Config.poolSeal b).toNat)
theorem tSealed_ok (b : BitVec 80) : sealOk (tSealed b) = true := by
  have h : (tSealed b).extractLsb' 0 80 = b := by
    apply BitVec.eq_of_toNat_eq
    have := b.isLt
    have := (Config.poolSeal b).isLt
    simp only [tSealed, BitVec.extractLsb'_toNat, BitVec.toNat_ofNat, Nat.shiftRight_zero]
    omega
  have g : (tSealed b).extractLsb' 80 48 = Config.poolSeal b := by
    apply BitVec.eq_of_toNat_eq
    have := b.isLt
    have := (Config.poolSeal b).isLt
    simp only [tSealed, BitVec.extractLsb'_toNat, BitVec.toNat_ofNat, Nat.shiftRight_eq_div_pow]
    omega
  simp [sealOk, h, g]
theorem tSealed_obj : capObj (tSealed 0x1C000#80) = 7 := by
  have := (Config.poolSeal 0x1C000#80).isLt
  have h : BitVec.toNat 0x1C000#80 = 0x1C000 := rfl
  simp only [capObj, tSealed, h, BitVec.extractLsb'_toNat, BitVec.toNat_ofNat, Nat.shiftRight_eq_div_pow, Nat.reducePow]
  omega
theorem tSealed_token : capToken (tSealed 0x1C000#80) = 0 := by
  have := (Config.poolSeal 0x1C000#80).isLt
  have h : BitVec.toNat 0x1C000#80 = 0x1C000 := rfl
  simp only [capToken, tSealed, h, BitVec.extractLsb'_toNat, BitVec.toNat_ofNat, Nat.shiftRight_eq_div_pow, Nat.reducePow]
  omega
theorem witness_CompletionEvents_accesses :
    (let u := tUnit (.load false) (.ia 0x40);
      let s := tFly [u] [];
      s.unitDue 1023 5 = some u ∧ s.unitClass 1023 u = none ∧ u.returns = true ∧ s.unitFault 1023 u = none ∧ s.unitFinding 1023 u = 0) ∧
    (let u := tUnit (.load false) (.ia 0x20000000);
      let s := tFly [u] [];
      s.unitDue 1023 5 = some u ∧ s.unitFault 1023 u = some 0x20000000 ∧ u.target = .ia 0x20000000) ∧
    (let u := tUnit (.store false) (.pool 0 8);
      let s := tFly [u] [];
      s.unitDue 1023 5 = some u ∧ s.messageDone (1023, 5) = true ∧ u.target = .pool 0 8 ∧ s.unitFinding 1023 u = 3) ∧ (tFly [] []).unitDue 1023 5 = none := by decide +kernel
/-- A flit that no slot has taken yet, of that store. -/
def tOwed : Placed :=
  { slot := 0, port := 0, job := some (1023, 5), via := none
    flit := { stamp := 0, ofs := 0, src := 0, dst := 16, tag := 0, cls := 0, fwd := false, tstate := 0, len := 0, payload := 0 } }
/-- A store to an object of the pool, with the accesses whose messages were made and the flits still out. -/
def tToPool : MemUnit := tUnit (.store false) (.pool (tSealed 0x1C000#80) 8)
def tSending (sent : List (Nat × Nat)) (owed : List Placed) : State :=
  { tFly [tToPool] [] with
    fab := { Fabric.reset with removed := false, sent := sent, owed := owed }
    pool := { Pool.reset with objs := [(7, { token := 0, cur := [], com := [], provs := [], writers := [], readers := [] })] } }
theorem tSending_finding (sent : List (Nat × Nat)) (owed : List Placed) : (tSending sent owed).unitFinding 1023 tToPool = 0 := by
  show State.poolFinding _ _ = 0
  simp [State.poolFinding, State.poolObj, tSending, tSealed_obj, tSealed_token, tSealed_ok]
theorem witness_CompletionEvents_pool : (tSending [(1023, 5)] []).unitDue 1023 5 = some tToPool ∧ tToPool.inStoreQueue = true ∧
    (tSending [(1023, 5)] []).unitFinding 1023 tToPool = 0 ∧ (tSending [(1023, 5)] []).messageDone (1023, 5) = true := ⟨rfl, rfl, tSending_finding _ _, rfl⟩
theorem witness_CompletionEvents_messages : (tSending [] []).fab.removed = false ∧ (tSending [] []).unitDue 1023 5 = some tToPool ∧
    (tSending [] []).unitClass 1023 tToPool = some 0 ∧ (tSending [] []).unitFinding 1023 tToPool = 0 ∧ (1023, 5) ∉ (tSending [] []).fab.sent ∧
    ((1023, 5) ∈ (tSending [(1023, 5)] [tOwed]).fab.sent ∧ (tSending [(1023, 5)] [tOwed]).flitsOut (1023, 5) = true) :=
  ⟨rfl, rfl, rfl, tSending_finding _ _, by decide, by decide⟩
theorem witness_CompletionEvents_engines :
    (∀ o ∈ [tEng .m (.mopaF16 (tMx false)), tEng .m (.mopaNf (tMx false)), tEng .d (.dzero (tDr 4)), tEng .d (.drain (tDr 4)), tEng .d (.drainM (tDr 1)),
        tEng .d (.drainv (tDr 1)), tEng .d (.fill (tDr 4)), tEng .d (.fillM (tDr 1)), tEng .d (.fillv (tDr 1)), tEng .o (.oadamF32 tOp), tEng .o (.oclip tOp),
        tEng .o (.oscale tOp), tEng .e (.lacq tJob)],
      let s := tFly [] [o];
      (s.ctx 1023).engOp 9 = some o ∧ (s.ctx 1023).engReady o = true ∧ s.opHeld 1023 o = false ∧ s.messageDone (1023, 9) = true ∧
      (∀ e ∈ o.scales, Store.has (s.ctx 1023).scaleData e.1 = true)) ∧
    ((MxFmt.fix fp16).of (tEng .m (.mopaF16 (tMx false))).fmtA).isSome ∧ (mxForm (.mopaF16 (tMx false))).isSome ∧
    mxForm (.mzero { g := 0, acc := 3, imm := 0, ext := none }) = none ∧
    (fmtOf (fun _ => 0) (dpFmt 0)).isSome ∧ (opForm (.oadamF32 tOp)).isSome := by decide +kernel
theorem witness_CompletionEvents_rest :
    (let x : Ctx := { tCtx with hallocs := [(9, 0, 1, 1)] };
      x.hallocs.find? (fun e => e.1 == 9) = some (9, 0, 1, 1)) ∧
    (let x : Ctx := { tCtx with
        releasing := [(0x50000, 4, [8])]
        eng := [tEng .e (.lacq tJob)] };
      x.releasing[0]? = some (0x50000, 4, [8]) ∧ ∀ n ∈ [8], ∀ o ∈ x.eng, o.id ≠ n) ∧
    (let x : Ctx := { tCtx with optTrap := some 0x81 };
      x.optTrap = some 0x81 ∧ x.state = .running ∧ x.pending = [] ∧ x.switching = none) := by decide +kernel

/-- Line 1 in cluster 31, its chunk 7 dirty or clean. -/
def tLine (d : Bool) : State := { State.reset with
  clusters := [(31, { Cluster.reset with cache := [(1, { data := 0, valid := 0, dirty := if d then chunkMask 7 else 0, poison := 0 })] })] }
theorem witness_MemorySideEvents_lines : (tLine false).line 31 1 = some { data := 0, valid := 0, dirty := 0, poison := 0 } ∧
    (∀ d ∈ [false, true], ((tLine d).line 31 1).map (fun l => l.dirty &&& chunkMask 7 != 0) = some d) ∧
    (let s : State := { tMapped State.reset with llc := [(1, { LlcLine.reset with run := (31, 8) })] };
      (s.walk 128).map (fun l => l.tier != 3) = some true ∧ (s.llcLine 1).mode = false ∧ (s.llcLine 1).run.1 = 31 ∧ 8 ≤ (s.llcLine 1).run.2) ∧
    (∀ d ∈ [false, true],
      let s : State := { State.reset with llc := [(1, { LlcLine.reset with
        present := true
        dirty := if d then chunkMask 7 else 0 })] };
      (s.llcLine 1).present = true ∧ ((s.llcLine 1).dirty &&& chunkMask 7 != 0) = d) ∧
    (let s : State := { State.reset with mem := tPages 0x21B [] };
      (s.walk 128).map (fun l => l.tier) = some 2) := by decide +kernel
theorem witness_MemorySideEvents_barriers :
    (tFly [] []).barrierInputs 31 15 = [] ∧
    (∀ off ∈ [8, 0x10, 0x18],
      let u := tUnit (.store false) (.ia (winBase + 0x4003C0 + off));
      let s := tFly [u] [];
      u.isRelease = false ∧ u.isAcquire = false ∧ u.toBarrier = some (15, off) ∧ s.barrierInputs 31 15 = [(1023, u)]) := by decide +kernel
theorem witness_MemorySideEvents_invalidation :
    let e : Inval := { waiting := 1#128 <<< 127, hdr := none, value := 0, ia := 0, lines := [(1, 0)] };
    e.waiting.getLsbD 127 = true ∧ (1, 0) ∈ e.lines := by decide +kernel
/-- A header. -/
def tHdr : PktHdr := { queue := 1, entry := 0, opc := 0, tag := 7, cmpl := 0, asid := 0 }
theorem witness_MemorySideEvents_pages :
    (let m : Migration := { ia := 0, pa := 2 ^ 30, size := 3, tier := 0, held := [], copied := false, hdr := tHdr };
      let s : State := { tMapped State.reset with migrations := [m] };
      s.migrations.find? (fun m => m.ia == 0) = some m ∧ m.copied = false ∧ ({ m with copied := true } : Migration).copied = true ∧ ∀ e ∈ s.invals, e.hdr = none → e.ia ≠ 0) ∧
    (let d : Delta := { recid := 1, asid := 0, fields := Half.reset };
      [d][0]? = some d) := by decide +kernel
/-! Tasks -/

/-- A launch record of one dimension of 4 tiles of 1, for code at 0x10000 with arguments at VA 0x20000, and more fields (byte, value). -/
def tRec (l : List (Nat × Nat)) : VWord :=
  BitVec.ofNat 1024 (([(0x00, 0x10000), (0x10, 0x01000100), (0x20, 0x20000), (0x40, 4), (0x50, 1), (0x5C, 1)] ++ l).foldl
    (fun n (e : Nat × Nat) => n + e.2 * 2 ^ (8 * e.1)) 0)
/-- A task of that record. -/
def tTask (st : TaskState) (checked : Bool) (r : VWord) : Machine.Task :=
  { state := st, record := r, counter := 0, prio := 3, asid := 0, step := 0, report := .template 0 0, saved := [], checked := checked, tiles := 4,
    ragged := [], retired := 0, aborted := 0, status := 0, seed := 0, binds := [], hints := [], silent := false }
theorem witness_MemorySideEvents_hints :
    let s : State := { State.reset with fe := { FrontEnd.reset with tasks := [(0, { tTask .active true (tRec []) with hints := [(7, 16, 2), (9, 16, 0)] })] } };
    ((s.taskOf 0).map fun t => (t.hints[0]?, t.hints[1]?)) = some (some (7, 16, 2), some (9, 16, 0)) ∧ (0, 0) ∉ s.fe.hinted := by decide +kernel
/-- Walker 1 of task 0, tiles `a` to `e`. -/
def tWalk (a e : Nat) (o : Option Nat) : Walker := { task := 0, cur := a, end_ := e, forks := 0, asked := none, offer := o, issued := none }
/-- The module in full service, with task 0 and walkers `ws`, over mapped memory, and a spill area. -/
def tServe (t : Machine.Task) (ws : Store Walker) : State :=
  { tMapped State.reset with
    pow := { Power.reset with stage := 6 }
    walkers := ws
    fe := { FrontEnd.reset with
      tasks := [(0, t)]
      ready := [(3, [0])]
      spill := (0x100000, 1)
      aspaces := [(0, { ranges := [(0, { va := 0, len := 16, ia := 0, asid := 0, w := true, r := true })], recQuota := 8, curStep := 0, openStep := 0 })] } }
/-- Task 0 without a fault, at its first walker: a code object of 16 bytes at 0x10000. -/
def tReady : State :=
  let s := tServe (tTask .active false (tRec [])) []
  let h := [(0, 0x30564C46), (4, 0x10001), (8, 128), (0x0C, 16), (0x10, 0x11111111), (0x14, 1), (0x18, 128), (0x1C, 256), (0x24, 256), (0x2C, 256)] ++
    (List.range 8).map fun i => (0x40 + 4 * i, 0x418)
  { s with mem := h.foldl (fun m e => Memory.writeLE m (0x10000 + e.1) 4 e.2) s.mem }
theorem witness_TaskEvents_first_walker :
    (match (tReady.launchReads (tTask .active false (tRec []))).prepare 0 (tTask .active false (tRec [])) with
      | .ok u => match (u.checkHints 0 (tTask .active false (tRec []))).taskOf 0 with
        | some t => decide (t.tiles = 4) && !((u.checkHints 0 (tTask .active false (tRec []))).freeWalkers
            (u.checkHints 0 (tTask .active false (tRec []))).widestDie).isEmpty
        | none => false
      | .error _ => false) = true ∧ tReady.settleFe = tReady ∧ okB ((tReady.launchReads (tTask .active false 0)).prepare 0 (tTask .active false 0)) = false := by decide +kernel
/-- Core 0 with four running tiles of priority 0. -/
def tFull : State := { tServe (tTask .active true (tRec [])) [(1, tWalk 0 4 none)] with
  ctxs := (List.range 4).map fun c => (c, { tCtx with task := 9 }) }
theorem witness_TaskEvents_switches :
    ({ tCtx with state := .retiring } : Ctx).quiet = true ∧
    (tFull.walkerOf 1 = some (tWalk 0 4 none) ∧ 0 / 64 = 1 / 16 ∧ tFull.switchUnderway 1 (tWalk 0 4 none) = false ∧
      (∀ d ∈ ctxsOf 0, tFull.partitionFree d = false) ∧ tFull.areaFree = true ∧ tFull.switchVictim 0 (tFull.walkerPrio (tWalk 0 4 none)) = some 3) ∧
    (let s := tFull.setCtx 3 { tCtx with switching := some ([], none) };
      (s.ctx 3).switching = some ([], none) ∧ s.freeAreas = [0x100000] ∧ (s.ctx 3).state = .running ∧ (s.ctx 3).quiet = true ∧
      (s.ctx 3).busy = [] ∧ (s.ctx 3).pending = []) := by decide +kernel
/-- Context 5 in the spill area, and its core free. -/
def tImage : State :=
  let s := tServe (tTask .active true (tRec [])) []
  { s with
    mem := [(0, 4, 0x50534C46), (4, 2, 1), (8, 8, 5)].foldl (fun m (e : Nat × Nat × Nat) => Memory.writeLE m (0x100000 + e.1) e.2.1 e.2.2) s.mem
    fe := { s.fe with images := [(0x100000, 5, tCtx)] } }
theorem witness_TaskEvents_refill : tImage.settleFe.refillImage 5 = some (0x100000, tCtx) ∧ tImage.settleFe.refillWaits 5 tCtx = false ∧
    (let r := tImage.settleFe.recallRange 0x100000 areaSize;
     r.imageBytes 0x100000 0 4 = 0x50534C46 ∧ r.imageBytes 0x100000 4 2 = 1 ∧ r.imageBytes 0x100000 8 8 = 5) := by decide +kernel
theorem witness_TaskEvents_tasks :
    (let t := { tTask .active true (tRec []) with saved := [(3, 0, 4, 2)] };
      let s := tServe t [];
      s.taskOf 0 = some t ∧ (s.restoreAll 0 t.saved).2 = []) ∧
    (let t := tTask .done true (tRec []);
      let s := tServe t [];
      s.taskOf 0 = some t ∧ t.status = 0 ∧ t.aborted = 0 ∧ s.settleFe.successors (lrSucc t.record) = some [] ∧ s.settleFe.doneWaits 0 [] = false ∧
      ({ s with closed := [(5, 0, 1, 2)] } : State).settleFe.doneWaits 0 [] = true) ∧
    (let t := tTask .ready false (tRec []);
      let s := tServe t [];
      s.anyFreeWalker = true ∧ s.nextLevel = some 3 ∧ s.readyAt 3 = [0] ∧ s.taskOf 0 = some t) := by decide +kernel
theorem witness_TaskEvents_walkers :
    (let t := tTask .active true (tRec []);
      let s := tServe t [(1, tWalk 3 4 (some 2))];
      s.walkerOf 1 = some (tWalk 3 4 (some 2)) ∧ s.taskOf 0 = some t ∧ s.eligible 2 t 0 (some 1) = true) ∧
    (let t := tTask .active true (tRec []);
      let s := tServe t [(1, tWalk 3 4 none)];
      s.walkerOf 1 = some (tWalk 3 4 none) ∧ s.firstEligible 0 t 0 (some 1) = some 0) ∧
    (let t := tTask .active true (tRec []);
      let s := tServe t [(1, tWalk 0 4 none)];
      s.forkRequest 3 = some (768, 1, tWalk 0 4 none, t) ∧ lrSplit t.record = 0 ∧ 2 * lrMinsplit t.record ≤ 4 - 0 ∧ (s.freeWalkers 3).head? = some 48) ∧
    (let t := { tTask .active true (tRec []) with prio := 1 };
      let s := tServe t ((List.range 64).map fun w => (w, tWalk 0 4 none));
      s.saveDue 63 = true ∧ s.fe.saves = []) := by decide +kernel
/-! Leases, packets, interfaces, power and the fabric -/

/-- A lease of 64 bytes of object 7. -/
def tLease (st : LeaseState) : Machine.Lease :=
  { state := st, asid := 0, cap := 0x1C000, off := 0, len := 64, write := true, sent := 0, out := 0, granted := 0, job := none, sheet := none }
/-- The machine at a slot with one lease. -/
def tLeased (x : Machine.Lease) (slot : Word32) : State := { State.reset with
  fe := { FrontEnd.reset with leases := [(2, x)] }
  fab := { Fabric.reset with slot := slot, removed := false } }
theorem witness_LeaseAndGroupEvents_leases :
    ((tLeased (tLease .asked) 0).lease 2 = some (tLease .asked)) ∧
    (tLeased (tLease .held) 3907).renewalDue (tLease .held) = true ∧ (tLeased (tLease .held) 3906).renewalDue (tLease .held) = false ∧
    (tLeased (tLease .held) 7715).leaseOver (tLease .held) = true ∧ (tLeased (tLease .held) 7714).leaseOver (tLease .held) = false ∧
    (tLeased (tLease .asked) 0).flitsOut ((tLease .asked).asker 2) = false ∧ (tLease .held).job = none ∧ (tLease .held).sheet = none ∧
    (tLeased (tLease .recalled) 7715).leaseOver (tLease .recalled) = true ∧ (tLeased (tLease .held) 7715).pool.lapses = [] ∧ (tLeased (tLease .held) 7715).pool.ending = [] ∧
    (tLeased (tLease .held) 7715).fab.removed = false ∧ (tLeased (tLease .held) 0).pow.ps < 3 ∧
    (tLeased (tLease .held) 0).fe.leases = [(2, tLease .held)] ∧ capObj (tLease .held).cap = 7 ∧ (0 < 63 + 1 ∧ 63 < 0 + 64) := by decide +kernel
theorem witness_LeaseAndGroupEvents_renewal :
    (let s : State := { tLeased (tLease .held) 3907 with fab := { (tLeased (tLease .held) 3907).fab with sent := [(1026, 2)] } };
      s.lease 2 = some (tLease .held) ∧ s.renewalDue (tLease .held) = true ∧ s.leaseOver (tLease .held) = false ∧ s.fab.sent = [(1026, 2)] ∧
      s.flitsOut (1026, 2) = false) ∧
    (let s : State := { tLeased (tLease .held) 7715 with fab := { (tLeased (tLease .held) 7715).fab with removed := true } };
      s.leaseOver (tLease .held) = true ∧ s.fab.removed = true) ∧
    (let s : State := { tLeased (tLease .held) 5 with pool := { Pool.reset with lapses := [4], objs := [(7, { token := 0, cur := [], com := [], provs := [{ writer := 0, step := 1, at_ := 0, byte := 1 }], writers := [(0, 1)], readers := [] })] } };
      s.lease 3 = none ∧ s.slotsSince 4 < 2 ^ 31 ∧ s.pool.ending = [] ∧ 2 ^ 31 ≤ s.slotsSince 6 ∧ s.flitsOut (1029, 7) = false ∧
      ({ s with fab := { s.fab with owed := [{ tOwed with job := some (1029, 7) }] } } : State).flitsOut (1029, 7) = true ∧ (s.poolObj 7).map (fun o => o.provs != []) = some true) := by decide +kernel
/-- An armed group with the contribution to phase 0. -/
def tGroup : Group :=
  { armed := true, cap := 0x1C000, myIdx := 0, mlist := [5], phase := 0, lost := none, gone := [], contribs := [(0, 77)], done := [], results := [] }
/-- A route sheet of one entry for step 1, a milestone at its answer, and group 0 of address space 0 with its contribution to phase 0. -/
def tSheet : State :=
  { tMapped State.reset with
    fe := { FrontEnd.reset with
      sheets := [((0, 1), { ia := 0x10000, count := 1, states := [], retried := [], bad := false, blocked := false })]
      milestones := [(milestoneKey 0 1, { step := 1, stage := 4, count := 0, deferred := (none, 0), jobs := [] })]
      groups := [(0, (128, 0, 0, 0, 1))] }
    fab := { Fabric.reset with timing := .locked, ports := [(0, { Port.reset with healthy := true })] }
    pool := { Pool.reset with groups := [(0, tGroup)] } }
theorem witness_LeaseAndGroupEvents_sheets_groups :
    (tSheet.sheetOf 0 1).map (fun x => decide (0 < x.count) && (Store.get (0, 0) x.states 0).1 == 0) = some true ∧
    tSheet.prefetchable 0 1 = true ∧ tSheet.prefetchOk (0x10000 + 0x40 + 64 * 0) 64 = true ∧
    (tUnused tSheet).prefetchOk (0x10000 + 0x40 + 64 * 0) 64 = false ∧
    (let x : Sheet := { ia := 0x10000, count := 1, states := [(0, (2, 3))], retried := [], bad := false, blocked := false };
      let s : State := { tSheet with
        mem := Memory.writeLE tSheet.mem (0x10000 + 0x40 + 0x1C) 4 1
        fe := { tSheet.fe with
          sheets := [((0, 1), x)]
          aspaces := [(0, { ranges := [], recQuota := 0, curStep := 1, openStep := 0 })] } };
      s.sheetOf 0 1 = some x ∧ s.oldestStep 0 = 1 ∧
        x.states.filter (fun (e : Nat × Nat × Nat) => e.2.1 == 2 && (s.routeEntry x.ia e.1).kind == 1 && !x.retried.contains e.1) ≠ []) ∧
    tSheet.flitsOut (1027, 0) = false ∧ (0, 1) ∉ tSheet.pool.discarded ∧
    (0, 1) ∈ ({ tSheet with pool := { tSheet.pool with discarded := [(0, 1)] } } : State).pool.discarded ∧
    ({ tSheet with fe := { tSheet.fe with
        aspaces := [(0, { ranges := [], recQuota := 0, curStep := 1, openStep := 0 })] } } : State).oldestStep 0 = 1 ∧
    (tSheet.milestone 0 1).map (·.stage) = some 4 ∧ tSheet.fabricWaits = false ∧
    (tSheet.group (groupKey 0 0)).map (fun g => g.armed && !Store.has g.done 0 && Store.has g.contribs 0) = some true ∧
    geHas (tSheet.groupOf (groupKey 0 0)) = true := by decide +kernel

theorem witness_FrontEndEvents : (tServe (tTask .active true (tRec [])) []).serving = true ∧
    (tServe (tTask .active true (tRec [])) []).fe.stopped = false ∧ State.reset.serving = false ∧ (127 < 128 ∧ 16 < 17 ∧ 16 ≤ 16 ∧ 0xFFFFF < 2 ^ 20 ∧ 0 < 2 ^ 32) := by decide +kernel

/-- Queue 1 as a supervisor's with entries 2 and 3 outstanding, address space 0, and record 9. -/
def tQueue : State :=
  let s := tServe (tTask .active true (tRec [])) []
  { s with
    fe := { s.fe with queues := [(1, { Queue.reset with super := true, open_ := [2, 3] })] }
    records := [(9, { half0 := Half.reset, half1 := Half.reset, open1 := false, policy := 0, asid := 0, origin := .packet, reload := false })] }
theorem witness_TaskPackets :
    (∀ e ∈ (tQueue.fe.queue 1).open_, 2 ≤ e) ∧ (∃ e ∈ (tQueue.fe.queue 1).open_, e < 3) ∧ (tQueue.read128 0x10000).isSome = true ∧
    tQueue.settleFe = tQueue ∧ Store.has tQueue.fe.tasks 16383 = false ∧ Store.has tQueue.fe.tasks 0 = true ∧ tQueue.freeTask = some 1 ∧
    Store.has tQueue.fe.aspaces 0 = true ∧ policyBad 11 = false ∧ tQueue.freeRecId 0 = some 0 ∧ Store.has tQueue.records 65535 = false ∧
    tQueue.recQuotaOk 0 = true ∧ Store.has tQueue.records 9 = true ∧ ((tQueue.recOf 0 9).map fun r => decide (r.origin = .packet)) = some true :=
  by decide +kernel
theorem witness_TaskPackets_noTask : ∃ m : Store Machine.Task, Store.lowestFree m 1 0 = none := ⟨[(0, tTask .ready true 0)], rfl⟩
/-- A sheet header of address space 0 with one entry. -/
def tRoute : State := { tQueue with mem := [(0, 4, 0x53485452), (4, 2, 1), (8, 8, 5)].foldl (fun m (e : Nat × Nat × Nat) => Memory.writeLE m (0x40000 + e.1) e.2.1 e.2.2) tQueue.mem }
theorem witness_TaskPackets_route :
    tRoute.settleFe = tRoute ∧ tRoute.homeFault 0x40000 64 false = none ∧ bitsN (tRoute.homeRead 0x40000 64) 0 32 = 0x53485452 ∧ bitsN (tRoute.homeRead 0x40000 64) 61 3 = 0 ∧
    bitsN (tRoute.homeRead 0x40000 64) 32 16 ≤ 4096 ∧ bitsN (tRoute.homeRead 0x40000 64) 128 384 = 0 ∧ bitsN (tRoute.homeRead 0x40000 64) 48 13 = 0 := by
  decide +kernel

theorem witness_SupervisorPackets :
    (State.reset.fe.queue 1).super = false ∧ tQueue.mayAct tHdr [0] = true ∧ tQueue.mayAct tHdr [] = true ∧ tQueue.asidLive 0 = true ∧
    tQueue.mayAct { tHdr with queue := 2 } [0] = false ∧ tQueue.asidLive 8191 = false ∧ tQueue.pagesOk 0x40000 256 = true ∧ (tQueue.rangesAt 0 0x40000).all (·.isSome) = true ∧
    rangesOk (((tQueue.rangesAt 0 0x40000).filterMap id).filter fun r => r.len != 0) = true ∧ (segEntryOf (tQueue.homeRead 0x40000 16)).isSome = true ∧
    tQueue.anyFrozen = false ∧ tQueue.pagesOk 0x40000 1 = true ∧
    (∃ r ∈ (({ tQueue with mem := Memory.writeLE tQueue.mem (0x40000 + 15) 1 0xC0 } : State).feRead 0x40000 256).rangesAt 0 0x40000, r = none) := by decide +kernel
/-- A quota class 0 with room in HBM. -/
def tQuota : State := tQueue.modQuota 0 fun q => { q with
  qhbmr := 2 ^ 20
  qcar := 2 ^ 20 }
theorem witness_SupervisorPackets_pages :
    (let t := tQuota.settle 0 (pageBytes 3);
      allInside (t.pagesIn 0 (pageBytes 3)) 0 (pageBytes 3) = true ∧ tQuota.stackOut 0 0 = false ∧
      ((t.pagesIn 0 (pageBytes 3)).foldl State.dropPage t).pageFits 0 0 3 = true ∧
      (t.tableWalk 0).map (fun l => l.valid && l.size == pageBytes 3 && l.tier != 3) = some true) := by decide +kernel
theorem witness_SupervisorPackets_contexts :
    (let s := { tQueue with ctxs := [(1023, { tCtx with
        state := .frozen
        csr := { Csrs.reset with trapCause := 0x17 } })] };
      s.mayAct tHdr (s.asidsOf 1023) = true ∧ (s.ctx 1023).state = .frozen ∧ mayReplace (s.ctx 1023) = true) ∧
    (let s := { tQueue with ctxs := [(1023, tCtx)] };
      s.mayAct tHdr (s.asidsOf 1023) = true ∧ (s.ctx 1023).state = .running ∧ (s.ctx 1023).switching = none ∧ s.areaFree = true) ∧
    (let s := { tQueue with
        ctxs := [(1023, tCtx)]
        fe := { tQueue.fe with spill := (0, 0) } };
      s.areaFree = false) := by decide +kernel

/-- Interface 16. -/
def tVf (x : Vf) : State := { tMapped State.reset with
  pow := { Power.reset with stage := 6 }
  host := { HostIf.reset with
  vfs := [(16, x)]
  agent := [(4, { mesi := .m, data := 0 })] } }
theorem witness_InterfaceEvents :
    ((tVf { Vf.reset with ide := true }).vf 16).state = 0 ∧ ((tVf { Vf.reset with ide := true }).vf 16).ide = true ∧
    ((tVf { Vf.reset with state := 1, nonce := some 5 }).vf 16).state = 1 ∧ ((tVf { Vf.reset with state := 1, nonce := some 5 }).vf 16).nonce = some 5 ∧
    (tVf { Vf.reset with state := 1, nonce := some 5 }).vfFrozen 16 = true ∧ (tVf Vf.reset).vfFrozen 16 = false ∧ (tVf Vf.reset).vfFrozen 0 = false ∧
    (tVf { Vf.reset with state := 2 }).queuesOf 16 = [] ∧ (tVf { Vf.reset with state := 2 }).tasksOfVf 16 = [] ∧
    ((tVf Vf.reset).granule 4).isSome = true ∧
    ((tVf Vf.reset).host.hdm.1 ≤ 128 ∧ 128 + 128 ≤ (tVf Vf.reset).host.hdm.1 + (tVf Vf.reset).host.hdm.2.2) ∧
    (tVf Vf.reset).serving = true ∧ State.reset.serving = false ∧ (tVf Vf.reset).heldBy agentFe 128 128 = false ∧
    tMoving.migOver 128 128 = true ∧ (tMoving.leafFor 128 true).isSome = true ∧
    ((tVf { Vf.reset with state := 1 }).vf 16).stopping = false ∧
    (∀ i < 128, ((tVf Vf.reset).leafFor (128 + i) true).isSome = true) ∧ (∀ i < 128, ((tVf Vf.reset).leafFor (128 + i) false).isSome = true) ∧
    (((linesOf 128 128).foldl (fun t l => t.recallLine l) (tVf Vf.reset)).homeTouch 128 128 false).homeFault 128 128 false = none := by decide +kernel

/-- The machine in a power state. -/
def tPow (p : Power) : State := { State.reset with pow := p }
theorem witness_PowerEvents :
    State.reset.pow.coldAsked = true ∧ State.reset.pow.on = true ∧ State.reset.pow.recovery = false ∧ State.reset.anyFrozen = false ∧
    (let p := { Power.reset with
        coldAsked := false
        start := some false };
      p.coldAsked = false ∧ p.on = true ∧ p.start = some false) ∧
    (let p := { Power.reset with warmAsked := true };
      p.warmAsked = true ∧ p.on = true) ∧
    (let s : State := tPow { Power.reset with stage := 4 };
      s.fab.timing ≠ .locked ∧ s.pow.stage = 4) ∧
    (let s : State := { tPow { Power.reset with stage := 4 } with fab := { Fabric.reset with timing := .locked } };
      s.fab.timing = .locked ∧ s.pow.stage = 4) ∧
    (∀ n ∈ [1, 3, 4], (tPow { Power.reset with ps := n }).pow.ps = n) ∧
    (let p := { Power.reset with
        start := some true
        stage := 6 };
      p.warmAsked = false ∧ p.start = some true ∧ p.stage ≠ 1) ∧
    (let s := tPow { Power.reset with
        stage := 4
        tol := 1 };
      s.pow.tol ≠ 0 ∧ s.serving = true ∧ s.pow.ps ≠ 4) ∧
    (1499999#32).toNat < exitLatency 4 ∧ exitLatency 4 ≤ (1500000#32).toNat ∧ 100 ≤ (100#8).toNat ∧ (94#8).toNat < 95 ∧
    (95 ≤ (95#8).toNat ∧ (99#8).toNat < 100) ∧ 110 ≤ (110#8).toNat ∧
    State.reset.pow.stage = 1 ∧ State.reset.fe.imageBad = false ∧ ({ State.reset with fe := { FrontEnd.reset with imageBad := true } } : State).fe.imageBad = true :=
  by decide +kernel
theorem witness_GoInRecovery : (tPow { Power.reset with recovery := true }).pow.recovery = true ∧ State.reset.pow.recovery = false := ⟨rfl, rfl⟩

/-- A flit from member 1 to member 5. -/
def tFlit (cls len : Nat) (x : BitVec 1920) : Flit :=
  { stamp := 0, ofs := 0, src := 1, dst := 5, tag := 3, cls := cls, fwd := false, tstate := 0, len := len, payload := x }
/-- The fabric with port p as `x`, at a slot, in a timing state, with slots since the last lock. -/
def tFab (p : Nat) (x : Port) (t : Timing) (slot : Word32) (h : Nat) : State := { State.reset with
  pow := { Power.reset with stage := 6 }
  fab := { Fabric.reset with
    ports := [(p, x)]
    timing := t
    slot := slot
    holdover := h
    timeSet := true
    windows := [(3, 0x40, 128, 0)] } }
theorem witness_FabricEvents_time :
    (let s := tFab 0 Port.reset .phase2 2 0;
      s.fab.timing.sends s.fab.slot.toNat = true ∧ (s.exchanges.sendPlaced.acknowledge.fab.slot + 1).toNat % 64 ≠ 0 ∧
      s.exchanges.sendPlaced.acknowledge.fab.forward = [] ∧ s.fab.placed = [] ∧ s.fab.owed = [] ∧ (∀ p < 16, s.partner p = none)) ∧
    (let s : State := { tFab 0 Port.reset .phase2 0 0 with fab := { (tFab 0 Port.reset .phase2 0 0).fab with
        exchange := true
        samples := [(exchangeJob, 0, 3)] } };
      s.fab.timing = .phase2 ∧ s.fab.exchange = true ∧ s.samplesDone exchangeJob 0xFFFF 1 = true ∧ s.kept exchangeJob = [3]) ∧
    (let s := tFab 15 { Port.reset with healthy := true } .phase1 64 976563;
      (s.port 15).healthy = true ∧ s.fab.timing ≠ .locked ∧ s.fab.timeSet = true ∧ s.fab.slot.toNat = 64 * (1 % 2 ^ 26) ∧
      s.fab.slot.toNat ≠ 64 * (2 % 2 ^ 26) ∧ (∀ d ∈ [some (-5), none], ({ s.fab with relock := some (15, d) } : Fabric).relock = some (15, d)) ∧
      s.fab.relock = none ∧ slotsOf 250000000 ≤ s.fab.holdover) ∧
    slotsOf 250000000 = 976563 ∧
    (let s := tFab 0 Port.reset .phase2 0 8789063;
      slotsOf 2250000000 ≤ s.fab.holdover) := by decide +kernel
theorem witness_FabricEvents_ports :
    (let s := tFab 15 { Port.reset with healthy := true } .locked 0 0;
      (s.port 15).fenced = false ∧ (s.port 15).pausedAt = none) ∧
    (let s := tFab 15 { Port.reset with
        healthy := true
        pausedAt := some 0 } .locked 3908 0;
     let s : State := { s with fab := { s.fab with elapsed := 3908 } };
      (s.port 15).pausedAt.isSome = true ∧ s.fenceDue 15 = true) ∧
    (let s := tFab 15 { Port.reset with
        healthy := true
        pausedAt := some 0
        retry := [{ slot := 3907, port := 15, flit := { tFlit 7 0 0 with src := 0 }, job := none, via := none }] } .locked 3908 0;
     let s : State := { s with fab := { s.fab with elapsed := 3908 } };
      s.fenceDue 15 = true ∧ (s.port 15).retry ≠ [] ∧ ∀ e ∈ (s.port 15).retry, e.flit.src = s.fab.selfId) ∧
    (let s := tFab 15 { Port.reset with
        fenced := true
        retrained := true
        cleanSince := some 0 } .locked 4096 0;
     let s : State := { s with fab := { s.fab with elapsed := 4096 } };
      s.rejoinDue 15 = true) ∧
    (let s := { tFab 1 { Port.reset with healthy := true } .locked 5 0 with
        fab := { (tFab 1 { Port.reset with healthy := true } .locked 5 0).fab with forward := [{ tFlit 4 8 0 with dst := 1 }] } };
      s.fab.forward = [{ tFlit 4 8 0 with dst := 1 }] ∧ planeFor s.fab.slot.toNat (distance s.fab.selfId 1) = some 1 ∧ s.portUsable 1 = true ∧
      s.fab.timing.sends s.fab.slot.toNat = true ∧ (s.toSend 1 false).length < s.shares.1 ∧ (s.port 1).retry.length < 768) ∧
    (let s := tFab 15 { Port.reset with fenced := true } .locked 0 0;
      (s.port 15).fenced = true ∧ (s.port 15).pausedAt = none) := by decide +kernel
theorem witness_FabricEvents_flits :
    (let s := tFab 0 Port.reset .locked 0 0;
      s.fabricUp = true ∧ s.portUp 15 = true ∧ s.stampOk (tFlit 4 8 0) = true ∧ s.stampOk { tFlit 4 8 0 with stamp := 4 } = true ∧
      s.stampOk { tFlit 4 8 0 with stamp := 2 ^ 32 - 4 } = true ∧ s.stampOk { tFlit 4 8 0 with stamp := 5 } = false ∧
      (s.port 15).lastRefusal ≠ some (s.fab.slot.toNat / 64) ∧ flitStream (tFlit 4 8 0) = 3 ∧
      flitHeaderOk (tFlit 4 8 0) = true ∧ flitHeaderOk { tFlit 4 8 0 with rsv := 1 } = false ∧
      s.epochNext 1 = true ∧ s.epochNext 0 = false ∧ 63 ≠ s.fab.selfId) ∧ (tPow { Power.reset with
        stage := 6
        ps := 3 }).fabricUp = false ∧ (tPow { Power.reset with stage := 4 }).portUp 2 = false := by
  decide +kernel
/-- Stream 3 with a window of `n` bytes and a message of 4 bytes under way from member 1, and a migration of the window's page. -/
def tWin (n : Nat) (ms : List Migration) : State := { tFab 0 Port.reset .locked 0 0 with
  migrations := ms
  fab := { (tFab 0 Port.reset .locked 0 0).fab with
    messages := [(streamKey 1 3, 0, 4)]
    windows := [(3, 0x40, n, 0)] } }
theorem witness_FabricEvents_data :
    (∀ n ∈ [0, 3, 4], (tWin n []).fab.windows.find? (fun e => e.1 == flitStream (tFlit 4 8 0)) = some (flitStream (tFlit 4 8 0), 0x40, n, 0)) ∧
    (tWin 4 []).fab.arrived = [] ∧ nearest ((tWin 4 []).prefixOf (streamKey 1 3)) 0 = 0 ∧
    (∀ n ∈ [3, 4], let m := ((tWin n []).noteMessage (streamKey 1 3) 0 1).messageOf (streamKey 1 3) 0 1;
      decide ((0 + 2 ^ 64 - (0 - m.1) % 2 ^ 64) % 2 ^ 64 + (m.2 - m.1) ≤ n) = decide (n = 4)) ∧
    (streamKey 1 3, (tWin 3 []).messageOf (streamKey 1 3) 0 1) ∈ (tWin 3 []).fab.messages ∧
    (tWin 4 []).migOver 0x40 1 = false ∧ (tWin 4 tMoving.migrations).migOver 0x40 1 = true := by decide +kernel
/-- Port 1 is the lock's, and port 0 has had good pulses up to frame 8. -/
def tLock (good : Nat) (healthy : Bool) : State := { State.reset with
  pow := { Power.reset with stage := 6 }
  fab := { Fabric.reset with
    ports := [(0, { Port.reset with
      good := good
      frame := 8
      healthy := healthy }), (1, { Port.reset with healthy := true })]
    timing := .locked
    slot := 576
    timeSet := true
    lockPort := some 1 } }
theorem witness_FramePulses :
    (tFab 15 Port.reset .locked 0 0).portUp 15 = true ∧ (tPow { Power.reset with stage := 4 }).portUp 15 = false ∧
    (let s := tFab 15 { Port.reset with
        healthy := true
        bad := 1 } .locked 0 0;
      (∀ t, exec (.framePulse 15 false 0) s = .next t → t.healthyPort = none) ∧ s.fab.timing = .locked) ∧
    (let s : State := { tFab 15 { Port.reset with
          good := 3
          frame := 8 } .nosync 0 0 with fab := { (tFab 15 { Port.reset with
          good := 3
          frame := 8 } .nosync 0 0).fab with timeSet := false } };
      (∀ t, exec (.framePulse 15 true 9) s = .next t → t.healthyPort = some 15) ∧ s.fab.timeSet = false) ∧
    (∀ t, exec (.framePulse 0 true 9) (tLock 3 false) = .next t → t.healthyPort = some 0 ∧ (t.port 1).healthy = true ∧ t.fab.lockPort = some 1) ∧
    (∀ t, exec (.framePulse 0 true 9) (tLock 4 true) = .next t → t.healthyPort = some 0 ∧ (t.port 1).healthy = true ∧ t.fab.lockPort = some 0) ∧
    ((tLock 4 true).inGuard 9 = true ∧ (tLock 4 true).inGuard 8 = false ∧ 9 = (tLock 4 true).fab.slot.toNat / 64 ∧ (tLock 4 true).fab.placed = [] ∧
      ({ tLock 4 true with fab := { (tLock 4 true).fab with slot := 600 } } : State).inGuard 9 = false) ∧
    (let s := tFab 15 { Port.reset with healthy := true } .phase1 64 0;
      s.fab.relock = none ∧ s.fab.timeSet = true ∧ s.fab.timing ≠ .locked ∧ (s.port 15).healthy = true) := by
  refine ⟨by decide +kernel, by decide +kernel, ⟨?_, rfl⟩, ⟨?_, rfl⟩, ?_, ?_, by decide +kernel, by decide +kernel⟩ <;>
    (intro t h; injection h with h; subst h; first | rfl | exact ⟨rfl, rfl, rfl⟩)
theorem witness_UnitsOutOfRange : 1024 ≤ 1024 ∧ 256 ≤ 256 ∧ 128 ≤ 128 ∧ 64 ≤ 64 ∧ 32 ≤ 32 ∧ 16 < 17 ∧ 16 ≤ 16 ∧ 4 ≤ 4 ∧ 8 ≤ 8 := by decide
theorem witness_IssueKeepsRegisters : (infoOf tNop).slot < 13 ∧ tRun.issue.active = true ∧ ∃ t, exec tNop tRun = .next t := ⟨by decide, rfl, _, rfl⟩
/-! ## Worked examples of the manual -/

/-- The value of the newest landing of context 0 after a step, and the flags its bundle has raised. -/
def tLanding (o : Out) : Option (Nat × Nat) :=
  match o with
  | .next t => (t.ctx 0).queue.getLast?.map fun e => (e.value.toNat, t.issue.flags)
  | _ => none
/-- 02_bundle_encoding.md: the bytes 12 00 44 00 40 A5 04 01 08 44 02 04. -/
theorem test_bundle_example :
    (match decodeHead 0x00440012 with
      | .header h => h.slots == [1, 4] && h.rep == 2 && h.sticky == 4
      | _ => false) = true ∧
    decodeSyl 1 0x0104A540 none = .ok (.add { g := 0, d := 9, a := 9, b := 10, c := 0, ext := none }) ∧
    decodeSyl 4 0x04024408 none = .ok (.sts64 { g := 0, data := 9, base := 2, port := 0, off := 8, ext := none }) := ⟨by decide, rfl, rfl⟩
/-- 05_instr_vector.md: vqnt.fmt1.f32 v12, v10:0, v11:1 (R142, R150 to R155), its code field and its flags OF, NX and SAT. -/
theorem test_vqnt_example :
    decodeSyl 5 0x42830A00 (some 0x2C800011) =
      .ok (.vqnt { g := 0, vd := 12, va := 10, pa := 0, ty := 0, ext := some 0x2C800011, v1 := false }) := rfl
/-- 13_cluster.md: red.add.32.rel s2, [a3] and scope.clus. -/
theorem test_red_example :
    decodeSyl 4 0x30000870 none = .ok (.redAdd32 { g := 0, d := 0, data := 2, base := 3, ord := 2, z := 0, ext := none }) ∧
    decodeSyl 12 0x01020000 none = .ok (.scope { g := 0, scope := 1, z := 0, ext := none }) := ⟨rfl, rfl⟩
/-- 07_core_storage.md: wmarm h40, 4096. -/
theorem test_wmarm_example : decodeSyl 10 0x28802800 (some 0x1000) = .ok (.wmarm { g := 0, hJ := 0, hW := 40, k := 0, sub := 0, ext := some 0x1000 }) := rfl
/-- 07_core_storage.md: 4,096 bytes raise GEN by 1 and leave COUNT 0; two jobs of 3,000 leave 1,904. -/
theorem test_waymark_example :
    waymarkAfter (2 ^ 64 * 4096) 4096 0 = 1 + 2 ^ 64 * 4096 ∧
    waymarkAfter (waymarkAfter (2 ^ 64 * 4096) 3000 0) 3000 0 = 1 + 2 ^ 32 * 1904 + 2 ^ 64 * 4096 := by decide
/-- 03_number_formats.md: the NF6 format 0x0003_0316 and its four codes. -/
theorem test_nf6_example :
    (nfFmt 0x00030316).map (fun f => [0x0C, 0x28, 0x12, 0x1E].map fun c => (roundTo fp32 (decodeVal f c) 0 false 0).bits) =
      some [0x3F800000, 0xBF000000, 0x40400000, 0x41C00000] := by decide +kernel
/-- 03_number_formats.md: the scale of amax 3.0 for E4M3 with margin 1, and -2.875 under it. -/
theorem test_e4m3_example :
    (nfFmt 0x00070418).map (fun f => (scaleFrom 0x40400000 f 1, (roundTo f (.fin true 92 0) 0 false 0).bits, (roundTo f (.fin true 92 0) 0 false 0).flags)) =
      some (0x42000000, 0xEC, flagNX) := by decide +kernel
/-- 08_instr_matrix_drain_optimiser.md: 0x7F7F_FFFF into BF16 in four ways. -/
theorem test_bf16_example :
    let r := fun (mode : Nat) (satf : Bool) (sr : Nat) => roundTo bf16 (decodeVal fp32 0x7F7FFFFF) mode satf sr
    ((r 0 false 0).bits = 0x7F80 ∧ (r 0 false 0).flags = flagOF + flagNX) ∧
    ((r 4 false 0x10000).bits = 0x7F80 ∧ (r 4 true 0x10000).bits = 0x7F7F ∧ (r 4 true 0x10000).flags = flagOF + flagNX + flagSAT) ∧
    ((r 4 false 0xFFFF).bits = 0x7F7F ∧ (r 4 false 0xFFFF).flags = flagNX) := by decide +kernel
/-- 03_number_formats.md: order decides the bits of a sum. -/
theorem test_sum_example : (faddCode 0x4B800000 0x3F800000).bits = 0x4B800000 ∧ (faddCode 0x3F800000 0xCB800000).bits = 0xCB7FFFFF ∧
    (faddCode 0x4B800000 0xCB7FFFFF).bits = 0x3F800000 := by decide +kernel
/-- A context with vector registers 10, 11 and format 1 of 05_instr_vector.md. -/
def tQuant : State := tAt { tCtx with
  fmt := [(1, 0x00070418)]
  v := [(10, 0x417000004150000041200000C03800003F800000#1024), (11, 0x01020003000542000000#1024)] }
/-- 05_instr_vector.md: the field that vqnt writes, 7E 7D 7A EC 60 from element 4 down, and the flags 0x54. -/
theorem test_vqnt_codes :
    (match exec (.vqnt { g := 0, vd := 12, va := 10, pa := 0, ty := 0, ext := some 0x2C800011, v1 := false }) tQuant with
      | .next t => (t.ctx 0).queue.map (fun e => e.value.toNat % 2 ^ 256) == [0x7E7D7AEC60] && t.issue.flags == 0x54
      | _ => false) = true := by decide +kernel
/-- 08_instr_matrix_drain_optimiser.md: the AdamW update with a zero and a negative second moment, elements (0, 0) to (0, 3). -/
def tAdam : Nat :=
  0x3D800000 + 2 ^ 32 * 0x3F000000 + 2 ^ 64 * 0x3F400000 + 2 ^ 96 * 0x3E800000 + 2 ^ 128 * 0x3F000000 +
  2 ^ 160 * 0x3F800000 + 2 ^ 192 * 0x3F800000 + 2 ^ 224 * 0x3F800000 + 2 ^ 288 * 0x00010203
/-- New weight, m, v and flags of an element with gradient `g`, weight 1.0, m +0 and second moment `v`. -/
def tAdamAt (g v : Nat) : Option (Nat × Nat × Nat × Nat) :=
  (optElem .adamw tAdam fp32 (decodeVal fp32 g) (decodeVal fp32 0x3F800000) (decodeVal fp32 0) (decodeVal fp32 v) 0).map fun r =>
    (r.1.bits, r.2.1, r.2.2, r.1.flags)
theorem test_adamw_example :
    tAdamAt 0 0 = some (0x3F780000, 0, 0, 0) ∧ tAdamAt 0x3F000000 0 = some (0x3F700000, 0x3E800000, 0x3D800000, 0) ∧
    tAdamAt 0 0x80000001 = some (0x3F780000, 0, 0x80000001, flagUF + flagNX) ∧ tAdamAt 0x7FC00000 0 = none ∧
    opWrec tAdam = 515 ∧ opWrecv tAdam = true ∧ opMode tAdam = 0 ∧ opRgrp tAdam = 0 := by decide +kernel

end Sys2Proof.Tests
end

/-! Proofs about s0, p0 and q0 (R17): each operation that writes a register, lands a result or sets a busy bit does nothing for them. -/
namespace Sys2Proof.Machine

/-! ## Operations on a fixed register -/

@[simp] theorem rS_zero_fixed : (rS 0).fixed = true := rfl
@[simp] theorem rP_zero_fixed : (rP 0).fixed = true := rfl
@[simp] theorem rQ_zero_fixed : (rQ 0).fixed = true := rfl

theorem Ctx.putMasked_fixed (x : Ctx) (d : Dest) (v m : VWord) (h : d.fixed = true) : x.putMasked d v m = x := x.put_fixed d _ h

theorem Ctx.setBusy_fixed (x : Ctx) (d : Dest) (h : d.fixed = true) : x.setBusy d = x := if_pos h

/-- The return of a hidden result for a fixed register changes no register; it clears a busy bit that is never set. -/
theorem Ctx.writeHidden_fixed (x : Ctx) (d : Dest) (v : VWord) (h : d.fixed = true) :
    x.writeHidden d v = { x with busy := x.busy.filter fun e => !(e == d) } := by
  unfold Ctx.writeHidden; rw [x.put_fixed d v h]

/-! ## Units -/

/-- A unit with no destination joins the units of its context and sets no busy bit. -/
theorem State.ctx_addUnit_noDest (s : State) (u : MemUnit) (h1 : u.dest = none) (h2 : u.dest2 = none) :
    (s.addUnit u).ctx s.cur =
      { s.ctx s.cur with
        units := (s.ctx s.cur).units ++ [{ u with id := (s.ctx s.cur).nextUnit }]
        nextUnit := (s.ctx s.cur).nextUnit + 1 } := by
  unfold State.addUnit
  rw [State.ctx_upd, if_pos rfl, h1, h2]
  rfl

/-- The unit of a hidden result for a fixed register names no destination. -/
theorem State.hidden_fixed (s : State) (d : Dest) (n : Nat) (h : d.fixed = true) :
    ((s.hidden d n).ctx s.cur).busy = (s.ctx s.cur).busy ∧
    ((s.hidden d n).ctx s.cur).units.map (·.dest) = (s.ctx s.cur).units.map (·.dest) ++ [none] := by
  unfold State.hidden
  rw [if_pos h, State.ctx_addUnit_noDest s _ rfl rfl]
  exact ⟨rfl, List.map_append⟩

/-! ## The obligation -/

/-- Settles O6: s0, p0 and q0 are the registers `Dest.fixed` names, and every write, landing and busy bit of such a register is dropped. -/
theorem fixedRegisters : Obligations.FixedRegisters := by
  unfold Obligations.FixedRegisters
  refine ⟨fun x => ⟨rfl, rfl, rfl⟩, fun d hd => ?_, fun s n => s.hidden_fixed (rS 0) n rS_zero_fixed⟩
  have hfix : d.fixed = true := by
    rcases hd with rfl | rfl | rfl
    · exact rS_zero_fixed
    · exact rP_zero_fixed
    · exact rQ_zero_fixed
  exact ⟨fun x v m => ⟨x.put_fixed d v hfix, x.putMasked_fixed d v m hfix, x.setBusy_fixed d hfix, x.writeHidden_fixed d v hfix⟩,
    fun s l v m => s.landMask_fixed d l v m hfix⟩

end Sys2Proof.Machine

/-! Proofs about the entry of a user-class trap (R311): what `Ctx.enterHandler` writes, sets aside and leaves unchanged, and when
`State.takeTrap` enters the handler. -/
namespace Sys2Proof.Machine

/-! ## The context that enters its handler -/

/-- R311 steps 1 and 5: the trap registers and the place the handler starts at. -/
theorem Ctx.enterHandler_registers (x : Ctx) (cause val : Word) :
    let y := x.enterHandler cause val
    y.state = .handler ∧ y.csr.trapCause = cause ∧ y.csr.trapPc = BitVec.ofNat 64 x.pc ∧ y.csr.trapVal = val ∧
    y.pc = (x.csr.trapHandler.extractLsb' 4 28).toNat * 16 :=
  ⟨rfl, rfl, rfl, rfl, rfl⟩

/-- R311 steps 2 to 4: the queue, the repetitions and the nest, less its loop buffer, leave the context for the snapshot; the loop
counters stay and are copied. -/
theorem Ctx.enterHandler_setAside (x : Ctx) (cause val : Word) :
    let y := x.enterHandler cause val
    y.queue = [] ∧ y.repLeft = 0 ∧ y.nest = Nest.reset ∧ y.lc = x.lc ∧
    y.snapshot = some { queue := x.queue, reps := x.repLeft, nest := x.nest.dropBuffer, lc := x.lc } :=
  ⟨rfl, rfl, rfl, rfl, rfl⟩

/-- The handler runs on the register files, handles and FP state of the context it interrupts, and its units and engine operations go
on (R312). -/
theorem Ctx.enterHandler_frame (x : Ctx) (cause val : Word) :
    let y := x.enterHandler cause val
    y.s = x.s ∧ y.a = x.a ∧ y.v = x.v ∧ y.q = x.q ∧ y.p = x.p ∧ y.k = x.k ∧ y.fmt = x.fmt ∧ y.lk = x.lk ∧ y.handles = x.handles ∧
    y.csr.fpstat = x.csr.fpstat ∧ y.csr.fpctl = x.csr.fpctl ∧ y.units = x.units ∧ y.eng = x.eng :=
  ⟨rfl, rfl, rfl, rfl, rfl, rfl, rfl, rfl, rfl, rfl, rfl, rfl, rfl⟩

/-! ## The two outcomes of a user cause -/

section
variable {s : State} {c also : Nat} {p : PendCause} (hp : p.cause < 16)
include hp

/-- A user cause enters the handler of a RUNNING context whose TRAP_HANDLER.EN is 1. -/
theorem State.takeTrap_user (hrun : (s.ctx c).state = .running) (hen : (s.ctx c).csr.trapHandler.getLsbD 0 = true) :
    s.takeTrap c p also = s.setCtx c ((s.ctx c).enterHandler (causeWord p.cause p.sub also) p.val) := by
  unfold State.takeTrap
  rw [if_neg (Nat.not_le.mpr hp), if_pos (by simp [hrun, hen])]

/-- In every other case it is the system cause UNHANDLED_USER: outside RUNNING state (R305) as well as with EN = 0. -/
theorem State.takeTrap_unhandled (h : ¬((s.ctx c).state = .running ∧ (s.ctx c).csr.trapHandler.getLsbD 0 = true)) :
    s.takeTrap c p also = s.freeze c { p with
      cause := 0x18
      sub := p.cause } also := by
  unfold State.takeTrap
  rw [if_neg (Nat.not_le.mpr hp), if_neg (by simpa using h)]

end

/-! ## The obligation -/

/-- Settles O16: `State.takeTrap_user` gives the context after the entry and the `Ctx.enterHandler` lemmas its parts; with EN = 0 the
cause is unhandled. -/
theorem userTrapEntry : Obligations.UserTrapEntry := by
  unfold Obligations.UserTrapEntry
  intro s c also p x y hp hrun
  refine ⟨fun hen => ?_, fun hen => State.takeTrap_unhandled hp fun ⟨_, hen'⟩ => Bool.false_ne_true (hen.symm.trans hen')⟩
  have hy : y = x.enterHandler (causeWord p.cause p.sub also) p.val := by
    simp only [y, x, State.takeTrap_user hp hrun hen, State.ctx_setCtx, if_true]
  rw [hy]
  simpa only [and_assoc] using And.intro (x.enterHandler_registers (causeWord p.cause p.sub also) p.val)
    (And.intro (x.enterHandler_setAside _ _) (x.enterHandler_frame _ _))

end Sys2Proof.Machine

/-! Proofs about GO (R474): what it does outside recovery mode, and in it with an image that passes the check and with one that fails. -/
namespace Sys2Proof.Machine

theorem exec_go_outside_recovery (s : State) (hrec : s.pow.recovery = false) : exec .go s = .next s := by
  change execGo s = .next s
  simp [execGo, hrec]

section
variable {s : State} (hrec : s.pow.recovery = true)
include hrec

/-- The store takes an image that passes the check, and a cold start is asked for. -/
theorem exec_go_accepted
    (hok : Config.signatureOk (Memory.readLE s.hostMem s.pow.img.toNat s.pow.imgLen.toNat) s.pow.imgLen.toNat = true) :
    exec .go s = .next (s.storeImage.modPow fun p => { p with
      result := 2
      coldAsked := true }) := by
  change execGo s = _
  simp [execGo, hrec, hok]

/-- An image that fails the check changes RESULT and nothing else: the store, a field of the front end, stays. -/
theorem exec_go_refused
    (hbad : Config.signatureOk (Memory.readLE s.hostMem s.pow.img.toNat s.pow.imgLen.toNat) s.pow.imgLen.toNat = false) :
    exec .go s = .next (s.modPow fun p => { p with result := 3 }) := by
  change execGo s = _
  simp [execGo, hrec, hbad]

end

/-- Settles O57: outside recovery mode GO is ignored; in it the check of the pushed image, whatever its verdict, decides between
`exec_go_accepted` and `exec_go_refused`. -/
theorem goInRecovery : Obligations.GoInRecovery := by
  unfold Obligations.GoInRecovery
  refine fun s => ⟨exec_go_outside_recovery s, fun hrec => ?_⟩
  cases hok : Config.signatureOk (Memory.readLE s.hostMem s.pow.img.toNat s.pow.imgLen.toNat) s.pow.imgLen.toNat
  case false => simpa using exec_go_refused hrec hok
  case true => simpa using exec_go_accepted hrec hok

end Sys2Proof.Machine

/-! Proofs about the encoding of syllables and headers (R44, R55, R58, R75): packing an operand format and reading it back, the parts of a
word, and the tables of the slots. -/
namespace Sys2Proof
set_option Elab.async false
open BitVec (extractLsb'_append_eq_of_le extractLsb'_append_eq_of_add_le extractLsb'_append_extractLsb'_eq_extractLsb' extractLsb'_eq_self)

/-! ## Fields of an appended word -/

theorem unappend2 {k l : Nat} (a : BitVec k) (b : BitVec l) : (a ++ b).extractLsb' l k = a ∧ (a ++ b).extractLsb' 0 l = b :=
  ⟨BitVec.extractLsb'_append_eq_left, BitVec.extractLsb'_append_eq_right⟩

/-- A field above the last part is a field of the parts before it. -/
theorem extract_above {k l : Nat} (a : BitVec k) (b : BitVec l) (s n : Nat) : (a ++ b).extractLsb' (s + l) n = a.extractLsb' s n := by
  rw [extractLsb'_append_eq_of_le (Nat.le_add_left l s), Nat.add_sub_cancel]

theorem unappend3 {k l m : Nat} (a : BitVec k) (b : BitVec l) (c : BitVec m) :
    (a ++ b ++ c).extractLsb' (l + m) k = a ∧ (a ++ b ++ c).extractLsb' m l = b ∧ (a ++ b ++ c).extractLsb' 0 m = c := by
  obtain ⟨ha, hb⟩ := unappend2 a b
  refine ⟨(extract_above _ _ _ _).trans ha, ?_, (unappend2 _ _).2⟩
  simpa only [Nat.zero_add, hb] using extract_above (a ++ b) c 0 l

theorem unappend4 {k l m n : Nat} (a : BitVec k) (b : BitVec l) (c : BitVec m) (d : BitVec n) :
    (a ++ b ++ c ++ d).extractLsb' (l + m + n) k = a ∧ (a ++ b ++ c ++ d).extractLsb' (m + n) l = b ∧
    (a ++ b ++ c ++ d).extractLsb' n m = c ∧ (a ++ b ++ c ++ d).extractLsb' 0 n = d := by
  obtain ⟨ha, hb, hc⟩ := unappend3 a b c
  refine ⟨(extract_above _ _ _ _).trans ha, (extract_above _ _ _ _).trans hb, ?_, (unappend2 _ _).2⟩
  simpa only [Nat.zero_add, hc] using extract_above (a ++ b ++ c) d 0 m

theorem unappend5 {k l m n p : Nat} (a : BitVec k) (b : BitVec l) (c : BitVec m) (d : BitVec n) (e : BitVec p) :
    (a ++ b ++ c ++ d ++ e).extractLsb' (l + m + n + p) k = a ∧ (a ++ b ++ c ++ d ++ e).extractLsb' (m + n + p) l = b ∧
    (a ++ b ++ c ++ d ++ e).extractLsb' (n + p) m = c ∧ (a ++ b ++ c ++ d ++ e).extractLsb' p n = d ∧
    (a ++ b ++ c ++ d ++ e).extractLsb' 0 p = e := by
  obtain ⟨ha, hb, hc, hd⟩ := unappend4 a b c d
  refine ⟨(extract_above _ _ _ _).trans ha, (extract_above _ _ _ _).trans hb, (extract_above _ _ _ _).trans hc, ?_, (unappend2 _ _).2⟩
  simpa only [Nat.zero_add, hd] using extract_above (a ++ b ++ c ++ d) e 0 n

/-- The two parts of a word, its high `k` bits and its low `l`, make it up. -/
theorem reappend2 (k l : Nat) (f : BitVec (k + l)) : f.extractLsb' l k ++ f.extractLsb' 0 l = f := by
  rw [extractLsb'_append_extractLsb'_eq_extractLsb' (Nat.zero_add l).symm, extractLsb'_eq_self]

theorem reappend3 (k l m : Nat) (f : BitVec (k + l + m)) :
    f.extractLsb' (l + m) k ++ f.extractLsb' m l ++ f.extractLsb' 0 m = f := by
  rw [extractLsb'_append_extractLsb'_eq_extractLsb' (Nat.add_comm l m), reappend2]

theorem reappend4 (k l m n : Nat) (f : BitVec (k + l + m + n)) :
    f.extractLsb' (l + m + n) k ++ f.extractLsb' (m + n) l ++ f.extractLsb' n m ++ f.extractLsb' 0 n = f := by
  rw [extractLsb'_append_extractLsb'_eq_extractLsb' (by omega), reappend3]

theorem reappend5 (k l m n p : Nat) (f : BitVec (k + l + m + n + p)) :
    f.extractLsb' (l + m + n + p) k ++ f.extractLsb' (m + n + p) l ++ f.extractLsb' (n + p) m ++ f.extractLsb' p n ++
      f.extractLsb' 0 p = f := by
  rw [extractLsb'_append_extractLsb'_eq_extractLsb' (by omega), reappend4]

/-! ## Each operand format is its fields, and its fields are the format (R58) -/

@[simp] theorem NO.unpack_pack (o : NO) : NO.unpack o.pack = o := by
  cases o; exact congrArg (NO.mk _ · _) BitVec.extractLsb'_eq_self
@[simp] theorem NO.pack_unpack (r : RawSyl) : (NO.unpack r).pack = { r with second := false } :=
  congrArg (RawSyl.mk r.g · r.ext false) BitVec.extractLsb'_eq_self
@[simp] theorem BO.unpack_pack (o : BO) : BO.unpack o.pack = o := by
  cases o; exact congrArg (BO.mk _ · _) BitVec.extractLsb'_eq_self
@[simp] theorem BO.pack_unpack (r : RawSyl) : (BO.unpack r).pack = { r with second := false } :=
  congrArg (RawSyl.mk r.g · r.ext false) BitVec.extractLsb'_eq_self
@[simp] theorem BP.unpack_pack (o : BP) : BP.unpack o.pack = o := by
  cases o; simp only [BP.unpack, BP.pack, BP.mk.injEq, true_and, and_true]; exact unappend3 _ _ _
@[simp] theorem BP.pack_unpack (r : RawSyl) : (BP.unpack r).pack = { r with second := false } :=
  congrArg (RawSyl.mk r.g · r.ext false) (reappend3 3 1 16 r.f)
@[simp] theorem RG.unpack_pack (o : RG) : RG.unpack o.pack = o := by
  cases o; simp only [RG.unpack, RG.pack, RG.mk.injEq, true_and, and_true]; exact unappend2 _ _
@[simp] theorem RG.pack_unpack (r : RawSyl) : (RG.unpack r).pack = { r with second := false } :=
  congrArg (RawSyl.mk r.g · r.ext false) (reappend2 5 15 r.f)
@[simp] theorem LP.unpack_pack (o : LP) : LP.unpack o.pack = o := by
  cases o; simp only [LP.unpack, LP.pack, LP.mk.injEq, true_and, and_true]; exact unappend3 _ _ _
@[simp] theorem LP.pack_unpack (r : RawSyl) : (LP.unpack r).pack = { r with second := false } :=
  congrArg (RawSyl.mk r.g · r.ext false) (reappend3 3 5 12 r.f)
@[simp] theorem CS.unpack_pack (o : CS) : CS.unpack o.pack = o := by
  cases o; simp only [CS.unpack, CS.pack, CS.mk.injEq, true_and, and_true]; exact unappend3 _ _ _
@[simp] theorem CS.pack_unpack (r : RawSyl) : (CS.unpack r).pack = { r with second := false } :=
  congrArg (RawSyl.mk r.g · r.ext false) (reappend3 12 5 3 r.f)
@[simp] theorem FW.unpack_pack (o : FW) : FW.unpack o.pack = o := by
  cases o; simp only [FW.unpack, FW.pack, FW.mk.injEq, true_and, and_true]; exact unappend3 _ _ _
@[simp] theorem FW.pack_unpack (r : RawSyl) : (FW.unpack r).pack = { r with second := false } :=
  congrArg (RawSyl.mk r.g · r.ext false) (reappend3 3 5 12 r.f)
@[simp] theorem PL.unpack_pack (o : PL) : PL.unpack o.pack = o := by
  cases o; simp only [PL.unpack, PL.pack, PL.mk.injEq, true_and, and_true]; exact unappend4 _ _ _ _
@[simp] theorem PL.pack_unpack (r : RawSyl) : (PL.unpack r).pack = { r with second := false } :=
  congrArg (RawSyl.mk r.g · r.ext false) (reappend4 3 3 3 11 r.f)
@[simp] theorem TC.unpack_pack (o : TC) : TC.unpack o.pack = o := by
  cases o; exact congrArg (TC.mk _ · _) BitVec.extractLsb'_eq_self
@[simp] theorem TC.pack_unpack (r : RawSyl) : (TC.unpack r).pack = { r with second := false } :=
  congrArg (RawSyl.mk r.g · r.ext false) BitVec.extractLsb'_eq_self
@[simp] theorem SR.unpack_pack (o : SR) : SR.unpack o.pack = o := by
  cases o; simp only [SR.unpack, SR.pack, SR.mk.injEq, true_and, and_true]; exact unappend4 _ _ _ _
@[simp] theorem SR.pack_unpack (r : RawSyl) : (SR.unpack r).pack = { r with second := false } :=
  congrArg (RawSyl.mk r.g · r.ext false) (reappend4 5 5 5 5 r.f)
@[simp] theorem SI.unpack_pack (o : SI) : SI.unpack o.pack = o := by
  cases o; simp only [SI.unpack, SI.pack, SI.mk.injEq, true_and, and_true]; exact unappend3 _ _ _
@[simp] theorem SI.pack_unpack (r : RawSyl) : (SI.unpack r).pack = { r with second := false } :=
  congrArg (RawSyl.mk r.g · r.ext false) (reappend3 5 5 10 r.f)
@[simp] theorem SC.unpack_pack (o : SC) : SC.unpack o.pack = o := by
  cases o; simp only [SC.unpack, SC.pack, SC.mk.injEq, true_and, and_true]; exact unappend5 _ _ _ _ _
@[simp] theorem SC.pack_unpack (r : RawSyl) : (SC.unpack r).pack = { r with second := false } :=
  congrArg (RawSyl.mk r.g · r.ext false) (reappend5 3 2 5 5 5 r.f)
@[simp] theorem MV.unpack_pack (o : MV) : MV.unpack o.pack = o := by
  cases o; simp only [MV.unpack, MV.pack, MV.mk.injEq, true_and, and_true]; exact unappend2 _ _
@[simp] theorem MV.pack_unpack (r : RawSyl) : (MV.unpack r).pack = { r with second := false } :=
  congrArg (RawSyl.mk r.g · r.ext false) (reappend2 5 15 r.f)
@[simp] theorem XV.unpack_pack (o : XV) : XV.unpack o.pack = o := by
  cases o; simp only [XV.unpack, XV.pack, XV.mk.injEq, true_and, and_true]; exact unappend4 _ _ _ _
@[simp] theorem XV.pack_unpack (r : RawSyl) : (XV.unpack r).pack = { r with second := false } :=
  congrArg (RawSyl.mk r.g · r.ext false) (reappend4 6 6 3 5 r.f)
@[simp] theorem LA.unpack_pack (o : LA) : LA.unpack o.pack = o := by
  cases o; simp only [LA.unpack, LA.pack, LA.mk.injEq, true_and, and_true]; exact unappend4 _ _ _ _
@[simp] theorem LA.pack_unpack (r : RawSyl) : (LA.unpack r).pack = r :=
  congrArg (RawSyl.mk r.g · r.ext r.second) (reappend4 4 4 4 8 r.f)
@[simp] theorem LM.unpack_pack (o : LM) : LM.unpack o.pack = o := by
  cases o; simp only [LM.unpack, LM.pack, LM.mk.injEq, true_and, and_true]; exact unappend3 _ _ _
@[simp] theorem LM.pack_unpack (r : RawSyl) : (LM.unpack r).pack = r :=
  congrArg (RawSyl.mk r.g · r.ext r.second) (reappend3 6 4 10 r.f)
@[simp] theorem LT.unpack_pack (o : LT) : LT.unpack o.pack = o := by
  cases o; simp only [LT.unpack, LT.pack, LT.mk.injEq, true_and, and_true]; exact unappend4 _ _ _ _
@[simp] theorem LT.pack_unpack (r : RawSyl) : (LT.unpack r).pack = r :=
  congrArg (RawSyl.mk r.g · r.ext r.second) (reappend4 6 6 4 4 r.f)
@[simp] theorem LH.unpack_pack (o : LH) : LH.unpack o.pack = o := by
  cases o; simp only [LH.unpack, LH.pack, LH.mk.injEq, true_and, and_true]; exact unappend4 _ _ _ _
@[simp] theorem LH.pack_unpack (r : RawSyl) : (LH.unpack r).pack = r :=
  congrArg (RawSyl.mk r.g · r.ext r.second) (reappend4 6 6 4 4 r.f)
@[simp] theorem SM.unpack_pack (o : SM) : SM.unpack o.pack = o := by
  cases o; simp only [SM.unpack, SM.pack, SM.mk.injEq, true_and, and_true]; exact unappend4 _ _ _ _
@[simp] theorem SM.pack_unpack (r : RawSyl) : (SM.unpack r).pack = { r with second := false } :=
  congrArg (RawSyl.mk r.g · r.ext false) (reappend4 6 5 3 6 r.f)
@[simp] theorem AT.unpack_pack (o : AT) : AT.unpack o.pack = o := by
  cases o; simp only [AT.unpack, AT.pack, AT.mk.injEq, true_and, and_true]; exact unappend5 _ _ _ _ _
@[simp] theorem AT.pack_unpack (r : RawSyl) : (AT.unpack r).pack = { r with second := false } :=
  congrArg (RawSyl.mk r.g · r.ext false) (reappend5 5 5 5 2 3 r.f)
@[simp] theorem FB.unpack_pack (o : FB) : FB.unpack o.pack = o := by
  cases o; simp only [FB.unpack, FB.pack, FB.mk.injEq, true_and, and_true]; exact unappend5 _ _ _ _ _
@[simp] theorem FB.pack_unpack (r : RawSyl) : (FB.unpack r).pack = { r with second := false } :=
  congrArg (RawSyl.mk r.g · r.ext false) (reappend5 5 5 5 3 2 r.f)
@[simp] theorem VA.unpack_pack (o : VA) : VA.unpack o.pack = o := by
  cases o; simp only [VA.unpack, VA.pack, VA.mk.injEq, true_and, and_true]; exact unappend4 _ _ _ _
@[simp] theorem VA.pack_unpack (r : RawSyl) : (VA.unpack r).pack = r :=
  congrArg (RawSyl.mk r.g · r.ext r.second) (reappend4 6 6 3 5 r.f)
@[simp] theorem MX.unpack_pack (o : MX) : MX.unpack o.pack = o := by
  cases o; simp only [MX.unpack, MX.pack, MX.mk.injEq, true_and, and_true]; exact unappend5 _ _ _ _ _
@[simp] theorem MX.pack_unpack (r : RawSyl) : (MX.unpack r).pack = { r with second := false } :=
  congrArg (RawSyl.mk r.g · r.ext false) (reappend5 4 6 6 2 2 r.f)
@[simp] theorem MC.unpack_pack (o : MC) : MC.unpack o.pack = o := by
  cases o; simp only [MC.unpack, MC.pack, MC.mk.injEq, true_and, and_true]; exact unappend2 _ _
@[simp] theorem MC.pack_unpack (r : RawSyl) : (MC.unpack r).pack = { r with second := false } :=
  congrArg (RawSyl.mk r.g · r.ext false) (reappend2 4 16 r.f)
@[simp] theorem DR.unpack_pack (o : DR) : DR.unpack o.pack = o := by
  cases o; simp only [DR.unpack, DR.pack, DR.mk.injEq, true_and, and_true]; exact unappend5 _ _ _ _ _
@[simp] theorem DR.pack_unpack (r : RawSyl) : (DR.unpack r).pack = { r with second := false } :=
  congrArg (RawSyl.mk r.g · r.ext false) (reappend5 4 6 3 3 4 r.f)
@[simp] theorem OP.unpack_pack (o : OP) : OP.unpack o.pack = o := by
  cases o; simp only [OP.unpack, OP.pack, OP.mk.injEq, true_and, and_true]; exact unappend4 _ _ _ _
@[simp] theorem OP.pack_unpack (r : RawSyl) : (OP.unpack r).pack = { r with second := false } :=
  congrArg (RawSyl.mk r.g · r.ext false) (reappend4 4 6 6 4 r.f)
@[simp] theorem EJ.unpack_pack (o : EJ) : EJ.unpack o.pack = o := by
  cases o; simp only [EJ.unpack, EJ.pack, EJ.mk.injEq, true_and, and_true]; exact unappend4 _ _ _ _
@[simp] theorem EJ.pack_unpack (r : RawSyl) : (EJ.unpack r).pack = { r with second := false } :=
  congrArg (RawSyl.mk r.g · r.ext false) (reappend4 6 6 4 4 r.f)
@[simp] theorem WT.unpack_pack (o : WT) : WT.unpack o.pack = o := by
  cases o; simp only [WT.unpack, WT.pack, WT.mk.injEq, true_and, and_true]; exact unappend3 _ _ _
@[simp] theorem WT.pack_unpack (r : RawSyl) : (WT.unpack r).pack = { r with second := false } :=
  congrArg (RawSyl.mk r.g · r.ext false) (reappend3 6 5 9 r.f)
@[simp] theorem SP.unpack_pack (o : SP) : SP.unpack o.pack = o := by
  cases o; simp only [SP.unpack, SP.pack, SP.mk.injEq, true_and, and_true]; exact unappend2 _ _
@[simp] theorem SP.pack_unpack (r : RawSyl) : (SP.unpack r).pack = { r with second := false } :=
  congrArg (RawSyl.mk r.g · r.ext false) (reappend2 3 17 r.f)

/-! ## The parts of a syllable word (R55) -/


theorem encWord_parts (opc : BitVec 8) (r : RawSyl) :
    (encWord opc r).extractLsb' 24 8 = opc ∧ (encWord opc r).extractLsb' 23 1 = BitVec.ofBool r.ext.isSome ∧
    (encWord opc r).extractLsb' 20 3 = r.g ∧ (encWord opc r).extractLsb' 0 20 = r.f := by
  obtain ⟨h1, h2⟩ := unappend2 opc (BitVec.ofBool r.ext.isSome ++ (r.g ++ r.f))
  obtain ⟨h3, h4⟩ := unappend2 (BitVec.ofBool r.ext.isSome) (r.g ++ r.f)
  obtain ⟨h5, h6⟩ := unappend2 r.g r.f
  have low : ∀ s n, s + n ≤ 24 → (encWord opc r).extractLsb' s n = (BitVec.ofBool r.ext.isSome ++ (r.g ++ r.f)).extractLsb' s n :=
    fun s n h => extractLsb'_append_eq_of_add_le h
  have lower : ∀ s n, s + n ≤ 23 → (encWord opc r).extractLsb' s n = (r.g ++ r.f).extractLsb' s n :=
    fun s n h => (low s n (by omega)).trans (extractLsb'_append_eq_of_add_le h)
  exact ⟨h1, (low 23 1 (by omega)).trans h3, (lower 20 3 (by omega)).trans h5, (lower 0 20 (by omega)).trans h6⟩

/-- The slot's number says whether a syllable of a shared table stands in the second of its slots. -/
def secondSlot (slot : Nat) : Bool := slot == 3 || slot == 6

theorem rawOf_encWord {slot : Nat} (opc : BitVec 8) (r : RawSyl) (h : secondSlot slot = r.second) :
    rawOf slot (encWord opc r) r.ext = r := by
  obtain ⟨-, -, hg, hf⟩ := encWord_parts opc r
  unfold rawOf
  rw [hg, hf]
  exact congrArg (RawSyl.mk r.g r.f r.ext) h

/-- A word is its opcode, the mark of its extension word, and its raw fields. -/
theorem encWord_rawOf (slot : Nat) (w : Word32) (ext : Option Word32) (h : hasExt w = ext.isSome) :
    encWord (w.extractLsb' 24 8) (rawOf slot w ext) = w := by
  have hx : BitVec.ofBool ext.isSome = w.extractLsb' 23 1 := by
    rw [← h]; ext i hi; obtain rfl : i = 0 := by omega
    simp [hasExt]
  have hgf : w.extractLsb' 20 3 ++ w.extractLsb' 0 20 = w.extractLsb' 0 23 := extractLsb'_append_extractLsb'_eq_extractLsb' rfl
  have hxgf : w.extractLsb' 23 1 ++ w.extractLsb' 0 23 = w.extractLsb' 0 24 := extractLsb'_append_extractLsb'_eq_extractLsb' rfl
  calc encWord (w.extractLsb' 24 8) (rawOf slot w ext)
      = w.extractLsb' 24 8 ++ (BitVec.ofBool ext.isSome ++ (w.extractLsb' 20 3 ++ w.extractLsb' 0 20)) := rfl
    _ = w.extractLsb' 24 8 ++ w.extractLsb' 0 24 := by rw [hx, hgf, hxgf]
    _ = w := reappend2 8 24 w

/-- What the table of a slot is asked for an encoded syllable. -/
theorem tableOf_enc {slot : Nat} {opc : BitVec 8} {r : RawSyl} {e : Enc} (h : enc slot opc r = some e)
    (hs : secondSlot (slot + r.second.toNat) = r.second) :
    tableOf e.slot (opcOf e.word) (rawOf e.slot e.word e.ext) = tableOf (slot + r.second.toNat) opc.toNat r := by
  cases h
  dsimp only
  rw [rawOf_encWord opc r hs]
  exact congrArg (fun o : BitVec 8 => tableOf _ o.toNat r) (encWord_parts opc r).1

/-- A slot with a table of its own. -/
theorem tableOf_encOwn {slot : Nat} {opc : BitVec 8} {r : RawSyl} {e : Enc} (h : enc slot opc r = some e) (hr : r.second = false)
    (hs : secondSlot slot = false) : tableOf e.slot (opcOf e.word) (rawOf e.slot e.word e.ext) = tableOf slot opc.toNat r := by
  rw [tableOf_enc h (by rw [hr]; exact hs), hr]; rfl

theorem tableOf_encL {opc : BitVec 8} {r : RawSyl} {e : Enc} (h : enc 2 opc r = some e) :
    tableOf e.slot (opcOf e.word) (rawOf e.slot e.word e.ext) = tableL opc.toNat r := by
  obtain ⟨g, f, ext, _ | _⟩ := r <;> exact tableOf_enc h rfl

theorem tableOf_encV {opc : BitVec 8} {r : RawSyl} {e : Enc} (h : enc 5 opc r = some e) :
    tableOf e.slot (opcOf e.word) (rawOf e.slot e.word e.ext) = tableV opc.toNat r := by
  obtain ⟨g, f, ext, _ | _⟩ := r <;> exact tableOf_enc h rfl

/-- A check that answers a code where its condition holds, and that answered none. -/
theorem eq_none_of_ite_some {α : Type} {c : Prop} [Decidable c] {a : α} {r : Option α} (h : (if c then some a else r) = none) : ¬c ∧ r = none := by
  split at h
  · cases h
  · next hc => exact ⟨hc, h⟩

theorem legalWith_none {rule : ExtRule} {ext : Option Word32} {six seven : Bool} (h : legalWith rule ext six seven = none) :
    six = false ∧ seven = false := by
  unfold legalWith at h
  obtain ⟨-, h⟩ := eq_none_of_ite_some h
  obtain ⟨h6, h⟩ := eq_none_of_ite_some h
  obtain ⟨h7, -⟩ := eq_none_of_ite_some h
  exact ⟨Bool.eq_false_iff.2 h6, Bool.eq_false_iff.2 h7⟩

theorem lhLegal_none {o : LH} {six seven : Bool} (h : lhLegal o six seven = none) : seven = false := (legalWith_none h).2

theorem fbLegal_none {o : FB} {six seven : Bool} (h : fbLegal o six seven = none) : seven = false := (legalWith_none h).2

/-- The instruction a table gives for a packed format, from the entry of its opcode. -/
theorem tableOf_found {α : Type} {mk : α → Instr} {x o : α} {slot : Nat} {opc : BitVec 8} {r : RawSyl} {e : Enc}
    (h : enc slot opc r = some e) (hr : r.second = false) (hs : secondSlot slot = false) (ht : tableOf slot opc.toNat r = some (mk x))
    (hx : x = o) : tableOf e.slot (opcOf e.word) (rawOf e.slot e.word e.ext) = some (mk o) := by
  rw [tableOf_encOwn h hr hs, ht, hx]

theorem tableOf_foundL {α : Type} {mk : α → Instr} {x o : α} {opc : BitVec 8} {r : RawSyl} {e : Enc}
    (h : enc 2 opc r = some e) (ht : tableL opc.toNat r = some (mk x)) (hx : x = o) :
    tableOf e.slot (opcOf e.word) (rawOf e.slot e.word e.ext) = some (mk o) := by
  rw [tableOf_encL h, ht, hx]

theorem tableOf_foundV {α : Type} {mk : α → Instr} {x o : α} {opc : BitVec 8} {r : RawSyl} {e : Enc}
    (h : enc 5 opc r = some e) (ht : tableV opc.toNat r = some (mk x)) (hx : x = o) :
    tableOf e.slot (opcOf e.word) (rawOf e.slot e.word e.ext) = some (mk o) := by
  rw [tableOf_encV h, ht, hx]

/-- Each syllable stands in the table of its slot at its opcode; the forms that share an opcode are told apart by their field (R190, R195). -/
theorem tableOf_of_encode (i : Instr) (e : Enc) (hwf : i.illegal = none) (h : encode i = some e) :
    tableOf e.slot (opcOf e.word) (rawOf e.slot e.word e.ext) = some i := by
  cases i with
  | nop o | br o | brp o | brl o | ret o | jmp o | jmpL o | loop o | loopn o | fmtw o | csrr o | csrw o | csrwI o | pand o | por o | pxor o
  | pnot o | trapC o | sysc o | rft o | retire o | yield o =>
    exact tableOf_found h rfl rfl rfl (by simp)
  | add o | sub o | mul o | mulh o | mulhu o | div_ o | divu o | rem o | remu o | and_ o | or_ o | xor_ o | andn o | shl o | shr o | sra o | rol o
  | clz o | ctz o | popc o | min_ o | max_ o | minu o | maxu o | sel o | cmp o | addW o | subW o | mulW o | divW o | divuW o | remW o | remuW o
  | shlW o | shrW o | sraW o | addi o | andI o | orI o | xorI o | shlI o | shrI o | sraI o | rolI o | cmpI o | movi o | movhi o | xmovSl o
  | xmovLs o | xmovSv o | xmovVs o | fadd o | fmul o | fcmp o | fma o =>
    exact tableOf_found h rfl rfl rfl (by simp)
  | aadd o | aaddi o | xmova o | lds8 o | lds16 o | lds32 o | lds64 o | ldv o | ldvt o | ldg8 o | ldg16 o | ldg32 o | ldg64 o | ldgV o | ldk32 o
  | ldk64 o | ldacq32 o | ldacq64 o | ldsc o | halloc o | hfree o | hinfo o | kchk o | pf o =>
    exact tableOf_foundL h rfl (by simp)
  | sts8 o | sts16 o | sts32 o | sts64 o | stv o | stvt o | stg8 o | stg16 o | stg32 o | stg64 o | stk32 o | stk64 o | strel32 o | strel64 o
  | amoAdd32 o | amoAdd64 o | amoAnd32 o | amoAnd64 o | amoOr32 o | amoOr64 o | amoXor32 o | amoXor64 o | amoMin32 o | amoMin64 o | amoMax32 o
  | amoMax64 o | amoMinu32 o | amoMinu64 o | amoMaxu32 o | amoMaxu64 o | amoSwap32 o | amoSwap64 o | cas32 o | cas64 o | cas128 o | redAdd32 o
  | redAdd64 o | redAnd32 o | redAnd64 o | redOr32 o | redOr64 o | redXor32 o | redXor64 o | redMin32 o | redMin64 o | redMax32 o | redMax64 o
  | redMinu32 o | redMinu64 o | redMaxu32 o | redMaxu64 o | redFadd32 o | bind o | unbind o =>
    exact tableOf_found h rfl rfl rfl (by simp)
  | vadd o | vsub o | vmul o | vmulh o | vand o | vor o | vxor o | vandn o | vshl o | vshr o | vsra o | vmin o | vmax o | vminu o | vmaxu o
  | vabs o | vneg o | vcmp o | vaddSat o | vsubSat o | vfadd o | vfsub o | vfmul o | vfma o | vfms o | vfmin o | vfmax o | vfabs o | vfneg o
  | vfcmp o | vrcp o | vrsq o | vsqrt o | vexp2 o | vlog2 o | vfaddH o | vfsubH o | vfmulH o | vfmaH o | vfmsH o | vfminH o | vfmaxH o | vfabsH o
  | vfnegH o | vfcmpH o | vcvt o | vcvtRs o | vqnt o | vdqnt o | vrsum o | vrmax o | vrmin o | vscan o | vrsumF o | vrmaxF o | vrminF o | vscanF o
  | vperm o | vbcast o | vslide o | vsel o | vmov o | vsplat o | vlane o | vstat o =>
    exact tableOf_foundV h rfl (by simp)
  | mopaNf o | mopaInt4 o | mopaInt8 o | mopaUint8 o | mopaF16 o | mopaBf16 o | mopaF32 o | mopsNf o | mopsInt4 o | mopsInt8 o | mopsUint8 o
  | mopsF16 o | mopsBf16 o | mopsF32 o | mzero o | mcfg o | mfence o =>
    exact tableOf_found h rfl rfl rfl (by simp)
  | drain o | drainM o | drainv o | fill o | fillM o | fillv o | dzero o =>
    exact tableOf_found h rfl rfl rfl (by simp)
  | oadamF32 o | oadamBf16 o | oadamwF32 o | oadamwBf16 o | olionF32 o | olionBf16 o | osgdmF32 o | osgdmBf16 o | oclip o | oscale o =>
    exact tableOf_found h rfl rfl rfl (by simp)
  | cpy o | cpyq o | gath o | scat o | gathK o | scatK o | bget o | bwr o | bred o | gred o | gmld o | grpset o | msend o | enq o | arrive o
  | tdec o | tspawn o | sclose o | sread o | sreadO o | salloc o | sfree o | lacq o | lrel o | realign o | mstone o | wmarm o =>
    exact tableOf_found h rfl rfl rfl (by simp)
  | wait o | waitc o | waitb o | waitt o =>
    exact tableOf_found h rfl rfl rfl (by simp)
  | scope o =>
    exact tableOf_found h rfl rfl rfl (by simp)
  | kderiveLd o =>
    have hsub := lhLegal_none hwf
    exact (tableOf_encL h).trans (by simp at hsub; simp [tableL, hsub])
  | kderiveRs o | kderiveSt o =>
    have hsub := lhLegal_none hwf
    exact (tableOf_encL h).trans (by simp at hsub; simp [tableL, hsub])
  | fence o | fenceRel o | fenceAcq o =>
    have hkind := fbLegal_none hwf
    exact (tableOf_encOwn h rfl rfl).trans (by simp at hkind; simp [tableOf, tableST, hkind])
  | _ => exact nomatch h

/-- Settles O2: the table gives the instruction back, and a well-formed one is not refused. -/
theorem decodeOfEncode : Obligations.DecodeOfEncode := by
  intro i e hwf he
  have hleg : i.illegal = none := Option.isNone_iff_eq_none.mp hwf
  unfold decodeSyl
  rw [tableOf_of_encode i e hleg he]
  simp only [hleg]

/-! ## What a table gives encodes to the opcode and fields it was given -/

/-- The three forms of kderive share a word (R195). -/
theorem encode_kderive (o : LH) :
    encode (if o.sub = 1#4 then .kderiveRs o else if o.sub = 2#4 then .kderiveSt o else .kderiveLd o) = enc 2 0x23 o.pack := by
  split
  · rfl
  · split <;> rfl

/-- The three forms of fence share a word (R190). -/
theorem encode_fence (o : FB) :
    encode (if o.kind = 1#3 then .fenceRel o else if o.kind = 2#3 then .fenceAcq o else .fence o) = enc 4 0x48 o.pack := by
  split
  · rfl
  · split <;> rfl

theorem encode_of_tableC {opc : Nat} {r : RawSyl} {i : Instr} (h : tableC opc r = some i) :
    encode i = enc 0 (BitVec.ofNat 8 opc) { r with second := false } := by
  unfold tableC at h
  split at h <;> cases h <;> simp [encode]

theorem encode_of_tableS {opc : Nat} {r : RawSyl} {i : Instr} (h : tableS opc r = some i) :
    encode i = enc 1 (BitVec.ofNat 8 opc) { r with second := false } := by
  unfold tableS at h
  split at h <;> cases h <;> simp [encode]

theorem encode_of_tableL {opc : Nat} {r : RawSyl} {i : Instr} (h : tableL opc r = some i) :
    encode i = enc 2 (BitVec.ofNat 8 opc) r := by
  unfold tableL at h
  split at h <;> cases h
  case h_23 => simp [encode_kderive]
  all_goals simp [encode]

theorem encode_of_tableST {opc : Nat} {r : RawSyl} {i : Instr} (h : tableST opc r = some i) :
    encode i = enc 4 (BitVec.ofNat 8 opc) { r with second := false } := by
  unfold tableST at h
  split at h <;> cases h
  case h_53 => simp [encode_fence]
  all_goals simp [encode]

theorem encode_of_tableV {opc : Nat} {r : RawSyl} {i : Instr} (h : tableV opc r = some i) :
    encode i = enc 5 (BitVec.ofNat 8 opc) r := by
  unfold tableV at h
  split at h <;> cases h <;> simp [encode]

theorem encode_of_tableM {opc : Nat} {r : RawSyl} {i : Instr} (h : tableM opc r = some i) :
    encode i = enc 7 (BitVec.ofNat 8 opc) { r with second := false } := by
  unfold tableM at h
  split at h <;> cases h <;> simp [encode]

theorem encode_of_tableD {opc : Nat} {r : RawSyl} {i : Instr} (h : tableD opc r = some i) :
    encode i = enc 8 (BitVec.ofNat 8 opc) { r with second := false } := by
  unfold tableD at h
  split at h <;> cases h <;> simp [encode]

theorem encode_of_tableO {opc : Nat} {r : RawSyl} {i : Instr} (h : tableO opc r = some i) :
    encode i = enc 9 (BitVec.ofNat 8 opc) { r with second := false } := by
  unfold tableO at h
  split at h <;> cases h <;> simp [encode]

theorem encode_of_tableE {opc : Nat} {r : RawSyl} {i : Instr} (h : tableE opc r = some i) :
    encode i = enc 10 (BitVec.ofNat 8 opc) { r with second := false } := by
  unfold tableE at h
  split at h <;> cases h <;> simp [encode]

theorem encode_of_tableW {opc : Nat} {r : RawSyl} {i : Instr} (h : tableW opc r = some i) :
    encode i = enc 11 (BitVec.ofNat 8 opc) { r with second := false } := by
  unfold tableW at h
  split at h <;> cases h <;> simp [encode]

theorem encode_of_tableX {opc : Nat} {r : RawSyl} {i : Instr} (h : tableX opc r = some i) :
    encode i = enc 12 (BitVec.ofNat 8 opc) { r with second := false } := by
  unfold tableX at h
  split at h <;> cases h; simp [encode]


/-- The syllable of a table's entry at the opcode and raw fields of a slot. -/
def encAt (slot : Nat) (opc : BitVec 8) (r : RawSyl) : Enc := { slot := slot, word := encWord opc r, ext := r.ext }

/-- In the slots with a table of their own the raw fields name no second slot. -/
theorem enc_own {slot : Nat} {opc : BitVec 8} {r : RawSyl} (hr : r.second = false) :
    enc slot opc { r with second := false } = some (encAt slot opc r) := by
  obtain ⟨g, f, ext, second⟩ := r; subst hr; rfl

theorem enc_first {slot : Nat} {opc : BitVec 8} {r : RawSyl} (hr : r.second = false) : enc slot opc r = some (encAt slot opc r) := by
  obtain ⟨g, f, ext, second⟩ := r; subst hr; rfl

theorem enc_second {slot : Nat} {opc : BitVec 8} {r : RawSyl} (hr : r.second = true) : enc slot opc r = some (encAt (slot + 1) opc r) := by
  obtain ⟨g, f, ext, second⟩ := r; subst hr; rfl

/-- What stands in the table of a slot encodes to that slot, opcode and raw fields. -/
theorem encode_of_tableOf {slot : Nat} {opc : BitVec 8} {r : RawSyl} {i : Instr} (hr : r.second = secondSlot slot)
    (h : tableOf slot opc.toNat r = some i) : encode i = some (encAt slot opc r) := by
  have hopc : BitVec.ofNat 8 opc.toNat = opc := by simp
  unfold tableOf at h
  split at h
  · rw [encode_of_tableC h, hopc, enc_own hr]
  · rw [encode_of_tableS h, hopc, enc_own hr]
  · rw [encode_of_tableL h, hopc, enc_first hr]
  · rw [encode_of_tableL h, hopc, enc_second hr]
  · rw [encode_of_tableST h, hopc, enc_own hr]
  · rw [encode_of_tableV h, hopc, enc_first hr]
  · rw [encode_of_tableV h, hopc, enc_second hr]
  · rw [encode_of_tableM h, hopc, enc_own hr]
  · rw [encode_of_tableD h, hopc, enc_own hr]
  · rw [encode_of_tableO h, hopc, enc_own hr]
  · rw [encode_of_tableE h, hopc, enc_own hr]
  · rw [encode_of_tableW h, hopc, enc_own hr]
  · rw [encode_of_tableX h, hopc, enc_own hr]
  · cases h

/-- What the decoder gives stands in its table and is well-formed. -/
theorem decodeSyl_ok {slot : Nat} {w : Word32} {ext : Option Word32} {i : Instr} (h : decodeSyl slot w ext = .ok i) :
    tableOf slot (opcOf w) (rawOf slot w ext) = some i ∧ i.illegal = none := by
  unfold decodeSyl at h
  split at h
  · cases h
  · split at h
    · cases h
    · next ht _ hleg => cases h; exact ⟨ht, hleg⟩

/-! ## Bundle headers (R44) -/

theorem toNat_append_eq {k l : Nat} (a : BitVec k) (b : BitVec l) : (a ++ b).toNat = a.toNat * 2 ^ l + b.toNat := by
  rw [BitVec.toNat_append, ← Nat.shiftLeft_add_eq_or_of_lt b.isLt, Nat.shiftLeft_eq]

theorem getLsbD_eq_decide {k : Nat} (w : BitVec k) (i : Nat) : w.getLsbD i = decide (w.toNat / 2 ^ i % 2 = 1) := by
  rw [BitVec.getLsbD, Nat.testBit_eq_decide_div_mod_eq]

theorem extract_toNat {k : Nat} (w : BitVec k) (s n : Nat) : (w.extractLsb' s n).toNat = w.toNat / 2 ^ s % 2 ^ n := by
  rw [BitVec.extractLsb'_toNat, Nat.shiftRight_eq_div_pow]

/-- The word of a header as a number: its fields at their places. -/
theorem encodeHead_toNat (h : Header) : (encodeHead h).toNat = h.lend.toNat * 2 ^ 27 + h.segb.toNat * 2 ^ 25 + h.rep.toNat * 2 ^ 21 +
    h.sticky.toNat * 2 ^ 16 + h.xp.toNat * 2 ^ 12 + h.pres.toNat := by
  unfold encodeHead
  iterate 8 rw [toNat_append_eq]
  rw [BitVec.toNat_ofBool, BitVec.toNat_ofBool, BitVec.toNat_ofBool]
  simp
  omega
/-- A header reads back from its word. -/
theorem decodeHead_encodeHead (h : Header) : decodeHead (encodeHead h) = .header h := by
  have hw := encodeHead_toNat h
  obtain ⟨lend, segb, rep, sticky, xp, pres⟩ := h
  generalize encodeHead _ = w at hw ⊢
  dsimp only at hw
  have hrep := rep.isLt; have hst := sticky.isLt; have hpr := pres.isLt
  have hl := lend.toNat_le; have hs := segb.toNat_le; have hx := xp.toNat_le
  have h28 : w.extractLsb' 28 4 = 0 := BitVec.eq_of_toNat_eq (by rw [extract_toNat]; simp; omega)
  have h13 : w.extractLsb' 13 3 = 0 := BitVec.eq_of_toNat_eq (by rw [extract_toNat]; simp; omega)
  have h21 : w.extractLsb' 21 4 = rep := BitVec.eq_of_toNat_eq (by rw [extract_toNat]; omega)
  have h16 : w.extractLsb' 16 5 = sticky := BitVec.eq_of_toNat_eq (by rw [extract_toNat]; omega)
  have h0 : w.extractLsb' 0 12 = pres := BitVec.eq_of_toNat_eq (by rw [extract_toNat]; omega)
  have bit : ∀ i (b : Bool), w.toNat / 2 ^ i % 2 = b.toNat → w.getLsbD i = b := fun i b hb => by
    rw [getLsbD_eq_decide, hb]; cases b <;> rfl
  have h26 : w.getLsbD 26 = false := bit 26 false (by simp; omega)
  have h27 := bit 27 lend (by omega)
  have h25 := bit 25 segb (by omega)
  have h12 := bit 12 xp (by omega)
  unfold decodeHead
  simp only [h28, h13, h21, h16, h0, h26, h27, h25, h12]
  rfl
/-- A word that reads as a header is that header's word. -/
theorem encodeHead_of_decodeHead (w : Word32) (h : Header) (hw : decodeHead w = .header h) : encodeHead h = w := by
  unfold decodeHead at hw
  dsimp only at hw
  split at hw
  · split at hw <;> cases hw
  split at hw
  · cases hw
  next h3 =>
  split at hw
  · cases hw
  next h4 =>
  cases hw
  simp only [Bool.or_eq_true, not_or, Bool.not_eq_true, bne_eq_false_iff_eq] at h4
  obtain ⟨h26, h13⟩ := h4
  have h28 : (w.extractLsb' 28 4).toNat = 0 := by rw [Classical.not_not.mp h3]; rfl
  replace h13 : (w.extractLsb' 13 3).toNat = 0 := by rw [h13]; rfl
  rw [extract_toNat] at h28 h13
  rw [getLsbD_eq_decide, decide_eq_false_iff_not] at h26
  have bit : ∀ i, (w.getLsbD i).toNat = w.toNat / 2 ^ i % 2 := fun i => by
    rw [getLsbD_eq_decide]
    rcases Nat.mod_two_eq_zero_or_one (w.toNat / 2 ^ i) with h | h <;> rw [h] <;> rfl
  apply BitVec.eq_of_toNat_eq
  have hlt := w.isLt
  rw [encodeHead_toNat]
  simp only [bit, extract_toNat]
  omega
/-- Settles O3: the tables give only what encodes to the opcode and fields they were given; a header is the appended fields. -/
theorem oneSpelling : Obligations.OneSpelling := by
  refine ⟨fun slot w ext i hx h => ?_, decodeHead_encodeHead, encodeHead_of_decodeHead⟩
  obtain ⟨ht, hleg⟩ := decodeSyl_ok h
  refine ⟨Option.isNone_iff_eq_none.mpr hleg, ?_⟩
  rw [encode_of_tableOf (opc := w.extractLsb' 24 8) rfl ht, encAt, encWord_rawOf slot w ext hx]
  rfl

end Sys2Proof

/-! Proofs about the canonical form of the memories: every instruction keeps it, so every step does. -/
namespace Sys2Proof.Machine
set_option Elab.async false

/-- Every instruction and event keeps the memories in canonical form: one `keeps_` law for each arm of `exec`. -/
theorem keepsOut_exec (i : Instr) (s : State) (h : s.memInv = true) : keepsOut (exec i s) = true := by
  cases i <;> simp only [exec] <;> simp [h]

/-- Settles O10: a step runs `exec` or prepares the next event or cycle, and `keeps_nextStep` covers both. -/
theorem stepKeepsMemories : Obligations.StepKeepsMemories := by
  intro s t hs ht
  have hk : keepsOut (step s) = true := keeps_nextStep keepsOut_exec s hs
  rwa [ht] at hk

end Sys2Proof.Machine

/-! Proofs about memories as maps of bytes (R9): what a byte write and a little-endian write leave to be read. -/
namespace Sys2Proof
set_option Elab.async false

/-- A byte reads as what was written to it last. -/
theorem Memory.read_write (m : Memory) (a b : Nat) (v : Byte) :
    Memory.read (Memory.write m a v) b = if b = a then v else Memory.read m b := Store.get_set _ _ _ _ _

/-- A little-endian write leaves every byte outside it. -/
theorem Memory.read_writeLE_outside (m : Memory) (a n v b : Nat) (h : b < a ∨ a + n ≤ b) :
    Memory.read (Memory.writeLE m a n v) b = Memory.read m b := by
  induction n generalizing m a v with
  | zero => rfl
  | succ n ih =>
    rw [Memory.writeLE, ih _ _ _ (by omega), Memory.read_write, if_neg (by omega)]

/-- The low bytes of what is written are read back. -/
theorem Memory.readLE_writeLE (m : Memory) (a n v : Nat) : Memory.readLE (Memory.writeLE m a n v) a n = v % 2 ^ (8 * n) := by
  induction n generalizing m a v with
  | zero => simp [Memory.readLE, Nat.mod_one]
  | succ n ih =>
    have hlow : Memory.read (Memory.writeLE m a (n + 1) v) a = BitVec.ofNat 8 v := by
      rw [Memory.writeLE, Memory.read_writeLE_outside _ _ _ _ _ (by omega), Memory.read_write, if_pos rfl]
    rw [Memory.readLE, hlow, Memory.writeLE, ih, BitVec.toNat_ofNat, Nat.mul_succ, Nat.add_comm (8 * n), Nat.pow_add,
      Nat.mod_mul]

/-- Settles O11: a byte write is `Store.set` on a canonical map, and a little-endian write is one byte write after another. -/
theorem memoryBytes : Obligations.MemoryBytes :=
  ⟨fun m a b v h => ⟨Memory.wf_write m a v h, m.read_write a b v⟩,
    fun m a n v => ⟨m.readLE_writeLE a n v, fun b hb => m.read_writeLE_outside a n v b hb⟩⟩

end Sys2Proof

/-! Proofs about registers, the landing queue and hidden results (R16, R28, R29, R32, R34). -/
namespace Sys2Proof.Machine
set_option Elab.async false

/-! ## Registers -/

/-- A register holds what is written to it, at the width of its file. -/
theorem Ctx.get_put_same (x : Ctx) (d : Dest) (v : VWord) (h : d.fixed = false) :
    (x.put d v).get d = match d.file with
      | .s | .a => vOf (v.setWidth 64)
      | .v => v
      | .q | .k => vOf (v.setWidth 128)
      | .p => (if v.getLsbD 0 then 1 else 0)
      | .lc | .fmt | .lk => vOf (v.setWidth 32) := by
  obtain ⟨f, i⟩ := d
  cases f <;> simp [Dest.fixed] at h <;>
    simp [Ctx.put, Ctx.get, Dest.fixed, Ctx.sreg, Ctx.areg, Ctx.vreg, Ctx.qreg, Ctx.preg, Ctx.kreg, Ctx.fmtreg, Store.get_set, h]

/-- A write changes no other register; lk is one register, whatever its number. -/
theorem Ctx.get_put_other (x : Ctx) (d e : Dest) (v : VWord) (hne : e ≠ d) (hlk : d.file ≠ .lk ∨ e.file ≠ .lk) :
    (x.put d v).get e = x.get e := by
  obtain ⟨f, i⟩ := d
  obtain ⟨f', j⟩ := e
  unfold Ctx.put
  split
  · rfl
  · cases f <;> cases f' <;> simp at hne hlk <;>
      simp [Ctx.get, Ctx.sreg, Ctx.areg, Ctx.vreg, Ctx.qreg, Ctx.preg, Ctx.kreg, Ctx.fmtreg, Store.get_set, hne]

/-- Settles O7: the two laws of `Ctx.put`. -/
theorem registerWrite : Obligations.RegisterWrite :=
  fun x d e v h => ⟨x.get_put_same d v h, fun hne hlk => x.get_put_other d e v hne hlk⟩

/-! ## Landings -/

/-- A landing changes no register but its own. -/
theorem Ctx.get_putMasked_other (x : Ctx) (d e : Dest) (v m : VWord) (hne : e ≠ d) (hlk : d.file ≠ .lk ∨ e.file ≠ .lk) :
    (x.putMasked d v m).get e = x.get e := x.get_put_other d e _ hne hlk

/-- The entries of a queue land, in order. -/
def Ctx.landEntries (x : Ctx) (l : List Landing) : Ctx := l.foldl (fun y e => y.putMasked e.dest e.value e.mask) x

/-- Landing leaves every register that no entry names. -/
theorem Ctx.get_landEntries (x : Ctx) (l : List Landing) (d : Dest) (h : ∀ e ∈ l, e.dest ≠ d ∧ (d.file = .lk → e.dest.file ≠ .lk)) :
    (x.landEntries l).get d = x.get d := by
  induction l generalizing x with
  | nil => rfl
  | cons e l ih =>
    obtain ⟨hne, hlk⟩ := h e List.mem_cons_self
    refine (ih _ fun f hf => h f (List.mem_cons_of_mem _ hf)).trans (x.get_putMasked_other _ _ _ _ hne.symm ?_)
    by_cases hd : d.file = .lk
    · exact .inl (hlk hd)
    · exact .inr hd

/-- Which landings reach zero at the next tick. -/
theorem Ctx.tick_eq (x : Ctx) :
    x.tick = ({ x with queue := (x.queue.filter fun e => e.left - 1 != 0).map fun e => { e with left := e.left - 1 } } : Ctx).landEntries
      (x.queue.filter fun e => e.left - 1 == 0) := by
  unfold Ctx.tick Ctx.land Ctx.count Ctx.landEntries
  simp only [List.filter_map, List.foldl_map]
  rfl

/-- Of positive counts the ones that are 1 reach zero. -/
theorem Ctx.tick_of_pos (x : Ctx) (h : ∀ e ∈ x.queue, 0 < e.left) :
    x.tick = ({ x with queue := (x.queue.filter fun e => e.left != 1).map fun e => { e with left := e.left - 1 } } : Ctx).landEntries
      (x.queue.filter fun e => e.left == 1) := by
  have hz : ∀ e ∈ x.queue, (e.left - 1 == 0) = (e.left == 1) := fun e he => by
    have := h e he
    rw [Bool.eq_iff_iff]; simp only [beq_iff_eq]; omega
  rw [Ctx.tick_eq, List.filter_congr hz, List.filter_congr (q := fun e => e.left != 1) fun e he => by simp only [bne, hz e he]]

theorem Ctx.vreg_putMasked (x : Ctx) (d : Dest) (v m : VWord) (h : d.file = .v) :
    (x.putMasked d v m).vreg d.idx = (x.vreg d.idx &&& ~~~m) ||| (v &&& m) := by
  obtain ⟨f, i⟩ := d
  cases h
  simp [Ctx.putMasked, Ctx.put, Ctx.get, Ctx.vreg, Dest.fixed, Store.get_set]

/-- Settles O8: `Ctx.tick_of_pos` says what lands and what stays, and `Ctx.get_landEntries` what no landing names. -/
theorem landingQueue : Obligations.LandingQueue := by
  refine ⟨fun x hpos => ⟨x.tick_of_pos hpos, fun e n hq hn => ?_, fun d v m hd => ⟨x.vreg_putMasked d v m hd, x.putMasked_queue d v m⟩⟩,
    fun x d h => ?_⟩
  · rw [Ctx.tick_eq, hq]
    refine ⟨fun h0 => ?_, fun h0 => ?_⟩
    · simp [hn, h0, Ctx.landEntries]
    · simp [hn, h0, Ctx.landEntries]
  · rw [Ctx.tick_eq]
    refine Ctx.get_landEntries _ _ d fun e he => ?_
    obtain ⟨hq, hl⟩ := List.mem_filter.mp he
    exact h e hq (by simpa [Nat.sub_eq_zero_iff_le] using hl)

/-! ## Hidden results -/

theorem Ctx.isBusy_setBusy (x : Ctx) (d : Dest) (h : d.fixed = false) : (x.setBusy d).isBusy d = true := by
  simp only [Ctx.setBusy, h, Ctx.isBusy]
  cases hc : x.busy.contains d <;> simp_all

theorem Ctx.setBusy_queue (x : Ctx) (d : Dest) (h : d.fixed = false) : (x.setBusy d).queue = x.queue.filter fun e => !(e.dest == d) := by
  simp [Ctx.setBusy, h]

/-- The arrival of a hidden result clears the busy bit of its register and no other. -/
theorem Ctx.isBusy_writeHidden (x : Ctx) (d e : Dest) (v : VWord) : (x.writeHidden d v).isBusy e = (x.isBusy e && !(e == d)) := by
  rw [Bool.eq_iff_iff]
  simp [Ctx.writeHidden, Ctx.isBusy, List.mem_filter]

/-- Settles O9: a busy bit is set and cleared in the list of busy registers, and the value arrives by `Ctx.put`. -/
theorem hiddenResult : Obligations.HiddenResult := by
  intro x d v h
  refine ⟨x.isBusy_setBusy d h, fun e he => ?_, fun e he hne => ?_, ?_, rfl, fun e hne => ?_⟩
  · rw [x.setBusy_queue d h] at he
    simpa using (List.mem_filter.mp he).2
  · rw [x.setBusy_queue d h]
    exact List.mem_filter.mpr ⟨he, by simpa using hne⟩
  · simp [Ctx.isBusy_writeHidden]
  · simp [Ctx.isBusy_writeHidden, hne]

end Sys2Proof.Machine

/-! Proofs about what a write at the memory side leaves: the memories, the LLC, cached translations and the host's side may change, every
other part of the module stays (R180, R383, R386 to R390, R456). -/
namespace Sys2Proof.Machine
set_option Elab.async false

/-- Two states that differ at most in the memories, the LLC, cached translations, held writes, the host's side and the free values spent. -/
def State.MemSide (s t : State) : Prop :=
  ∃ mem hostMem llc tlb sharers migrations host freeCtr, t = { s with
    mem := mem
    hostMem := hostMem
    llc := llc
    tlb := tlb
    sharers := sharers
    migrations := migrations
    host := host
    freeCtr := freeCtr }

namespace State.MemSide
variable {s t u : State}

@[simp] theorem refl (s : State) : s.MemSide s := ⟨_, _, _, _, _, _, _, _, rfl⟩

theorem trans (h : s.MemSide t) (h' : t.MemSide u) : s.MemSide u := by
  obtain ⟨_, _, _, _, _, _, _, _, rfl⟩ := h
  obtain ⟨_, _, _, _, _, _, _, _, rfl⟩ := h'
  exact ⟨_, _, _, _, _, _, _, _, rfl⟩

theorem ite {c : Prop} [Decidable c] (h : s.MemSide t) (h' : s.MemSide u) : s.MemSide (if c then t else u) := by
  split <;> assumption

/-- What a relation to every state allows, a run over a list allows. -/
theorem foldl {α : Type} {f : State → α → State} (hf : ∀ (t : State) a, t.MemSide (f t a)) (l : List α) (s : State) : s.MemSide (l.foldl f s) := by
  induction l generalizing s with
  | nil => exact refl s
  | cons a l ih => exact (hf s a).trans (ih _)

theorem spend (s : State) : s.MemSide s.spend := ⟨_, _, _, _, _, _, _, _, rfl⟩
theorem modLlc (s : State) (line : Nat) (f : LlcLine → LlcLine) : s.MemSide (s.modLlc line f) := ⟨_, _, _, _, _, _, _, _, rfl⟩
theorem setMem (s : State) (m : Memory) : s.MemSide { s with mem := m } := ⟨_, _, _, _, _, _, _, _, rfl⟩
theorem setHost (s : State) (h : HostIf) : s.MemSide { s with host := h } := ⟨_, _, _, _, _, _, _, _, rfl⟩

/-! ## Translations -/

theorem setPte (s : State) (level key : Nat) (w : Word) : s.MemSide (s.setPte level key w) := by
  unfold State.setPte
  split
  · exact setMem s _
  · exact refl s

theorem cacheLeaf (s : State) (l : Leaf) (w : Word) (ia : Nat) : s.MemSide (s.cacheLeaf l w ia) := by
  unfold State.cacheLeaf
  dsimp only
  split <;> split <;> exact ⟨_, _, _, _, _, _, _, _, rfl⟩

theorem recallHdm (s : State) (line : Nat) : s.MemSide (s.recallHdm line) := by
  unfold State.recallHdm
  exact ite (setHost s _) (refl s)

theorem touch (s : State) (l : Leaf) (ia : Nat) (write : Bool) : s.MemSide (s.touch l ia write) := by
  unfold State.touch
  exact (ite (setPte s _ _ _) (refl s)).trans ((cacheLeaf _ _ _ _).trans (recallHdm _ _))

/-! ## Bytes -/

theorem hostRoom (s : State) (g : Nat) : s.MemSide (s.hostRoom g) := by
  unfold State.hostRoom
  dsimp only
  split
  · exact refl s
  · split
    · exact refl s
    · exact ⟨_, _, _, _, _, _, _, _, rfl⟩

theorem hostFill (s : State) (g : Nat) (st : Mesi) : s.MemSide (s.hostFill g st) := by
  unfold State.hostFill
  exact ite (refl s) ((hostRoom s g).trans (setHost _ _))

theorem hostWrite (s : State) (a : Nat) (b : Byte) : s.MemSide (s.hostWrite a b) := by
  unfold State.hostWrite
  exact (ite (refl s) ((hostFill s _ _).trans (hostFill _ _ _))).trans (setHost _ _)

theorem putByte (s : State) (ia : Nat) (b : Byte) : s.MemSide (s.putByte ia b) := by
  unfold State.putByte
  split
  · exact refl s
  · exact (touch s _ _ _).trans (ite (hostWrite _ _ _) (setMem _ _))

theorem putBytes (s : State) (ia n v : Nat) : s.MemSide (s.putBytes ia n v) := by
  induction n generalizing s ia v with
  | zero => exact refl s
  | succ n ih => exact (putByte s ia _).trans (ih _ _ _)

theorem llcWrote (s : State) (line : Nat) (mask : Word128) : s.MemSide (s.llcWrote line mask) := by
  unfold State.llcWrote
  exact ite (modLlc s _ _) (refl s)

theorem holdWrite (s : State) (agent ia n v : Nat) : s.MemSide (s.holdWrite agent ia n v) := ⟨_, _, _, _, _, _, _, _, rfl⟩

theorem homeWriteBy (s : State) (agent ia n v : Nat) : s.MemSide (s.homeWriteBy agent ia n v) := by
  unfold State.homeWriteBy
  exact ite (holdWrite s _ _ _ _) ((putBytes s ia n v).trans (foldl (fun t l => llcWrote t l _) _ _))

theorem homeWriteN (s : State) (ia n v : Nat) : s.MemSide (s.homeWriteN ia n v) := homeWriteBy s _ ia n v

theorem writeWords (s : State) (ia : Nat) (l : List Word) : s.MemSide (s.writeWords ia l) := by
  induction l generalizing s ia with
  | nil => exact refl s
  | cons w l ih => exact (homeWriteN s ia 8 _).trans (ih _ _)

theorem writeCompletion (s : State) (cmpl tag status value task : Nat) : s.MemSide (s.writeCompletion cmpl tag status value task) := by
  unfold State.writeCompletion
  exact ite (refl s) (homeWriteN s _ _ _)

/-! ## What stays -/

theorem ctxs (h : s.MemSide t) : t.ctxs = s.ctxs := by obtain ⟨_, _, _, _, _, _, _, _, rfl⟩ := h; rfl
theorem fe (h : s.MemSide t) : t.fe = s.fe := by obtain ⟨_, _, _, _, _, _, _, _, rfl⟩ := h; rfl
theorem cores (h : s.MemSide t) : t.cores = s.cores := by obtain ⟨_, _, _, _, _, _, _, _, rfl⟩ := h; rfl
theorem clusters (h : s.MemSide t) : t.clusters = s.clusters := by obtain ⟨_, _, _, _, _, _, _, _, rfl⟩ := h; rfl
theorem issue (h : s.MemSide t) : t.issue = s.issue := by obtain ⟨_, _, _, _, _, _, _, _, rfl⟩ := h; rfl
theorem cur (h : s.MemSide t) : t.cur = s.cur := by obtain ⟨_, _, _, _, _, _, _, _, rfl⟩ := h; rfl
theorem pow (h : s.MemSide t) : t.pow = s.pow := by obtain ⟨_, _, _, _, _, _, _, _, rfl⟩ := h; rfl

end State.MemSide

end Sys2Proof.Machine

/-! Proofs about traps (R309, R311 to R317): the freeze and its fault record, resuming, and the return from a user handler. -/
namespace Sys2Proof.Machine
set_option Elab.async false

/-! ## A failed issue check -/

/-- Settles O15: a failed check ends the bundle with its trap, and a system-class trap freezes. -/
theorem failedCheck : Obligations.FailedCheck :=
  fun _ _ _ _ _ hr hp => (State.finish_raised hr).trans (State.takeTrap_system hp)

/-! ## Freezing and resuming -/

/-- The program counter that a trap writes is read back whole. -/
theorem trapPc_extract {n : Nat} (h : n < 2 ^ 32) : ((BitVec.ofNat 64 n).extractLsb' 0 32).toNat = n := by
  rw [BitVec.extractLsb'_toNat, BitVec.toNat_ofNat, Nat.shiftRight_zero]; omega

/-- What a freeze set aside is there again (R317); TRAP registers apart. -/
def Ctx.thawed (x : Ctx) (cause val : Word) : Ctx :=
  { x.freeze cause val with
    queue := x.queue
    repLeft := x.repLeft
    nest := x.nest.dropBuffer
    lc := x.lc
    frozen := none
    pc := ((BitVec.ofNat 64 x.pc).extractLsb' 0 32).toNat
    state := x.state }

/-- Where no trap registers were held, none come back. -/
theorem Ctx.resumed_freeze_running {x : Ctx} {cause val : Word} (hs : x.state ≠ .handler) :
    (x.freeze cause val).resumed = x.thawed cause val := by
  unfold Ctx.resumed
  dsimp only [Ctx.freeze]
  split
  · next h => exact absurd h hs
  · rfl

/-- The trap registers of a handler were held, and come back. -/
theorem Ctx.resumed_freeze_handler {x : Ctx} {cause val : Word} (hs : x.state = .handler) :
    (x.freeze cause val).resumed = { x.thawed cause val with
      held := none
      csr := x.csr } := by
  unfold Ctx.resumed
  dsimp only [Ctx.freeze, Ctx.thawed]
  rw [if_pos hs]
  simp only [hs]
  rfl

/-! ## The record of a freeze -/

/-- A fault record is written where the ring has room and holds none back (R448, R519). -/
theorem State.postFault_written {s : State} {c : Nat} {l : List Word} (hroom : s.fe.ring.room = true) (hheld : s.fe.ring.heldFaults = []) :
    s.postFault c l = s.writeRecord l := if_pos (by simp [hroom, hheld])

/-- It is held elsewhere, after those held before it. -/
theorem State.postFault_held {s : State} {c : Nat} {l : List Word} (h : s.fe.ring.room = false ∨ s.fe.ring.heldFaults ≠ []) :
    s.postFault c l = s.modFe fun f => { f with ring := { f.ring with heldFaults := f.ring.heldFaults ++ [{ words := l, ctx := c }] } } :=
  if_neg (by rcases h with h | h <;> simp [h])

/-- Posting a record changes no context. -/
theorem State.ctxs_postFault (s : State) (c : Nat) (l : List Word) : (s.postFault c l).ctxs = s.ctxs := by
  unfold State.postFault State.writeRecord
  split
  · exact (State.MemSide.writeWords s _ _).ctxs
  · rfl

/-- A context that is not yet frozen freezes, then its record is posted (R314). -/
theorem State.freeze_first {s : State} {c also : Nat} {p : PendCause} (hs : (s.ctx c).state ≠ .frozen) (hsw : (s.ctx c).switching = none) :
    s.freeze c p also = (s.setCtx c ((s.ctx c).freeze (causeWord p.cause p.sub also) p.val)).postFault c
      (faultWords (s.ctx c) c (causeWord p.cause p.sub also) (s.ctx c).pc p) := by
  unfold State.freeze State.answerSwitch
  rw [if_neg hs, hsw]

/-- Of a frozen context only the record is posted (R316). -/
theorem State.freeze_again {s : State} {c also : Nat} {p : PendCause} (hs : (s.ctx c).state = .frozen) :
    s.freeze c p also = s.postFault c (faultWords (s.ctx c) c (causeWord p.cause p.sub also) (s.ctx c).pc p) := if_pos hs

/-- Settles O17: the freeze and the resumed context are the record updates of `Ctx.freeze` and `Ctx.thawed`; a record of either kind of
fault goes by `State.postFault_written` or `State.postFault_held`. -/
theorem freezeAndResume : Obligations.FreezeAndResume := by
  refine ⟨fun x cause val _ => ?_, fun x cause val _ hpc => ?_, fun s c also p => ?_, fun s c also p => ?_⟩
  · exact ⟨rfl, rfl, rfl, rfl, rfl, rfl, fun h => if_pos h, rfl, rfl, rfl, rfl, rfl, rfl, rfl, rfl, rfl⟩
  · by_cases hs : x.state = .handler
    · rw [Ctx.resumed_freeze_handler hs]
      exact ⟨rfl, trapPc_extract hpc, rfl, rfl, rfl, rfl, rfl, fun _ => ⟨rfl, rfl⟩⟩
    · rw [Ctx.resumed_freeze_running hs]
      exact ⟨rfl, trapPc_extract hpc, rfl, rfl, rfl, rfl, rfl, fun h => absurd h hs⟩
  · intro x r cause u words hs hsw
    rw [State.freeze_first hs hsw]
    exact ⟨fun hroom hheld => State.postFault_written (s := u) hroom hheld, fun h => State.postFault_held (s := u) h⟩
  · intro x r words hs
    rw [State.freeze_again hs]
    exact ⟨s.ctxs_postFault _ _, fun hroom hheld => State.postFault_written hroom hheld, fun h => State.postFault_held h⟩

/-! ## The landings of a handler and its return -/

/-- The context with another landing queue. -/
def Ctx.withQueue (x : Ctx) (q : List Landing) : Ctx := { x with queue := q }

/-- The queue is no register: a landing writes past it. -/
theorem Ctx.putMasked_withQueue (x : Ctx) (q : List Landing) (d : Dest) (v m : VWord) :
    (x.withQueue q).putMasked d v m = (x.putMasked d v m).withQueue q := by
  obtain ⟨f, i⟩ := d
  unfold Ctx.putMasked Ctx.put
  split
  · rfl
  · cases f <;> rfl

theorem Ctx.landEntries_withQueue (x : Ctx) (q : List Landing) (l : List Landing) :
    (x.withQueue q).landEntries l = (x.landEntries l).withQueue q := by
  induction l generalizing x with
  | nil => rfl
  | cons e l ih =>
    change ((x.withQueue q).putMasked e.dest e.value e.mask).landEntries l = _
    rw [Ctx.putMasked_withQueue, ih]
    rfl

/-- What every landing keeps, a run of landings keeps. -/
theorem Ctx.landEntries_keeps {α : Type} {f : Ctx → α} (hf : ∀ x d v m, f (x.putMasked d v m) = f x) (x : Ctx) (l : List Landing) :
    f (x.landEntries l) = f x := by
  induction l generalizing x with
  | nil => rfl
  | cons e l ih => exact (ih _).trans (hf _ _ _ _)

theorem Ctx.landEntries_append (x : Ctx) (l l' : List Landing) : x.landEntries (l ++ l') = (x.landEntries l).landEntries l' :=
  List.foldl_append

/-- The entries of a queue by their counts, the counts in a given order. -/
def landOrder (q : List Landing) (ns : List Nat) : List Landing := ns.flatMap fun n => q.filter fun e => e.left == n

theorem landOrder_congr {q q' : List Landing} {ns : List Nat}
    (h : ∀ m ∈ ns, (q.filter fun e => e.left == m) = q'.filter fun e => e.left == m) : landOrder q ns = landOrder q' ns := by
  unfold landOrder
  rw [List.flatMap_def, List.flatMap_def, List.map_congr_left h]

/-- The entries of one count land and leave the queue. -/
def Ctx.landCount (x : Ctx) (n : Nat) : Ctx :=
  (x.withQueue (x.queue.filter fun e => !(e.left == n))).landEntries (x.queue.filter fun e => e.left == n)

/-- The entries of the other counts stay, in their order. -/
theorem landOrder_filter_ne (q : List Landing) (n : Nat) (ns : List Nat) (hn : n ∉ ns) :
    landOrder (q.filter fun e => !(e.left == n)) ns = landOrder q ns := by
  refine landOrder_congr fun m hm => ?_
  rw [List.filter_filter]
  refine List.filter_congr fun e _ => ?_
  by_cases h : e.left = m
  · have : m ≠ n := fun hmn => hn (hmn ▸ hm)
    simp [h, this]
  · simp [h]

/-- Landing one count after another is landing the queue in the order of its counts (R121). -/
theorem Ctx.land_counts (x : Ctx) (ns : List Nat) (hns : ns.Nodup) :
    ns.foldl Ctx.landCount x = (x.withQueue (x.queue.filter fun e => !ns.contains e.left)).landEntries (landOrder x.queue ns) := by
  induction ns generalizing x with
  | nil =>
    show x = x.withQueue (x.queue.filter fun _ => true)
    rw [List.filter_eq_self.2 fun _ _ => rfl]
    rfl
  | cons n ns ih =>
    obtain ⟨hn, hnd⟩ := List.nodup_cons.mp hns
    have hq : (x.landCount n).queue = x.queue.filter fun e => !(e.left == n) :=
      Ctx.landEntries_keeps (f := Ctx.queue) Ctx.putMasked_queue _ _
    have hl (q : List Landing) : (x.landCount n).withQueue q = (x.withQueue q).landEntries (x.queue.filter fun e => e.left == n) :=
      (Ctx.landEntries_withQueue (x.withQueue _) q _).symm
    rw [List.foldl_cons, ih _ hnd, hq, landOrder_filter_ne _ _ _ hn, hl, ← Ctx.landEntries_append, List.filter_filter]
    simp only [List.contains_cons, Bool.not_or, Bool.and_comm]
    rfl

theorem Ctx.landAll_eq (x : Ctx) :
    x.landAll = (x.withQueue (x.queue.filter fun e => !(List.range 9).contains e.left)).landEntries (landOrder x.queue (List.range 9)) :=
  x.land_counts (List.range 9) List.nodup_range

/-- With counts of at most 8, which is every count a latency gives, the whole queue lands. -/
theorem Ctx.landAll_all (x : Ctx) (h : ∀ e ∈ x.queue, e.left ≤ 8) :
    x.landAll = (x.withQueue []).landEntries (landOrder x.queue (List.range 9)) := by
  rw [Ctx.landAll_eq, List.filter_eq_nil_iff.mpr fun e he => by have := h e he; simp; omega]

/-- What every landing keeps, the landing of the whole queue keeps. -/
theorem Ctx.landAll_keeps {α : Type} {f : Ctx → α} (hf : ∀ x d v m, f (x.putMasked d v m) = f x)
    (hq : ∀ (x : Ctx) q, f (x.withQueue q) = f x) (x : Ctx) : f x.landAll = f x := by
  rw [Ctx.landAll_eq, Ctx.landEntries_keeps hf, hq]

theorem landOrder_single (e : Landing) (n : Nat) : landOrder [e] (List.range n) = if e.left < n then [e] else [] := by
  induction n with
  | zero => rfl
  | succ n ih =>
    unfold landOrder at ih ⊢
    rw [List.range_succ, List.flatMap_append, ih]
    by_cases h : e.left < n
    · simp [h, show e.left < n + 1 by omega, show e.left ≠ n by omega]
    · by_cases h' : e.left = n
      · simp [h']
      · simp [h, h', show ¬ e.left < n + 1 by omega]

theorem landOrder_pair (e f : Landing) (n : Nat) (h : e.left ≤ f.left) :
    landOrder [e, f] (List.range n) = landOrder [e] (List.range n) ++ landOrder [f] (List.range n) := by
  induction n with
  | zero => rfl
  | succ n ih =>
    have he := landOrder_single e n
    have hf := landOrder_single f n
    unfold landOrder at ih he hf ⊢
    rw [List.range_succ, List.flatMap_append, List.flatMap_append, List.flatMap_append, ih, he, hf]
    by_cases h1 : e.left = n
    · simp [h1, show ¬ f.left < n by omega, List.filter_cons]
    · by_cases h2 : f.left = n <;> simp [h1, h2, List.filter_cons]

theorem landOrder_pair_swap (e f : Landing) (n : Nat) (h : f.left < e.left) : landOrder [e, f] (List.range n) = landOrder [f, e] (List.range n) := by
  refine landOrder_congr fun m _ => ?_
  by_cases h1 : e.left = m
  · simp [h1, show f.left ≠ m by omega]
  · by_cases h2 : f.left = m <;> simp [h1, h2]

/-- Entries of a queue that names no other register leave it as it is. -/
theorem Ctx.get_landAll (x : Ctx) (d : Dest) (h : ∀ e ∈ x.queue, e.dest ≠ d ∧ (d.file = .lk → e.dest.file ≠ .lk)) :
    x.landAll.get d = x.get d := by
  rw [Ctx.landAll_eq]
  refine Ctx.get_landEntries _ _ d fun e he => ?_
  obtain ⟨n, -, hn⟩ := List.mem_flatMap.mp he
  exact h e (List.mem_filter.mp hn).1

theorem Ctx.landAll_single (x : Ctx) (e : Landing) (hq : x.queue = [e]) (he : e.left ≤ 8) :
    x.landAll = (x.withQueue []).landEntries [e] := by
  rw [Ctx.landAll_all x (by simpa [hq]), hq, landOrder_single, if_pos (by omega)]

theorem Ctx.landAll_pair (x : Ctx) (e f : Landing) (hq : x.queue = [e, f]) (he : e.left ≤ 8) (hf : f.left ≤ 8) :
    x.landAll = (x.withQueue []).landEntries (if e.left ≤ f.left then [e, f] else [f, e]) := by
  rw [Ctx.landAll_all x (by simp [hq, he, hf]), hq]
  split
  · next h => rw [landOrder_pair _ _ _ h, landOrder_single, landOrder_single, if_pos (by omega), if_pos (by omega)]; rfl
  · next h =>
    rw [landOrder_pair_swap _ _ _ (by omega), landOrder_pair _ _ _ (by omega), landOrder_single, landOrder_single, if_pos (by omega),
      if_pos (by omega)]; rfl

/-- The counters are the snapshot's, every other register is as the landings leave it. -/
theorem Ctx.get_returnFromTrap (x : Ctx) (n : Snapshot) (hn : x.snapshot = some n) (d : Dest) (hd : d.file ≠ .lc) :
    x.returnFromTrap.get d = x.landAll.get d := by
  obtain ⟨f, i⟩ := d
  unfold Ctx.returnFromTrap
  rw [hn]
  generalize x.landAll = z
  cases f
  case lc => exact absurd rfl hd
  all_goals rfl

/-- A handler that does nothing gives back the state it interrupted. -/
theorem Ctx.returnFromTrap_enterHandler (x : Ctx) (cause val : Word) (hs : x.state = .running) (hpc : x.pc < 2 ^ 32)
    (hsnap : x.snapshot = none) (hrep : x.pcReplaced = false) :
    (x.enterHandler cause val).returnFromTrap = { x with
      nest := x.nest.dropBuffer
      csr := { x.csr with
        trapCause := cause
        trapPc := BitVec.ofNat 64 x.pc
        trapVal := val } } := by
  have hland : (x.enterHandler cause val).landAll = x.enterHandler cause val := Ctx.landAll_eq _
  have hpc' := trapPc_extract hpc
  obtain ⟨state, from_⟩ := x
  dsimp only at hs hsnap hrep hpc'
  subst hs hsnap hrep
  unfold Ctx.returnFromTrap
  rw [hland]
  dsimp only [Ctx.enterHandler, Ctx.trapped, Ctx.restore, Ctx.save]
  rw [hpc']
  rfl

/-- Settles O18: the landings by `Ctx.landAll_eq` and the lemmas after it, the rest by the record update of `Ctx.returnFromTrap`. -/
theorem handlerReturn : Obligations.HandlerReturn := by
  refine ⟨⟨fun x n hn => ?_, fun x hx => ⟨x.landAll_all hx, fun e hq => ?_, fun e f hq hle => ?_, fun e f hq hlt => ?_, x.get_landAll⟩⟩,
    Ctx.returnFromTrap_enterHandler⟩
  · intro y z
    have hy : y = { z.restore n with
        repLeft := if x.pcReplaced then 0 else n.reps
        snapshot := none
        pcReplaced := false
        pc := (x.csr.trapPc.extractLsb' 0 32).toNat
        state := .running } := by
      unfold y z Ctx.returnFromTrap; rw [hn]
    have hget : ∀ d : Dest, d.file ≠ .lc → y.get d = z.get d := x.get_returnFromTrap n hn
    have hcsr : z.csr = x.csr := x.landAll_keeps (f := Ctx.csr) Ctx.putMasked_csr fun _ _ => rfl
    have hhandles : z.handles = x.handles := x.landAll_keeps (f := Ctx.handles) Ctx.putMasked_handles fun _ _ => rfl
    have hbusy : z.busy = x.busy := x.landAll_keeps (f := Ctx.busy) Ctx.putMasked_busy fun _ _ => rfl
    have hunits : z.units = x.units := x.landAll_keeps (f := Ctx.units) Ctx.putMasked_units fun _ _ => rfl
    have heng : z.eng = x.eng := x.landAll_keeps (f := Ctx.eng) Ctx.putMasked_eng fun _ _ => rfl
    clear_value z y
    subst hy
    exact ⟨rfl, rfl, rfl, rfl, rfl, rfl, rfl, rfl, rfl, rfl, rfl, rfl, rfl, rfl, rfl, rfl, hget, hcsr, hhandles, hbusy, hunits, heng⟩
  · exact x.landAll_single e hq (hx e (by simp [hq]))
  · rw [x.landAll_pair e f hq (hx e (by simp [hq])) (hx f (by simp [hq])), if_pos hle]; rfl
  · rw [x.landAll_pair e f hq (hx e (by simp [hq])) (hx f (by simp [hq])), if_neg (Nat.not_le.mpr hlt)]; rfl

end Sys2Proof.Machine

/-! Proofs about a step, and about a syllable in its bundle or as a bundle of its own (R26, R33, R47, R56, R64). -/
namespace Sys2Proof.Machine
set_option Elab.async false

/-! ## Syllables -/

/-- Every instruction with a slot is an operation of its bundle: `exec` gives it through `issueOp`, with an effect of its own. -/
theorem exec_eq_issueOp (i : Instr) (h : (infoOf i).slot < 13) : ∃ body, ∀ s, exec i s = issueOp i body s := by
  cases i
  all_goals try exact ⟨_, fun _ => rfl⟩
  -- what is left are the events, whose slot is 13
  all_goals exact absurd h (Nat.lt_irrefl 13)

/-- Settles O14: inside a bundle a syllable is `guarded`. -/
theorem guardOff : Obligations.GuardOff := by
  intro i s hslot hactive hguard
  obtain ⟨body, hbody⟩ := exec_eq_issueOp i hslot
  rw [hbody, issueOp_off hactive hguard]

/-- A syllable that runs between bundles is the issue of its own bundle. -/
theorem exec_solo {i : Instr} {s : State} (hslot : (infoOf i).slot < 13) (hs : s.issue.active = false) :
    exec i s = issueWith (exec i) s.cur (soloBundle (s.ctx s.cur) i) s := by
  obtain ⟨body, hbody⟩ := exec_eq_issueOp i hslot
  rw [hbody s, issueOp_solo hs]
  unfold issueWith
  rw [hbody, show issueOp i body (s.begin s.cur (soloBundle (s.ctx s.cur) i)) =
    .next (guarded i body (s.begin s.cur (soloBundle (s.ctx s.cur) i))) from if_pos rfl]

/-! ## Steps -/

/-- With no event due, the step issues for the next context of the queue. -/
theorem step_issues {s : State} {c : Nat} {l : List Nat} (hag : s.agenda = []) (hq : s.issueQ = c :: l) :
    step s = issueNext exec c { s with issueQ := l } := by
  unfold step nextStep
  rw [hag, hq]

/-- A bundle that is fetched issues. -/
theorem issueNext_bundle {run : Instr → State → Out} {c a after : Nat} {s : State} {h : Header}
    {syls : List (Nat × Word32 × Option Word32)} {words : List Word32} (hf : s.fetch c = .bundle a h syls after words) :
    issueNext run c s = issueWith (runOps run (bundleOf (s.ctx c) a after h syls words).ops) c (bundleOf (s.ctx c) a after h syls words)
      ((s.enterSegment c a).modCtx c fun x => { x with pc := a }) := by
  unfold issueNext
  rw [hf]

/-- Settles O12: with no event due the step issues the bundle that is fetched; with one due it runs it. -/
theorem stepRunsDecoded : Obligations.StepRunsDecoded := by
  refine ⟨fun s c l a after h syls words hag hq hf => ?_, fun s i l hag => ?_⟩
  · rw [step_issues hag hq]
    exact issueNext_bundle hf
  · unfold step nextStep
    rw [hag]

end Sys2Proof.Machine

namespace Sys2Proof
set_option Elab.async false
open Machine

/-- Settles O13: the three outcomes of `issueWith` on the syllable's own bundle. -/
theorem soloBundle : Obligations.SoloBundle := by
  refine ⟨fun i s hslot hs => ?_, fun i s code hslot hs hcode => ?_, fun i s hslot hs hlegal hstall => ?_⟩
  · intro c b hlegal hrun t ht
    rw [exec_solo hslot hs]
    exact issueWith_runs hlegal hrun ht
  · rw [exec_solo hslot hs]
    exact issueWith_illegal hcode
  · rw [exec_solo hslot hs]
    exact issueWith_stalls hlegal hstall

end Sys2Proof

/-! Proofs about the C slot (R102 to R119): transfers of control, predicates, format writes and CSRs. -/
namespace Sys2Proof.Machine
set_option Elab.async false

/-- A syllable whose bundle's slots run and whose guard reads 1 has its effect (R56). -/
theorem issueOp_runs {i : Instr} {body : State → State} {s : State} {g : BitVec 3} (h : s.runs g)
    (hg : (infoOf i).guard = g.toNat := by rfl) : issueOp i body s = .next (body s) :=
  issueOp_on h.1 (hg ▸ h.2) rfl

/-! ## Transfers -/

/-- A target inside the code section is recorded (R105). -/
theorem State.transfer_inside {s : State} {t : Int} (h0 : 0 ≤ t) (h1 : t < (s.codeOf s.pre).codeSize) :
    s.transfer t = s.withIssue { s.issue with target := some t.toNat } := if_neg (by omega)

/-- One outside it fails. -/
theorem State.transfer_outside {s : State} {t : Int} (h : t < 0 ∨ ((s.codeOf s.pre).codeSize : Int) ≤ t) :
    s.transfer t = s.fail cSeg 0 0 := if_pos h

@[simp] theorem State.fail_after (s : State) (a b d : Nat) : (s.fail a b d).issue.after = s.issue.after := by
  unfold State.fail; rw [State.raise_eq]; rfl

/-- The address a link takes is the bundle's, whether its transfer failed or not. -/
theorem State.link_eq {s t : State} (h : t.issue.after = s.issue.after) :
    t.link = t.landTo rLk (.fixed 1) (BitVec.ofNat 1024 ((s.issue.after + 15) / 16 * 16)) := by
  unfold State.link State.nextAddr; rw [h]; rfl

theorem State.jump_wide {s : State} {r : BitVec 5} (h : 2 ^ 32 ≤ (s.pre.sreg r.toNat).toNat) : s.jump r = s.fail cSeg 0 0 := if_pos h

theorem State.jump_narrow {s : State} {r : BitVec 5} (h : (s.pre.sreg r.toNat).toNat < 2 ^ 32) :
    s.jump r = s.transfer (s.pre.sreg r.toNat).toNat := if_neg (Nat.not_le.mpr h)

/-- A register target beyond 32 bits or the code section fails. -/
theorem State.jump_outside {s : State} {r : BitVec 5}
    (h : 2 ^ 32 ≤ (s.pre.sreg r.toNat).toNat ∨ ((s.codeOf s.pre).codeSize : Int) ≤ (s.pre.sreg r.toNat).toNat) :
    s.jump r = s.fail cSeg 0 0 := by
  by_cases hw : 2 ^ 32 ≤ (s.pre.sreg r.toNat).toNat
  · exact State.jump_wide hw
  · rw [State.jump_narrow (Nat.not_le.mp hw)]
    exact State.transfer_outside (h.imp (fun h => absurd h hw) id)

/-- Settles O22: each form is a transfer or a jump, with or without a link behind it. -/
theorem controlTransfers : Obligations.ControlTransfers := by
  intro s size base go link
  refine ⟨fun o hr => ?_, fun o hr => ?_, fun o hr => ?_, fun o hr => ?_, fun hnone => ?_, fun p hp => ?_⟩
  · intro t
    have hbr : exec (.br o) s = .next (s.transfer t) := issueOp_runs hr
    have hbrl : exec (.brl o) s = .next (s.transfer t).link := issueOp_runs hr
    refine ⟨fun ⟨h0, h1⟩ => ?_, fun h => ?_⟩
    · have hin : s.transfer t = go t := State.transfer_inside h0 h1
      rw [hbr, hbrl, hin, State.link_eq (s := s) (t := go t) rfl]
      exact ⟨rfl, rfl⟩
    · rw [hbr, hbrl, State.transfer_outside h, State.link_eq (s.fail_after _ _ _)]
      exact ⟨rfl, rfl⟩
  · intro t
    have hbrp : exec (.brp o) s = .next (if s.pre.preg o.p.toNat = decide (o.sense = 1) then s.transfer t else s) := issueOp_runs hr
    refine ⟨fun hp h => ?_, fun hp h => ?_, fun hp => ?_⟩
    · rw [hbrp, if_pos hp, State.transfer_inside h.1 h.2]
    · rw [hbrp, if_pos hp, State.transfer_outside h]
    · rw [hbrp, if_neg hp]
  · have hret : exec (.ret o) s = .next (s.transfer s.pre.lk.toNat) := issueOp_runs hr
    refine ⟨issueOp_runs hr, fun h => ?_, fun h => ?_⟩
    · rw [hret, State.transfer_inside (Int.natCast_nonneg _) h]
    · rw [hret, State.transfer_outside (.inr h)]
  · intro v
    have hjmp : exec (.jmp o) s = .next (s.jump o.s) := issueOp_runs hr
    have hjmpL : exec (.jmpL o) s = .next (s.jump o.s).link := issueOp_runs hr
    refine ⟨fun hw h => ?_, fun h => ?_⟩
    · have hin : s.transfer v = go v := State.transfer_inside (Int.natCast_nonneg _) h
      rw [hjmp, hjmpL, State.jump_narrow hw, hin, State.link_eq (s := s) (t := go v) rfl]
      exact ⟨rfl, rfl⟩
    · rw [hjmp, hjmpL, State.jump_outside h, State.link_eq (s.fail_after _ _ _)]
      exact ⟨rfl, rfl⟩
  · unfold State.fail
    rw [State.raise_eq, hnone]
    rfl
  · unfold State.fail State.raise
    rw [hp]

/-! ## Predicates, formats and CSR reads -/

/-- The CSRs from 0x100 on are the words of the range registers (R380). -/
theorem State.csrRead_range (s : State) (x : Ctx) (n k : Nat) (hk : k < 4) :
    s.csrRead x (0x100 + 4 * n + k) = (Store.get Range.reset x.ranges n).csr k := by
  unfold State.csrRead
  split
  case h_20 => rw [show (0x100 + 4 * n + k - 0x100) / 4 = n by omega, show (0x100 + 4 * n + k) % 4 = k by omega]
  all_goals omega

/-- Settles O23: each form lands the value its effect computes, and `State.csrRead` is a table. -/
theorem predicatesFormatsCsrReads : Obligations.PredicatesFormatsCsrReads := by
  intro s
  refine ⟨fun o hr => ?_, fun o hr => ?_, fun o hr => ?_, fun x => ?_⟩
  · intro a b res
    refine ⟨issueOp_runs hr, issueOp_runs hr, ?_, issueOp_runs hr⟩
    have hx : exec (.pxor o) s = res (a != b) := issueOp_runs hr
    rw [hx]
  · exact issueOp_runs hr
  · exact issueOp_runs hr
  · intro r
    refine ⟨rfl, rfl, rfl, rfl, rfl, rfl, rfl, rfl, rfl, rfl, rfl, rfl, rfl, rfl, rfl, rfl, rfl, rfl, rfl, fun n hn => ?_⟩
    intro g
    have hr (k : Nat) (hk : k < 4) : r (0x100 + 4 * n + k) = g.csr k := s.csrRead_range x n k hk
    refine ⟨hr 0 (by omega), ?_, ?_, ?_⟩
    · rw [show 0x101 + 4 * n = 0x100 + 4 * n + 1 by omega]; exact hr 1 (by omega)
    · rw [show 0x102 + 4 * n = 0x100 + 4 * n + 2 by omega]; exact hr 2 (by omega)
    · rw [show 0x103 + 4 * n = 0x100 + 4 * n + 3 by omega, hr 3 (by omega)]
      cases hw : g.w <;> cases hrd : g.r <;> simp [Range.csr, hw, hrd]

/-! ## CSR writes -/

theorem low32_eq (w : Word) : low32 w = (w.setWidth 32).setWidth 64 := by
  unfold low32
  apply BitVec.eq_of_toNat_eq
  have h := Nat.and_two_pow_sub_one_eq_mod w.toNat 32
  simp only [BitVec.toNat_and, BitVec.toNat_setWidth]
  rw [Nat.mod_eq_of_lt (Nat.lt_trans (Nat.mod_lt _ (by decide)) (by decide : 2 ^ 32 < 2 ^ 64))]
  exact h

/-- Settles O24: `State.csrWrite` is a table of record updates; what one entry updates, the others leave. -/
theorem csrWrites : Obligations.CsrWrites := by
  refine ⟨fun o s hr => ?_, fun _ _ _ => rfl⟩
  intro v e
  have hctx (f : Ctx → Ctx) : (s.upd f).ctx s.cur = f (s.ctx s.cur) := by rw [State.ctx_upd, if_pos rfl]; rfl
  refine ⟨issueOp_runs hr, ?_, fun _ => rfl, fun w => ?_, fun w => ?_, fun w => ?_, fun w => ?_, fun w => ?_, fun w => ?_, fun w => ?_,
    fun n w => ?_, fun w => ?_, fun w => ?_, fun n w hn => ?_⟩
  · have he : wordOf (immS 1 0 o.ext) = e := by unfold e; cases o.ext <;> rfl
    rw [← he]; exact issueOp_runs hr
  · exact congrArg (·.csr.fpctl) (hctx _)
  · exact congrArg (·.csr.srseed) (hctx _)
  · rw [← low32_eq]; exact congrArg (·.csr.stepL0) (hctx _)
  · rw [← low32_eq]; exact congrArg (·.csr.stepL1) (hctx _)
  · rw [← low32_eq]; exact congrArg (·.csr.stepSt) (hctx _)
  · rw [← low32_eq]; exact congrArg (·.csr.stepM) (hctx _)
  · rw [← low32_eq]; exact congrArg (·.csr.stepD) (hctx _)
  · intro x y
    unfold x y State.csrWrite
    dsimp only
    have hissue (i : Issue) : ({ s with issue := i } : State).ctx s.cur = s.ctx s.cur := rfl
    split <;> simp [State.now, hissue]
    case h_11 => rw [decide_eq_false ‹n = 0x021 → False›, Bool.or_false]
  · rw [← low32_eq]; exact congrArg (·.csr.trapPc) (hctx _)
  · exact congrArg (·.csr.trapHandler) (hctx _)
  · unfold State.csrWrite
    dsimp only
    split
    case h_11 => rfl
    all_goals exact absurd hn (by decide)

/-! ## Endings and waits -/

/-- What a retire leaves: RETIRING, with landings, nest, snapshot and scale queue gone. -/
theorem Ctx.retired_parts (x : Ctx) (b : Bundle) :
    let y := x.retired b
    y.state = .retiring ∧ y.queue = [] ∧ y.nest = Nest.reset ∧ y.snapshot = none ∧ y.scaleQ = [] ∧ y.binds = x.binds ∧
    y.units = x.units ∧ y.eng = x.eng ∧ y.handles = x.handles := ⟨rfl, rfl, rfl, rfl, rfl, rfl, rfl, rfl, rfl⟩

theorem State.ending_retire {s : State} {c : Nat} {b : Bundle} {i : Issue} (h : i.ending = 2) :
    (s.ending c b i).ctx c = (s.ctx c).retired b := by
  simp only [State.ending, h, State.ctx_modCtx, if_true]

/-- Settles O26: the effects as `exec` gives them, and the table of `State.ending`. -/
theorem endingsAndWaits : Obligations.EndingsAndWaits := by
  refine ⟨fun s => ⟨fun o hr => ⟨issueOp_runs hr, issueOp_runs hr⟩,
      fun o hr => ⟨issueOp_runs hr, issueOp_runs hr, issueOp_runs hr⟩, fun o hr => ?_, fun o ha => issueOp_on ha rfl rfl⟩,
    fun s c b i => ⟨fun h => ?_, fun h => ?_, fun h => ?_⟩⟩
  · intro v
    have hwait : exec (.wait o) s =
        .next (if (s.pre.handle o.h.toNat).isWaymark then s.acquireAt 1 o.h.toNat else s.fail cOperand 11 0) := issueOp_runs hr
    have hwaitc : exec (.waitc o) s = .next (if v / 2 ^ 14 = 0 then s.acquire s.cur s.issue.scope fun _ => true
        else if v / 2 ^ 60 = 1 ∧ v % 2 ^ 60 / 16 = 0 then s.acquireAt 2 (v % 16) else s.fail cOperand 11 0) := issueOp_runs hr
    refine ⟨issueOp_runs hr, issueOp_runs hr, fun h => ?_, fun h => ?_, fun h => ?_, fun b hb h => ?_, fun h hno => ?_⟩
    · rw [hwait, if_pos h]; rfl
    · rw [hwait, if_neg (by simp [h])]
    · rw [hwaitc, if_pos (by omega)]
    · rw [hwaitc, if_neg (by omega), if_pos (by omega), show v % 16 = b by omega]; rfl
    · have hbar : ¬(v / 2 ^ 60 = 1 ∧ v % 2 ^ 60 / 16 = 0) := fun ⟨h1, h2⟩ => hno (v % 16) (by omega) (by omega)
      rw [hwaitc, if_neg (by omega), if_neg hbar]
  · simp only [State.ending, h]
  · simp only [State.ending, h]
  · rw [State.ending_retire h]; exact (s.ctx c).retired_parts b

end Sys2Proof.Machine

/-! Proofs about loop nests (R107, R108, R110, R111): declaring and opening a nest, and what its loop-end mark does to the counters. -/
namespace Sys2Proof.Machine
set_option Elab.async false

/-! ## Several counters at once -/

/-- Give each key of a list its value. -/
def setAll (m : Store Word32) (l : Store Word32) : Store Word32 := l.foldl (fun m e => Store.set 0 m e.1 e.2) m

/-- A key that is not listed again is another one. -/
theorem key_ne {α : Type} {l : Store α} {k : Nat} {e : Nat × α} (h : k ∉ l.map (·.1)) (he : e ∈ l) : e.1 ≠ k :=
  fun hk => h (List.mem_map.mpr ⟨e, he, hk⟩)

theorem setAll_cons (m : Store Word32) (e : Nat × Word32) (l : Store Word32) : setAll m (e :: l) = setAll (Store.set 0 m e.1 e.2) l := rfl

/-- A key that is not listed keeps its value. -/
theorem get_setAll_other (m l : Store Word32) (k : Nat) (h : ∀ e ∈ l, e.1 ≠ k) : Store.get 0 (setAll m l) k = Store.get 0 m k := by
  induction l generalizing m with
  | nil => rfl
  | cons e l ih =>
    obtain ⟨he, hl⟩ := List.forall_mem_cons.mp h
    rw [setAll_cons, ih _ hl, Store.get_set, if_neg he.symm]

/-- Of keys listed once each has its value. -/
theorem get_setAll_mem (m l : Store Word32) (hl : (l.map (·.1)).Nodup) (e : Nat × Word32) (he : e ∈ l) :
    Store.get 0 (setAll m l) e.1 = e.2 := by
  induction l generalizing m with
  | nil => exact absurd he List.not_mem_nil
  | cons f l ih =>
    rw [List.map_cons, List.nodup_cons] at hl
    rw [setAll_cons]
    rcases List.mem_cons.mp he with rfl | he
    · rw [get_setAll_other _ _ _ fun g hg => key_ne hl.1 hg, Store.get_set, if_pos rfl]
    · exact ih _ hl.2 he

/-- Rising keys are listed once. -/
theorem keys_nodup_of_rising {α : Type} (l : Store α) (h : Store.rising l = true) : (l.map (·.1)).Nodup := by
  induction l with
  | nil => exact List.nodup_nil
  | cons e l ih =>
    simp only [Store.rising, Bool.and_eq_true, List.all_eq_true, decide_eq_true_eq] at h
    rw [List.map_cons, List.nodup_cons]
    refine ⟨fun hm => ?_, ih h.2⟩
    obtain ⟨f, hf, hfe⟩ := List.mem_map.mp hm
    exact absurd (h.1 f hf) (by omega)

/-- The dimensions of a list at their end. -/
def atZero (l : Store Word32) : Store Word32 := l.map fun e => (e.1, 0)

theorem get_atZero_other (m l : Store Word32) (k : Nat) (h : ∀ e ∈ l, e.1 ≠ k) :
    Store.get 0 (setAll m (atZero l)) k = Store.get 0 m k :=
  get_setAll_other _ _ _ fun e he => by
    obtain ⟨f, hf, rfl⟩ := List.mem_map.mp he
    exact h f hf

theorem get_atZero_mem (m l : Store Word32) (hl : (l.map (·.1)).Nodup) (e : Nat × Word32) (he : e ∈ l) :
    Store.get 0 (setAll m (atZero l)) e.1 = 0 :=
  get_setAll_mem m (atZero l) (by rw [atZero, List.map_map]; exact hl) (e.1, 0) (List.mem_map_of_mem (f := fun e => (e.1, (0 : Word32))) he)

/-! ## The loop-end mark -/

/-- Dimensions at their last trip go to 0, and the step looks at the next one. -/
theorem loopStep_last (acc inner rest lc : Store Word32) (hone : ∀ e ∈ inner, Store.get 0 lc e.1 = 1) (hnd : (inner.map (·.1)).Nodup) :
    loopStep acc lc (inner ++ rest) = loopStep (acc ++ inner) (setAll lc (atZero inner)) rest := by
  induction inner generalizing acc lc with
  | nil => rw [List.append_nil]; rfl
  | cons e inner ih =>
    obtain ⟨he, htail⟩ := List.forall_mem_cons.mp hone
    rw [List.map_cons, List.nodup_cons] at hnd
    have hv : Store.get 0 lc e.1 - 1 = 0 := by rw [he]; rfl
    have htail' : ∀ f ∈ inner, Store.get 0 (Store.set 0 lc e.1 0) f.1 = 1 := fun f hf => by
      rw [Store.get_set, if_neg (key_ne hnd.1 hf)]
      exact htail f hf
    rw [List.cons_append, loopStep, hv, if_neg (fun h => h rfl), ih _ _ htail' hnd.2, List.append_assoc]
    rfl

/-- The innermost dimension that is not at its last trip counts, and those inside it start again. -/
theorem loopStep_again (acc rest lc : Store Word32) (d : Nat) (t : Word32) (hd : Store.get 0 lc d ≠ 1) :
    loopStep acc lc ((d, t) :: rest) = (setAll (Store.set 0 lc d (Store.get 0 lc d - 1)) acc, true) := by
  have hv : Store.get 0 lc d - 1 ≠ 0 := fun h => hd (by bv_omega)
  rw [loopStep, if_pos hv]
  rfl

/-- The body of an open nest starts again. -/
theorem Ctx.loopEnd_again {x : Ctx} {lc : Store Word32} (ho : x.nest.isOpen = true) (h : loopStep [] x.lc x.nest.dims = (lc, true)) :
    x.loopEnd = { x with
      lc := lc
      pc := x.nest.body
      nest := { x.nest with
        pos := 0
        replay := true } } := by
  unfold Ctx.loopEnd
  rw [h, if_neg (by simp [ho])]
  rfl

/-- An open nest closes. -/
theorem Ctx.loopEnd_closes {x : Ctx} {lc : Store Word32} (ho : x.nest.isOpen = true) (h : loopStep [] x.lc x.nest.dims = (lc, false)) :
    x.loopEnd = ({ x with lc := lc } : Ctx).closeNest := by
  unfold Ctx.loopEnd
  rw [h, if_neg (by simp [ho])]
  rfl

/-! ## Opening a nest -/

/-- The counters of a nest land, each after 1 tick. -/
def State.landCounters (s : State) (dims : Store Word32) : State :=
  dims.foldl (fun (t : State) d => t.landTo { file := .lc, idx := d.1 } (.fixed 1) (vOf d.2)) s

/-- The landing of one counter. -/
def State.counterLanding (s : State) (d : Nat × Word32) : Landing :=
  { dest := { file := .lc, idx := d.1 }, value := vOf d.2, mask := allV, left := 1, order := s.landedBefore }

theorem State.landCounter_eq (s : State) (d : Nat × Word32) :
    s.landTo { file := .lc, idx := d.1 } (.fixed 1) (vOf d.2) = s.upd fun x => x.withQueue (x.queue ++ [s.counterLanding d]) :=
  State.landMask_eq s _ _ _ _ rfl

/-- They join the landing queue in the order of the dimensions, and nothing else of the context changes. -/
theorem State.landCounters_spec (s : State) (dims : Store Word32) :
    (s.landCounters dims).cur = s.cur ∧ (s.landCounters dims).issue = s.issue ∧
    ∃ l : List Landing, (s.landCounters dims).ctx s.cur = (s.ctx s.cur).withQueue ((s.ctx s.cur).queue ++ l) ∧
      l.map (fun e => (e.dest, e.value, e.mask, e.left)) = dims.map fun d => (({ file := .lc, idx := d.1 } : Dest), vOf d.2, allV, 1) := by
  induction dims generalizing s with
  | nil => exact ⟨rfl, rfl, [], by rw [List.append_nil]; rfl, rfl⟩
  | cons d dims ih =>
    have hcons : s.landCounters (d :: dims) = (s.upd fun x => x.withQueue (x.queue ++ [s.counterLanding d])).landCounters dims :=
      congrArg (State.landCounters · dims) (s.landCounter_eq d)
    obtain ⟨hcur, hissue, l, hctx, hl⟩ := ih (s.upd fun x => x.withQueue (x.queue ++ [s.counterLanding d]))
    rw [hcons, hcur, hissue]
    refine ⟨rfl, rfl, s.counterLanding d :: l, ?_, ?_⟩
    · refine hctx.trans ?_
      rw [State.upd_cur, State.ctx_upd, if_pos rfl]
      simp [Ctx.withQueue, State.now]
    · rw [List.map_cons, List.map_cons, hl]
      rfl

/-- What loop leaves: the nest open at the next bundle, its counters landing, and the skip asked for where a trip count is 0 (R108, R111). -/
theorem State.openNest_spec (s : State) (dims : Store Word32) (hd : (s.ctx s.cur).nest.dims = dims) :
    (s.openNest.ctx s.cur).nest =
      { dims := dims, isOpen := true, body := (s.landCounters dims).bundleFrom s.cur s.issue.after, pos := 0, buffer := [], replay := false } ∧
    s.openNest.issue.skip = dims.any (fun d => d.2 == 0) ∧
    ∃ l : List Landing, (s.openNest.ctx s.cur).queue = (s.ctx s.cur).queue ++ l ∧
      l.map (fun e => (e.dest, e.value, e.mask, e.left)) = dims.map fun d => (({ file := .lc, idx := d.1 } : Dest), vOf d.2, allV, 1) := by
  obtain ⟨hcur, hissue, l, hctx, hl⟩ := s.landCounters_spec dims
  have ho : s.openNest.ctx s.cur = { (s.landCounters dims).ctx s.cur with nest := { ((s.landCounters dims).ctx s.cur).nest with
      isOpen := true
      body := (s.landCounters dims).bundleFrom s.cur s.issue.after
      pos := 0
      buffer := []
      replay := false } } := by
    have hopen : s.openNest.ctx = ((s.landCounters dims).upd fun x => { x with nest := { x.nest with
        isOpen := true
        body := (s.landCounters dims).bundleFrom (s.landCounters dims).cur (s.landCounters dims).issue.after
        pos := 0
        buffer := []
        replay := false } }).ctx := by rw [← hd]; rfl
    rw [hopen, State.ctx_upd, hcur, if_pos rfl, hissue, State.now, hcur]
  rw [ho, hctx]
  refine ⟨by rw [← hd]; rfl, ?_, l, rfl, hl⟩
  rw [← hd]; rfl

/-- Settles O25: `State.openNest_spec` for loop, `loopStep_last` and then `loopStep_again` or the closing nest for the loop-end mark. -/
theorem loops : Obligations.Loops := by
  refine ⟨fun o s hr => ?_, fun x d t inner rest ho hdims hrise hone hd => ?_, fun x ho hone hrise => ?_⟩
  · intro n dims declared
    refine ⟨issueOp_runs hr, issueOp_runs hr, ?_⟩
    intro u
    have hctx : declared.ctx s.cur = { s.ctx s.cur with nest := { (s.ctx s.cur).nest with dims := dims } } := by
      rw [State.ctx_upd, if_pos rfl]; rfl
    obtain ⟨hnest, hskip, l, hq, hl⟩ := State.openNest_spec declared dims (congrArg (·.nest.dims) hctx)
    have hnest' : (u.ctx s.cur).nest = _ := hnest
    rw [hnest']
    refine ⟨rfl, rfl, rfl, rfl, hskip, ?_, fun e he => ?_, l, hq.trans ?_, hl⟩
    · rw [Store.get_put, if_pos rfl]
    · rw [Store.get_put, if_neg he]
    · exact congrArg (·.queue ++ l) hctx
  · have hnd := keys_nodup_of_rising _ hrise
    rw [hdims, List.map_append, List.nodup_append] at hnd
    obtain ⟨hnd, -, hdis⟩ := hnd
    have hother : ∀ e ∈ inner, e.1 ≠ d := fun e he => hdis _ (List.mem_map_of_mem he) d List.mem_cons_self
    have hget : Store.get 0 (setAll x.lc (atZero inner)) d = Store.get 0 x.lc d := get_atZero_other _ _ _ hother
    have hstep := loopStep_last [] inner ((d, t) :: rest) x.lc hone hnd
    rw [loopStep_again _ _ _ _ _ (by rw [hget]; exact hd), ← hdims, List.nil_append, hget] at hstep
    rw [Ctx.loopEnd_again ho hstep]
    refine ⟨rfl, ho, rfl, ?_, fun e he => get_setAll_mem _ _ hnd e he, fun e he hin => ?_, rfl⟩
    · exact (get_setAll_other _ _ _ hother).trans (by rw [Store.get_set, if_pos rfl])
    · refine (get_setAll_other _ _ _ hin).trans ?_
      rw [Store.get_set, if_neg he, get_atZero_other _ _ _ hin]
  · have hnd := keys_nodup_of_rising _ hrise
    have hstep := loopStep_last [] x.nest.dims [] x.lc hone hnd
    rw [List.append_nil] at hstep
    rw [Ctx.loopEnd_closes ho hstep]
    exact ⟨rfl, rfl, fun e he => get_atZero_mem _ _ hnd e he⟩

end Sys2Proof.Machine

/-! Proofs about the S slot (R19, R124 to R132): register forms, division, immediate forms, moves between files and FP32. -/
namespace Sys2Proof.Machine
set_option Elab.async false

/-! ## Counts of bits -/

theorem clzN_le (n x : Nat) : clzN n x ≤ n := by
  induction n with
  | zero => exact Nat.le_refl 0
  | succ n ih => unfold clzN; split <;> omega

/-- The bits above the leading one are the zeros counted. -/
theorem clzN_spec (n x : Nat) (h : x < 2 ^ n) : x < 2 ^ (n - clzN n x) ∧ (clzN n x < n → 2 ^ (n - 1 - clzN n x) ≤ x) := by
  induction n with
  | zero => exact ⟨h, fun h => absurd h (Nat.not_lt_zero _)⟩
  | succ n ih =>
    unfold clzN
    split
    · next hge => exact ⟨h, fun _ => hge⟩
    · next hlt =>
      obtain ⟨h1, h2⟩ := ih (Nat.not_le.mp hlt)
      rw [show n + 1 - (1 + clzN n x) = n - clzN n x by omega, show n + 1 - 1 - (1 + clzN n x) = n - 1 - clzN n x by omega]
      exact ⟨h1, fun hl => h2 (by omega)⟩

theorem ctzN_le (n x : Nat) : ctzN n x ≤ n := by
  induction n generalizing x with
  | zero => exact Nat.le_refl 0
  | succ n ih => have := ih (x / 2); unfold ctzN; split <;> omega

/-- The bits below the trailing one are the zeros counted. -/
theorem ctzN_spec (n x : Nat) : x % 2 ^ ctzN n x = 0 ∧ (ctzN n x < n → x / 2 ^ ctzN n x % 2 = 1) := by
  induction n generalizing x with
  | zero => exact ⟨Nat.mod_one x, fun h => absurd h (Nat.not_lt_zero _)⟩
  | succ n ih =>
    unfold ctzN
    split
    · next hodd => exact ⟨Nat.mod_one x, fun _ => by rw [Nat.pow_zero, Nat.div_one]; exact hodd⟩
    · next heven =>
      obtain ⟨h1, h2⟩ := ih (x / 2)
      rw [Nat.add_comm 1, Nat.pow_succ', Nat.mod_mul, h1, ← Nat.div_div_eq_div_mul]
      exact ⟨by omega, fun hl => h2 (by omega)⟩

/-- The ones of `x`, counted bit by bit from below. -/
theorem popcountN_eq (n x : Nat) : popcountN n x = ((List.range n).filter fun i => x.testBit i).length := by
  induction n generalizing x with
  | zero => rfl
  | succ n ih =>
    have hshift : ((fun i => x.testBit i) ∘ Nat.succ) = fun i => (x / 2).testBit i := funext fun i => Nat.testBit_succ x i
    rw [popcountN, ih, List.range_succ_eq_map, List.filter_cons, Nat.testBit_zero, List.filter_map, hshift]
    rcases Nat.mod_two_eq_zero_or_one x with h | h <;> simp [h, Nat.add_comm]

/-! ## Signed fields -/

/-- The signed value of a field is the value of the two's complement word. -/
theorem signedN_toNat {n : Nat} (x : BitVec (n + 1)) : signedN x.toNat (n + 1) = x.toInt := by
  have hlt := x.isLt
  rw [signedN, BitVec.toInt_eq_toNat_cond, Nat.mod_eq_of_lt hlt, Nat.add_sub_cancel, Nat.pow_succ']
  rcases Nat.lt_or_ge x.toNat (2 ^ n) with h | h
  · rw [if_pos h, if_pos (by omega)]
  · rw [if_neg (by omega), if_neg (by omega)]; rw [Int.natCast_mul, Int.natCast_pow]; exact congrArg _ (Int.pow_succ' _ _)

/-- A signed immediate is its field, or its extension word, sign-extended. -/
theorem ofInt_immS {n : Nat} (w : Nat) (x : BitVec (n + 1)) (ext : Option Word32) : BitVec.ofInt w (immS (n + 1) x.toNat ext) =
    (match ext with | none => x.signExtend w | some e => e.signExtend w) := by
  cases ext with
  | none => rw [immS, signedN_toNat]; rfl
  | some e => rfl

/-- The low half of a word made of an integer. -/
theorem setWidth_ofInt64 (x : Int) : (BitVec.ofInt 64 x).setWidth 32 = BitVec.ofInt 32 x := by
  apply BitVec.eq_of_toNat_eq
  simp only [BitVec.toNat_setWidth, BitVec.toNat_ofInt]
  omega

/-! ## Register forms -/

theorem slt_eq_decide (a b : Word) : a.slt b = decide (a.toInt < b.toInt) := rfl
theorem ult_eq_decide (a b : Word) : a.ult b = decide (a.toNat < b.toNat) := rfl

/-- Settles O19: each register form is one landing; the counts by the lemmas about `clzN`, `ctzN` and `popcountN`. -/
theorem scalarRegisterForms : Obligations.ScalarRegisterForms := by
  refine ⟨fun o s hr => ?_, fun o s hr => ?_⟩
  · intro a b al bl res
    have hmin : exec (.min_ o) s = res 0 (if b.slt a then b else a) := issueOp_runs hr
    have hmax : exec (.max_ o) s = res 0 (if a.slt b then b else a) := issueOp_runs hr
    have hminu : exec (.minu o) s = res 0 (if b.ult a then b else a) := issueOp_runs hr
    have hmaxu : exec (.maxu o) s = res 0 (if a.ult b then b else a) := issueOp_runs hr
    simp only [slt_eq_decide, ult_eq_decide, decide_eq_true_eq] at hmin hmax hminu hmaxu
    exact ⟨issueOp_runs hr, issueOp_runs hr, issueOp_runs hr, issueOp_runs hr, issueOp_runs hr, issueOp_runs hr, issueOp_runs hr,
      issueOp_runs hr, issueOp_runs hr, issueOp_runs hr, issueOp_runs hr, issueOp_runs hr, issueOp_runs hr, hmin, hmax, hminu, hmaxu,
      issueOp_runs hr, issueOp_runs hr, issueOp_runs hr, issueOp_runs hr, issueOp_runs hr, issueOp_runs hr, issueOp_runs hr⟩
  · intro a
    obtain ⟨hc, hcl⟩ := clzN_spec 64 a (s.pre.sreg o.a.toNat).isLt
    obtain ⟨ht, htl⟩ := ctzN_spec 64 a
    have hp : exec (.popc o) s = .next (s.landW (rS o.d) (.cls 0) (BitVec.ofNat 64 (popcountN 64 a))) := issueOp_runs hr
    rw [popcountN_eq] at hp
    exact ⟨⟨clzN 64 a, issueOp_runs hr, clzN_le 64 a, hc, hcl⟩, ⟨ctzN 64 a, issueOp_runs hr, ctzN_le 64 a, ht, htl⟩, hp⟩

/-- A division's operands are those of the bundle's start, whether it raises DZ or not. -/
theorem divOp_eq (o : SR) (low : Bool) (f : Word → Word → Word) (s : State) (z : Bool)
    (hz : (if low then (s.pre.sreg o.b.toNat).setWidth 32 == 0#32 else s.pre.sreg o.b.toNat == 0) = z) :
    divOp o low f s = (if z then s.flag flagDZ else s).hidden (rS o.d) (f (s.pre.sreg o.a.toNat) (s.pre.sreg o.b.toNat)).toNat := by
  subst hz
  have hpre (c : Bool) : (if c then s.flag flagDZ else s).pre = s.pre := by cases c <;> rfl
  simp only [divOp, hpre]

/-- Settles O20: each division form is one hidden result of `divOp`. -/
theorem scalarDivision : Obligations.ScalarDivision := by
  intro o s hr a b al bl res
  have hw (f : Word → Word → Word) : divOp o false f s = _ := divOp_eq o false f s (b == 0) rfl
  have hl (f : Word → Word → Word) : divOp o true f s = _ := divOp_eq o true f s (bl == 0#32) rfl
  have hn {t u : State} (h : t = u) : (.next t : Out) = .next u := congrArg _ h
  exact ⟨(issueOp_runs hr).trans (hn (hw _)), (issueOp_runs hr).trans (hn (hw _)), (issueOp_runs hr).trans (hn (hw _)),
    (issueOp_runs hr).trans (hn (hw _)), (issueOp_runs hr).trans (hn (hl _)), (issueOp_runs hr).trans (hn (hl _)),
    (issueOp_runs hr).trans (hn (hl _)), (issueOp_runs hr).trans (hn (hl _))⟩

/-- Settles O21: the signed immediates are their fields sign-extended (`ofInt_immS`); the other forms are one landing each. -/
theorem scalarImmediateAndFloatForms : Obligations.ScalarImmediateAndFloatForms := by
  refine ⟨fun s => ⟨fun o hr => issueOp_runs hr, fun o hr => issueOp_runs hr, fun o hr => ?_, fun o hr => ?_, fun o hr => ?_⟩, fun o s hr => ?_⟩
  · intro a b
    have hb : SI.value o = b := ofInt_immS 64 o.imm o.ext
    rw [← hb]
    exact ⟨issueOp_runs hr, issueOp_runs hr, issueOp_runs hr, issueOp_runs hr, issueOp_runs hr, issueOp_runs hr, issueOp_runs hr, issueOp_runs hr⟩
  · intro b
    have hb : wordOf (immS 15 o.imm.toNat o.ext) = b := ofInt_immS 64 o.imm o.ext
    have hh : BitVec.ofInt 32 (immS 15 o.imm.toNat o.ext) = b.setWidth 32 := by rw [← hb]; exact (setWidth_ofInt64 _).symm
    rw [← hh, ← hb]
    exact ⟨issueOp_runs hr, issueOp_runs hr⟩
  · exact ⟨issueOp_runs hr, issueOp_runs hr, issueOp_runs hr, issueOp_runs hr⟩
  · exact ⟨issueOp_runs hr, issueOp_runs hr, issueOp_runs hr, issueOp_runs hr⟩

end Sys2Proof.Machine

/-! Words written out, the state after reset, and units the module does not have. -/
namespace Sys2Proof.Machine
set_option Elab.async false

/-- Settles O1: the decoder evaluates each word. -/
theorem wordsDecode : Obligations.WordsDecode := by
  refine ⟨?_, ?_, ?_, ?_, ?_, ?_, ?_, ?_, ?_⟩ <;> rfl

/-- Settles O5: the state after reset is written out, so each part is read off it. -/
theorem resetState : Obligations.ResetState := by
  refine ⟨⟨fun _ => rfl, rfl, rfl, rfl, rfl, rfl, rfl, fun _ => rfl, fun q => ⟨rfl, rfl, rfl, rfl, rfl, rfl, rfl, rfl, rfl⟩, fun _ => rfl,
    fun _ => ⟨rfl, rfl, rfl, rfl, rfl, rfl, rfl, rfl⟩, rfl, rfl, rfl, rfl, rfl, rfl, rfl, rfl, rfl, rfl, rfl, rfl, rfl, rfl, fun _ _ => rfl⟩, rfl⟩

/-- Settles O60: each event's first test is that of its unit's number. -/
theorem unitsOutOfRange : Obligations.UnitsOutOfRange := by
  intro s n m b w f
  simp only [List.forall_mem_cons, List.not_mem_nil, false_implies, implies_true, and_true]
  refine ⟨fun h => ?_, fun h => ?_, fun h k => ?_, fun h k => ?_, fun h => ?_, fun h k => ?_, fun h => ?_, fun h => ?_, fun h => ?_, fun h => ?_,
    fun h => ?_, fun h => ?_, fun h => ?_⟩
  · exact ⟨onCtx_of_ge h, onCtx_of_ge h, onCtx_of_ge h, onCtx_of_ge h, onCtx_of_ge h, onCtx_of_ge h, onCtx_of_ge h, onCtx_of_ge h, onCtx_of_ge h, onCtx_of_ge h, onCtx_of_ge h, onCtx_of_ge h, onCtx_of_ge h, onCtx_of_ge h, onCtx_of_ge h, if_pos h, onCtx_of_ge h, onCtx_of_ge h⟩
  · exact ⟨if_pos (.inl h), if_pos h, if_pos h, if_pos (.inr h)⟩
  · exact ⟨if_pos h, fun _ => if_pos h⟩
  · exact if_neg (Nat.not_lt.mpr h)
  · exact if_pos (.inr h)
  · exact if_pos (.inr h)
  · exact ⟨if_pos h, if_pos h, if_pos h, if_pos h, if_pos h⟩
  · exact ⟨if_pos h, if_pos h, if_pos (.inl h)⟩
  · exact ⟨if_pos h, if_pos (.inl h), if_pos (.inl h), if_pos h⟩
  · exact ⟨if_pos h, if_pos h, if_pos h, if_pos h, if_pos h, if_pos h, if_pos h, if_pos h⟩
  · exact ⟨if_pos h, if_pos h, if_neg (Nat.not_lt.mpr h), if_neg (Nat.not_lt.mpr h), if_neg (Nat.not_lt.mpr h), if_neg (Nat.not_lt.mpr h), if_pos h⟩
  · exact ⟨if_pos h, if_pos (.inr h)⟩
  · exact if_pos h

end Sys2Proof.Machine

/-! Proofs about the packets of a command queue (R439, R440). -/
namespace Sys2Proof.Machine
set_option Elab.async false

/-! ## The bits of a packet -/

/-- A field of the body, by the number that the body is. -/
theorem pkt_body {b : VWord} {B : Nat} (hB : b.toNat / 2 ^ 128 = B) (lo len : Nat) : pkt b (lo + 128) len = B / 2 ^ lo % 2 ^ len := by
  rw [pkt, ← hB, Nat.div_div_eq_div_mul, ← Nat.pow_add, Nat.add_comm lo]

/-- Fields that follow each other, from bit `k` on. -/
def Rising : Nat → List (Nat × Nat) → Prop
  | _, [] => True
  | k, f :: l => k ≤ f.1 ∧ Rising (f.1 + f.2) l

theorem and_field (n lo len : Nat) : n &&& ((2 ^ len - 1) * 2 ^ lo) = 2 ^ lo * (n / 2 ^ lo % 2 ^ len) := by
  apply Nat.eq_of_testBit_eq
  intro i
  rw [Nat.mul_comm]
  simp only [Nat.testBit_and, Nat.testBit_two_pow_sub_one, Nat.testBit_two_pow_mul, Nat.testBit_mod_two_pow, Nat.testBit_div_two_pow]
  by_cases h : lo ≤ i
  · rw [Nat.sub_add_cancel h]; simp [h, Bool.and_comm]
  · simp [h]

/-- Masked by fields that follow each other, a number is the sum of its fields. -/
theorem and_fields (n k m : Nat) (l : List (Nat × Nat)) (hm : m < 2 ^ k) (hl : Rising k l) :
    (n &&& l.foldl (fun m f => m ||| ((2 ^ f.2 - 1) * 2 ^ f.1)) m) = (n &&& m) + (l.map fun f => 2 ^ f.1 * (n / 2 ^ f.1 % 2 ^ f.2)).sum := by
  induction l generalizing k m with
  | nil => rfl
  | cons f l ih =>
    obtain ⟨hk, hl⟩ := hl
    have hf : (2 ^ f.2 - 1) * 2 ^ f.1 < 2 ^ (f.1 + f.2) := by
      rw [Nat.pow_add, Nat.mul_comm]
      exact Nat.mul_lt_mul_of_pos_left (Nat.sub_lt (Nat.two_pow_pos _) Nat.one_pos) (Nat.two_pow_pos _)
    have hm1 : m < 2 ^ f.1 := Nat.lt_of_lt_of_le hm (Nat.pow_le_pow_right (by omega) hk)
    have hm2 : m < 2 ^ (f.1 + f.2) := Nat.lt_of_lt_of_le hm1 (Nat.pow_le_pow_right (by omega) (by omega))
    rw [List.foldl_cons, ih (f.1 + f.2) _ (Nat.or_lt_two_pow hm2 hf) hl, Nat.and_or_distrib_left, and_field, Nat.or_comm,
      ← Nat.two_pow_add_eq_or_of_lt (Nat.lt_of_le_of_lt Nat.and_le_right hm1), List.map_cons, List.sum_cons]
    omega

theorem Rising.shift (c : Nat) (l : List (Nat × Nat)) : ∀ k, Rising k l → Rising (k + c) (l.map fun f => (f.1 + c, f.2)) := by
  induction l with
  | nil => exact fun _ _ => trivial
  | cons f l ih => exact fun k h => ⟨Nat.add_le_add_right h.1 _, Nat.add_right_comm .. ▸ ih _ h.2⟩

/-- Fields read above bit `c` sum to a multiple of it. -/
theorem sum_shift (n c : Nat) (l : List (Nat × Nat)) : ((l.map fun f => (f.1 + c, f.2)).map fun f => 2 ^ f.1 * (n / 2 ^ f.1 % 2 ^ f.2)).sum
    = 2 ^ c * (l.map fun f => 2 ^ f.1 * (n / 2 ^ (f.1 + c) % 2 ^ f.2)).sum := by
  induction l with
  | nil => rfl
  | cons f l ih => simp only [List.map_cons, List.sum_cons, ih]; rw [Nat.mul_add, Nat.pow_add, Nat.mul_comm (2 ^ f.1), Nat.mul_assoc]

/-- A packet is clean exactly where its body is the sum of the fields listed. -/
theorem pktClean_iff {b : VWord} {B : Nat} (hB : b.toNat / 2 ^ 128 = B) {l : List (Nat × Nat)} (hl : Rising 0 l) :
    pktClean b (l.map fun f => (f.1 + 128, f.2)) = decide (B = (l.map fun f => 2 ^ f.1 * pkt b (f.1 + 128) f.2).sum) := by
  rw [pktClean, and_fields _ 128 0 _ (Nat.two_pow_pos _) (Nat.zero_add 128 ▸ hl.shift 128), Nat.and_zero, Nat.zero_add, sum_shift, hB, Nat.mul_comm]
  exact decide_eq_decide.mpr (Nat.mul_right_inj (Nat.ne_of_gt (Nat.two_pow_pos 128)))

/-! ## What a packet decodes to -/

/-- The header of a packet (R439). -/
def pktHdr (q e asid : Nat) (b : VWord) : PktHdr :=
  { queue := q, entry := e, opc := pkt b 0 7, tag := pkt b 16 16, cmpl := pkt b 64 64, asid := asid }

/-- A header that keeps its limits (R439). -/
def PktHeadOk (b : VWord) : Prop := pkt b 8 8 = 0 ∧ pkt b 32 32 = 0 ∧ pkt b 64 64 % 16 = 0 ∧ pkt b 64 64 < 2 ^ 52

section
variable {q e asid : Nat} {super : Bool} {b : VWord} {i j : Instr} {ok : Bool}

theorem decodePacket_head_bad (h : ¬PktHeadOk b) : decodePacket q e asid super b = .bad (pktHdr q e asid b) := by
  have hd : (decide (pkt b 8 8 = 0) && decide (pkt b 32 32 = 0) && decide (pkt b 64 64 % 16 = 0) && decide (pkt b 64 64 < 2 ^ 52)) = false := by
    simpa [PktHeadOk, and_assoc] using h
  simp only [decodePacket, hd]
  split
  · rfl
  · rfl

theorem pktBody_unlisted {h : PktHdr} {n : Nat} (hn : n = 0 ∨ 22 < n) : pktBody h b n = none := by
  unfold pktBody
  split
  case h_23 => rfl
  all_goals omega

theorem decodePacket_unlisted (hn : pkt b 0 7 = 0 ∨ 22 < pkt b 0 7) : decodePacket q e asid super b = .bad (pktHdr q e asid b) := by
  simp only [decodePacket, pktBody_unlisted hn]
  rfl

/-- What a packet with a good header decodes to, by what its body says. -/
theorem decodePacket_of (hd : PktHeadOk b) (hb : pktBody (pktHdr q e asid b) b (pkt b 0 7) = some (i, ok)) :
    decodePacket q e asid super b =
      if ok then (if pktSuper (pkt b 0 7) && !super then .denied (pktHdr q e asid b) else .ok i) else .bad (pktHdr q e asid b) := by
  obtain ⟨h1, h2, h3, h4⟩ := hd
  rw [pktHdr] at hb ⊢
  simp only [decodePacket, hb, h1, h2, h3, h4]
  cases ok <;> rfl

/-- A packet that any queue may carry, whose limits are `P`. -/
theorem decodePacket_any (hd : PktHeadOk b) (hb : pktBody (pktHdr q e asid b) b (pkt b 0 7) = some (j, ok)) (hs : pktSuper (pkt b 0 7) = false)
    (hj : j = i) {P : Prop} [Decidable P] (hok : ok = true ↔ P) :
    decodePacket q e asid super b = if P then .ok i else .bad (pktHdr q e asid b) := by
  rw [decodePacket_of hd hb, hs, hj]
  exact ite_congr (propext hok) (fun _ => rfl) fun _ => rfl

/-- A supervisor's packet inside its limits. -/
theorem decodePacket_super (hd : PktHeadOk b) (hb : pktBody (pktHdr q e asid b) b (pkt b 0 7) = some (j, ok)) (hs : pktSuper (pkt b 0 7) = true)
    (hj : j = i) (hok : ok = true) : decodePacket q e asid super b = if super then .ok i else .denied (pktHdr q e asid b) := by
  rw [decodePacket_of hd hb, hs, hj, hok]
  cases super <;> rfl

/-- A packet off its limits. -/
theorem decodePacket_off (hd : PktHeadOk b) (hb : pktBody (pktHdr q e asid b) b (pkt b 0 7) = some (i, ok)) (hok : ok = false) :
    decodePacket q e asid super b = .bad (pktHdr q e asid b) := by
  rw [decodePacket_of hd hb, hok]; rfl

/-- A body that is the sum of its fields is clean. -/
theorem pktClean_sum {B : Nat} (hB : b.toNat / 2 ^ 128 = B) (l : List (Nat × Nat)) (hl : Rising 0 l)
    (hs : B = (l.map fun f => 2 ^ f.1 * pkt b (f.1 + 128) f.2).sum) : pktClean b (l.map fun f => (f.1 + 128, f.2)) = true :=
  (pktClean_iff hB hl).trans (decide_eq_true hs)

/-- A body beyond the last of the fields listed is not clean. -/
theorem pktClean_beyond (l : List (Nat × Nat)) (hl : Rising 0 l)
    (hs : (l.map fun f => 2 ^ f.1 * pkt b (f.1 + 128) f.2).sum < b.toNat / 2 ^ 128) : pktClean b (l.map fun f => (f.1 + 128, f.2)) = false :=
  (pktClean_iff rfl hl).trans (decide_eq_false (Nat.ne_of_gt hs))

theorem pkt_lt (lo len : Nat) : pkt b lo len < 2 ^ len := Nat.mod_lt _ (Nat.two_pow_pos _)

/-! ## Packet by packet, from the number that the body is -/

theorem decode_launch {a id step : Nat} {any : Bool} (hd : PktHeadOk b) (ho : pkt b 0 7 = 1) (ha : a < 2 ^ 64) (hid : id < 2 ^ 14) (hs : step < 2 ^ 64)
    (hB : b.toNat / 2 ^ 128 = a + 2 ^ 64 * (id + 2 ^ 15 * any.toNat) + 2 ^ 128 * step) :
    decodePacket q e asid super b = if a % 128 = 0 ∧ a < 2 ^ 52 then .ok (.launch (pktHdr q e asid b) a id any (BitVec.ofNat 64 step)) else .bad (pktHdr q e asid b) := by
  have hbany := Bool.toNat_lt any
  have f1 : pkt b 128 64 = a := (pkt_body hB 0 64).trans (by omega)
  have f2 : pkt b 192 14 = id := (pkt_body hB 64 14).trans (by omega)
  have f3 : pkt b 207 1 = any.toNat := (pkt_body hB 79 1).trans (by omega)
  have f4 : pkt b 256 64 = step := (pkt_body hB 128 64).trans (by omega)
  have hc := pktClean_sum hB [(0, 64), (64, 14), (79, 1), (128, 64)] (by simp [Rising]) (by simp [f1, f2, f3, f4]; omega)
  simp at hc
  exact decodePacket_any hd (by rw [ho]; rfl) (by rw [ho]; rfl) (by simp [f1, f2, f3, f4]) (by simp [hc, f1]; omega)

theorem decode_dec {id n : Nat} (hd : PktHeadOk b) (ho : pkt b 0 7 = 3) (hid : id < 2 ^ 14) (hn : n < 2 ^ 32)
    (hB : b.toNat / 2 ^ 128 = id + 2 ^ 32 * n) :
    decodePacket q e asid super b = if 0 < n then .ok (.dec (pktHdr q e asid b) id n) else .bad (pktHdr q e asid b) := by
  have f1 : pkt b 128 14 = id := (pkt_body hB 0 14).trans (by omega)
  have f2 : pkt b 160 32 = n := (pkt_body hB 32 32).trans (by omega)
  have hc := pktClean_sum hB [(0, 14), (32, 32)] (by simp [Rising]) (by simp [f1, f2])
  simp at hc
  exact decodePacket_any hd (by rw [ho]; rfl) (by rw [ho]; rfl) (by simp [f1, f2]) (by simp [hc, f2])

theorem decode_template {t a k : Nat} (hd : PktHeadOk b) (ho : pkt b 0 7 = 4) (ht : t < 2 ^ 10) (ha : a < 2 ^ 64) (hk : k < 2 ^ 64)
    (hB : b.toNat / 2 ^ 128 = t + 2 ^ 64 * a + 2 ^ 128 * k) :
    decodePacket q e asid super b = if a % 128 = 0 ∧ a < 2 ^ 52 ∧ k % 16 = 0 ∧ k < 2 ^ 52 then .ok (.template (pktHdr q e asid b) t a k) else .bad (pktHdr q e asid b) := by
  have f1 : pkt b 128 10 = t := (pkt_body hB 0 10).trans (by omega)
  have f2 : pkt b 192 64 = a := (pkt_body hB 64 64).trans (by omega)
  have f3 : pkt b 256 64 = k := (pkt_body hB 128 64).trans (by omega)
  have hc := pktClean_sum hB [(0, 10), (64, 64), (128, 64)] (by simp [Rising]) (by simp [f1, f2, f3]; omega)
  simp at hc
  exact decodePacket_any hd (by rw [ho]; rfl) (by rw [ho]; rfl) (by simp [f1, f2, f3]) (by simp [hc, f2, f3]; omega)

theorem decode_route {a : Nat} (hd : PktHeadOk b) (ho : pkt b 0 7 = 5) (ha : a < 2 ^ 52)
    (hB : b.toNat / 2 ^ 128 = a) :
    decodePacket q e asid super b = .ok (.route (pktHdr q e asid b) a) := by
  have f1 : pkt b 128 64 = a := (pkt_body hB 0 64).trans (by omega)
  have hc := pktClean_sum hB [(0, 64)] (by simp [Rising]) (by simp [f1])
  simp at hc
  exact (decodePacket_any hd (by rw [ho]; rfl) (by rw [ho]; rfl) (by simp [f1]) (P := True) (by simp [hc, f1]; omega)).trans (if_pos trivial)

theorem decode_aspace {n c rq a : Nat} {td : Bool} (hd : PktHeadOk b) (ho : pkt b 0 7 = 6) (hn : n < 2 ^ 13) (hcl : c < 2 ^ 8) (hrq : rq < 2 ^ 16) (ha : a < 2 ^ 52)
    (hB : b.toNat / 2 ^ 128 = n + 2 ^ 16 * c + 2 ^ 24 * td.toNat + 2 ^ 32 * rq + 2 ^ 64 * a) :
    decodePacket q e asid super b = if super then .ok (.aspace (pktHdr q e asid b) n c td rq a) else .denied (pktHdr q e asid b) := by
  have hbtd := Bool.toNat_lt td
  have f1 : pkt b 128 13 = n := (pkt_body hB 0 13).trans (by omega)
  have f2 : pkt b 144 8 = c := (pkt_body hB 16 8).trans (by omega)
  have f3 : pkt b 152 1 = td.toNat := (pkt_body hB 24 1).trans (by omega)
  have f4 : pkt b 160 16 = rq := (pkt_body hB 32 16).trans (by omega)
  have f5 : pkt b 192 64 = a := (pkt_body hB 64 64).trans (by omega)
  have hc := pktClean_sum hB [(0, 13), (16, 8), (24, 1), (32, 16), (64, 64)] (by simp [Rising]) (by simp [f1, f2, f3, f4, f5]; omega)
  simp at hc
  exact decodePacket_super hd (by rw [ho]; rfl) (by rw [ho]; rfl) (by simp [f1, f2, f3, f4, f5]) (by simp [hc, f5]; omega)

theorem decode_quota {c w x : Nat} (hd : PktHeadOk b) (ho : pkt b 0 7 = 7) (hcl : c < 2 ^ 8) (hw : w < 2 ^ 64) (hx : x < 2 ^ 64)
    (hB : b.toNat / 2 ^ 128 = c + 2 ^ 64 * w + 2 ^ 128 * x) :
    decodePacket q e asid super b = if super then .ok (.quota (pktHdr q e asid b) c (BitVec.ofNat 64 w) (BitVec.ofNat 64 x)) else .denied (pktHdr q e asid b) := by
  have f1 : pkt b 128 8 = c := (pkt_body hB 0 8).trans (by omega)
  have f2 : pkt b 192 64 = w := (pkt_body hB 64 64).trans (by omega)
  have f3 : pkt b 256 64 = x := (pkt_body hB 128 64).trans (by omega)
  have hc := pktClean_sum hB [(0, 8), (64, 64), (128, 64)] (by simp [Rising]) (by simp [f1, f2, f3]; omega)
  simp at hc
  exact decodePacket_super hd (by rw [ho]; rfl) (by rw [ho]; rfl) (by simp [f1, f2, f3]) (by simp [hc])

theorem decode_config {n a k : Nat} (hd : PktHeadOk b) (ho : pkt b 0 7 = 8) (hn : n ≤ 131072) (ha : a < 2 ^ 52) (hk : k < 2 ^ 16)
    (hB : b.toNat / 2 ^ 128 = n + 2 ^ 64 * a + 2 ^ 128 * k) :
    decodePacket q e asid super b = if super then .ok (.config (pktHdr q e asid b) n a k) else .denied (pktHdr q e asid b) := by
  have f1 : pkt b 128 18 = n := (pkt_body hB 0 18).trans (by omega)
  have f2 : pkt b 192 64 = a := (pkt_body hB 64 64).trans (by omega)
  have f3 : pkt b 256 16 = k := (pkt_body hB 128 16).trans (by omega)
  have hc := pktClean_sum hB [(0, 18), (64, 64), (128, 16)] (by simp [Rising]) (by simp [f1, f2, f3]; omega)
  simp at hc
  exact decodePacket_super hd (by rw [ho]; rfl) (by rw [ho]; rfl) (by simp [f1, f2, f3]) (by simp [hc, f1, f2]; omega)

theorem decode_map {ia pa size tier n : Nat} {r w : Bool} (hd : PktHeadOk b) (ho : pkt b 0 7 = 9) (hia : ia < 2 ^ 52) (hal : ia % 2 ^ 16 = 0)
    (hpa : pa < 2 ^ 64) (hpl : pa % 2 ^ 12 = 0) (hsz : size < 4) (ht : tier < 8) (hn : n < 2 ^ 13)
    (hB : b.toNat / 2 ^ 128 = ia + 2 ^ 64 * pa + 2 ^ 128 * (size + 2 ^ 4 * tier + 2 ^ 8 * r.toNat + 2 ^ 9 * w.toNat + 2 ^ 16 * n)) :
    decodePacket q e asid super b = if super then .ok (.map (pktHdr q e asid b) ia pa size tier r w n) else .denied (pktHdr q e asid b) := by
  have hbr := Bool.toNat_lt r
  have hbw := Bool.toNat_lt w
  have f1 : pkt b 128 64 = ia := (pkt_body hB 0 64).trans (by omega)
  have f2 : pkt b 192 64 = pa := (pkt_body hB 64 64).trans (by omega)
  have f3 : pkt b 256 2 = size := (pkt_body hB 128 2).trans (by omega)
  have f4 : pkt b 260 3 = tier := (pkt_body hB 132 3).trans (by omega)
  have f5 : pkt b 264 1 = r.toNat := (pkt_body hB 136 1).trans (by omega)
  have f6 : pkt b 265 1 = w.toNat := (pkt_body hB 137 1).trans (by omega)
  have f7 : pkt b 264 2 = r.toNat + 2 * w.toNat := (pkt_body hB 136 2).trans (by omega)
  have f8 : pkt b 272 13 = n := (pkt_body hB 144 13).trans (by omega)
  have hc := pktClean_sum hB [(0, 64), (64, 64), (128, 2), (132, 3), (136, 2), (144, 13)] (by simp [Rising]) (by simp [f1, f2, f3, f4, f7, f8]; omega)
  simp at hc
  exact decodePacket_super hd (by rw [ho]; rfl) (by rw [ho]; rfl) (by simp [f1, f2, f3, f4, f5, f6, f8]) (by simp [hc, f1, f2]; omega)

theorem decode_migrate {ia pa size tier n : Nat} {r w : Bool} (hd : PktHeadOk b) (ho : pkt b 0 7 = 12) (hia : ia < 2 ^ 52) (hal : ia % 2 ^ 16 = 0)
    (hpa : pa < 2 ^ 64) (hpl : pa % 2 ^ 12 = 0) (hsz : size < 4) (ht : tier < 8) (hn : n < 2 ^ 13)
    (hB : b.toNat / 2 ^ 128 = ia + 2 ^ 64 * pa + 2 ^ 128 * (size + 2 ^ 4 * tier + 2 ^ 8 * r.toNat + 2 ^ 9 * w.toNat + 2 ^ 16 * n)) :
    decodePacket q e asid super b = if super then .ok (.migrate (pktHdr q e asid b) ia pa size tier n) else .denied (pktHdr q e asid b) := by
  have hbr := Bool.toNat_lt r
  have hbw := Bool.toNat_lt w
  have f1 : pkt b 128 64 = ia := (pkt_body hB 0 64).trans (by omega)
  have f2 : pkt b 192 64 = pa := (pkt_body hB 64 64).trans (by omega)
  have f3 : pkt b 256 2 = size := (pkt_body hB 128 2).trans (by omega)
  have f4 : pkt b 260 3 = tier := (pkt_body hB 132 3).trans (by omega)
  have f5 : pkt b 264 2 = r.toNat + 2 * w.toNat := (pkt_body hB 136 2).trans (by omega)
  have f6 : pkt b 272 13 = n := (pkt_body hB 144 13).trans (by omega)
  have hc := pktClean_sum hB [(0, 64), (64, 64), (128, 2), (132, 3), (136, 2), (144, 13)] (by simp [Rising]) (by simp [f1, f2, f3, f4, f5, f6]; omega)
  simp at hc
  exact decodePacket_super hd (by rw [ho]; rfl) (by rw [ho]; rfl) (by simp [f1, f2, f3, f4, f6]) (by simp [hc, f1, f2]; omega)

theorem decode_unmap {ia size n : Nat} (hd : PktHeadOk b) (ho : pkt b 0 7 = 10) (hia : ia < 2 ^ 52) (hal : ia % 2 ^ 16 = 0)
    (hsz : size < 4) (hn : n < 2 ^ 13)
    (hB : b.toNat / 2 ^ 128 = ia + 2 ^ 128 * (size + 2 ^ 16 * n)) :
    decodePacket q e asid super b = if super then .ok (.unmap { pktHdr q e asid b with named := n } ia size) else .denied (pktHdr q e asid b) := by
  have f1 : pkt b 128 64 = ia := (pkt_body hB 0 64).trans (by omega)
  have f2 : pkt b 192 64 = 0 := (pkt_body hB 64 64).trans (by omega)
  have f3 : pkt b 256 2 = size := (pkt_body hB 128 2).trans (by omega)
  have f4 : pkt b 272 13 = n := (pkt_body hB 144 13).trans (by omega)
  have hc := pktClean_sum hB [(0, 64), (128, 2), (144, 13)] (by simp [Rising]) (by simp [f1, f3, f4]; omega)
  simp at hc
  exact decodePacket_super hd (by rw [ho]; rfl) (by rw [ho]; rfl) (by simp [f1, f3, f4]) (by simp [hc, f1, f2]; omega)

theorem decode_protect {ia size n : Nat} {r w : Bool} (hd : PktHeadOk b) (ho : pkt b 0 7 = 11) (hia : ia < 2 ^ 52) (hal : ia % 2 ^ 16 = 0)
    (hsz : size < 4) (hn : n < 2 ^ 13)
    (hB : b.toNat / 2 ^ 128 = ia + 2 ^ 128 * (size + 2 ^ 8 * r.toNat + 2 ^ 9 * w.toNat + 2 ^ 16 * n)) :
    decodePacket q e asid super b = if super then .ok (.protect { pktHdr q e asid b with named := n } ia size r w) else .denied (pktHdr q e asid b) := by
  have hbr := Bool.toNat_lt r
  have hbw := Bool.toNat_lt w
  have f1 : pkt b 128 64 = ia := (pkt_body hB 0 64).trans (by omega)
  have f2 : pkt b 192 64 = 0 := (pkt_body hB 64 64).trans (by omega)
  have f3 : pkt b 256 2 = size := (pkt_body hB 128 2).trans (by omega)
  have f4 : pkt b 264 1 = r.toNat := (pkt_body hB 136 1).trans (by omega)
  have f5 : pkt b 265 1 = w.toNat := (pkt_body hB 137 1).trans (by omega)
  have f6 : pkt b 264 2 = r.toNat + 2 * w.toNat := (pkt_body hB 136 2).trans (by omega)
  have f7 : pkt b 272 13 = n := (pkt_body hB 144 13).trans (by omega)
  have hc := pktClean_sum hB [(0, 64), (128, 2), (136, 2), (144, 13)] (by simp [Rising]) (by simp [f1, f3, f6, f7]; omega)
  simp at hc
  exact decodePacket_super hd (by rw [ho]; rfl) (by rw [ho]; rfl) (by simp [f1, f3, f4, f5, f7]) (by simp [hc, f1, f2]; omega)

theorem decode_segtab {a k n : Nat} (hd : PktHeadOk b) (ho : pkt b 0 7 = 13) (ha : a < 2 ^ 52) (hk : k < 2 ^ 52) (h0 : 0 < n) (hn : n ≤ 4096)
    (hB : b.toNat / 2 ^ 128 = a + 2 ^ 64 * k + 2 ^ 128 * n) :
    decodePacket q e asid super b = if super then .ok (.segtab (pktHdr q e asid b) a k n) else .denied (pktHdr q e asid b) := by
  have f1 : pkt b 128 64 = a := (pkt_body hB 0 64).trans (by omega)
  have f2 : pkt b 192 64 = k := (pkt_body hB 64 64).trans (by omega)
  have f3 : pkt b 256 13 = n := (pkt_body hB 128 13).trans (by omega)
  have hc := pktClean_sum hB [(0, 64), (64, 64), (128, 13)] (by simp [Rising]) (by simp [f1, f2, f3]; omega)
  simp at hc
  exact decodePacket_super hd (by rw [ho]; rfl) (by rw [ho]; rfl) (by simp [f1, f2, f3]) (by simp [hc, f1, f2, f3]; omega)

theorem decode_segtab_bad {a k n : Nat} (hd : PktHeadOk b) (ho : pkt b 0 7 = 13) (ha : a < 2 ^ 52) (hk : k < 2 ^ 52) (hn : n < 2 ^ 13) (hbad : n = 0 ∨ 4096 < n)
    (hB : b.toNat / 2 ^ 128 = a + 2 ^ 64 * k + 2 ^ 128 * n) :
    decodePacket q e asid super b = .bad (pktHdr q e asid b) := by
  have f1 : pkt b 256 13 = n := (pkt_body hB 128 13).trans (by omega)
  exact decodePacket_off hd (by rw [ho]; rfl) (by simp [f1]; omega)

theorem decode_recAlloc {id n : Nat} {any : Bool} (hd : PktHeadOk b) (ho : pkt b 0 7 = 14) (hid : id < 2 ^ 16) (hn : n < 2 ^ 8)
    (hB : b.toNat / 2 ^ 128 = id + 2 ^ 16 * any.toNat + 2 ^ 24 * n) :
    decodePacket q e asid super b = .ok (.recAlloc (pktHdr q e asid b) id any (BitVec.ofNat 8 n)) := by
  have hbany := Bool.toNat_lt any
  have f1 : pkt b 128 16 = id := (pkt_body hB 0 16).trans (by omega)
  have f2 : pkt b 144 1 = any.toNat := (pkt_body hB 16 1).trans (by omega)
  have f3 : pkt b 152 8 = n := (pkt_body hB 24 8).trans (by omega)
  have hc := pktClean_sum hB [(0, 16), (16, 1), (24, 8)] (by simp [Rising]) (by simp [f1, f2, f3]; omega)
  simp at hc
  exact (decodePacket_any hd (by rw [ho]; rfl) (by rw [ho]; rfl) (by simp [f1, f2, f3]) (P := True) (by simp [hc])).trans (if_pos trivial)

theorem decode_fwupdate {a n : Nat} (hd : PktHeadOk b) (ho : pkt b 0 7 = 22) (ha : a < 2 ^ 52) (hn : n < 2 ^ 32)
    (hB : b.toNat / 2 ^ 128 = a + 2 ^ 64 * n) :
    decodePacket q e asid super b = if super then .ok (.fwupdate (pktHdr q e asid b) a n) else .denied (pktHdr q e asid b) := by
  have f1 : pkt b 128 64 = a := (pkt_body hB 0 64).trans (by omega)
  have f2 : pkt b 192 32 = n := (pkt_body hB 64 32).trans (by omega)
  have hc := pktClean_sum hB [(0, 64), (64, 32)] (by simp [Rising]) (by simp [f1, f2])
  simp at hc
  exact decodePacket_super hd (by rw [ho]; rfl) (by rw [ho]; rfl) (by simp [f1, f2]) (by simp [hc, f1]; omega)

theorem decode_ready {id : Nat} (hd : PktHeadOk b) (ho : pkt b 0 7 = 2) (hid : id < 2 ^ 14)
    (hB : b.toNat / 2 ^ 128 = id) :
    decodePacket q e asid super b = .ok (.ready (pktHdr q e asid b) id) := by
  have f1 : pkt b 128 14 = id := (pkt_body hB 0 14).trans (by omega)
  have hc := pktClean_sum hB [(0, 14)] (by simp [Rising]) (by simp [f1])
  simp at hc
  exact (decodePacket_any hd (by rw [ho]; rfl) (by rw [ho]; rfl) (by simp [f1]) (P := True) (by simp [hc])).trans (if_pos trivial)

theorem decode_recFree {id : Nat} (hd : PktHeadOk b) (ho : pkt b 0 7 = 15) (hid : id < 2 ^ 16)
    (hB : b.toNat / 2 ^ 128 = id) :
    decodePacket q e asid super b = .ok (.recFree (pktHdr q e asid b) id) := by
  have f1 : pkt b 128 16 = id := (pkt_body hB 0 16).trans (by omega)
  have hc := pktClean_sum hB [(0, 16)] (by simp [Rising]) (by simp [f1])
  simp at hc
  exact (decodePacket_any hd (by rw [ho]; rfl) (by rw [ho]; rfl) (by simp [f1]) (P := True) (by simp [hc])).trans (if_pos trivial)

theorem decode_abandon {id : Nat} (hd : PktHeadOk b) (ho : pkt b 0 7 = 17) (hid : id < 2 ^ 10)
    (hB : b.toNat / 2 ^ 128 = id) :
    decodePacket q e asid super b = if super then .ok (.abandon (pktHdr q e asid b) id) else .denied (pktHdr q e asid b) := by
  have f1 : pkt b 128 10 = id := (pkt_body hB 0 10).trans (by omega)
  have hc := pktClean_sum hB [(0, 10)] (by simp [Rising]) (by simp [f1])
  simp at hc
  exact decodePacket_super hd (by rw [ho]; rfl) (by rw [ho]; rfl) (by simp [f1]) (by simp [hc])

theorem decode_switch {id : Nat} (hd : PktHeadOk b) (ho : pkt b 0 7 = 18) (hid : id < 2 ^ 10)
    (hB : b.toNat / 2 ^ 128 = id) :
    decodePacket q e asid super b = if super then .ok (.switch (pktHdr q e asid b) id) else .denied (pktHdr q e asid b) := by
  have f1 : pkt b 128 10 = id := (pkt_body hB 0 10).trans (by omega)
  have hc := pktClean_sum hB [(0, 10)] (by simp [Rising]) (by simp [f1])
  simp at hc
  exact decodePacket_super hd (by rw [ho]; rfl) (by rw [ho]; rfl) (by simp [f1]) (by simp [hc])

theorem decode_wsave {id : Nat} (hd : PktHeadOk b) (ho : pkt b 0 7 = 19) (hid : id < 2 ^ 6)
    (hB : b.toNat / 2 ^ 128 = id) :
    decodePacket q e asid super b = if super then .ok (.wsave (pktHdr q e asid b) id) else .denied (pktHdr q e asid b) := by
  have f1 : pkt b 128 6 = id := (pkt_body hB 0 6).trans (by omega)
  have hc := pktClean_sum hB [(0, 6)] (by simp [Rising]) (by simp [f1])
  simp at hc
  exact decodePacket_super hd (by rw [ho]; rfl) (by rw [ho]; rfl) (by simp [f1]) (by simp [hc])

theorem decode_resume {c pc : Nat} {set : Bool} (hd : PktHeadOk b) (ho : pkt b 0 7 = 16) (hcx : c < 2 ^ 10) (hpc : pc < 2 ^ 32) (hal : pc % 16 = 0)
    (hB : b.toNat / 2 ^ 128 = c + 2 ^ 16 * set.toNat + 2 ^ 64 * pc) :
    decodePacket q e asid super b = if super then .ok (.resume (pktHdr q e asid b) c set pc []) else .denied (pktHdr q e asid b) := by
  have hbset := Bool.toNat_lt set
  have f1 : pkt b 128 10 = c := (pkt_body hB 0 10).trans (by omega)
  have f2 : pkt b 144 1 = set.toNat := (pkt_body hB 16 1).trans (by omega)
  have f3 : pkt b 148 4 = 0 := (pkt_body hB 20 4).trans (by omega)
  have f4 : pkt b 192 64 = pc := (pkt_body hB 64 64).trans (by omega)
  have hc := pktClean_sum hB [(0, 10), (16, 1), (20, 4), (64, 64)] (by simp [Rising]) (by simp [f1, f2, f3, f4]; omega)
  simp at hc
  exact decodePacket_super hd (by rw [ho]; rfl) (by rw [ho]; rfl) (by simp [f1, f2, f3, f4, pktRegs]) (by simp [hc, f3, f4, pktRegs]; omega)

theorem decode_resume_one {c r v : Nat} (hd : PktHeadOk b) (ho : pkt b 0 7 = 16) (hcx : c < 2 ^ 10) (h0 : 0 < r) (hr : r < 32) (hv : v < 2 ^ 64)
    (hB : b.toNat / 2 ^ 128 = c + 2 ^ 20 + 2 ^ 128 * r + 2 ^ 192 * v) :
    decodePacket q e asid super b = if super then .ok (.resume (pktHdr q e asid b) c false 0 [(r, BitVec.ofNat 64 v)]) else .denied (pktHdr q e asid b) := by
  have f1 : pkt b 128 10 = c := (pkt_body hB 0 10).trans (by omega)
  have f2 : pkt b 144 1 = 0 := (pkt_body hB 16 1).trans (by omega)
  have f3 : pkt b 148 4 = 1 := (pkt_body hB 20 4).trans (by omega)
  have f4 : pkt b 192 64 = 0 := (pkt_body hB 64 64).trans (by omega)
  have f5 : pkt b 256 5 = r := (pkt_body hB 128 5).trans (by omega)
  have f6 : pkt b 320 64 = v := (pkt_body hB 192 64).trans (by omega)
  have hc := pktClean_sum hB [(0, 10), (16, 1), (20, 4), (64, 64), (128, 5), (192, 64)] (by simp [Rising]) (by simp [f1, f2, f3, f4, f5, f6]; omega)
  simp at hc
  exact decodePacket_super hd (by rw [ho]; rfl) (by rw [ho]; rfl) (by simp [f1, f2, f3, f4, f5, f6, pktRegs]) (by simp [hc, f3, f4, f5, pktRegs, h0])

/-- A packet of no fields has a body of zero. -/
theorem decode_empty {B : Nat} (hB : b.toNat / 2 ^ 128 = B) (hd : PktHeadOk b)
    (hb : pktBody (pktHdr q e asid b) b (pkt b 0 7) = some (i, pktClean b [])) (hs : pktSuper (pkt b 0 7) = false) :
    decodePacket q e asid super b = if B = 0 then .ok i else .bad (pktHdr q e asid b) :=
  decodePacket_any hd hb hs rfl (by rw [show pktClean b [] = _ from pktClean_iff hB (l := []) trivial]; simp)

/-- The packets whose fields lie in 32 bits. -/
theorem decode_beyond (hd : PktHeadOk b) (ho : pkt b 0 7 ∈ [0x02, 0x0E, 0x0F, 0x11, 0x12, 0x13]) (hB : 2 ^ 32 ≤ b.toNat / 2 ^ 128) :
    decodePacket q e asid super b = .bad (pktHdr q e asid b) := by
  have h14 := pkt_lt (b := b) 128 14
  have h16 := pkt_lt (b := b) 128 16
  have h10 := pkt_lt (b := b) 128 10
  have h6 := pkt_lt (b := b) 128 6
  have hany := pkt_lt (b := b) 144 1
  have hn := pkt_lt (b := b) 152 8
  have hbeyond (l : List (Nat × Nat)) (hl : Rising 0 l) (hs : (l.map fun f => 2 ^ f.1 * pkt b (f.1 + 128) f.2).sum < 2 ^ 32) :=
    pktClean_beyond l hl (Nat.lt_of_lt_of_le hs hB)
  simp only [List.mem_cons, List.not_mem_nil, or_false] at ho
  rcases ho with h | h | h | h | h | h
  · exact decodePacket_off hd (by rw [h]; rfl) (hbeyond [(0, 14)] (by simp [Rising]) (by simp; omega))
  · exact decodePacket_off hd (by rw [h]; rfl) (hbeyond [(0, 16), (16, 1), (24, 8)] (by simp [Rising]) (by simp; omega))
  · exact decodePacket_off hd (by rw [h]; rfl) (hbeyond [(0, 16)] (by simp [Rising]) (by simp; omega))
  · exact decodePacket_off hd (by rw [h]; rfl) (hbeyond [(0, 10)] (by simp [Rising]) (by simp; omega))
  · exact decodePacket_off hd (by rw [h]; rfl) (hbeyond [(0, 10)] (by simp [Rising]) (by simp; omega))
  · exact decodePacket_off hd (by rw [h]; rfl) (hbeyond [(0, 6)] (by simp [Rising]) (by simp; omega))

/-- A route sheet's address has 52 bits: a body beyond them is off its limits. -/
theorem decode_route_beyond (hd : PktHeadOk b) (ho : pkt b 0 7 = 5) (hB : 2 ^ 52 ≤ b.toNat / 2 ^ 128) :
    decodePacket q e asid super b = .bad (pktHdr q e asid b) := by
  refine decodePacket_off hd (by rw [ho]; rfl) ?_
  rcases Nat.lt_or_ge (pkt b 128 64) (2 ^ 52) with h | h
  · rw [show pktClean b [(0x80, 64)] = false from
      pktClean_beyond [(0, 64)] (by simp [Rising]) (by simp; omega)]; rfl
  · simp; exact fun _ => h

/-- A register write of a RESUME to s0 is off its limits. -/
theorem decode_resume_zero {c v : Nat} (hd : PktHeadOk b) (ho : pkt b 0 7 = 16) (hcx : c < 2 ^ 10)
    (hB : b.toNat / 2 ^ 128 = c + 2 ^ 20 + 2 ^ 192 * v) : decodePacket q e asid super b = .bad (pktHdr q e asid b) := by
  have f1 : pkt b 148 4 = 1 := (pkt_body hB 20 4).trans (by omega)
  have f2 : pkt b 256 5 = 0 := (pkt_body hB 128 5).trans (by omega)
  exact decodePacket_off hd (by rw [ho]; rfl) (by simp [f1, f2, pktRegs])

theorem decode_nop (hd : PktHeadOk b) (ho : pkt b 0 7 = 0x15) :
    decodePacket q e asid super b = if b.toNat / 2 ^ 128 = 0 then .ok (.nopPacket (pktHdr q e asid b)) else .bad (pktHdr q e asid b) :=
  decode_empty rfl hd (by rw [ho]; rfl) (by rw [ho]; rfl)

theorem decode_fence (hd : PktHeadOk b) (ho : pkt b 0 7 = 0x14) :
    decodePacket q e asid super b = if b.toNat / 2 ^ 128 = 0 then .ok (.fencePacket (pktHdr q e asid b)) else .bad (pktHdr q e asid b) :=
  decode_empty rfl hd (by rw [ho]; rfl) (by rw [ho]; rfl)

/-- The body of 112 bytes is what stands above the header's 16. -/
theorem body_toNat (b : VWord) : b.toNat / 2 ^ 128 = pkt b 128 896 :=
  (Nat.mod_eq_of_lt (Nat.div_lt_of_lt_mul (by rw [← Nat.pow_add]; exact b.isLt))).symm

end

/-- Settles O4: a field of the body is a quotient and remainder of the number it is (`pkt_body`), and a packet is clean where that number is the
sum of its fields (`pktClean_iff`); then packet by packet. -/
theorem packetDecoding : Obligations.PacketDecoding := by
  intro q e asid super b f
  have hf : f = pkt b := funext fun lo => funext fun len => extract_toNat b lo len
  clear_value f
  subst hf
  intro body opc h p headOk bit supers
  have hbit : ∀ x n, bit x n = 2 ^ n * x.toNat := by intro x n; cases x <;> simp [bit]
  have hbody : b.toNat / 2 ^ 128 = body := body_toNat b
  clear_value body bit
  refine ⟨decodePacket_head_bad, decodePacket_unlisted, fun hd => ⟨?_, ?_, ?_, ?_, ?_, ?_, ?_, ?_, ?_, ?_, ?_, ?_, ?_, ?_, ?_⟩⟩
  · rintro (ho | ho) h0
    · exact (decode_nop hd ho).trans (if_neg (hbody ▸ h0))
    · exact (decode_fence hd ho).trans (if_neg (hbody ▸ h0))
  · exact fun h0 => ⟨fun ho => (decode_nop hd ho).trans (if_pos (hbody.trans h0)), fun ho => (decode_fence hd ho).trans (if_pos (hbody.trans h0))⟩
  · intro ho hB
    exact decode_beyond hd (by simpa using ho) (hbody ▸ hB)
  · intro id hB
    have hB := hbody.trans hB
    exact ⟨fun ho hid => decode_ready hd ho hid hB, fun ho hid => decode_recFree hd ho hid hB, fun ho hid => decode_abandon hd ho hid hB,
      fun ho hid => decode_switch hd ho hid hB, fun ho hid => decode_wsave hd ho hid hB, fun ho hid => decode_route hd ho hid hB,
      fun ho hid => decode_route_beyond hd ho (hB ▸ hid)⟩
  · exact fun id n ho hid hn hB => decode_dec hd ho hid hn (hbody.trans hB)
  · exact fun a id any step ho ha hid hs hB => decode_launch hd ho ha hid hs (hbody.trans (hbit any 15 ▸ hB))
  · exact fun t a k ho ht ha hk hB => decode_template hd ho ht ha hk (hbody.trans hB)
  · exact fun id any n ho hid hn hB => decode_recAlloc hd ho hid hn (hbody.trans (hbit any 16 ▸ hB))
  · exact fun n c td rq a ho hn hc hrq ha hB => decode_aspace hd ho hn hc hrq ha (hbody.trans (hbit td 24 ▸ hB))
  · exact fun c w x ho hc hw hx hB => decode_quota hd ho hc hw hx (hbody.trans hB)
  · exact fun n a k ho hn ha hk hB => decode_config hd ho hn ha hk (hbody.trans hB)
  · intro a k n ho ha hk hn hB
    have hB := hbody.trans hB
    exact ⟨fun h0 h1 => decode_segtab hd ho ha hk h0 h1 hB, fun hbad => decode_segtab_bad hd ho ha hk hn hbad hB⟩
  · intro ia pa size tier r w n hia hal hpa hpl hsz ht hn l
    have hl : l = size + 2 ^ 4 * tier + 2 ^ 8 * r.toNat + 2 ^ 9 * w.toNat + 2 ^ 16 * n := by simp only [l, hbit]
    clear_value l
    subst hl
    refine ⟨fun hB => ?_, fun hB h0 => ?_⟩
    · have hB := hbody.trans hB
      exact ⟨fun ho => decode_map hd ho hia hal hpa hpl hsz ht hn hB, fun ho => decode_migrate hd ho hia hal hpa hpl hsz ht hn hB⟩
    · subst h0
      refine ⟨fun ho hr hw => ?_, fun ho => ?_⟩
      · subst hr hw
        exact decode_unmap hd ho hia hal hsz hn (hbody.trans (by simpa using hB))
      · exact decode_protect hd ho hia hal hsz hn (hbody.trans (by simpa using hB))
  · intro c pc ho hc hpc hal
    refine ⟨fun hB => ?_, fun hB => ?_, fun r v hr hv hB => ⟨fun h0 => ?_, fun h0 => ?_⟩⟩
    · exact decode_resume (set := false) (pc := 0) hd ho hc (by omega) (by omega) (hbody.trans (by simpa using hB))
    · exact decode_resume (set := true) hd ho hc hpc hal (hbody.trans (by simpa using hB))
    · exact decode_resume_one hd ho hc h0 hr hv (hbody.trans hB)
    · subst h0
      exact decode_resume_zero hd ho hc (hbody.trans (by simpa using hB))
  · exact fun a n ho ha hn hB => decode_fwupdate hd ho ha hn (hbody.trans hB)

end Sys2Proof.Machine

/-! Proofs about the L0, L1 and ST slots where they work on scratch (R171 to R174, R206, R209, R210, R212). -/
namespace Sys2Proof.Machine
set_option Elab.async false

/-! ## Numbers from their digits -/

/-- Digits below `B`, the lowest first, sum to a number below B^n. -/
theorem digits_lt {B : Nat} {f : Nat → Nat} (n : Nat) (hf : ∀ i, f i < B) : (List.range n).foldl (fun w i => w + f i * B ^ i) 0 < B ^ n := by
  induction n with
  | zero => exact Nat.one_pos
  | succ n ih =>
    rw [List.range_succ, List.foldl_append, List.foldl_cons, List.foldl_nil, Nat.pow_succ]
    have h : f n * B ^ n + B ^ n ≤ B ^ n * B := by
      rw [← Nat.succ_mul, Nat.mul_comm]; exact Nat.mul_le_mul_left _ (hf n)
    omega

/-- Each digit is read back. -/
theorem digits_get {B : Nat} {f : Nat → Nat} {n i : Nat} (hf : ∀ i, f i < B) (hi : i < n) :
    (List.range n).foldl (fun w i => w + f i * B ^ i) 0 / B ^ i % B = f i := by
  induction n with
  | zero => omega
  | succ n ih =>
    have hB : 0 < B := Nat.zero_lt_of_lt (hf 0)
    have hpos : 0 < B ^ i := Nat.pow_pos hB
    rw [List.range_succ, List.foldl_append, List.foldl_cons, List.foldl_nil]
    rcases Nat.lt_succ_iff_lt_or_eq.mp hi with h | rfl
    · obtain ⟨k, rfl⟩ : ∃ k, n = i + 1 + k := ⟨n - (i + 1), by omega⟩
      rw [show f (i + 1 + k) * B ^ (i + 1 + k) = f (i + 1 + k) * B ^ k * B * B ^ i by
          rw [Nat.add_right_comm, Nat.pow_succ, Nat.add_comm i k, Nat.pow_add]; ac_rfl,
        Nat.add_mul_div_right _ _ hpos, Nat.add_mul_mod_self_right]
      exact ih h
    · rw [Nat.add_mul_div_right _ _ hpos, Nat.div_eq_of_lt (digits_lt i hf), Nat.zero_add, Nat.mod_eq_of_lt (hf i)]

theorem readLE_lt (m : Memory) (a n : Nat) : Memory.readLE m a n < 256 ^ n := by
  induction n generalizing a with
  | zero => exact Nat.one_pos
  | succ n ih =>
    have h1 := (Memory.read m a).isLt
    have h2 := ih (a + 1)
    rw [Memory.readLE, Nat.pow_succ]
    omega

/-! ## Fetches of rows -/

theorem rowFetch_ok {x : Ctx} {o : LT} {unit n : Nat} {wm : Bool} (hg : ((x.handle o.h.toNat).isGroup || (wm && (x.handle o.h.toNat).isWaymark)) = true)
    (hr : ltRow x o < (x.handle o.h.toNat).rows) (hc : ltCol o unit + n ≤ 16 * (x.handle o.h.toNat).roww) :
    rowFetch x o unit n wm = .ok ((x.handle o.h.toNat).at_ (ltRow x o) (ltCol o unit)) := by
  exact (if_neg (by rw [hg]; decide)).trans (if_neg (by omega))

theorem rowFetch_outside {x : Ctx} {o : LT} {unit n : Nat} {wm : Bool}
    (hg : ((x.handle o.h.toNat).isGroup || (wm && (x.handle o.h.toNat).isWaymark)) = true)
    (h : ¬(ltRow x o < (x.handle o.h.toNat).rows ∧ ltCol o unit + n ≤ 16 * (x.handle o.h.toNat).roww)) :
    rowFetch x o unit n wm = .error (cProt, (x.handle o.h.toNat).at_ (ltRow x o) (ltCol o unit)) := by
  exact (if_neg (by rw [hg]; decide)).trans (if_pos (by omega))

theorem rowFetch_operand {x : Ctx} {o : LT} {unit n : Nat} {wm : Bool}
    (hg : ((x.handle o.h.toNat).isGroup || (wm && (x.handle o.h.toNat).isWaymark)) = false) : rowFetch x o unit n wm = .error (cOperand, 0) :=
  if_pos (by rw [hg]; decide)

/-- A row fetch of `ldv`. -/
def ldvOp (o : LT) (s : State) : State :=
  match rowFetch s.pre o 16 128 false with
  | .ok a => s.landTo (rV o.d) (.cls 3) (BitVec.ofNat 1024 (s.slotRead a 128))
  | .error (c, a) => s.fail c (slotCode (lSlot o.l1) 0 false) a

/-- What a fetch does by what its row says: its bytes land, or its check fails. -/
theorem ldsOp_ok {o : LT} {n a : Nat} {s : State} (h : rowFetch s.pre o n n (4 ≤ n) = .ok a) :
    ldsOp o n s = s.landW (lA o.l1 (o.d.setWidth 4)) (.cls 3) (BitVec.ofNat 64 (s.slotRead a n)) := by rw [ldsOp, h]
theorem ldsOp_error {o : LT} {n c a : Nat} {s : State} (h : rowFetch s.pre o n n (4 ≤ n) = .error (c, a)) :
    ldsOp o n s = s.fail c (slotCode (lSlot o.l1) 0 false) a := by rw [ldsOp, h]
theorem ldvOp_ok {o : LT} {a : Nat} {s : State} (h : rowFetch s.pre o 16 128 false = .ok a) :
    ldvOp o s = s.landTo (rV o.d) (.cls 3) (BitVec.ofNat 1024 (s.slotRead a 128)) := by rw [ldvOp, h]
theorem ldvOp_error {o : LT} {c a : Nat} {s : State} (h : rowFetch s.pre o 16 128 false = .error (c, a)) :
    ldvOp o s = s.fail c (slotCode (lSlot o.l1) 0 false) a := by rw [ldvOp, h]

/-! ## Fetches of columns -/

theorem slotRead_lt (s : State) (a n : Nat) : s.slotRead a n < 256 ^ n := by
  unfold State.slotRead
  split
  · exact readLE_lt _ _ _
  · refine digits_lt n fun i => ?_
    split
    · exact Nat.mod_lt _ (by decide)
    · exact readLE_lt _ _ 1

/-- A column's words are read back from its register. -/
theorem elemAt_columnRead (s : State) (h : Handle) (row col i : Nat) (hi : i < 8) :
    elemAt (s.columnRead h row col) (128 * i) 128 = s.slotRead (h.at_ (row + i) col) 16 := by
  have hf : ∀ i, s.slotRead (h.at_ (row + i) col) 16 < 2 ^ 128 := fun i => Nat.lt_of_lt_of_eq (slotRead_lt s _ 16) (by decide)
  have hpow : ∀ i, 2 ^ (128 * i) = (2 ^ 128) ^ i := fun i => Nat.pow_mul 2 128 i
  rw [elemAt, State.columnRead, extract_toNat]
  simp only [hpow]
  rw [BitVec.toNat_ofNat, Nat.mod_eq_of_lt (Nat.lt_of_lt_of_eq (digits_lt 8 hf) (Nat.pow_mul 2 128 8).symm), digits_get hf hi]

/-- A fetch of the bytes that one window store still has to write reads those as it stores them, the others from the scratchpad. -/
theorem slotRead_coming {s : State} {a n b m v i : Nat} (h : s.comingStores a n = [(b, m, v)]) (hi : i < n) :
    s.slotRead a n / 256 ^ i % 256 = if b ≤ a + i ∧ a + i < b + m then v / 256 ^ (a + i - b) % 256 else s.scratchRead (coreOf s.cur) (a + i) 1 := by
  have hread : s.slotRead a n = (List.range n).foldl (fun w i => w + (if b ≤ a + i ∧ a + i < b + m then v / 256 ^ (a + i - b) % 256
      else s.scratchRead (coreOf s.cur) (a + i) 1) * 256 ^ i) 0 := by
    unfold State.slotRead
    rw [h]
    refine congrArg (fun f => (List.range n).foldl f 0) (funext fun w => funext fun i => ?_)
    by_cases hb : b ≤ a + i ∧ a + i < b + m
    · simp [slotHas, hb]
    · have hn : ((b ≤ a + i && a + i < b + m) : Bool) = false := by simpa using hb
      simp [slotHas, hb, hn]
  rw [hread, digits_get _ hi]
  intro i
  split
  · exact Nat.mod_lt _ (by decide)
  · exact readLE_lt _ _ 1

/-- Settles O27: a row fetch is `rowFetch`'s three cases, a column fetch the chain of checks of `ldvt`, and what is read is read byte by byte. -/
theorem addressAndScratchLoads : Obligations.AddressAndScratchLoads := by
  intro s
  refine ⟨fun o hr => ⟨issueOp_runs hr, issueOp_runs hr, issueOp_runs hr⟩, fun o hr => ?_, fun h row col i hi => elemAt_columnRead s h row col i hi,
    fun a n => ⟨fun h => State.slotRead_now (by rw [h]; rfl), fun b m v h i hi => slotRead_coming h hi⟩⟩
  intro h row at_ fits res no
  have h8 : exec (.lds8 o) s = .next (ldsOp o 1 s) := issueOp_runs hr
  have h16 : exec (.lds16 o) s = .next (ldsOp o 2 s) := issueOp_runs hr
  have h32 : exec (.lds32 o) s = .next (ldsOp o 4 s) := issueOp_runs hr
  have h64 : exec (.lds64 o) s = .next (ldsOp o 8 s) := issueOp_runs hr
  have hv : exec (.ldv o) s = .next (ldvOp o s) := issueOp_runs hr
  have hvt : exec (.ldvt o) s = .next (if !columnShape h then s.fail cOperand (slotCode (lSlot o.l1) 0 false) 0
    else if row % (64 / h.roww) ≠ 0 then s.fail cBank (slotCode (lSlot o.l1) 0 false) 0
    else if h.rows < row + 8 ∨ 16 * h.roww < ltCol o 16 + 16 then s.fail cProt (slotCode (lSlot o.l1) 0 false) (h.at_ row (ltCol o 16))
    else s.landTo (rV o.d) (.cls 3) (s.columnRead h row (ltCol o 16))) := issueOp_runs hr
  have hrow : ∀ {wm : Bool} {u n : Nat}, (h.isGroup || (wm && h.isWaymark)) = true → fits u n → rowFetch s.pre o u n wm = .ok (at_ u) :=
    fun hg hf => rowFetch_ok hg hf.1 hf.2
  have hout : ∀ {wm : Bool} {u n : Nat}, (h.isGroup || (wm && h.isWaymark)) = true → ¬fits u n → rowFetch s.pre o u n wm = .error (cProt, at_ u) :=
    fun hg hf => rowFetch_outside hg hf
  have hoper : ∀ {wm : Bool} {u n : Nat}, (h.isGroup || (wm && h.isWaymark)) = false → rowFetch s.pre o u n wm = .error (cOperand, 0) :=
    fun hg => rowFetch_operand hg
  rw [h8, h16, h32, h64, hv, hvt]
  have hn {t u : State} (e : t = u) : (.next t : Out) = .next u := congrArg _ e
  refine ⟨fun hg => ?_, fun hg => ?_, fun hg => ?_, fun hg h1 h2 h3 h4 => ?_, fun hg hw => ?_⟩
  · have hg : ∀ wm : Bool, (h.isGroup || (wm && h.isWaymark)) = true := fun wm => by rw [hg]; rfl
    exact ⟨fun hf => hn (ldsOp_ok (hrow (hg _) hf)), fun hf => hn (ldsOp_ok (hrow (hg _) hf)), fun hf => hn (ldvOp_ok (hrow (hg _) hf)),
      fun hf => hn (ldsOp_error (hout (hg _) hf)), fun hf => hn (ldsOp_error (hout (hg _) hf)), fun hf => hn (ldvOp_error (hout (hg _) hf))⟩
  · have hg : (h.isGroup || (true && h.isWaymark)) = true := by simpa using hg
    exact ⟨fun hf => hn (ldsOp_ok (hrow hg hf)), fun hf => hn (ldsOp_ok (hrow hg hf)),
      fun hf => hn (ldsOp_error (hout hg hf)), fun hf => hn (ldsOp_error (hout hg hf))⟩
  · have hgf : (h.isGroup || (false && h.isWaymark)) = false := by rw [hg]; rfl
    have hshape : columnShape h = false := by rw [columnShape, hg]; rfl
    refine ⟨hn (ldsOp_error (hoper hgf)), hn (ldsOp_error (hoper hgf)), hn (ldvOp_error (hoper hgf)), hn (if_pos (by rw [hshape]; rfl)), fun hw => ?_⟩
    have hgt : (h.isGroup || (true && h.isWaymark)) = false := by rw [hg, hw]; rfl
    exact ⟨hn (ldsOp_error (hoper hgt)), hn (ldsOp_error (hoper hgt))⟩
  · have hshape : columnShape h = false := by simp [columnShape, h1, h2, h3, h4]
    exact hn (if_pos (by rw [hshape]; rfl))
  · have hshape : columnShape h = true := by simpa [columnShape, hg, or_assoc] using hw
    rw [if_neg (by rw [hshape]; decide)]
    refine ⟨fun hb => hn (if_pos hb), fun hb hrows hc => ?_, fun hb hbad => ?_⟩
    · rw [if_neg (by omega), if_neg (by omega)]
    · rw [if_neg (by omega), if_pos hbad]
      rfl

end Sys2Proof.Machine

/-! Proofs about the scratch stores of the ST slot (R174, R182, R199, R206, R210). -/
namespace Sys2Proof.Machine
set_option Elab.async false

theorem scratchStore_ok {a n u v : Nat} {s : State} (h : a % u = 0 ∧ s.pre.scratchOk a n = true ∧ touchesWaymarks a n = false) :
    scratchStore a n u v s = s.slotStore a n v := by
  obtain ⟨h1, h2, h3⟩ := h
  exact if_neg (by simp [h1, h2, h3])

theorem scratchStore_error {a n u v : Nat} {s : State} (h : ¬(a % u = 0 ∧ s.pre.scratchOk a n = true ∧ touchesWaymarks a n = false)) :
    scratchStore a n u v s = s.fail cProt (slotCode 4 0 true) a := by
  refine if_pos ?_
  refine Classical.byContradiction fun hc => ?_
  simp only [not_or, Decidable.not_not, Bool.not_eq_true', Bool.not_eq_true, Bool.not_eq_false] at hc
  exact h hc

/-- A slot's store changes the scratch bytes of its core, and notes what they held. -/
theorem core_slotWrite (s : State) (k a n v j : Nat) : (s.slotWrite k a n v).core j =
    if j = k then { s.core k with
      scratch := Memory.writeLE (s.core k).scratch a n v
      slotted := (a, n, s.scratchRead k a n) :: (s.core k).slotted } else s.core j := by
  unfold State.slotWrite State.scratchWrite
  rw [State.core_modCore, State.core_modCore, if_pos rfl, State.core_modCore]
  split <;> rfl

/-- A column store at an address: the handle it lies in, then the checks of R210. -/
def stvtOp (o : SM) (a : Nat) (s : State) : State :=
  match s.pre.handleAt a with
  | none => s.fail cProt (slotCode 4 0 true) a
  | some h =>
    if !columnShape h then s.fail cOperand (slotCode 4 0 true) 0
    else if (a - h.base) / (16 * h.roww) % (64 / h.roww) ≠ 0 then s.fail cBank (slotCode 4 0 true) 0
    else if a % 16 ≠ 0 ∨ h.rows < (a - h.base) / (16 * h.roww) + 8 then s.fail cProt (slotCode 4 0 true) a
    else (columnPieces s.pre o a h).foldl (fun t e => t.slotStore e.1 16 e.2) s

theorem exec_stvt {o : SM} {s : State} (hr : s.runs o.g) : exec (.stvt o) s = .next (stvtOp o (stsAddr s.pre o 16) s) := issueOp_runs hr

/-- Settles O28: a store is `scratchStore`'s two cases, a column store the chain of checks of `stvt`; its frame is that of `core_slotWrite`. -/
theorem scratchStores : Obligations.ScratchStores := by
  refine ⟨fun o s hr => ?_, fun s k a n v b j => ?_⟩
  · intro k ok st no
    have hst {n u v a : Nat} (h : ok a n u) : (.next (scratchStore a n u v s) : Out) = .next (s.slotStore a n v) := congrArg _ (scratchStore_ok h)
    have hno {n u v a : Nat} (h : ¬ok a n u) : (.next (scratchStore a n u v s) : Out) = no a := congrArg _ (scratchStore_error h)
    have h8 : exec (.sts8 o) s = .next (stsOp o 1 s) := issueOp_runs hr
    have h16 : exec (.sts16 o) s = .next (stsOp o 2 s) := issueOp_runs hr
    have h32 : exec (.sts32 o) s = .next (stsOp o 4 s) := issueOp_runs hr
    have h64 : exec (.sts64 o) s = .next (stsOp o 8 s) := issueOp_runs hr
    have hv : exec (.stv o) s = .next (scratchStore (stsAddr s.pre o 16) 128 16 (s.pre.vreg o.data.toNat).toNat s) := issueOp_runs hr
    rw [h8, h16, h32, h64, hv]
    refine ⟨hst, hst, hst, hst, hst, fun a n v hu => State.slotStore_now ?_, fun a n v u hu b hb h1 h2 => State.slotStore_after ?_,
      hno, hno, hno, hno, hno, fun hh => ?_, fun h hh => ?_⟩
    · simp only [List.any_eq_false, Option.any_eq_true, not_exists, not_and, Bool.and_eq_true, decide_eq_true_eq]
      intro u hu' b hb
      have := hu u hu' b hb
      omega
    · exact List.any_eq_true.mpr ⟨u, hu, by rw [hb]; simp [h1, h2]⟩
    · rw [exec_stvt hr, stvtOp, hh]
    · intro a row
      rw [exec_stvt hr, stvtOp, hh]
      have hn {t u : State} (e : t = u) : (.next t : Out) = .next u := congrArg _ e
      refine ⟨fun hs => hn (if_pos (by rw [hs]; rfl)), fun hs hb => ?_, fun hs hb hbad => ?_, fun hs hb ha hrows => ⟨?_, rfl, fun i hi => ?_⟩⟩
      · exact hn ((if_neg (by rw [hs]; decide)).trans (if_pos hb))
      · exact hn ((if_neg (by rw [hs]; decide)).trans ((if_neg (Classical.not_not.mpr hb)).trans (if_pos hbad)))
      · exact hn ((if_neg (by rw [hs]; decide)).trans ((if_neg (Classical.not_not.mpr hb)).trans (if_neg (not_or.mpr ⟨Classical.not_not.mpr ha, Nat.not_lt.mpr hrows⟩))))
      · rw [columnPieces, List.getElem?_map, List.getElem?_range hi]; rfl
  · intro t
    have hcore := core_slotWrite s k a n v
    refine ⟨?_, fun h => ?_, ?_, ?_, ?_, ?_, rfl⟩
    · rw [State.scratchRead, hcore, if_pos rfl]
      exact Memory.readLE_writeLE _ a n v
    · rw [hcore]
      split
      · next hj => rw [hj]; exact Memory.read_writeLE_outside _ a n v b (by omega)
      · rfl
    all_goals rw [hcore]
    · split
      · next hj => rw [hj]
      · rfl
    · split
      · next hj => rw [hj]
      · rfl
    · split
      · next hj => rw [hj]
      · rfl
    · rw [if_pos rfl]

end Sys2Proof.Machine

/-! Proofs about loads and stores of memory and the pool (R175 to R180). -/
namespace Sys2Proof.Machine
set_option Elab.async false

/-! ## Loads -/

/-- A load takes its value as it issues exactly where it reads its own core's scratch and nothing earlier holds it back. -/
theorem addLoad_far {s : State} {u : MemUnit} (h : ownScratch s.cur u = none) : s.addLoad u = s.addUnit u := by rw [State.addLoad, h]
theorem addLoad_held {s : State} {u : MemUnit} {a : Nat} (h : ownScratch s.cur u = some a) (hu : ∃ e ∈ (s.ctx s.cur).units, u.after e = true) :
    s.addLoad u = s.addUnit u := by
  obtain ⟨e, he, ha⟩ := hu
  rw [State.addLoad, h]
  exact congrArg _ (if_neg fun hall => absurd (List.all_eq_true.mp hall e he) (by rw [ha]; decide))
theorem addLoad_taken {s : State} {u : MemUnit} {a : Nat} (h : ownScratch s.cur u = some a) (hu : ∀ e ∈ (s.ctx s.cur).units, u.after e = false) :
    s.addLoad u = s.addUnit { u with taken := some (s.scratchRead (coreOf s.cur) a u.size) } := by
  rw [State.addLoad, h]
  exact congrArg _ (if_pos (List.all_eq_true.mpr fun e he => by rw [hu e he]; rfl))

/-- An issue check of a bundle that has not failed leaves the record as it is. -/
theorem addLoad_issue (s : State) (u : MemUnit) : (s.addLoad u).issue = s.issue := rfl

/-! ## Prefetches (R170, R178, R393) -/

/-- A prefetch by what its target is. -/
def pfOp (o : LM) (t : Except (Nat × Nat) Target) (s : State) : State :=
  match t with
  | .error _ => s.dropPf
  | .ok (.ia a) => if isWindow a then s else s.prefetchLine s.cur (a / 128) (o.d.toNat % 4 == 0)
  | .ok (.pool k off) => s.prefetchPool s.cur k off
  | .ok .none => s

theorem exec_pf {o : LM} {s : State} {t : Except (Nat × Nat) Target} (hr : s.runs o.g)
    (ht : s.pre.targetOf s.cur (s.pre.own o.l1 o.base) (immS 10 o.off.toNat o.ext * 128) (loadNeed 1 1 9) = t) :
    exec (.pf o) s = .next (pfOp o t s) := by subst ht; exact issueOp_runs hr

theorem prefetchLine_none {s : State} {c line : Nat} {near : Bool} (h : s.leafFor (128 * line) false = none) :
    s.prefetchLine c line near = s.dropPf := by rw [State.prefetchLine, h]

theorem prefetchLine_unused {s : State} {c line : Nat} {near : Bool} {l : Leaf} (h : s.leafFor (128 * line) false = some l)
    (ha : l.word.getLsbD 5 = false) : s.prefetchLine c line near = s.dropPf := by
  rw [State.prefetchLine, h]
  exact if_pos (by rw [ha]; rfl)

theorem prefetchLine_used {s : State} {c line : Nat} {near : Bool} {l : Leaf} (h : s.leafFor (128 * line) false = some l)
    (ha : l.word.getLsbD 5 = true) (hf : s.homeFault (128 * line) 128 false = none) :
    s.prefetchLine c line near = if near then s.fillBy c line fun t => t.llcBring c line else (s.cacheLeaf l l.word (128 * line)).llcBring c line := by
  rw [State.prefetchLine, h]
  exact if_neg (by rw [ha, hf]; decide)

/-- Settles O29: a load is `addLoad` of its unit (`issueAt_ok`); a prefetch is `pfOp` of its target. -/
theorem memoryLoads : Obligations.MemoryLoads := by
  have hn {t u : State} (e : t = u) : (.next t : Out) = .next u := congrArg _ e
  refine ⟨fun o s t hr => ?_, fun o s t hr => ?_⟩
  · intro slot base at_ cat ld ldk d
    have hld (n kind : Nat) (acq : Bool) (dest : Option Dest) (h : at_ n n kind = .ok t) :
        (.next (lmLoad o (.load acq) dest n (loadNeed n n kind) s) : Out) = ld acq n dest := by
      refine hn (issueAt_ok h ?_)
      cases acq <;> rfl
    refine ⟨fun u h => addLoad_far h, fun u a h => ⟨addLoad_held h, addLoad_taken h⟩, fun h => ?_, fun h => ?_, fun h => ?_, fun h => ?_, fun h => ?_,
      fun h => ?_, fun h => ?_, fun h => ?_, fun e h => ?_⟩
    · exact (issueOp_runs hr).trans (hld 1 0 false d h)
    · exact (issueOp_runs hr).trans (hld 2 0 false d h)
    · exact (issueOp_runs hr).trans (hld 4 0 false d h)
    · exact (issueOp_runs hr).trans (hld 8 0 false d h)
    · exact (issueOp_runs hr).trans (hn (issueAt_ok h rfl))
    · exact (issueOp_runs hr).trans (hn (issueAt_ok h rfl))
    · exact (issueOp_runs hr).trans (hld 4 2 true d h)
    · exact (issueOp_runs hr).trans (hld 8 2 true d h)
    · exact (issueOp_runs hr).trans (hn (issueAt_error h))
  · intro slot base at_
    refine ⟨fun h => ?_, fun hraised h => ?_, fun e h => ?_, fun a h hw => ?_, fun a h hw => ?_, fun k off h => ?_⟩
    · exact (issueOp_runs hr).trans (hn (issueAt_ok h rfl))
    · have ht : lmLoad o (.scale (s.ctx s.cur).nextUnit) none 128 (loadNeed 128 16 9) s = s.addLoad (s.unitOf slot (.scale (s.ctx s.cur).nextUnit) t 128) :=
        issueAt_ok h rfl
      have hno : ¬(s.addLoad (s.unitOf slot (.scale (s.ctx s.cur).nextUnit) t 128)).issue.raised.isSome = true := by
        rw [addLoad_issue, hraised]; decide
      refine (issueOp_runs hr).trans (hn ?_)
      show (if (lmLoad o (.scale (s.ctx s.cur).nextUnit) none 128 (loadNeed 128 16 9) s).issue.raised.isSome then _ else _) = _
      rw [ht]
      exact (if_neg hno).trans (congrArg (fun u => State.upd u _) ht)
    · exact exec_pf hr h
    · exact (exec_pf hr h).trans (hn (if_pos hw))
    · have hpf : exec (.pf o) s = .next (s.prefetchLine s.cur (a / 128) (o.d.toNat % 4 == 0)) :=
        (exec_pf hr h).trans (hn (if_neg (by rw [hw]; decide)))
      rw [hpf]
      refine ⟨rfl, fun hl => hn (prefetchLine_none hl), fun l hl ha => hn (prefetchLine_unused hl ha), fun l hl ha hf => ⟨fun hcc => ?_, fun hcc => ?_⟩⟩
      · exact hn ((prefetchLine_used hl ha hf).trans (if_pos (by rw [hcc]; rfl)))
      · exact hn ((prefetchLine_used hl ha hf).trans (if_neg (by simpa using hcc)))
    · exact exec_pf hr h

/-- Settles O30: a store is `addStore` of its unit (`issueAt_ok`). -/
theorem memoryStores : Obligations.MemoryStores := by
  intro o s t hr v at_ cat st
  have hn {t u : State} (e : t = u) : (.next t : Out) = .next u := congrArg _ e
  refine ⟨fun h => ?_, fun h => ?_, fun h => ?_, fun h => ?_, fun h => ?_, fun h => ?_, fun h => ?_, fun h => ?_, fun e h => ?_⟩
  iterate 8 exact (issueOp_runs hr).trans (hn (issueAt_ok h rfl))
  exact (issueOp_runs hr).trans (hn (issueAt_error h))

end Sys2Proof.Machine

/-! Proofs about atomics, fences, bindings, handles and capabilities (R183 to R196, R406). -/
namespace Sys2Proof.Machine
set_option Elab.async false

/-! ## Atomics -/

theorem signedN_ite (p : Prop) [Decidable p] (a b n : Nat) : signedN (if p then a else b) n = if p then signedN a n else signedN b n :=
  apply_ite (signedN · n) p a b

/-- The new value of an atomic has the width of its word. -/
theorem amoNew_lt {n old d op : Nat} (ho : old < 2 ^ (8 * n)) (hd : d < 2 ^ (8 * n)) (hop : op < 9) : amoNew op n old d < 2 ^ (8 * n) := by
  have hif (p : Prop) [Decidable p] : (if p then old else d) < 2 ^ (8 * n) := by split <;> assumption
  match op, hop with
  | 0, _ => exact Nat.mod_lt _ (Nat.two_pow_pos _)
  | 1, _ => exact Nat.and_lt_two_pow _ hd
  | 2, _ => exact Nat.or_lt_two_pow ho hd
  | 3, _ => exact Nat.xor_lt_two_pow ho hd
  | 4, _ => exact hif _
  | 5, _ => exact hif _
  | 6, _ => exact hif _
  | 7, _ => exact hif _
  | 8, _ => exact hd

/-- Settles O31: each form is `atIssue` with its operation; the values are `amoNew`'s arms. -/
theorem atomics : Obligations.Atomics := by
  refine ⟨fun o s t hr => ?_, fun n old d hn ho hd => ?_⟩
  · intro off low at_ dst unit amo red A R
    have hn {t u : State} (e : t = u) : (.next t : Out) = .next u := congrArg _ e
    have hamo {i : Instr} {op n kind : Nat} (he : exec i s = issueOp i (amoOp o op n) s) (hg : (infoOf i).guard = o.g.toNat)
        (hk : (if op = 0 then 3 else 5) = kind) (h : A n kind) : exec i s = amo op n :=
      he.trans ((issueOp_runs hr hg).trans (hn (issueAt_ok (by subst hk; exact h) rfl)))
    have hred {i : Instr} {op n kind : Nat} (he : exec i s = issueOp i (redOp o op n) s) (hg : (infoOf i).guard = o.g.toNat)
        (hk : (if op = 0 then 4 else if op = 9 then 6 else 5) = kind) (h : R n kind) : exec i s = red op n :=
      he.trans ((issueOp_runs hr hg).trans (hn (issueAt_ok (by subst hk; exact h) rfl)))
    refine ⟨hamo rfl rfl rfl, hamo rfl rfl rfl, fun h => ?_, fun h => ?_, hred rfl rfl rfl, hred rfl rfl rfl, hred rfl rfl rfl, fun h => ?_, fun h => ?_,
      fun h => ?_, fun h => ?_, fun h => ?_⟩
    · exact ⟨hamo rfl rfl rfl h, hamo rfl rfl rfl h, hamo rfl rfl rfl h, hamo rfl rfl rfl h, hamo rfl rfl rfl h, hamo rfl rfl rfl h, hamo rfl rfl rfl h, hamo rfl rfl rfl h⟩
    · exact ⟨hamo rfl rfl rfl h, hamo rfl rfl rfl h, hamo rfl rfl rfl h, hamo rfl rfl rfl h, hamo rfl rfl rfl h, hamo rfl rfl rfl h, hamo rfl rfl rfl h, hamo rfl rfl rfl h⟩
    · exact ⟨hred rfl rfl rfl h, hred rfl rfl rfl h, hred rfl rfl rfl h, hred rfl rfl rfl h, hred rfl rfl rfl h, hred rfl rfl rfl h, hred rfl rfl rfl h⟩
    · exact ⟨hred rfl rfl rfl h, hred rfl rfl rfl h, hred rfl rfl rfl h, hred rfl rfl rfl h, hred rfl rfl rfl h, hred rfl rfl rfl h, hred rfl rfl rfl h⟩
    · exact (issueOp_runs hr).trans (hn (issueAt_ok h rfl))
    · exact (issueOp_runs hr).trans (hn (issueAt_ok h rfl))
    · exact (issueOp_runs hr).trans (hn (issueAt_ok h rfl))
  · refine ⟨rfl, rfl, rfl, rfl, ?_, ?_, rfl, ?_, ?_, fun op hop => amoNew_lt ho hd hop⟩
    · show (if old < d then old else d) = min old d
      split <;> omega
    · show (if d < old then old else d) = max old d
      split <;> omega
    · show signedN (if signedN old (8 * n) < signedN d (8 * n) then old else d) (8 * n) = _
      rw [signedN_ite]; omega
    · show signedN (if signedN d (8 * n) < signedN old (8 * n) then old else d) (8 * n) = _
      rw [signedN_ite]; omega

/-! ## Bindings and capabilities -/

/-- What a bind does, its object checked. -/
def bindOp (b : Binding) (s : State) : State :=
  if b.len = 0 ∨ !s.pre.objOk b.kind b.obj ∨ (16 ≤ s.pre.binds.length ∧ b ∉ s.pre.binds) then s.fail cOperand (slotCode 4 0 false) 0
  else
    let put := s.upd fun x => if x.binds.contains b then x else { x with binds := x.binds ++ [b] }
    if b.kind = 0 then s.issueAt 4 false (s.pre.targetOf s.cur b.obj 0 (loadNeed 8 8 0)) fun _ => put else put

/-- What an unbind does. -/
def unbindOp (b : Binding) (s : State) : State :=
  if !s.pre.objOk b.kind b.obj then s.fail cOperand (slotCode 4 0 false) 0
  else
    let cut := s.upd fun x => { x with binds := x.binds.filter fun e => !(e.base == b.base && e.obj == b.obj && e.kind == b.kind) }
    if b.kind = 0 then s.issueAt 4 false (s.pre.targetOf s.cur b.obj 0 (loadNeed 8 8 0)) fun _ => cut else cut

theorem exec_bind {o : FB} {s : State} (hr : s.runs o.g) : exec (.bind o) s = .next (bindOp (bindingOf s.pre o) s) := issueOp_runs hr
theorem exec_unbind {o : FB} {s : State} (hr : s.runs o.g) : exec (.unbind o) s = .next (unbindOp (bindingOf s.pre o) s) := issueOp_runs hr

/-- An object that is checked, or needs no check, lets its binding act. -/
theorem bind_object {b : Binding} {s t : State}
    (h : b.kind ≠ 0 ∨ ∃ t, s.pre.targetOf s.cur b.obj 0 (loadNeed 8 8 0) = .ok t) :
    (if b.kind = 0 then s.issueAt 4 false (s.pre.targetOf s.cur b.obj 0 (loadNeed 8 8 0)) fun _ => t else t) = t := by
  split
  · next h0 =>
    obtain ⟨t', ht⟩ := h.resolve_left (Classical.not_not.mpr h0)
    exact issueAt_ok ht rfl
  · rfl

/-- Settles O32: fences, bindings, handles and capabilities each by their one arm. -/
theorem fencesBindingsHandles : Obligations.FencesBindingsHandles := by
  have hn {t u : State} (e : t = u) : (.next t : Out) = .next u := congrArg _ e
  refine ⟨fun o s hr => ?_, fun o s hr => ?_⟩
  · intro b
    rw [exec_bind hr, exec_unbind hr]
    refine ⟨issueOp_runs hr, issueOp_runs hr, issueOp_runs hr, fun hl ho hroom hk => ?_, fun hl => hn (if_pos (.inl hl)), fun ho hk => ?_⟩
    · refine hn ((if_neg ?_).trans (bind_object hk))
      rintro (h | h | ⟨h1, h2⟩)
      · exact hl h
      · rw [ho] at h; exact absurd h (by decide)
      · exact hroom.elim (fun h => absurd h (Nat.not_lt.mpr h1)) h2
    · exact hn ((if_neg (by rw [ho]; decide)).trans (bind_object hk))
  · intro slot own n k
    have hh : exec (.halloc o) s = .next (if (s.pre.handle o.d.toNat).bound ∨ (s.now.handle o.d.toNat).pending ∨ 2 ^ 24 ≤ n then
        s.fail cOperand (slotCode slot 0 false) 0
      else s.upd fun x => { x.setHandle o.d.toNat { Handle.reset with pending := true } with
        hallocs := x.hallocs ++ [(o.d.toNat, o.sub.toNat, n % 65536, n / 65536 % 256)] }) := issueOp_runs hr
    rw [hh]
    refine ⟨fun hb hp hsz => hn (if_neg ?_), fun hb => hn (if_pos (hb.imp_right Or.inl)), issueOp_runs hr, issueOp_runs hr, fun hl hk => ?_, fun a h => ?_, fun a h => ?_,
      issueOp_runs hr⟩
    · rw [hb, hp]
      rintro (h | h | h)
      · exact absurd h (by decide)
      · exact absurd h (by decide)
      · exact absurd h (Nat.not_le.mpr hsz)
    · refine ⟨_, (issueOp_runs hr).trans (hn ((if_neg (Nat.not_le.mpr hl)).trans (if_neg ?_))), rfl, rfl, rfl, rfl⟩
      rw [show (s.pre.kreg (o.h.toNat % 16)).getLsbD 5 = true from hk]; decide
    · refine (issueOp_runs hr).trans (hn (issueAt_ok (t := .ia a) ?_ rfl))
      rw [show s.pre.targetOf s.cur (s.pre.own o.l1 o.a) 0 (loadNeed 16 16 9) = _ from h]
    · refine (issueOp_runs hr).trans (hn (issueAt_ok (t := .ia a) ?_ rfl))
      rw [show s.pre.targetOf s.cur (s.pre.own o.l1 o.a) 0 (storeNeed 16 9 k.toNat) = _ from h]

end Sys2Proof.Machine

/-! Proofs about the V0 and V1 slots (R141 to R161): what a lane operation writes, and each form's elements. -/
namespace Sys2Proof.Machine
set_option Elab.async false

/-! ## Packed lanes (R142) -/

/-- Two numbers without a common bit below 1024 add bit by bit there. -/
theorem testBit_add_of_disjoint {a b : Nat} (h : ∀ i < 1024, ¬(a.testBit i = true ∧ b.testBit i = true)) (i : Nat) (hi : i < 1024) :
    (a + b).testBit i = (a.testBit i || b.testBit i) := by
  have hand : BitVec.ofNat 1024 a &&& BitVec.ofNat 1024 b = 0#1024 := by
    apply BitVec.eq_of_getLsbD_eq
    intro j hj
    rw [BitVec.getLsbD_and, BitVec.getLsbD_ofNat, BitVec.getLsbD_ofNat, BitVec.getLsbD_zero]
    have := h j hj
    cases ha : a.testBit j <;> cases hb : b.testBit j <;> simp_all
  have hor := congrArg (fun x => x.getLsbD i) (BitVec.add_eq_or_of_and_eq_zero _ _ hand)
  simpa only [← BitVec.ofNat_add, BitVec.getLsbD_or, BitVec.getLsbD_ofNat, hi, decide_true, Bool.true_and] using hor

/-- Values below 2^w placed apart, summed onto a number that has no bit where they go. -/
theorem testBit_placed {w : Nat} (pos x : Nat × Nat → Nat) (hx : ∀ e, x e < 2 ^ w) (l : List (Nat × Nat))
    (hd : l.Pairwise fun e f => pos e + w ≤ pos f ∨ pos f + w ≤ pos e) (a : Nat)
    (ha : ∀ e ∈ l, ∀ b < 1024, pos e ≤ b → b < pos e + w → a.testBit b = false) (b : Nat) (hb : b < 1024) :
    (l.foldl (fun a e => a + x e * 2 ^ pos e) a).testBit b = (a.testBit b || l.any fun e => decide (pos e ≤ b) && (x e).testBit (b - pos e)) := by
  have hfield (e : Nat × Nat) (b : Nat) : (x e * 2 ^ pos e).testBit b = (decide (pos e ≤ b) && (x e).testBit (b - pos e)) := by
    rw [Nat.mul_comm, Nat.testBit_two_pow_mul]
  have hrange (e : Nat × Nat) (b : Nat) (h : (x e * 2 ^ pos e).testBit b = true) : pos e ≤ b ∧ b < pos e + w := by
    rw [hfield, Bool.and_eq_true, decide_eq_true_eq] at h
    have := Nat.ge_two_pow_of_testBit h.2
    have := (Nat.pow_lt_pow_iff_right (a := 2) (by omega)).mp (Nat.lt_of_le_of_lt this (hx e))
    omega
  induction l generalizing a with
  | nil => simp
  | cons e l ih =>
    obtain ⟨he, hl⟩ := List.pairwise_cons.mp hd
    have hadd (b : Nat) (hb : b < 1024) := testBit_add_of_disjoint (a := a) (b := x e * 2 ^ pos e)
      (fun i hi ⟨h1, h2⟩ => by
        have := hrange e i h2
        rw [ha e List.mem_cons_self i hi this.1 this.2] at h1
        exact absurd h1 (by decide)) b hb
    rw [List.foldl_cons, ih hl, hadd b hb, hfield, List.any_cons, Bool.or_assoc]
    intro f hf c hc h1 h2
    rw [hadd c hc, ha f (List.mem_cons_of_mem _ hf) c hc h1 h2, Bool.false_or]
    refine Bool.eq_false_iff.mpr fun h => ?_
    have h3 := hrange e c h
    have h4 := he f hf
    omega

/-- Elements of different numbers are placed apart. -/
theorem placed_apart {w base i j : Nat} (h : i ≠ j) : base + w * i + w ≤ base + w * j ∨ base + w * j + w ≤ base + w * i := by
  rcases Nat.lt_or_gt_of_ne h with h | h
  · left; have := Nat.mul_le_mul_left w (Nat.succ_le_of_lt h); rw [Nat.mul_succ] at this; omega
  · right; have := Nat.mul_le_mul_left w (Nat.succ_le_of_lt h); rw [Nat.mul_succ] at this; omega

/-- The bits of packed lanes below 1024: those of the elements listed, in their places. -/
theorem packed_getLsbD {w base : Nat} (x : Nat × Nat → Nat) (hx : ∀ e, x e < 2 ^ w) (l : List (Nat × Nat)) (hn : (l.map (·.1)).Nodup)
    (b : Nat) (hb : b < 1024) :
    (BitVec.ofNat 1024 (l.foldl (fun a e => a + x e * 2 ^ (base + w * e.1)) 0)).getLsbD b =
      l.any fun e => decide (base + w * e.1 ≤ b) && (x e).testBit (b - (base + w * e.1)) := by
  have hd : l.Pairwise fun e f => base + w * e.1 + w ≤ base + w * f.1 ∨ base + w * f.1 + w ≤ base + w * e.1 :=
    (List.pairwise_map.mp hn).imp fun h => placed_apart h
  rw [BitVec.getLsbD_ofNat, testBit_placed (fun e => base + w * e.1) x hx l hd 0 (fun _ _ _ _ _ _ => Nat.zero_testBit _) b hb, Nat.zero_testBit,
    Bool.false_or, decide_eq_true hb, Bool.true_and]

/-- Of pairs with different first parts, one is known by its first part. -/
theorem eq_of_nodup_fst {α β : Type} {l : List (α × β)} (hn : (l.map (·.1)).Nodup) {e f : α × β} (he : e ∈ l) (hf : f ∈ l) (h : e.1 = f.1) :
    e = f := by
  induction l with
  | nil => cases he
  | cons a l ih =>
    obtain ⟨ha, hn⟩ := List.nodup_cons.mp hn
    have hne {g : α × β} (hg : g ∈ l) : a.1 ≠ g.1 := fun hag => ha (List.mem_map.2 ⟨g, hg, hag.symm⟩)
    rcases List.mem_cons.mp he with rfl | hel <;> rcases List.mem_cons.mp hf with rfl | hfl
    · rfl
    · exact absurd h (hne hfl)
    · exact absurd h.symm (hne hel)
    · exact ih hn hel hfl

/-- Settles O34: the elements listed take disjoint fields, so the sum's bits are theirs (`packed_getLsbD`). -/
theorem laneWrites : Obligations.LaneWrites := by
  intro w base l hw hn hl
  refine ⟨fun e he => ?_, fun b hb => ?_⟩
  · have hfit := hl e he
    rw [Nat.mul_succ] at hfit
    apply Nat.eq_of_testBit_eq
    intro i
    rw [elemAt, BitVec.testBit_toNat, BitVec.getLsbD_extractLsb']
    by_cases hi : i < w
    · rw [show (packLanes base w l).1.getLsbD _ = _ from packed_getLsbD _ (fun e => Nat.mod_lt _ (Nat.two_pow_pos w)) l hn _ (by omega),
        decide_eq_true hi, Bool.true_and, Bool.eq_iff_iff, List.any_eq_true]
      refine ⟨fun ⟨f, hf, h⟩ => ?_, fun h => ⟨e, he, ?_⟩⟩
      · rw [Bool.and_eq_true, decide_eq_true_eq] at h
        have hlt := (Nat.pow_lt_pow_iff_right (a := 2) (by omega)).mp
          (Nat.lt_of_le_of_lt (Nat.ge_two_pow_of_testBit h.2) (Nat.mod_lt _ (Nat.two_pow_pos w)))
        have hfe : f = e := eq_of_nodup_fst hn hf he (by
          refine Classical.byContradiction fun hne => ?_
          have := placed_apart (w := w) (base := base) hne
          omega)
        rw [hfe, Nat.add_sub_cancel_left] at h
        exact h.2
      · rw [Nat.add_sub_cancel_left, h, decide_eq_true (Nat.le_add_right _ _)]; rfl
    · rw [Nat.testBit_mod_two_pow, decide_eq_false hi]; rfl
  · rw [show (packLanes base w l).2.getLsbD b = _ from
      packed_getLsbD (fun _ => 2 ^ w - 1) (fun _ => Nat.sub_lt (Nat.two_pow_pos w) Nat.one_pos) l hn b hb, List.any_eq_true]
    simp only [Nat.testBit_two_pow_sub_one, Bool.and_eq_true, decide_eq_true_eq]
    refine exists_congr fun e => and_congr_right fun _ => ?_
    rw [Nat.mul_succ]
    omega

end Sys2Proof.Machine

/-! Proofs about the results of the V0 and V1 slots (R145 to R161). -/
namespace Sys2Proof.Machine
set_option Elab.async false

/-- A vector syllable's lane mask is no guard: within a bundle it acts. -/
theorem issueOp_lane {i : Instr} {body : State → State} {s : State} (h : s.issue.active = true) (hg : (infoOf i).guard = 0 := by rfl) :
    issueOp i body s = .next (body s) := issueOp_on h (by rw [hg]; rfl) rfl

/-- Settles O33: each form is one lane operation. -/
theorem vectorIntegerForms : Obligations.VectorIntegerForms := by
  intro o s h w a b res
  exact ⟨issueOp_lane h, issueOp_lane h, issueOp_lane h, issueOp_lane h, issueOp_lane h, issueOp_lane h, issueOp_lane h, issueOp_lane h,
    issueOp_lane h, issueOp_lane h, issueOp_lane h, issueOp_lane h, issueOp_lane h, issueOp_lane h, issueOp_lane h, issueOp_lane h, issueOp_lane h,
    issueOp_lane h, issueOp_lane h, issueOp_lane h⟩

/-- Settles O35: each form is one lane operation; the forms of suffix .h are the same operations. -/
theorem vectorFloatForms : Obligations.VectorFloatForms := by
  intro o s h t mode e c res code sum dif pro fma fms abs neg cmp
  exact ⟨issueOp_lane h, issueOp_lane h, issueOp_lane h, issueOp_lane h, issueOp_lane h, issueOp_lane h, issueOp_lane h, issueOp_lane h,
    issueOp_lane h, issueOp_lane h, issueOp_lane h, issueOp_lane h, issueOp_lane h, issueOp_lane h, issueOp_lane h, issueOp_lane h, issueOp_lane h,
    issueOp_lane h, issueOp_lane h, issueOp_lane h⟩

/-- Settles O37: each form is a reduction, a scan or a move of its own. -/
theorem vectorReductionsAndMoves : Obligations.VectorReductionsAndMoves := by
  intro o s h w n a b mv k m
  exact ⟨issueOp_lane h, issueOp_lane h, issueOp_lane h, issueOp_lane h, issueOp_lane h, issueOp_lane h, issueOp_lane h, issueOp_lane h,
    issueOp_lane h, issueOp_lane h, issueOp_lane h, issueOp_lane h, issueOp_lane h, issueOp_lane h, issueOp_lane h⟩

/-! ## Conversions -/

theorem convert_valid {o : VA} {c : Nat} {f : Fmt → Nat → FVal → Rounded} {s : State} {a b : Fmt} (ha : fmtOf s.pre.fmtreg o.ty.toNat = some a)
    (hb : fmtOf s.pre.fmtreg (cvtFmt o) = some b) : convert o c f s = laneOp o c (cvtCount a b) (cvtTo o a b) b.w (fun i =>
      let r := f b i (decodeVal a (elemAt (s.pre.vreg o.va.toNat) (cvtFrom o a b + a.w * i) a.w))
      (r.bits, r.flags)) s := by rw [convert, ha, hb]

theorem convert_invalid {o : VA} {c : Nat} {f : Fmt → Nat → FVal → Rounded} {s : State} (ha : fmtOf s.pre.fmtreg o.ty.toNat = none) :
    convert o c f s = s.fail cOperand (vSlot o) 0 := by rw [convert, ha]

/-- A quantisation with a good scale word and valid formats. -/
def vqntOp (o : VA) (s : State) : State :=
  if scaleBad (s.pre.vreg o.vb.toNat) then s.fail cOperand (vSlot o) 0
  else match fmtOf s.pre.fmtreg o.ty.toNat, fmtOf s.pre.fmtreg (cvtFmt o) with
    | some a, some b =>
      let sc := decodeVal fp32 (elemAt (s.pre.vreg o.vb.toNat) 0 32)
      let large := (lanesOn s.pre o (cvtCount a b)).filter fun i =>
        (qntRound b sc (cvtMode o) (decodeVal a (elemAt (s.pre.vreg o.va.toNat) (cvtFrom o a b + a.w * i) a.w))).ovf
      (convert o 5 (fun d _ x => qntRound d sc (cvtMode o) x) s).overflowed o large
    | _, _ => s.fail cOperand (vSlot o) 0

theorem exec_vqnt {o : VA} {s : State} (h : s.issue.active = true) : exec (.vqnt o) s = .next (vqntOp o s) := issueOp_lane h

/-- The statistics of the enabled elements of a register, where its format is valid. -/
def vstatOp (o : VA) (s : State) : State :=
  match fmtOf s.pre.fmtreg o.ty.toNat with
  | some a => s.sendDelta s.pre.asid (scaleRec (s.pre.vreg o.vb.toNat))
      (statsOf ((lanesOn s.pre o (1024 / a.w)).map fun i => decodeVal a (elemAt (s.pre.vreg o.va.toNat) (a.w * i) a.w)))
  | none => s.fail cOperand (vSlot o) 0

theorem exec_vstat {o : VA} {s : State} (h : s.issue.active = true) : exec (.vstat o) s = .next (vstatOp o s) := issueOp_lane h

/-- Settles O36: a conversion between valid formats is one lane operation (`convert_valid`). -/
theorem vectorConversions : Obligations.VectorConversions := by
  intro o s a b h v sp cv
  have hn {t u : State} (e : t = u) : (.next t : Out) = .next u := congrArg _ e
  refine ⟨issueOp_lane h, issueOp_lane h, issueOp_lane h, issueOp_lane h, issueOp_lane h, fun ha hb => ⟨?_, ?_, fun x m sat r => ⟨?_, ?_⟩, ?_, fun hs => ?_⟩,
    fun ha => ?_, fun ha => ?_⟩
  · exact (issueOp_lane h).trans (hn (convert_valid ha hb))
  · exact (issueOp_lane h).trans (hn (convert_valid ha hb))
  · exact fun hl => if_pos hl
  · exact fun hl => if_neg (by rw [hl]; decide)
  · exact (issueOp_lane h).trans (hn (convert_valid ha hb))
  · rw [exec_vqnt h, vqntOp, hs, if_neg (by decide), ha, hb]
    exact hn (congrArg (State.overflowed · o _) (convert_valid ha hb))
  · exact (issueOp_lane h).trans (hn (convert_invalid ha))
  · rw [exec_vstat h, vstatOp, ha]
    rfl

end Sys2Proof.Machine

/-! Proofs about the M, D and O slots where an operation enters its queue (R216 to R245). -/
namespace Sys2Proof.Machine
set_option Elab.async false

/-- Settles O38: with every check passed `mxIssue` reaches its last arm. -/
theorem matrixForms : Obligations.MatrixForms := by
  have hn {t u : State} (e : t = u) : (.next t : Out) = .next u := congrArg _ e
  refine ⟨fun o s acc f fa fb hr => ?_, fun o s hr => ⟨fun acc ha => ?_, fun ha => ?_, issueOp_runs hr, issueOp_runs hr⟩⟩
  · intro x hA hB q need ready go
    rintro ⟨hacc, hfa, hfb, hAb, hAk, hAr, hBb, hBk, hBr, hta, htb, hfitA, hfitB, hlen, halt⟩
    have hgo (i : Instr) : (.next (mxIssue i o f s) : Out) = go i := by
      have hshape : ¬((!hA.bound) = true ∨ hA.kind ≠ 0 ∨ hA.roww % 8 ≠ 0 ∨ (!hB.bound) = true ∨ hB.kind ≠ 1 ∨ hB.roww % 8 ≠ 0 ∨
          (o.order.getLsbD 0 = true ∧ x.mat.offA.toNat % groupElems fa.w ≠ 0) ∨ (o.order.getLsbD 1 = true ∧ x.mat.offB.toNat % groupElems fb.w ≠ 0)) := by
        rintro (h | h | h | h | h | h | ⟨h, h'⟩ | ⟨h, h'⟩)
        · rw [hAb] at h; cases h
        · exact h hAk
        · exact h hAr
        · rw [hBb] at h; cases h
        · exact h hBk
        · exact h hBr
        · exact h' (hta h)
        · exact h' (htb h)
      have hscales : ¬(q.length < need ∨ (!alternates false (q.take need)) = true) := by
        rw [halt]
        rintro (h | h)
        · exact absurd hlen (Nat.not_le.mpr h)
        · exact absurd h (by decide)
      simp only [mxIssue]
      rw [hacc, hfa, hfb]
      exact hn ((if_neg hshape).trans ((if_neg (by rw [hfitA]; decide)).trans ((if_neg (by rw [hfitB]; decide)).trans (if_neg hscales))))
    refine ⟨fun hf => ?_, fun hf => ?_, fun hf => ?_, fun hf => ?_, fun hf => ?_, fun hf => ?_, fun hf => ?_⟩
    all_goals
      subst hf
      exact ⟨(issueOp_runs hr).trans (hgo _), (issueOp_runs hr).trans (hgo _)⟩
  · exact (issueOp_runs hr).trans (hn (by simp only [ha]))
  · exact (issueOp_runs hr).trans (hn (by simp only [ha]))

/-! ## Drains and fills -/

section
variable {o : DR} {s : State} {acc e : Nat} {f : Fmt} {reg : Word32} {fill : Bool} (hacc : s.pre.accOf s.cur o.acc.toNat = some acc)
  (he : s.drEntry o fill = some (e, f, reg))
include hacc he

/-- With a valid entry and rows inside the handle, a drain or fill over handle rows enters the D queue. -/
theorem drTile_fits (i : Instr) (hg : (s.pre.handle o.t.toNat).isGroup = true) (hk : fill = true ∨ (s.pre.handle o.t.toNat).kind = 2)
    (hfit : drFits (s.pre.handle o.t.toNat) e o.row.toNat f.w = true) :
    drTile i o fill s = s.addEng { s.drOp i acc e reg (((List.range 16).map fun r =>
      footScratch (drRowAt (s.pre.handle o.t.toNat).tile e (16 * o.row.toNat + r)) (16 * f.w) fill (!fill)) ++ [footAcc acc (!fill) fill]) with
        tiles := [(s.pre.handle o.t.toNat).tile] } := by
  simp only [drTile, hacc, he]
  refine (if_neg ?_).trans (if_neg (by rw [hfit]; decide))
  rw [hg]
  rintro (h | ⟨h1, h2⟩)
  · exact absurd h (by decide)
  · exact hk.elim (fun hf => by rw [hf] at h1; exact absurd h1 (by decide)) h2

/-- With a valid entry and rows that the address checks pass, a drain or fill over memory rows enters it. -/
theorem drMemory_targets (i : Instr) {ts : List Target} (ht : drTargets s.pre s.cur o fill (16 * f.w) = .ok ts) :
    drMemory i o fill s = s.addEng { s.drOp i acc e reg ((ts.map fun t => footTarget t (16 * f.w) fill (!fill)) ++ [footAcc acc (!fill) fill]) with
      cap := targetCap ts } := by simp only [drMemory, hacc, he, ht]

/-- With a valid entry and a piece inside the row, a drainv or fillv enters it. -/
theorem drPiece_fits (i : Instr) (hp : (o.row.toNat + 1) * pieceLen f.w ≤ 128) :
    drPiece i o fill s = s.addEng { s.drOp i acc e reg [footAcc acc (!fill) fill] with vec := if fill then s.pre.vreg o.t.toNat else 0 } := by
  simp only [drPiece, hacc, he]
  exact if_neg (Nat.not_lt.mpr hp)

end

/-- Settles O39: the accepted arms of `drTile`, `drMemory` and `drPiece`. -/
theorem drainForms : Obligations.DrainForms := by
  intro o s acc e f reg hr hacc h rows tile piece fits mem
  have hn {t u : State} (e : t = u) : (.next t : Out) = .next u := congrArg _ e
  have hfits (hf : fits) : drFits h e o.row.toNat f.w = true := by rw [drFits, decide_eq_true hf.1, decide_eq_true hf.2]; rfl
  refine ⟨fun he => ⟨fun hg hk hf => ?_, fun ts ht => ?_, fun hp => ?_⟩, fun he => ⟨fun hg hf => ?_, fun ts ht => ?_, fun hp => ?_⟩, ?_⟩
  · exact (issueOp_runs hr).trans (hn (drTile_fits hacc he _ hg (.inr hk) (hfits hf)))
  · exact (issueOp_runs hr).trans (hn (drMemory_targets hacc he _ ht))
  · exact (issueOp_runs hr).trans (hn (drPiece_fits hacc he _ hp))
  · exact (issueOp_runs hr).trans (hn (drTile_fits hacc he _ hg (.inl rfl) (hfits hf)))
  · exact (issueOp_runs hr).trans (hn (drMemory_targets hacc he _ ht))
  · exact (issueOp_runs hr).trans (hn (drPiece_fits hacc he _ hp))
  · exact (issueOp_runs hr).trans (hn (by simp only [hacc]))

/-! ## Optimiser forms -/

/-- Settles O40: with every check passed `opIssue` reaches its last arm. -/
theorem optimiserForms : Obligations.OptimiserForms := by
  intro o s acc hp hr hacc hblock x b p ok go two
  have hn {t u : State} (e : t = u) : (.next t : Out) = .next u := congrArg _ e
  have hgo (i : Instr) (clip : Bool) (hs : List (Nat × Nat)) (h : ok clip hs) : (.next (opIssue i o clip hs s) : Out) = go i hs := by
    obtain ⟨hb, hw, hbad, hall⟩ := h
    have hgroup : ¬((!b.isGroup) = true ∨ (hs.any fun e => !(x.handle e.1).isGroup) = true ∨ opBad p clip = true) := by
      rw [hb, hbad]
      simp only [List.any_eq_true]
      rintro (h | ⟨e, he, h⟩ | h)
      · exact absurd h (by decide)
      · rw [(hall e he).1] at h; exact absurd h (by decide)
      · exact absurd h (by decide)
    have hfind : (hs.find? fun e => decide ((x.handle e.1).rows < 16) || decide ((x.handle e.1).roww < e.2)) = none := by
      refine List.find?_eq_none.mpr fun e he h => ?_
      obtain ⟨_, h1, h2⟩ := hall e he
      simp only [Bool.or_eq_true, decide_eq_true_eq] at h
      omega
    simp only [opIssue]
    rw [hacc, hblock]
    refine hn ((if_neg hgroup).trans ?_)
    rw [hfind]
    exact if_neg (Nat.not_lt.mpr hw)
  refine ⟨fun h => ⟨?_, ?_⟩, fun h => ⟨?_, ?_⟩, fun h => ⟨?_, ?_⟩, fun h => ⟨?_, ?_⟩, fun h => ?_, fun h => ?_⟩
  all_goals exact (issueOp_runs hr).trans (hgo _ _ _ h)

end Sys2Proof.Machine

/-! Proofs about the jobs of the E slot (R213, R261 to R263, R274 to R276). -/
namespace Sys2Proof.Machine
set_option Elab.async false

/-- With a card that its checks pass, a job enters the E queue with the plan its card makes. -/
theorem jobIssue_accepted {i : Instr} {o : EJ} {minRow : Nat} {nest : Bool} {plan : State → Nat → Option JobPlan} {s : State} {p : JobPlan}
    (hg : (s.pre.handle o.hJ.toNat).isGroup = true) (hk : (s.pre.handle o.hJ.toNat).kind = 2) (hw : (s.pre.handle o.hW.toNat).isWaymark = true)
    (hrow : minRow ≤ (s.pre.handle o.hJ.toNat).roww) (hh : headerOk (s.cardOf s.cur (s.pre.handle o.hJ.toNat)) nest = true)
    (hp : plan s (s.cardOf s.cur (s.pre.handle o.hJ.toNat)) = some p)
    (hf : jobFault s.pre (s.cardOf s.cur (s.pre.handle o.hJ.toNat)) p
      ((cardFoots (s.cardOf s.cur (s.pre.handle o.hJ.toNat))).map (s.pre.entryOf s.cur)) = none) :
    jobIssue i o minRow nest plan s = s.addJob i (s.pre.handle o.hJ.toNat) (s.pre.handle o.hW.toNat)
      (s.cardOf s.cur (s.pre.handle o.hJ.toNat)) p (okFoots ((cardFoots (s.cardOf s.cur (s.pre.handle o.hJ.toNat))).map (s.pre.entryOf s.cur))) := by
  have hshape : ¬((!((s.pre.handle o.hJ.toNat).isGroup && (s.pre.handle o.hJ.toNat).kind == 2)) = true ∨ (s.pre.handle o.hJ.toNat).roww < minRow ∨
      (!(s.pre.handle o.hW.toNat).isWaymark) = true) := by
    rw [hg, hk, hw]
    rintro (h | h | h)
    · exact absurd h (by decide)
    · exact absurd hrow (Nat.not_le.mpr h)
    · exact absurd h (by decide)
  simp only [jobIssue]
  rw [if_neg hshape, if_pos hh, hp]
  simp only [hf]

/-- Settles O41: every form but wmarm is `jobIssue` with its own plan. -/
theorem engineJobs : Obligations.EngineJobs := by
  intro o s p hr hJ hW card l job hw
  have hn {t u : State} (e : t = u) : (.next t : Out) = .next u := congrArg _ e
  refine ⟨(issueOp_runs hr).trans (hn (if_pos hw)), fun hg hk => ?_⟩
  have hjob {i : Instr} {minRow : Nat} {nest : Bool} {plan : State → Nat → Option JobPlan} {q : Option JobPlan}
      (he : exec i s = issueOp i (jobIssue i o minRow nest plan) s) (hguard : (infoOf i).guard = o.g.toNat) (hq : plan s card = q) :
      job i minRow nest q :=
    fun hrow hh hp hf => he.trans ((issueOp_runs hr hguard).trans (hn (jobIssue_accepted hg hk hw hrow hh (hq.trans hp) hf)))
  exact ⟨hjob rfl rfl rfl, hjob rfl rfl rfl, hjob rfl rfl rfl, hjob rfl rfl rfl, hjob rfl rfl rfl, hjob rfl rfl rfl, hjob rfl rfl rfl, hjob rfl rfl rfl,
    hjob rfl rfl rfl, hjob rfl rfl rfl, hjob rfl rfl rfl, hjob rfl rfl rfl, hjob rfl rfl rfl, hjob rfl rfl rfl, hjob rfl rfl rfl, hjob rfl rfl rfl,
    hjob rfl rfl rfl, hjob rfl rfl rfl, hjob rfl rfl rfl, hjob rfl rfl rfl, hjob rfl rfl rfl, hjob rfl rfl rfl, hjob rfl rfl rfl, hjob rfl rfl rfl,
    hjob rfl rfl rfl, hjob rfl rfl rfl⟩

end Sys2Proof.Machine

/-! Proofs about what everything below the issue stage leaves: caches, memories, the LLC, translations, deltas, the front end, the host's side and the
pool may change, no context and no core does (R327 to R330, R383, R392, R403, R448). -/
namespace Sys2Proof.Machine
set_option Elab.async false

/-- Two states that differ at most below the issue stage. -/
def State.Below (s t : State) : Prop :=
  ∃ clusters mem hostMem llc windows closed tlb sharers migrations deltas fe host pool freeCtr, t = { s with
    clusters := clusters
    mem := mem
    hostMem := hostMem
    llc := llc
    windows := windows
    closed := closed
    tlb := tlb
    sharers := sharers
    migrations := migrations
    deltas := deltas
    fe := fe
    host := host
    pool := pool
    freeCtr := freeCtr }

namespace State.Below
variable {s t u : State}

theorem refl (s : State) : s.Below s := ⟨_, _, _, _, _, _, _, _, _, _, _, _, _, _, rfl⟩

theorem trans (h : s.Below t) (h' : t.Below u) : s.Below u := by
  obtain ⟨_, _, _, _, _, _, _, _, _, _, _, _, _, _, rfl⟩ := h
  obtain ⟨_, _, _, _, _, _, _, _, _, _, _, _, _, _, rfl⟩ := h'
  exact ⟨_, _, _, _, _, _, _, _, _, _, _, _, _, _, rfl⟩

theorem ite {c : Prop} [Decidable c] (h : s.Below t) (h' : s.Below u) : s.Below (if c then t else u) := by
  split <;> assumption

theorem foldl {α : Type} {f : State → α → State} (hf : ∀ (t : State) a, t.Below (f t a)) (l : List α) (s : State) : s.Below (l.foldl f s) := by
  induction l generalizing s with
  | nil => exact refl s
  | cons a l ih => exact (hf s a).trans (ih _)

theorem of_memSide (h : s.MemSide t) : s.Below t := by
  obtain ⟨_, _, _, _, _, _, _, _, rfl⟩ := h
  exact ⟨_, _, _, _, _, _, _, _, _, _, _, _, _, _, rfl⟩

theorem ctxs (h : s.Below t) : t.ctxs = s.ctxs := by obtain ⟨_, _, _, _, _, _, _, _, _, _, _, _, _, _, rfl⟩ := h; rfl
theorem cores (h : s.Below t) : t.cores = s.cores := by obtain ⟨_, _, _, _, _, _, _, _, _, _, _, _, _, _, rfl⟩ := h; rfl
theorem issue (h : s.Below t) : t.issue = s.issue := by obtain ⟨_, _, _, _, _, _, _, _, _, _, _, _, _, _, rfl⟩ := h; rfl
theorem cur (h : s.Below t) : t.cur = s.cur := by obtain ⟨_, _, _, _, _, _, _, _, _, _, _, _, _, _, rfl⟩ := h; rfl
theorem ctx (h : s.Below t) (c : Nat) : t.ctx c = s.ctx c := by rw [State.ctx, State.ctx, h.ctxs]
theorem core (h : s.Below t) (k : Nat) : t.core k = s.core k := by rw [State.core, State.core, h.cores]

/-! ## Single parts -/

theorem modFe (s : State) (f : FrontEnd → FrontEnd) : s.Below (s.modFe f) := ⟨_, _, _, _, _, _, _, _, _, _, _, _, _, _, rfl⟩
theorem modQuota (s : State) (cls : Nat) (f : QuotaClass → QuotaClass) : s.Below (s.modQuota cls f) := ⟨_, _, _, _, _, _, _, _, _, _, _, _, _, _, rfl⟩
theorem modCluster (s : State) (k : Nat) (f : Cluster → Cluster) : s.Below (s.modCluster k f) := ⟨_, _, _, _, _, _, _, _, _, _, _, _, _, _, rfl⟩
theorem setLine (s : State) (cl line : Nat) (l : CacheLine) : s.Below (s.setLine cl line l) := modCluster s cl _
theorem dropLine (s : State) (cl line : Nat) : s.Below (s.dropLine cl line) := modCluster s cl _
theorem modLlc (s : State) (line : Nat) (f : LlcLine → LlcLine) : s.Below (s.modLlc line f) := of_memSide (.modLlc s line f)
theorem spend (s : State) : s.Below s.spend := of_memSide (.spend s)
theorem sendDelta (s : State) (asid recid : Nat) (h : Half) : s.Below (s.sendDelta asid recid h) := ⟨_, _, _, _, _, _, _, _, _, _, _, _, _, _, rfl⟩
theorem dropPf (s : State) : s.Below s.dropPf := by unfold State.dropPf; exact modFe s _
theorem frameWrite (s : State) (k : Word128) (off n v : Nat) : s.Below (s.frameWrite k off n v) := modFe s _

theorem countWrites (s : State) (w : Word) (n : Nat) : s.Below (s.countWrites w n) :=
  ite (refl s) ⟨_, _, _, _, _, _, _, _, _, _, _, _, _, _, rfl⟩

theorem countOp (s : State) (o : EngOp) : s.Below (s.countOp o) := by
  unfold State.countOp
  split
  case h_5 => exact countWrites s _ _
  all_goals exact refl s

/-! ## Records -/

theorem writeRecord (s : State) (w : List Word) : s.Below (s.writeRecord w) := by
  unfold State.writeRecord
  exact (of_memSide (.writeWords s _ _)).trans (modFe _ _)
theorem postRecord (s : State) (w : List Word) : s.Below (s.postRecord w) :=
  ite (writeRecord s w) (modFe s _)
theorem postError (s : State) (code w8 detail : Nat) : s.Below (s.postError code w8 detail) := postRecord s _

/-! ## The LLC -/

theorem llcEvict (s : State) (line : Nat) : s.Below (s.llcEvict line) := ite ((modQuota s _ _).trans (modLlc _ _ _)) (refl s)
theorem llcEnter (s : State) (line cls : Nat) : s.Below (s.llcEnter line cls) := (modLlc s _ _).trans (modQuota _ _ _)
theorem llcVictim (s : State) (l : List Nat) : s.Below (s.llcVictim l) := by
  unfold State.llcVictim
  split
  · exact (llcEvict s _).trans (spend _)
  · exact refl s
theorem llcVictims (s : State) (slice cls n : Nat) : s.Below (s.llcVictims slice cls n) := by
  induction n generalizing s with
  | zero => exact refl s
  | succ n ih => exact (llcVictim s _).trans (ih _)
theorem llcFill (s : State) (line cls : Nat) : s.Below (s.llcFill line cls) :=
  ite (refl s) (ite (ite (refl s) (llcVictim s _)) (ite ((llcVictims s _ _ _).trans (llcEnter _ _ _)) ((ite (llcVictim s _) (refl s)).trans (llcEnter _ _ _))))
theorem countLookup (s : State) (task line : Nat) (miss : Bool) : s.Below (s.countLookup task line miss) := by
  unfold State.countLookup
  split
  · exact refl s
  · split
    · exact refl s
    · exact ite ⟨_, _, _, _, _, _, _, _, _, _, _, _, _, _, rfl⟩ ⟨_, _, _, _, _, _, _, _, _, _, _, _, _, _, rfl⟩
theorem llcBring (s : State) (c line : Nat) : s.Below (s.llcBring c line) := by
  unfold State.llcBring
  split
  · exact refl s
  · exact ite (refl s) (llcFill s _ _)
theorem llcAccess (s : State) (c line : Nat) : s.Below (s.llcAccess c line) := by
  unfold State.llcAccess
  split
  · exact refl s
  · exact ite (refl s) ((countLookup s _ _ _).trans (llcBring _ _ _))
theorem lookUp (s : State) (c ia n : Nat) : s.Below (s.lookUp c ia n) := foldl (fun t l => llcAccess t c l) _ s
theorem frameLines (s : State) (f off n : Nat) : s.Below (s.frameLines f off n) := foldl (fun t _ => llcFill t _ _) _ s

/-! ## The cluster cache -/

theorem recallLine (s : State) (line : Nat) : s.Below (s.recallLine line) := modLlc s _ _
theorem noteAccess (s : State) (cl line : Nat) (atomic : Bool) : s.Below (s.noteAccess cl line atomic) := by
  have h : s.Below (match (s.llcLine line).near with
      | some k => if k = cl then s else s.recallLine line
      | none => s) := by
    split
    · exact ite (refl s) (recallLine s _)
    · exact refl s
  exact h.trans (ite (refl _) (modLlc _ _ _))
theorem homeWriteMask (s : State) (cl line : Nat) (mask : Word128) (d : CacheLine) : s.Below (s.homeWriteMask cl line mask d) :=
  ite (foldl (fun t _ => ite (of_memSide (.holdWrite t _ _ _ _)) (refl t)) _ s)
    ((foldl (fun t _ => ite (of_memSide (.putByte t _ _)) (refl t)) _ s).trans (of_memSide (.llcWrote _ _ _)))
theorem sendDirty (s : State) (cl line : Nat) : s.Below (s.sendDirty cl line) := by
  unfold State.sendDirty
  split
  · exact refl s
  · refine ite (refl s) ?_
    dsimp only
    split
    · exact (postError s _ _ _).trans (setLine _ _ _ _)
    · exact (((noteAccess s _ _ _).trans (homeWriteMask _ _ _ _ _)).trans (ite (refl _) (modLlc _ _ _))).trans (setLine _ _ _ _)
theorem writeback (s : State) (cl line : Nat) : s.Below (s.writeback cl line) := ite (refl s) (sendDirty s _ _)
theorem flush (s : State) (cl line : Nat) : s.Below (s.flush cl line) := by
  refine (writeback s cl line).trans ?_
  show State.Below _ (match (s.writeback cl line).line cl line with | some l => _ | none => _)
  split
  · exact ite (dropLine _ _ _) (setLine _ _ _ _)
  · exact refl _
theorem writebackAll (s : State) (cl : Nat) : s.Below (s.writebackAll cl) := foldl (fun t _ => writeback t _ _) _ s
theorem evictHost (s : State) (g : Nat) : s.Below (s.evictHost g) := by
  unfold State.evictHost
  split
  · exact ite ⟨_, _, _, _, _, _, _, _, _, _, _, _, _, _, rfl⟩ (refl s)
  · exact refl s
theorem release (s : State) (c scope : Nat) (p : Nat → Bool) : s.Below (s.release c scope p) :=
  ite (refl s) ((writebackAll s _).trans (ite (refl _) (foldl (fun t _ => ite (evictHost t _) (refl t)) _ _)))
theorem acquire (s : State) (c scope : Nat) (p : Nat → Bool) : s.Below (s.acquire c scope p) :=
  ite (refl s) (foldl (fun t _ => flush t _ _) _ s)

/-! ## Fills -/

theorem makeRoom (s : State) (cl line : Nat) : s.Below (s.makeRoom cl line) := by
  unfold State.makeRoom
  refine ite (refl s) ?_
  split
  · exact refl s
  · exact (((sendDirty s _ _).trans (dropLine _ _ _)).trans (spend _)).trans (ite (modLlc _ _ _) (refl _))
theorem hostFetch (s : State) (g : Nat) : s.Below (s.hostFetch g) := ite (refl s) ((of_memSide (.hostFill s _ _)).trans (spend _))
theorem hostLoad (s : State) (a n : Nat) : s.Below (s.hostLoad a n) := ite (refl s) ((hostFetch s _).trans (hostFetch _ _))
theorem fillBy (s : State) (c line : Nat) {look : State → State} (hl : ∀ t, State.Below t (look t)) : s.Below (s.fillBy c line look) := by
  unfold State.fillBy
  dsimp only
  split
  · exact refl s
  · exact ((((makeRoom s _ _).trans (noteAccess _ _ _ _)).trans (of_memSide (.touch _ _ _ _))).trans (hl _)).trans
      ((ite (hostLoad _ _ _) (refl _)).trans (setLine _ _ _ _))
theorem fillLine (s : State) (c line : Nat) : s.Below (s.fillLine c line) := fillBy s c line fun t => llcAccess t c line
theorem prefetchLine (s : State) (c line : Nat) (near : Bool) : s.Below (s.prefetchLine c line near) := by
  unfold State.prefetchLine
  split
  · exact dropPf s
  · exact ite (dropPf s) (ite (fillBy s c line fun t => llcBring t c line) ((of_memSide (.cacheLeaf s _ _ _)).trans (llcBring _ _ _)))
theorem prefetchPool (s : State) (c : Nat) (k : Word128) (off : Nat) : s.Below (s.prefetchPool c k off) := by
  unfold State.prefetchPool
  split
  · exact frameLines s _ _ _
  · exact ite (refl s) (dropPf s)

end State.Below

end Sys2Proof.Machine

/-! Proofs about the end of a job and its waymark word (R213, R276). -/
namespace Sys2Proof.Machine
set_option Elab.async false

/-- The word of a waymark by its fields (R213). -/
def waymarkWord (gen count target err fstat : Nat) : Nat := gen + 2 ^ 32 * count + 2 ^ 64 * target + 2 ^ 96 * err + 2 ^ 112 * fstat

/-- The fields of a waymark word are read back. -/
theorem waymarkWord_fields {gen count target err fstat : Nat} (hg : gen < 2 ^ 32) (hc : count < 2 ^ 32) (ht : target < 2 ^ 32) (he : err < 2)
    (hf : fstat < 2 ^ 16) : bitsN (waymarkWord gen count target err fstat) 0 32 = gen ∧ bitsN (waymarkWord gen count target err fstat) 32 32 = count ∧
      bitsN (waymarkWord gen count target err fstat) 64 32 = target ∧ bitsN (waymarkWord gen count target err fstat) 96 1 = err ∧
      bitsN (waymarkWord gen count target err fstat) 112 16 = fstat := by
  unfold bitsN waymarkWord
  refine ⟨?_, ?_, ?_, ?_, ?_⟩ <;> omega

/-- A report's waymark word, by the fields of the word before it. -/
theorem waymarkAfter_word {gen count target err fstat n st : Nat} (hg : gen < 2 ^ 32) (hc : count < 2 ^ 32) (ht : target < 2 ^ 32) (he : err < 2)
    (hf : fstat < 2 ^ 16) : waymarkAfter (waymarkWord gen count target err fstat) n st =
      waymarkWord (if target = 0 then gen else (gen + (count + n) % 2 ^ 32 / target) % 2 ^ 32)
        (if target = 0 then min (count + n) (2 ^ 32 - 1) else (count + n) % 2 ^ 32 % target) target (if st = 0 then err else 1)
        (if fstat = 0 then st else fstat) := by
  obtain ⟨h1, h2, h3, h4, h5⟩ := waymarkWord_fields hg hc ht he hf
  simp only [waymarkAfter, h1, h2, h3, h4, h5]
  split <;> rfl

/-- Settles O42: below the issue stage no core changes, so the report is of the word as it stood; its fields by `waymarkAfter_word`. -/
theorem jobEnd : Obligations.JobEnd := by
  refine ⟨fun s c st o => ?_, fun gen count target fstat n st hg hc ht hf hst => ?_⟩
  · intro w t
    obtain ⟨u, ht, hb⟩ : ∃ u, t = (u.report (coreOf c) o.waymark o.total st).modCtx c (fun x => x.engDone o.id) ∧ s.Below u :=
      ⟨_, rfl, (State.Below.release s c _ _).trans (State.Below.countOp _ o)⟩
    clear_value t
    have heng : (t.ctx c).eng = ((s.ctx c).eng.filter fun p => !(p.id == o.id)) := by
      rw [ht, State.ctx_modCtx, if_pos rfl, show (u.report (coreOf c) o.waymark o.total st).ctx c = u.ctx c from rfl, hb.ctx]; rfl
    refine ⟨?_, fun p hp => ?_, fun p hp hne => ?_⟩
    · have hw : u.scratchRead (coreOf c) o.waymark 16 = w := by rw [State.scratchRead, hb.core]; rfl
      rw [ht, State.report, hw, State.scratchRead]
      show Memory.readLE ((u.scratchWrite (coreOf c) o.waymark 16 (waymarkAfter w o.total st)).core (coreOf c)).scratch o.waymark 16 = _
      rw [State.scratchWrite, State.core_modCore, if_pos rfl]
      exact Memory.readLE_writeLE _ _ _ _
    · rw [heng] at hp
      simpa using (List.mem_filter.mp hp).2
    · rw [heng]
      exact List.mem_filter.mpr ⟨hp, by simpa using hne⟩
  · intro err w
    have herr : err < 2 := by simp only [err]; split <;> omega
    have hw : w = _ := waymarkAfter_word hg hc ht herr hf
    have hgen : (if target = 0 then gen else (gen + (count + n) % 2 ^ 32 / target) % 2 ^ 32) < 2 ^ 32 := by split <;> omega
    have hcount : (if target = 0 then min (count + n) (2 ^ 32 - 1) else (count + n) % 2 ^ 32 % target) < 2 ^ 32 := by
      split
      · omega
      · next h => exact Nat.lt_trans (Nat.mod_lt _ (Nat.pos_of_ne_zero h)) ht
    obtain ⟨h1, h2, h3, h4, h5⟩ := waymarkWord_fields (target := target) (err := if st = 0 then err else 1) (fstat := if fstat = 0 then st else fstat)
      hgen hcount ht (by split <;> omega) (by split <;> assumption)
    rw [hw, h1, h2, h3, h4, h5]
    exact ⟨rfl, fun h0 => ⟨if_pos h0, if_pos h0⟩, fun h0 => ⟨if_neg (Nat.ne_of_gt h0), if_neg (Nat.ne_of_gt h0)⟩, rfl, rfl⟩

end Sys2Proof.Machine

/-! Proofs about what a syllable does at issue: it changes its own context, outside that context's registers, and the record of its bundle; the few
that do more change what lies below the issue stage, or scratch (R25, R28, R32). -/
namespace Sys2Proof.Machine
set_option Elab.async false

/-- The registers of a context, its pc and mode, and the saved parts of its traps. -/
def Ctx.regs (x : Ctx) :=
  (x.s, x.a, x.v, x.q, x.p, x.lc, x.lk, x.fmt, x.k, x.pc, x.state, x.snapshot, x.frozen, x.csr.trapCause, x.csr.trapVal, x.csr.fpstat, x.csr.ticks)

/-- No register of any context changes. -/
def State.SameRegs (s t : State) : Prop := ∀ c, (t.ctx c).regs = (s.ctx c).regs

/-- Only the bundle's context, outside its registers, and the record of the bundle change. -/
structure State.Acts (s t : State) : Prop where
  frame : ∃ ctxs issue, t = { s with
    ctxs := ctxs
    issue := issue }
  regs : s.SameRegs t
  others : ∀ c, c ≠ s.cur → t.ctx c = s.ctx c

namespace State.SameRegs
variable {s t u : State}

theorem refl (s : State) : s.SameRegs s := fun _ => rfl
theorem trans (h : s.SameRegs t) (h' : t.SameRegs u) : s.SameRegs u := fun c => (h' c).trans (h c)
theorem ite {c : Prop} [Decidable c] (h : s.SameRegs t) (h' : s.SameRegs u) : s.SameRegs (if c then t else u) := by split <;> assumption
theorem of_below (h : s.Below t) : s.SameRegs t := fun c => congrArg Ctx.regs (h.ctx c)

theorem modCtx (s : State) (c : Nat) {f : Ctx → Ctx} (h : ∀ x, (f x).regs = x.regs) : s.SameRegs (s.modCtx c f) := by
  intro d
  rw [State.ctx_modCtx]
  split
  · next e => subst e; exact h _
  · rfl

theorem foldl {α : Type} {f : State → α → State} (hf : ∀ (t : State) a, t.SameRegs (f t a)) (l : List α) (s : State) : s.SameRegs (l.foldl f s) := by
  induction l generalizing s with
  | nil => exact refl s
  | cons a l ih => exact (hf s a).trans (ih _)

end State.SameRegs

/-! ## What joins a context -/

theorem Ctx.regs_setBusy (x : Ctx) (d : Dest) : (x.setBusy d).regs = x.regs := by unfold Ctx.setBusy; split <;> rfl

theorem Ctx.regs_setBusys (x : Ctx) (l : List Dest) : (l.foldl Ctx.setBusy x).regs = x.regs := by
  induction l generalizing x with
  | nil => rfl
  | cons d l ih => exact (ih _).trans (x.regs_setBusy d)

theorem Ctx.regs_addEng (x : Ctx) (o : EngOp) : (x.addEng o).regs = x.regs := x.regs_setBusys (infoOf o.instr).hid

theorem Ctx.regs_hfree (x : Ctx) (h : Nat) : (x.hfree h).regs = x.regs := by unfold Ctx.hfree; dsimp only; split <;> rfl

namespace State.Acts
variable {s t u : State}

theorem refl (s : State) : s.Acts s := ⟨⟨_, _, rfl⟩, .refl s, fun _ _ => rfl⟩

theorem cur (h : s.Acts t) : t.cur = s.cur := by obtain ⟨⟨_, _, rfl⟩, _, _⟩ := h; rfl

theorem trans (h : s.Acts t) (h' : t.Acts u) : s.Acts u := by
  refine ⟨?_, h.regs.trans h'.regs, fun c hc => (h'.others c (h.cur ▸ hc)).trans (h.others c hc)⟩
  obtain ⟨_, _, rfl⟩ := h.frame
  obtain ⟨_, _, rfl⟩ := h'.frame
  exact ⟨_, _, rfl⟩

theorem ite {c : Prop} [Decidable c] (h : s.Acts t) (h' : s.Acts u) : s.Acts (if c then t else u) := by split <;> assumption

theorem upd (s : State) {f : Ctx → Ctx} (h : ∀ x, (f x).regs = x.regs) : s.Acts (s.upd f) :=
  ⟨⟨_, _, rfl⟩, .modCtx s s.cur h, fun c hc => (State.ctx_upd s c f).trans (if_neg hc)⟩

theorem note (s : State) (i : Issue) : s.Acts { s with issue := i } := ⟨⟨_, _, rfl⟩, fun _ => rfl, fun _ _ => rfl⟩

theorem foldl {α : Type} {f : State → α → State} (hf : ∀ (t : State) a, t.Acts (f t a)) (l : List α) (s : State) : s.Acts (l.foldl f s) := by
  induction l generalizing s with
  | nil => exact refl s
  | cons a l ih => exact (hf s a).trans (ih _)

/-! ## The operations of issue -/

theorem raise (s : State) (p : PendCause) : s.Acts (s.raise p) := by rw [State.raise_eq]; exact note s _
theorem fail (s : State) (a b d : Nat) : s.Acts (s.fail a b d) := raise s _
theorem flag (s : State) (n : Nat) : s.Acts (s.flag n) := note s _
theorem landMask (s : State) (d : Dest) (l : Lat) (v m : VWord) : s.Acts (s.landMask d l v m) := ite (refl s) (upd s fun _ => rfl)
theorem landTo (s : State) (d : Dest) (l : Lat) (v : VWord) : s.Acts (s.landTo d l v) := landMask s _ _ _ _
theorem landW (s : State) (d : Dest) (l : Lat) (v : Word) : s.Acts (s.landW d l v) := landTo s _ _ _
theorem landP (s : State) (pd : BitVec 3) (l : Lat) (v : Bool) : s.Acts (s.landP pd l v) := landTo s _ _ _
theorem landFp (s : State) (d : BitVec 5) (r : Rounded) : s.Acts (s.landFp d r) := (flag s _).trans (landW _ _ _ _)

theorem addUnit (s : State) (u : MemUnit) : s.Acts (s.addUnit u) := by
  refine upd s fun x => ?_
  cases u.dest <;> cases u.dest2
  case none.none => rfl
  case some.none d => exact x.regs_setBusy d
  case none.some d => exact x.regs_setBusy d
  case some.some d e => exact ((x.setBusy d).regs_setBusy e).trans (x.regs_setBusy d)

theorem addLoad (s : State) (u : MemUnit) : s.Acts (s.addLoad u) := addUnit s _
theorem addEng (s : State) (o : EngOp) : s.Acts (s.addEng o) := upd s fun x => x.regs_addEng o
theorem hidden (s : State) (d : Dest) (v : Nat) : s.Acts (s.hidden d v) := addUnit s _

theorem issueAt (s : State) (n : Nat) (w : Bool) (e : Except (Nat × Nat) Target) {f : Target → State} (h : ∀ t, s.Acts (f t)) :
    s.Acts (s.issueAt n w e f) := by
  unfold State.issueAt
  split
  · exact h _
  · exact fail s _ _ _

theorem askRescale (s : State) (v : Word) : s.Acts (s.askRescale v) := by
  unfold State.askRescale
  split
  · exact refl s
  · exact note s _

/-! ## Control -/

theorem transfer (s : State) (t : Int) : s.Acts (s.transfer t) := ite (fail s _ _ _) (note s _)
theorem link (s : State) : s.Acts s.link := landTo s _ _ _
theorem jump (s : State) (r : BitVec 5) : s.Acts (s.jump r) := ite (fail s _ _ _) (transfer s _)
theorem brp (s : State) (o : BP) : s.Acts
    (if s.pre.preg o.p.toNat = decide (o.sense = 1) then s.transfer (s.branchTarget 16 o.off.toNat o.ext) else s) := ite (transfer s _) (refl s)
theorem declare (s : State) (o : LP) : s.Acts (s.declare o) := upd s fun _ => rfl

theorem openNest (s : State) : s.Acts s.openNest := by
  unfold State.openNest
  have hl : s.Acts (s.now.nest.dims.foldl (fun (t : State) d => t.landTo { file := .lc, idx := d.1 } (.fixed 1) (vOf d.2)) s) :=
    foldl (fun t d => landTo t _ _ _) _ s
  refine .trans (.trans hl ?_) (note _ _)
  exact upd _ fun _ => rfl

theorem csrWrite (s : State) (n : Nat) (v : Word) : s.Acts (s.csrWrite n v) := by
  unfold State.csrWrite
  dsimp only
  split
  case h_1 => exact note s _
  case h_11 => exact refl s
  all_goals exact upd s fun _ => rfl

theorem predOp (o : PL) (f : Bool → Bool → Bool) (s : State) : s.Acts (predOp o f s) := landP s _ _ _

/-! ## The S slot -/

theorem srOp (o : SR) (l : Lat) (f : Word → Word → Word) (s : State) : s.Acts (srOp o l f s) := landW s _ _ _
theorem divOp (o : SR) (low : Bool) (f : Word → Word → Word) (s : State) : s.Acts (divOp o low f s) := by
  unfold Machine.divOp
  exact (ite (flag s _) (refl s)).trans (hidden _ _ _)
theorem siOp (o : SI) (f : Word → Word → Word) (s : State) : s.Acts (siOp o f s) := landW s _ _ _

/-! ## The V slots -/

theorem laneOp (o : VA) (c n base w : Nat) (f : Nat → Nat × Nat) (s : State) : s.Acts (laneOp o c n base w f s) := by
  unfold Machine.laneOp State.landLanes
  exact (flag s _).trans (landMask _ _ _ _ _)
theorem laneCmp (o : VA) (w : Nat) (f : Nat → Bool × Nat) (s : State) : s.Acts (laneCmp o w f s) := (flag s _).trans (landMask _ _ _ _ _)
theorem plainOp (o : VA) (c w : Nat) (f : Nat → Nat) (s : State) : s.Acts (plainOp o c w f s) := laneOp o _ _ _ _ _ s
theorem vint2 (o : VA) (c : Nat) (f : Nat → Nat → Nat → Nat) (s : State) : s.Acts (vint2 o c f s) := plainOp o _ _ _ s
theorem vint1 (o : VA) (f : Nat → Nat → Nat) (s : State) : s.Acts (vint1 o f s) := plainOp o _ _ _ s
theorem vsat (o : VA) (f : Int → Int → Int) (s : State) : s.Acts (vsat o f s) := laneOp o _ _ _ _ _ s
theorem vfp (o : VA) (f : Nat → FVal → FVal → FVal → FVal × Bool) (s : State) : s.Acts (vfp o f s) := laneOp o _ _ _ _ _ s
theorem vfcode (o : VA) (f : Fmt → Nat → Nat → Nat) (s : State) : s.Acts (vfcode o f s) := plainOp o _ _ _ s
theorem vfcmpOp (o : VA) (s : State) : s.Acts (vfcmpOp o s) := laneCmp o _ _ s
theorem vspecial (o : VA) (op : Nat) (s : State) : s.Acts (vspecial o op s) := laneOp o _ _ _ _ _ s
theorem convert (o : VA) (c : Nat) (f : Fmt → Nat → FVal → Rounded) (s : State) : s.Acts (convert o c f s) := by
  unfold Machine.convert
  split
  · exact laneOp o _ _ _ _ _ s
  · exact fail s _ _ _
theorem reduce (o : VA) (c n id bits : Nat) (get : Nat → Nat) (op : Nat → Nat → Nat × Nat) (s : State) :
    s.Acts (reduce o c n id bits get op s) := (flag s _).trans (landMask _ _ _ _ _)
theorem vrpick (o : VA) (max : Bool) (s : State) : s.Acts (vrpick o max s) := reduce o _ _ _ _ _ _ s
theorem vredF (o : VA) (c op : Nat) (s : State) : s.Acts (vredF o c op s) := reduce o _ _ _ _ _ _ s
theorem vscanOp (o : VA) (c w id : Nat) (first : Nat → Nat) (op : Nat → Nat → Nat × Nat) (s : State) :
    s.Acts (vscanOp o c w id first op s) := (flag s _).trans (plainOp o _ _ _ _)
theorem vmove (o : VA) (f : Nat → Nat → (Nat → Nat) → (Nat → Nat) → Nat → Nat) (s : State) : s.Acts (vmove o f s) := plainOp o _ _ _ s

/-! ## The L0, L1 and ST slots -/

theorem laOp (o : LA) (v : Word) (s : State) : s.Acts (laOp o v s) := landW s _ _ _
theorem ldsOp (o : LT) (n : Nat) (s : State) : s.Acts (ldsOp o n s) := by
  unfold Machine.ldsOp
  split
  · exact landW s _ _ _
  · exact fail s _ _ _
theorem lmLoad (o : LM) (op : UnitOp) (d : Option Dest) (unit : Nat) (n : Need) (s : State) : s.Acts (lmLoad o op d unit n s) :=
  issueAt s _ _ _ fun _ => addLoad s _
theorem ldgOp (o : LM) (n : Nat) (s : State) : s.Acts (ldgOp o n s) := lmLoad o _ _ _ _ s
theorem ldacqOp (o : LM) (n : Nat) (s : State) : s.Acts (ldacqOp o n s) := lmLoad o _ _ _ _ s
theorem ldkOp (o : LM) (n : Nat) (s : State) : s.Acts (ldkOp o n s) := issueAt s _ _ _ fun _ => addUnit s _
theorem atIssue (o : AT) (op : UnitOp) (n cap kind v v2 : Nat) (d d2 : Option Dest) (s : State) : s.Acts (atIssue o op n cap kind v v2 d d2 s) :=
  issueAt s _ _ _ fun _ => addUnit s _
theorem amoOp (o : AT) (op n : Nat) (s : State) : s.Acts (amoOp o op n s) := atIssue o _ _ _ _ _ _ _ _ s
theorem redOp (o : AT) (op n : Nat) (s : State) : s.Acts (redOp o op n s) := atIssue o _ _ _ _ _ _ _ _ s
theorem casOp (o : AT) (n : Nat) (s : State) : s.Acts (casOp o n s) := atIssue o _ _ _ _ _ _ _ _ s
theorem cas128Op (o : AT) (s : State) : s.Acts (cas128Op o s) := atIssue o _ _ _ _ _ _ _ _ s
theorem fenceReads (s : State) : s.Acts s.fenceReads := addUnit s _

/-! ## The M, D, O and E slots -/

theorem mxIssue (i : Instr) (o : MX) (f : MxFmt) (s : State) : s.Acts (mxIssue i o f s) := by
  unfold Machine.mxIssue
  dsimp only
  split
  · refine ite (fail s _ _ _) (ite (fail s _ _ _) (ite (fail s _ _ _) (ite (raise s _) (.trans ?_ (addEng _ _)))))
    exact upd s fun _ => rfl
  · exact fail s _ _ _

theorem drTile (i : Instr) (o : DR) (fill : Bool) (s : State) : s.Acts (drTile i o fill s) := by
  unfold Machine.drTile
  dsimp only
  split
  · exact ite (fail s _ _ _) (ite (fail s _ _ _) (addEng s _))
  · exact fail s _ _ _

theorem drMemory (i : Instr) (o : DR) (fill : Bool) (s : State) : s.Acts (drMemory i o fill s) := by
  unfold Machine.drMemory
  dsimp only
  split
  · split
    · exact fail s _ _ _
    · exact addEng s _
  · exact fail s _ _ _

theorem drPiece (i : Instr) (o : DR) (fill : Bool) (s : State) : s.Acts (drPiece i o fill s) := by
  unfold Machine.drPiece
  dsimp only
  split
  · exact ite (fail s _ _ _) (addEng s _)
  · exact fail s _ _ _

theorem setOpb (s : State) (o : OP) : s.Acts (s.setOpb o) := by
  unfold State.setOpb
  split
  · exact upd s fun _ => rfl
  · exact refl s

theorem opIssue (i : Instr) (o : OP) (clip : Bool) (hs : List (Nat × Nat)) (s : State) : s.Acts (opIssue i o clip hs s) := by
  unfold Machine.opIssue
  dsimp only
  split
  · split
    · exact fail s _ _ _
    · split
      · exact fail s _ _ _
      · exact ite (fail s _ _ _) ((setOpb s o).trans (addEng _ _))
  · exact fail s _ _ _
theorem opUpdate (i : Instr) (o : OP) (k : OptKind) (bf : Bool) (s : State) : s.Acts (opUpdate i o k bf s) := opIssue i o _ _ s

theorem jobIssue (i : Instr) (o : EJ) (n : Nat) (nest : Bool) (plan : State → Nat → Option JobPlan) (s : State) :
    s.Acts (jobIssue i o n nest plan s) := by
  unfold Machine.jobIssue
  dsimp only
  split
  · exact fail s _ _ _
  · split
    · exact fail s _ _ _
    · split
      · exact fail s _ _ _
      · exact addEng s _

end State.Acts

/-! ## A syllable in its bundle -/

/-- A syllable in its bundle does nothing or its effect. -/
theorem issueOp_active {i : Instr} {body : State → State} {s t : State} (ha : s.issue.active = true) (h : issueOp i body s = .next t) :
    t = s ∨ t = body s := by
  unfold issueOp guarded at h
  rw [if_pos ha] at h
  split at h
  · exact .inr (Host.Outcome.next.inj h).symm
  · exact .inl (Host.Outcome.next.inj h).symm

theorem State.Acts.of_issueOp {i : Instr} {body : State → State} {s t : State} (h : issueOp i body s = .next t) (ha : s.issue.active = true)
    (hb : s.Acts (body s)) : s.Acts t := by
  obtain rfl | rfl := issueOp_active ha h
  · exact .refl _
  · exact hb

theorem State.SameRegs.of_issueOp {i : Instr} {body : State → State} {s t : State} (h : issueOp i body s = .next t)
    (ha : s.issue.active = true) (hb : s.SameRegs (body s)) : s.SameRegs t := by
  obtain rfl | rfl := issueOp_active ha h
  · exact .refl _
  · exact hb

/-- Syllables whose effect stays in their context and the record of their bundle. -/
def staysInContext : Instr → Prop
  | .sts8 _ | .sts16 _ | .sts32 _ | .sts64 _ | .stv _ | .stvt _ | .stg8 _ | .stg16 _ | .stg32 _ | .stg64 _ | .stk32 _ | .stk64 _
  | .strel32 _ | .strel64 _ | .kderiveSt _ | .pf _ | .fence _ | .fenceRel _ | .wait _ | .waitc _ | .vqnt _ | .vstat _ => False
  | _ => True

namespace State.Acts

theorem ldsc (s : State) (o : LM) (id : Nat) : s.Acts ((Machine.lmLoad o (.scale id) none 128 (loadNeed 128 16 9) s).upd fun x => { x with
    scaleQ := x.scaleQ ++ [{ id := id, isB := o.d.getLsbD 0, ue4m3 := o.d.getLsbD 1 }] }) := by
  refine (lmLoad o (.scale id) none 128 (loadNeed 128 16 9) s).trans ?_
  exact upd _ fun _ => rfl

theorem bindOp (b : Binding) (s : State) : s.Acts (bindOp b s) := by
  have hput : s.Acts (s.upd fun x => if x.binds.contains b then x else { x with binds := x.binds ++ [b] }) :=
    upd s fun x => by split <;> rfl
  exact ite (fail s _ _ _) (ite (issueAt s _ _ _ fun _ => hput) hput)

theorem unbindOp (b : Binding) (s : State) : s.Acts (unbindOp b s) := by
  have hcut : s.Acts (s.upd fun x => { x with binds := x.binds.filter fun e => !(e.base == b.base && e.obj == b.obj && e.kind == b.kind) }) :=
    upd s fun _ => rfl
  exact ite (fail s _ _ _) (ite (issueAt s _ _ _ fun _ => hcut) hcut)

/-- A syllable of the slots that stays in its context: by its form. -/
theorem of_exec {i : Instr} {s t : State} (hslot : (infoOf i).slot < 13) (ha : s.issue.active = true) (he : exec i s = .next t)
    (hi : staysInContext i) : s.Acts t := by
  cases i with
  | nop _ | waitb _ | waitt _ => exact .of_issueOp he ha (.refl _)
  | br _ | ret _ => exact .of_issueOp he ha (.transfer _ _)
  | brp _ => exact .of_issueOp he ha (.brp _ _)
  | brl _ => exact .of_issueOp he ha ((transfer _ _).trans (link _))
  | jmp _ => exact .of_issueOp he ha (.jump _ _)
  | jmpL _ => exact .of_issueOp he ha ((jump _ _).trans (link _))
  | loop _ => exact .of_issueOp he ha ((declare _ _).trans (openNest _))
  | loopn _ => exact .of_issueOp he ha (.declare _ _)
  | fmtw _ | xmovSv _ => exact .of_issueOp he ha (.landTo _ _ _ _)
  | csrr _ | movi _ | movhi _ | xmovSl _ | xmovLs _ | xmovVs _ => exact .of_issueOp he ha (.landW _ _ _ _)
  | csrw _ | csrwI _ => exact .of_issueOp he ha (.csrWrite _ _ _)
  | pand _ | por _ | pxor _ | pnot _ => exact .of_issueOp he ha (.predOp _ _ _)
  | trapC _ | sysc _ | rft _ | retire _ | yield _ | scope _ => exact .of_issueOp he ha (.note _ _)
  | add _ | sub _ | mul _ | mulh _ | mulhu _ | and_ _ | or_ _ | xor_ _ | andn _ | shl _ | shr _ | sra _ | rol _ | clz _ | ctz _ | popc _ | min_ _
    | max_ _ | minu _ | maxu _ | sel _ | addW _ | subW _ | mulW _ | shlW _ | shrW _ | sraW _ => exact .of_issueOp he ha (.srOp _ _ _ _)
  | div_ _ | divu _ | rem _ | remu _ | divW _ | divuW _ | remW _ | remuW _ => exact .of_issueOp he ha (.divOp _ _ _ _)
  | cmp _ | cmpI _ => exact .of_issueOp he ha (.landP _ _ _ _)
  | addi _ | andI _ | orI _ | xorI _ | shlI _ | shrI _ | sraI _ | rolI _ => exact .of_issueOp he ha (.siOp _ _ _)
  | fadd _ | fmul _ | fma _ => exact .of_issueOp he ha (.landFp _ _ _)
  | fcmp _ => exact .of_issueOp he ha ((flag _ _).trans (landP _ _ _ _))
  | aadd _ | aaddi _ | xmova _ => exact .of_issueOp he ha (.laOp _ _ _)
  | lds8 _ | lds16 _ | lds32 _ | lds64 _ => exact .of_issueOp he ha (.ldsOp _ _ _)
  | ldv _ =>
    refine .of_issueOp he ha ?_
    split
    · exact landTo _ _ _ _
    · exact fail _ _ _ _
  | ldvt _ => exact .of_issueOp he ha (.ite (fail _ _ _ _) (ite (fail _ _ _ _) (ite (fail _ _ _ _) (landTo _ _ _ _))))
  | ldg8 _ | ldg16 _ | ldg32 _ | ldg64 _ => exact .of_issueOp he ha (.ldgOp _ _ _)
  | ldgV _ => exact .of_issueOp he ha (.lmLoad _ _ _ _ _ _)
  | ldk32 _ | ldk64 _ => exact .of_issueOp he ha (.ldkOp _ _ _)
  | ldacq32 _ | ldacq64 _ => exact .of_issueOp he ha (.ldacqOp _ _ _)
  | ldsc _ => exact .of_issueOp he ha (.ite (lmLoad _ _ _ _ _ _) (ldsc _ _ _))
  | halloc _ => exact .of_issueOp he ha (.ite (fail _ _ _ _) (upd _ fun _ => rfl))
  | hfree _ => exact .of_issueOp he ha (.upd _ fun x => x.regs_hfree _)
  | hinfo _ => exact .of_issueOp he ha (.hidden _ _ _)
  | kderiveLd _ => exact .of_issueOp he ha (.issueAt _ _ _ _ fun _ => addLoad _ _)
  | kderiveRs _ => exact .of_issueOp he ha (.ite (fail _ _ _ _) (ite (fail _ _ _ _) (addUnit _ _)))
  | kchk _ => exact .of_issueOp he ha (.addUnit _ _)
  | amoAdd32 _ | amoAdd64 _ | amoAnd32 _ | amoAnd64 _ | amoOr32 _ | amoOr64 _ | amoXor32 _ | amoXor64 _ | amoMin32 _ | amoMin64 _ | amoMax32 _
    | amoMax64 _ | amoMinu32 _ | amoMinu64 _ | amoMaxu32 _ | amoMaxu64 _ | amoSwap32 _ | amoSwap64 _ => exact .of_issueOp he ha (.amoOp _ _ _ _)
  | cas32 _ | cas64 _ => exact .of_issueOp he ha (.casOp _ _ _)
  | cas128 _ => exact .of_issueOp he ha (.cas128Op _ _)
  | redAdd32 _ | redAdd64 _ | redAnd32 _ | redAnd64 _ | redOr32 _ | redOr64 _ | redXor32 _ | redXor64 _ | redMin32 _ | redMin64 _ | redMax32 _
    | redMax64 _ | redMinu32 _ | redMinu64 _ | redMaxu32 _ | redMaxu64 _ | redFadd32 _ => exact .of_issueOp he ha (.redOp _ _ _ _)
  | fenceAcq _ => exact .of_issueOp he ha (.fenceReads _)
  | bind _ => exact .of_issueOp he ha (.bindOp _ _)
  | unbind _ => exact .of_issueOp he ha (.unbindOp _ _)
  | vadd _ | vsub _ | vmul _ | vmulh _ | vand _ | vor _ | vxor _ | vandn _ | vshl _ | vshr _ | vsra _ | vmin _ | vmax _ | vminu _ | vmaxu _ =>
    exact .of_issueOp he ha (.vint2 _ _ _ _)
  | vabs _ | vneg _ => exact .of_issueOp he ha (.vint1 _ _ _)
  | vcmp _ => exact .of_issueOp he ha (.laneCmp _ _ _ _)
  | vaddSat _ | vsubSat _ => exact .of_issueOp he ha (.vsat _ _ _)
  | vfadd _ | vfsub _ | vfmul _ | vfma _ | vfms _ | vfaddH _ | vfsubH _ | vfmulH _ | vfmaH _ | vfmsH _ => exact .of_issueOp he ha (.vfp _ _ _)
  | vfmin _ | vfmax _ | vfabs _ | vfneg _ | vfminH _ | vfmaxH _ | vfabsH _ | vfnegH _ => exact .of_issueOp he ha (.vfcode _ _ _)
  | vfcmp _ | vfcmpH _ => exact .of_issueOp he ha (.vfcmpOp _ _)
  | vrcp _ | vrsq _ | vsqrt _ | vexp2 _ | vlog2 _ => exact .of_issueOp he ha (.vspecial _ _ _)
  | vcvt _ | vcvtRs _ | vdqnt _ => exact .of_issueOp he ha (.convert _ _ _ _)
  | vrsum _ => exact .of_issueOp he ha (.reduce _ _ _ _ _ _ _ _)
  | vrmax _ | vrmin _ => exact .of_issueOp he ha (.vrpick _ _ _)
  | vscan _ | vscanF _ => exact .of_issueOp he ha (.vscanOp _ _ _ _ _ _ _)
  | vrsumF _ | vrmaxF _ | vrminF _ => exact .of_issueOp he ha (.vredF _ _ _ _)
  | vperm _ | vbcast _ | vslide _ | vsel _ | vmov _ | vsplat _ | vlane _ => exact .of_issueOp he ha (.vmove _ _ _)
  | mopaNf _ | mopaInt4 _ | mopaInt8 _ | mopaUint8 _ | mopaF16 _ | mopaBf16 _ | mopaF32 _ | mopsNf _ | mopsInt4 _ | mopsInt8 _ | mopsUint8 _
    | mopsF16 _ | mopsBf16 _ | mopsF32 _ => exact .of_issueOp he ha (.mxIssue _ _ _ _)
  | mzero _ | dzero _ =>
    refine .of_issueOp he ha ?_
    dsimp only
    split
    · exact fail _ _ _ _
    · exact addEng _ _
  | mcfg _ | mfence _ => exact .of_issueOp he ha (.upd _ fun _ => rfl)
  | drain _ | fill _ => exact .of_issueOp he ha (.drTile _ _ _ _)
  | drainM _ | fillM _ => exact .of_issueOp he ha (.drMemory _ _ _ _)
  | drainv _ | fillv _ => exact .of_issueOp he ha (.drPiece _ _ _ _)
  | oadamF32 _ | oadamBf16 _ | oadamwF32 _ | oadamwBf16 _ | olionF32 _ | olionBf16 _ | osgdmF32 _ | osgdmBf16 _ =>
    exact .of_issueOp he ha (.opUpdate _ _ _ _ _)
  | oclip _ | oscale _ => exact .of_issueOp he ha (.opIssue _ _ _ _ _)
  | cpy _ | cpyq _ | gath _ | scat _ | gathK _ | scatK _ | bget _ | bwr _ | bred _ | gred _ | gmld _ | grpset _ | msend _ | enq _ | arrive _
    | tdec _ | tspawn _ | sclose _ | sread _ | sreadO _ | salloc _ | sfree _ | lacq _ | lrel _ | realign _ | mstone _ =>
    exact .of_issueOp he ha (.jobIssue _ _ _ _ _ _)
  | wmarm _ => exact .of_issueOp he ha (.ite (addEng _ _) (fail _ _ _ _))
  | sts8 _ | sts16 _ | sts32 _ | sts64 _ | stv _ | stvt _ | stg8 _ | stg16 _ | stg32 _ | stg64 _ | stk32 _ | stk64 _ | strel32 _ | strel64 _
  | kderiveSt _ | pf _ | fence _ | fenceRel _ | wait _ | waitc _ | vqnt _ | vstat _ => exact hi.elim
  | _ => exact (Nat.lt_irrefl 13 hslot).elim

end State.Acts

/-- Settles O43: each of the syllables acts through its context and the record of its bundle alone (`State.Acts.of_exec`). -/
theorem issueFrame : Obligations.IssueFrame := by
  unfold Obligations.IssueFrame
  intro i s t hslot ha he hi
  have h : s.Acts t := .of_exec hslot ha he (by cases i <;> exact hi)
  obtain ⟨⟨ctxs, issue, rfl⟩, -, ho⟩ := h
  exact ⟨ho, rfl, rfl, rfl, rfl, rfl, rfl, rfl, rfl, rfl, rfl, rfl, fun _ => rfl⟩

/-! ## The syllables that reach further -/

namespace State.SameRegs

theorem slotWrite (s : State) (k a n v : Nat) : s.SameRegs (s.slotWrite k a n v) := fun _ => rfl

theorem slotStore (s : State) (a n v : Nat) : s.SameRegs (s.slotStore a n v) := ite (Acts.addUnit s _).regs (slotWrite s _ _ _ _)

theorem scratchStore (a n unit v : Nat) (s : State) : s.SameRegs (scratchStore a n unit v s) := ite (Acts.fail s _ _ _).regs (slotStore s _ _ _)

theorem frameStores (s : State) (c : Nat) : s.SameRegs (s.frameStores c) := by
  unfold State.frameStores
  refine foldl (fun t u => ?_) _ s
  split
  · refine ite ?_ (refl t)
    refine trans ?_ (modCtx _ c fun _ => rfl)
    refine trans ?_ (of_below (.frameWrite _ _ _ _ _))
    split
    · exact of_below (.frameLines t _ _ _)
    · exact refl t
  · exact refl t

theorem addStore (s : State) (u : MemUnit) : s.SameRegs (s.addStore u) := (Acts.addUnit s u).regs.trans (frameStores _ _)

theorem issueAt (s : State) (n : Nat) (w : Bool) (e : Except (Nat × Nat) Target) {f : Target → State} (h : ∀ t, s.SameRegs (f t)) :
    s.SameRegs (s.issueAt n w e f) := by
  unfold State.issueAt
  split
  · exact h _
  · exact (Acts.fail s _ _ _).regs

theorem stgOp (o : SM) (n : Nat) (rel : Bool) (s : State) : s.SameRegs (stgOp o n rel s) := issueAt s _ _ _ fun _ => addStore s _
theorem stkOp (o : SM) (n : Nat) (s : State) : s.SameRegs (stkOp o n s) := issueAt s _ _ _ fun _ => addStore s _

theorem overflowed (s : State) (o : VA) (l : List Nat) : s.SameRegs (s.overflowed o l) := by
  unfold State.overflowed
  dsimp only
  split
  · exact refl s
  · exact ite ((of_below (.sendDelta s _ _ _)).trans (Acts.askRescale _ _).regs) (of_below (.sendDelta s _ _ _))

theorem acquireAt (s : State) (k a : Nat) : s.SameRegs (s.acquireAt k a) := of_below (.acquire s _ _ _)

/-- A syllable that reaches further than its context: by its form. -/
theorem of_exec {i : Instr} {s t : State} (ha : s.issue.active = true) (he : exec i s = .next t) (hi : ¬ staysInContext i) : s.SameRegs t := by
  cases i with
  | sts8 _ | sts16 _ | sts32 _ | sts64 _ | stv _ => exact .of_issueOp he ha (.scratchStore _ _ _ _ _)
  | stvt _ =>
    refine .of_issueOp he ha ?_
    dsimp only
    split
    · exact (Acts.fail _ _ _ _).regs
    · exact ite (Acts.fail _ _ _ _).regs (ite (Acts.fail _ _ _ _).regs (ite (Acts.fail _ _ _ _).regs
        (foldl (fun t _ => slotStore t _ _ _) _ _)))
  | stg8 _ | stg16 _ | stg32 _ | stg64 _ | strel32 _ | strel64 _ => exact .of_issueOp he ha (.stgOp _ _ _ _)
  | stk32 _ | stk64 _ => exact .of_issueOp he ha (.stkOp _ _ _)
  | kderiveSt _ => exact .of_issueOp he ha (.issueAt _ _ _ _ fun _ => addStore _ _)
  | pf _ =>
    refine .of_issueOp he ha ?_
    split
    · exact of_below (.dropPf _)
    · exact ite (refl _) (of_below (.prefetchLine _ _ _ _))
    · exact of_below (.prefetchPool _ _ _ _)
    · exact refl _
  | fence _ => exact .of_issueOp he ha (.trans (of_below (.release _ _ _ _)) (Acts.fenceReads _).regs)
  | fenceRel _ => exact .of_issueOp he ha (of_below (.release _ _ _ _))
  | wait _ => exact .of_issueOp he ha (.ite (acquireAt _ _ _) (Acts.fail _ _ _ _).regs)
  | waitc _ => exact .of_issueOp he ha (.ite (of_below (.acquire _ _ _ _)) (ite (acquireAt _ _ _) (Acts.fail _ _ _ _).regs))
  | vqnt _ =>
    refine .of_issueOp he ha ?_
    dsimp only
    split
    · exact (Acts.fail _ _ _ _).regs
    · split
      · exact (Acts.convert _ _ _ _).regs.trans (overflowed _ _ _)
      · exact (Acts.fail _ _ _ _).regs
  | vstat _ =>
    refine .of_issueOp he ha ?_
    dsimp only
    split
    · exact of_below (.sendDelta _ _ _ _)
    · exact (Acts.fail _ _ _ _).regs
  | _ => exact (hi trivial).elim

end State.SameRegs

/-- Settles O44: a syllable acts on its context outside the registers, and what reaches further acts on no context's registers. -/
theorem issueKeepsRegisters : Obligations.IssueKeepsRegisters := by
  unfold Obligations.IssueKeepsRegisters
  intro i s t c hslot ha he
  have h : s.SameRegs t := by
    by_cases hi : staysInContext i
    · exact (State.Acts.of_exec hslot ha he hi).regs
    · exact .of_exec ha he hi
  simpa only [Ctx.regs, Prod.mk.injEq] using h c

end Sys2Proof.Machine

/-! Proofs about a bundle that commits: its tick and its next pc (R26, R28, R49, R103). -/
namespace Sys2Proof.Machine
set_option Elab.async false

/-- A bundle with a further repetition stays. -/
theorem Ctx.advance_repeat (x : Ctx) (b : Bundle) (i : Issue) (h : 1 < if x.repLeft = 0 then b.hdr.rep.toNat + 1 else x.repLeft) :
    x.advance b i = { x with
      repLeft := (if x.repLeft = 0 then b.hdr.rep.toNat + 1 else x.repLeft) - 1
      pc := b.addr } := if_pos (by omega)

/-- Outside a nest the last repetition goes to the target, or past the bundle. -/
theorem Ctx.advance_last (x : Ctx) (b : Bundle) (i : Issue) (hn : i.pre.nest.isOpen = false)
    (h : (if x.repLeft = 0 then b.hdr.rep.toNat + 1 else x.repLeft) = 1) :
    x.advance b i = { x with
      repLeft := 0
      pc := i.target.getD b.after } := by
  unfold Ctx.advance
  dsimp only
  rw [if_neg (by omega)]
  cases i.target with
  | some t => simp [hn]
  | none => simp [hn]

/-- Settles O45: a commit is one tick with the counters and flags of the bundle, and the three ways on are the cases of `Ctx.advance`. -/
theorem commit : Obligations.Commit := by
  unfold Obligations.Commit
  refine ⟨fun x b i => ?_, fun x b i _ hn => ⟨fun h => ?_, fun h => ?_⟩⟩
  · simp [Ctx.commit]
  · rw [Ctx.advance_repeat x b i h]
    exact ⟨rfl, rfl⟩
  · rw [Ctx.advance_last x b i hn h]
    exact ⟨rfl, fun t ht => by simp [ht], fun ht => by simp [ht]⟩

end Sys2Proof.Machine

/-! Proofs about bytes stored at their home: the byte and its leaf's own entry change and nothing else, a page under migration holds the write, and a
cluster's cache takes it alone (R180, R329, R386, R387, R390). -/
namespace Sys2Proof.Machine
set_option Elab.async false

/-! ## A leaf with its marks set (R387) -/

theorem readLE_congr {m m' : Memory} {a n : Nat} (h : ∀ b, a ≤ b → b < a + n → Memory.read m b = Memory.read m' b) :
    Memory.readLE m a n = Memory.readLE m' a n := by
  induction n generalizing a with
  | zero => rfl
  | succ n ih => rw [Memory.readLE, Memory.readLE, h a (by omega) (by omega), ih fun b h1 h2 => h b (by omega) (by omega)]

theorem marked_ne_zero (w : Word) : w ||| 0x60#64 ≠ 0 := by
  intro h
  simpa using congrArg (·.getLsbD 5) h

theorem marked_bit7 (w : Word) : (w ||| 0x60#64).getLsbD 7 = w.getLsbD 7 := by simp

theorem pteAddr_marked (w : Word) : pteAddr (w ||| 0x60#64) = pteAddr w := by
  unfold pteAddr
  rw [BitVec.extractLsb'_or, show (0x60#64).extractLsb' 12 40 = 0#40 by decide, BitVec.or_zero]

theorem pteTier_marked (w : Word) : pteTier (w ||| 0x60#64) = pteTier w := by
  unfold pteTier
  rw [BitVec.extractLsb'_or, show (0x60#64).extractLsb' 8 3 = 0#3 by decide, BitVec.or_zero]

/-- What changes with neither the caches of translations nor the host's filter, caching a leaf and recalling a line keep. -/
theorem State.keeps_recall {α : Type} {f : State → α} (htlb : ∀ (t : State) v, f { t with tlb := v } = f t)
    (hshare : ∀ (t : State) v, f { t with sharers := v } = f t) (hhost : ∀ (t : State) v, f { t with host := v } = f t)
    (t : State) (l : Leaf) (w : Word) (ia line : Nat) : f ((t.cacheLeaf l w ia).recallHdm line) = f t := by
  have hcache : f (t.cacheLeaf l w ia) = f t := by
    unfold State.cacheLeaf
    dsimp only
    split
    · split
      · rfl
      · exact hshare t _
    · split
      · exact htlb t _
      · exact (hshare { t with tlb := _ } _).trans (htlb t _)
  unfold State.recallHdm
  split
  · exact (hhost _ _).trans hcache
  · exact hcache

theorem State.tlb_recallHdm (t : State) (line : Nat) : (t.recallHdm line).tlb = t.tlb := by
  unfold State.recallHdm
  split <;> rfl

/-- Where the entry of a leaf and its address agree, the marks enter that entry; otherwise memory stays. -/
theorem State.mem_touch (s : State) (l : Leaf) (ia : Nat) : (s.touch l ia true).mem =
    (if (pteLeaf (s.pte l.level l.key) && (pteAddr (s.pte l.level l.key) == pteAddr l.word || s.migOver ia 1)) = true ∧
        s.pte l.level l.key ||| 0x60#64 ≠ s.pte l.level l.key
      then s.setPte l.level l.key (s.pte l.level l.key ||| 0x60#64) else s).mem := by
  have hcache : ∀ (t : State) (w : Word), ((t.cacheLeaf l w ia).recallHdm (ia / 128)).mem = t.mem := by
    intro t w
    exact State.keeps_recall (f := State.mem) (fun _ _ => rfl) (fun _ _ => rfl) (fun _ _ => rfl) t l w ia (ia / 128)
  unfold State.touch
  rw [hcache]
  simp only [State.migOver, Nat.lt_succ_iff]
  rfl

/-- A byte outside the entry of the leaf stays. -/
theorem State.read_touch (s : State) (l : Leaf) (ia a : Nat) (h : ∀ e, s.pteAt l.level l.key = some e → a < e ∨ e + 8 ≤ a) :
    Memory.read (s.touch l ia true).mem a = Memory.read s.mem a := by
  rw [State.mem_touch]
  split
  · unfold State.setPte
    split
    · next e he => exact Memory.read_writeLE_outside _ _ _ _ _ (h e he)
    · rfl
  · rfl

/-- The entry of the leaf takes the marks. -/
theorem State.entry_touch (s : State) (l : Leaf) (ia e : Nat) (hl : pteLeaf l.word = true) (he : s.pteAt l.level l.key = some e)
    (hw : s.entry e 0 = l.word) : (s.touch l ia true).entry e 0 = l.word ||| 0x60#64 := by
  have hp : s.pte l.level l.key = l.word := by unfold State.pte; rw [he]; exact hw
  unfold State.entry at hw ⊢
  rw [State.mem_touch, hp, hl]
  by_cases hm : l.word ||| 0x60#64 = l.word
  · rw [if_neg (by simp [hm]), hm]
    exact hw
  · rw [if_pos (by simp [hm])]
    unfold State.setPte
    rw [he]
    dsimp only
    rw [Nat.mul_zero, Nat.add_zero, Memory.readLE_writeLE, Nat.mod_eq_of_lt (BitVec.isLt _), BitVec.ofNat_toNat, BitVec.setWidth_eq]

/-! ## The leaf that a slice has cached (R386) -/

/-- The home slice of an address has the leaf with its marks after the touch; what it has cached besides stays. -/
theorem State.get_tlb_touch (s : State) (l : Leaf) (ia k : Nat) : Store.get 0 (s.touch l ia true).tlb k =
    if k = tlbKey (homeSlice ia) l.level l.key then l.word ||| 0x60#64 else Store.get 0 s.tlb k := by
  have hcache : ∀ (t : State), Store.get 0 ((t.cacheLeaf l (l.word ||| 0x60#64) ia).recallHdm (ia / 128)).tlb k =
      if k = tlbKey (homeSlice ia) l.level l.key then l.word ||| 0x60#64 else Store.get 0 t.tlb k := by
    intro t
    have hput : Store.get 0 (if Store.get 0 t.tlb (tlbKey (homeSlice ia) l.level l.key) = l.word ||| 0x60#64 then t
        else { t with tlb := Store.put t.tlb (tlbKey (homeSlice ia) l.level l.key) (l.word ||| 0x60#64) }).tlb k =
        if k = tlbKey (homeSlice ia) l.level l.key then l.word ||| 0x60#64 else Store.get 0 t.tlb k := by
      split
      · next h =>
        split
        · next hk => rw [hk, h]
        · rfl
      · exact Store.get_put _ _ _ _ _
    rw [← hput, State.tlb_recallHdm]
    unfold State.cacheLeaf
    dsimp only
    split
    · split <;> rfl
    · split <;> rfl
  have hset : ∀ (level key : Nat) (w : Word), (s.setPte level key w).tlb = s.tlb := by
    intro level key w
    unfold State.setPte
    split <;> rfl
  unfold State.touch
  refine (hcache _).trans ?_
  rw [apply_ite State.tlb, hset, ite_self]

/-- What a walk of an address found: its level, and that the slice has cached nothing that goes before it. -/
def State.Found (s : State) (ia : Nat) (l : Leaf) : Prop :=
  let at_ := fun level key => Store.get 0 s.tlb (tlbKey (homeSlice ia) level key)
  let none1 := at_ 1 (ia / 2 ^ 29) = 0
  let none2 := at_ 2 (ia / 2 ^ 21) = 0 ∨ (at_ 2 (ia / 2 ^ 21)).getLsbD 7 = true
  let noneC := at_ 2 (ia / 2 ^ 25 * 16) = 0 ∨ (at_ 2 (ia / 2 ^ 25 * 16)).getLsbD 7 = false
  (l.level = 1 ∧ l.key = ia / 2 ^ 29 ∧ l.size = 2 ^ 29) ∨
  (l.level = 2 ∧ l.key = ia / 2 ^ 21 ∧ l.size = 2 ^ 21 ∧ l.word.getLsbD 7 = false ∧ none1) ∨
  (l.level = 2 ∧ l.key = ia / 2 ^ 25 * 16 ∧ l.size = 2 ^ 25 ∧ l.word.getLsbD 7 = true ∧ none1 ∧ none2) ∨
  (l.level = 3 ∧ l.key = ia / 2 ^ 16 ∧ l.size = 2 ^ 16 ∧ none1 ∧ none2 ∧ noneC)

theorem passed_over {w : Word} (h : ¬ (w ≠ 0 ∧ (!w.getLsbD 7) = true)) : w = 0 ∨ w.getLsbD 7 = true := by
  by_cases h0 : w = 0
  · exact .inl h0
  · exact .inr (by
      refine Classical.byContradiction fun h7 => ?_
      exact h ⟨h0, by simpa using h7⟩)

theorem passed_over_group {w : Word} (h : ¬ (w ≠ 0 ∧ w.getLsbD 7 = true)) : w = 0 ∨ w.getLsbD 7 = false := by
  by_cases h0 : w = 0
  · exact .inl h0
  · exact .inr (Bool.eq_false_iff.2 fun h7 => h ⟨h0, h7⟩)

theorem not_passed {w : Word} (h : w = 0 ∨ w.getLsbD 7 = true) : ¬ (w ≠ 0 ∧ (!w.getLsbD 7) = true) := by
  rintro ⟨h0, h7⟩
  rw [h.resolve_left h0] at h7
  cases h7

theorem not_passed_group {w : Word} (h : w = 0 ∨ w.getLsbD 7 = false) : ¬ (w ≠ 0 ∧ w.getLsbD 7 = true) := by
  rintro ⟨h0, h7⟩
  rw [h.resolve_left h0] at h7
  cases h7

theorem State.found_of_cached {s : State} {ia : Nat} {l : Leaf} (h : s.cached ia = some l) : s.Found ia l := by
  unfold State.cached at h
  dsimp only at h
  split at h
  · cases h
    exact .inl ⟨rfl, rfl, rfl⟩
  next h1 =>
  split at h
  · next h2 =>
    cases h
    exact .inr (.inl ⟨rfl, rfl, rfl, by simpa using h2.2, Classical.not_not.1 h1⟩)
  next h2 =>
  split at h
  · next h3 =>
    cases h
    exact .inr (.inr (.inl ⟨rfl, rfl, rfl, h3.2, Classical.not_not.1 h1, passed_over h2⟩))
  next h3 =>
  split at h
  · cases h
    exact .inr (.inr (.inr ⟨rfl, rfl, rfl, Classical.not_not.1 h1, passed_over h2, passed_over_group h3⟩))
  · cases h

theorem State.found_of_table {s : State} {ia : Nat} {l : Leaf} (hc : s.cached ia = none) (h : s.tableWalk ia = some l)
    (h7 : l.size = 2 ^ 25 → l.word.getLsbD 7 = true) : s.Found ia l := by
  have hnone : Store.get 0 s.tlb (tlbKey (homeSlice ia) 1 (ia / 2 ^ 29)) = 0 ∧
      (Store.get 0 s.tlb (tlbKey (homeSlice ia) 2 (ia / 2 ^ 21)) = 0 ∨
        (Store.get 0 s.tlb (tlbKey (homeSlice ia) 2 (ia / 2 ^ 21))).getLsbD 7 = true) ∧
      (Store.get 0 s.tlb (tlbKey (homeSlice ia) 2 (ia / 2 ^ 25 * 16)) = 0 ∨
        (Store.get 0 s.tlb (tlbKey (homeSlice ia) 2 (ia / 2 ^ 25 * 16))).getLsbD 7 = false) := by
    unfold State.cached at hc
    dsimp only at hc
    obtain ⟨h1, hc⟩ := eq_none_of_ite_some hc
    obtain ⟨h2, hc⟩ := eq_none_of_ite_some hc
    obtain ⟨h3, -⟩ := eq_none_of_ite_some hc
    exact ⟨Classical.not_not.1 h1, passed_over h2, passed_over_group h3⟩
  obtain ⟨n1, n2, nC⟩ := hnone
  unfold State.tableWalk at h
  dsimp only at h
  split at h
  · cases h
  split at h
  · cases h
  split at h
  · cases h
    exact .inl ⟨rfl, rfl, rfl⟩
  split at h
  · cases h
  split at h
  · split at h
    · cases h
      exact .inr (.inr (.inl ⟨rfl, rfl, rfl, h7 rfl, n1, n2⟩))
    · next hb =>
      cases h
      exact .inr (.inl ⟨rfl, rfl, rfl, by simpa using hb, n1⟩)
  split at h
  · cases h
  split at h
  · cases h
    exact .inr (.inr (.inr ⟨rfl, rfl, rfl, n1, n2, nC⟩))
  · cases h

theorem State.found_of_walk {s : State} {ia : Nat} {l : Leaf} (h : s.walk ia = some l) (h7 : l.size = 2 ^ 25 → l.word.getLsbD 7 = true) :
    s.Found ia l := by
  unfold State.walk at h
  split at h
  · next he =>
    have hc : s.cached ia = none := by
      unfold State.cached
      rw [List.isEmpty_iff.1 he]
      rfl
    exact found_of_table hc h h7
  · split at h
    · next hc => cases h; exact found_of_cached hc
    · next hc => exact found_of_table hc h h7

/-- The keys of the leaves of an address lie apart, level by level. -/
theorem tlbKey_ne {q a b la lb : Nat} (ha : a < 2 ^ 40) (hb : b < 2 ^ 40) (h : la ≠ lb) : tlbKey q la a ≠ tlbKey q lb b := by
  unfold tlbKey
  omega

/-- After the touch the slice has the leaf cached with its marks. -/
theorem State.cached_touch {s : State} {ia : Nat} {l : Leaf} (hia : ia < 2 ^ 52) (h : s.Found ia l) :
    (s.touch l ia true).cached ia = some { l with word := l.word ||| 0x60#64 } := by
  have hne := marked_ne_zero l.word
  have h7 := marked_bit7 l.word
  have b1 : ia / 2 ^ 29 < 2 ^ 40 := by omega
  have b2 : ia / 2 ^ 21 < 2 ^ 40 := by omega
  have bC : ia / 2 ^ 25 * 16 < 2 ^ 40 := by omega
  have b3 : ia / 2 ^ 16 < 2 ^ 40 := by omega
  obtain ⟨level, key, word, size⟩ := l
  unfold State.cached
  simp only [State.get_tlb_touch]
  dsimp only at hne h7 ⊢
  generalize word ||| 0x60#64 = w at hne h7 ⊢
  obtain ⟨rfl, rfl, rfl⟩ | ⟨rfl, rfl, rfl, hb, n1⟩ | ⟨rfl, rfl, rfl, hb, n1, n2⟩ | ⟨rfl, rfl, rfl, n1, n2, nC⟩ := h
  · rw [if_pos rfl, if_pos hne]
  · rw [if_neg (tlbKey_ne b1 b2 (by decide)), if_neg (Classical.not_not.2 n1), if_pos rfl, if_pos ⟨hne, by rw [h7, hb]; rfl⟩]
  · have hpass : ¬ ((if tlbKey (homeSlice ia) 2 (ia / 2 ^ 21) = tlbKey (homeSlice ia) 2 (ia / 2 ^ 25 * 16) then w
        else Store.get 0 s.tlb (tlbKey (homeSlice ia) 2 (ia / 2 ^ 21))) ≠ 0 ∧
        (!(if tlbKey (homeSlice ia) 2 (ia / 2 ^ 21) = tlbKey (homeSlice ia) 2 (ia / 2 ^ 25 * 16) then w
        else Store.get 0 s.tlb (tlbKey (homeSlice ia) 2 (ia / 2 ^ 21))).getLsbD 7) = true) := by
      split
      · simp [h7, hb]
      · exact not_passed n2
    rw [if_neg (tlbKey_ne b1 bC (by decide)), if_neg (Classical.not_not.2 n1), if_neg hpass, if_pos rfl, if_pos ⟨hne, h7.trans hb⟩]
  · rw [if_neg (tlbKey_ne b1 b3 (by decide)), if_neg (tlbKey_ne b2 b3 (by decide)), if_neg (tlbKey_ne bC b3 (by decide)), if_pos rfl,
      if_neg (Classical.not_not.2 n1), if_neg (not_passed n2), if_neg (not_passed_group nC), if_pos hne]

/-! ## A byte at its home (R386, R387) -/

theorem State.touch_host (s : State) (l : Leaf) (ia : Nat) (w : Bool) : (s.touch l ia w).hostMem = s.hostMem := by
  have hcache : ∀ (t : State) (v : Word), ((t.cacheLeaf l v ia).recallHdm (ia / 128)).hostMem = t.hostMem := by
    intro t v
    exact State.keeps_recall (f := State.hostMem) (fun _ _ => rfl) (fun _ _ => rfl) (fun _ _ => rfl) t l v ia (ia / 128)
  have hset : ∀ v, (s.setPte l.level l.key v).hostMem = s.hostMem := by
    intro v
    unfold State.setPte
    split <;> rfl
  unfold State.touch
  refine (hcache _ _).trans ?_
  rw [apply_ite State.hostMem, hset, ite_self]

/-- A write through a leaf of device memory: the touch, then the byte. -/
theorem State.putByte_device {s : State} {ia : Nat} {v : Byte} {l : Leaf} (h : s.leafFor ia true = some l) (ht : l.tier ≠ 3) :
    s.putByte ia v = { s.touch l ia true with mem := Memory.write (s.touch l ia true).mem (l.pa ia) v } := by
  unfold State.putByte
  rw [h]
  exact if_neg ht

theorem State.leafFor_some {s : State} {ia : Nat} {w : Bool} {l : Leaf} (h : s.leafFor ia w = some l) :
    s.walk ia = some l ∧ l.permits w = true := by
  unfold State.leafFor at h
  split at h
  · cases h
  · split at h
    · next hp => cases h; exact ⟨‹_›, hp⟩
    · cases h

/-- The byte reads back at its home. -/
theorem State.homeByte_putByte {s : State} {ia : Nat} {v : Byte} {l : Leaf} (hia : ia < 2 ^ 52) (h : s.leafFor ia true = some l)
    (ht : l.tier ≠ 3) (h7 : l.size = 2 ^ 25 → l.word.getLsbD 7 = true) : (s.putByte ia v).homeByte ia = v := by
  obtain ⟨hw, -⟩ := leafFor_some h
  have hc := cached_touch hia (found_of_walk hw h7)
  have hne : (s.touch l ia true).tlb.isEmpty = false := by
    rw [Bool.eq_false_iff]
    intro he
    have hk := State.get_tlb_touch s l ia (tlbKey (homeSlice ia) l.level l.key)
    rw [if_pos rfl, List.isEmpty_iff.1 he] at hk
    exact marked_ne_zero _ hk.symm
  rw [putByte_device h ht]
  generalize hs : s.touch l ia true = t at hc hne
  have hwalk : ({ t with mem := Memory.write t.mem (l.pa ia) v } : State).walk ia = some { l with word := l.word ||| 0x60#64 } := by
    unfold State.walk
    rw [if_neg (by simpa using hne)]
    show (match t.cached ia with | some l => some l | none => _) = _
    rw [hc]
  have hpa : Leaf.pa { l with word := l.word ||| 0x60#64 } ia = l.pa ia := by
    unfold Leaf.pa
    rw [pteAddr_marked]
  unfold State.homeByte
  rw [hwalk]
  dsimp only
  rw [if_neg (by unfold Leaf.tier; rw [pteTier_marked]; exact ht), hpa, Memory.read_write, if_pos rfl]

/-! ## Held writes (R390) -/

theorem State.mem_llcWrote (s : State) (line : Nat) (m : Word128) : (s.llcWrote line m).mem = s.mem := by
  unfold State.llcWrote
  dsimp only
  split <;> rfl

theorem State.mem_llcWrotes (s : State) (f : Nat → Word128) (l : List Nat) : (l.foldl (fun t a => t.llcWrote a (f a)) s).mem = s.mem := by
  induction l generalizing s with
  | nil => rfl
  | cons a l ih => exact (ih _).trans (s.mem_llcWrote a _)

/-! ## A write that a cluster's cache absorbs (R180, R329) -/

/-- Lines of at most 128 bytes lie in different sets. -/
theorem linesOf_sets {ia n : Nat} (hn : n ≤ 128) : (linesOf ia n).Pairwise fun a b => a % 4096 ≠ b % 4096 := by
  unfold linesOf
  have hk : (ia + n + 127) / 128 - ia / 128 ≤ 2 := by omega
  generalize (ia + n + 127) / 128 - ia / 128 = k at hk ⊢
  generalize ia / 128 = a
  obtain rfl | rfl | rfl : k = 0 ∨ k = 1 ∨ k = 2 := by omega
  · simp
  · simp
  · simp [List.range_succ]
    omega

/-- With room in its set, or held already, a line takes the bytes at once. -/
theorem State.absorbBytes_room {s : State} {cl ia n v line : Nat} (h : (s.line cl line).isSome = true ∨
    ((s.cluster cl).cache.filter fun e => e.1 % 4096 == line % 4096).length < 16) :
    s.absorbBytes cl ia n v line = s.setLine cl line (((s.line cl line).getD CacheLine.empty).store line ia n v true) := by
  have hroom : s.makeRoom cl line = s := by
    unfold State.makeRoom
    refine if_pos ?_
    rw [Bool.or_eq_true]
    refine h.imp (fun h => ?_) decide_eq_true
    unfold State.line at h
    rw [Option.isSome_map, List.find?_isSome] at h
    obtain ⟨e, he, hk⟩ := h
    exact List.any_eq_true.2 ⟨e, List.mem_filter.2 ⟨he, by simp [eq_of_beq hk]⟩, hk⟩
  unfold State.absorbBytes
  rw [hroom]

/-- What one set holds stays where a line of another set is put. -/
theorem filter_put_other {α : Type} (p : Nat × α → Bool) (m : Store α) (i : Nat) (v : α) (h : ∀ w, p (i, w) = false) :
    (Store.put m i v).filter p = m.filter p := by
  induction m with
  | nil => simp [Store.put, h]
  | cons e m ih =>
    obtain ⟨k, w⟩ := e
    unfold Store.put
    split
    · simp [h]
    · split
      · next hk => subst hk; simp [h]
      · simp [List.filter_cons, ih]

/-- Is there room for a line in its cluster's cache? -/
def State.HasRoom (s : State) (cl line : Nat) : Prop :=
  (s.line cl line).isSome = true ∨ ((s.cluster cl).cache.filter fun e => e.1 % 4096 == line % 4096).length < 16

/-- A line put into another set leaves the room of a line. -/
theorem State.hasRoom_setLine {s : State} {cl a b : Nat} {l : CacheLine} (hab : a % 4096 ≠ b % 4096) (h : s.HasRoom cl b) :
    (s.setLine cl a l).HasRoom cl b := by
  have hc : ((s.setLine cl a l).cluster cl).cache = Store.put (s.cluster cl).cache a l := by
    unfold State.setLine
    rw [State.cluster_modCluster, if_pos rfl]
  have hne : a ≠ b := fun h => hab (congrArg (· % 4096) h)
  have hline : (s.setLine cl a l).line cl b = s.line cl b := by
    unfold State.line
    rw [hc, ← List.head?_filter, ← List.head?_filter, filter_put_other (fun e => e.1 == b) _ _ _ fun w => beq_false_of_ne hne]
  unfold State.HasRoom
  rw [hline, hc, filter_put_other (fun e => e.1 % 4096 == b % 4096) _ _ _ fun w => beq_false_of_ne hab]
  exact h

/-- Lines of different sets with room enter one cluster's cache and leave the rest. -/
theorem State.absorbs_only (cl ia n v : Nat) (ls : List Nat) (s : State) (hp : ls.Pairwise fun a b => a % 4096 ≠ b % 4096)
    (h : ∀ line ∈ ls, s.HasRoom cl line) : ∃ clusters, ls.foldl (fun t l => t.absorbBytes cl ia n v l) s = { s with clusters := clusters } ∧
      ∀ k, k ≠ cl → Store.get Cluster.reset clusters k = s.cluster k := by
  induction ls generalizing s with
  | nil => exact ⟨_, rfl, fun _ _ => rfl⟩
  | cons a ls ih =>
    obtain ⟨ha, hls⟩ := List.forall_mem_cons.1 h
    obtain ⟨hfst, hrest⟩ := List.pairwise_cons.1 hp
    rw [List.foldl_cons, absorbBytes_room ha]
    obtain ⟨clusters, ht, hk⟩ := ih _ hrest fun b hb => hasRoom_setLine (hfst b hb) (hls b hb)
    rw [ht]
    refine ⟨clusters, rfl, fun k hne => (hk k hne).trans ?_⟩
    exact (State.cluster_modCluster s cl k _).trans (if_neg hne)

/-- Settles O46: the touch reaches the leaf's entry alone and caches the leaf it walked by; held and absorbed writes reach no memory. -/
theorem storedBytes : Obligations.StoredBytes := by
  unfold Obligations.StoredBytes
  refine ⟨?_, ?_, ?_⟩
  · intro s ia v l hia h ht h7 t entry
    have hp := State.putByte_device (v := v) h ht
    have hside := State.MemSide.putByte s ia v
    have hl : pteLeaf l.word = true := by
      have hv := (State.leafFor_some h).2
      unfold Leaf.permits Leaf.valid at hv
      simp only [Bool.and_eq_true] at hv
      exact hv.1.1.1.1.1
    have hread : ∀ a, a ≠ l.pa ia → Memory.read t.mem a = Memory.read (s.touch l ia true).mem a := by
      intro a ha
      show Memory.read (s.putByte ia v).mem a = _
      rw [hp]
      exact (Memory.read_write _ _ _ _).trans (if_neg ha)
    refine ⟨?_, ?_, ?_, ?_, State.homeByte_putByte hia h ht h7, hside.ctxs, hside.cores⟩
    · show Memory.read (s.putByte ia v).mem _ = v
      rw [hp]
      exact (Memory.read_write _ _ _ _).trans (if_pos rfl)
    · intro a ha he
      exact (hread a ha).trans (State.read_touch s l ia a he)
    · intro e he hw hpa
      rw [← State.entry_touch s l ia e hl he hw]
      unfold State.entry
      rw [readLE_congr fun b h1 h2 => hread b (by omega)]
    · show (s.putByte ia v).hostMem = s.hostMem
      rw [hp]
      exact State.touch_host s l ia true
  · intro s agent ia n v m
    refine ⟨fun hm hh h1 h2 hn => ?_, fun hh => ?_⟩
    · have hw : s.homeWriteBy agent ia n v = s.holdWrite agent ia n v := if_pos hh
      have hin : m.ia < ia + n ∧ ia < m.ia + 2 ^ [16, 21, 25, 29].getD m.size 16 := by
        change _ ≤ m.ia + 2 ^ _ at h2
        omega
      intro t
      refine ⟨?_, ?_, ?_, fun a => ?_⟩
      · show (s.homeWriteBy agent ia n v).migrations = _
        rw [hw]
        unfold State.holdWrite
        rw [hm]
        exact congrArg (fun e => [e]) (if_pos hin)
      · exact (congrArg State.mem hw).trans rfl
      · exact (congrArg State.hostMem hw).trans rfl
      · exact (congrArg (fun u => State.homeByte u a) hw).trans rfl
    · have hw : s.homeWriteBy agent ia n v = (linesOf ia n).foldl (fun t l => t.llcWrote l (rangeMask ia n l)) (s.putBytes ia n v) :=
        if_neg (by rw [hh]; decide)
      rw [hw]
      exact State.mem_llcWrotes _ _ _
  · intro s c scope ia n v k hwin hsc hn cl hroom t
    have hw : t = (linesOf ia n).foldl (fun t l => t.absorbBytes cl ia n v l) s :=
      (if_neg (by rw [hwin]; decide)).trans (if_neg (by omega))
    obtain ⟨clusters, hs, hk⟩ := State.absorbs_only cl ia n v (linesOf ia n) s (linesOf_sets hn) hroom
    rw [hw, hs]
    exact ⟨rfl, rfl, rfl, rfl, rfl, rfl, hk k, fun _ => rfl⟩

end Sys2Proof.Machine

/-! Proofs about the events of a core: landings, segment copies, and the junction's choice among its candidates (R247 to R252, R271 to R273). -/
namespace Sys2Proof.Machine
set_option Elab.async false

/-! ## A freeze below the issue stage -/

namespace State.Below
variable {s t : State}

theorem issueQ (h : s.Below t) : t.issueQ = s.issueQ := by obtain ⟨_, _, _, _, _, _, _, _, _, _, _, _, _, _, rfl⟩ := h; rfl
theorem modQueue (s : State) (q : Nat) (f : Queue → Queue) : s.Below (s.modQueue q f) := modFe s _
theorem writeCompletion (s : State) (a b c d e : Nat) : s.Below (s.writeCompletion a b c d e) := of_memSide (.writeCompletion s _ _ _ _ _)

theorem runFences (s : State) (q n : Nat) : s.Below (s.runFences q n) := by
  induction n generalizing s with
  | zero => exact refl s
  | succ n ih =>
    unfold State.runFences
    dsimp only
    split
    · exact refl s
    · exact ite (refl s) (((modQueue s _ _).trans (writeCompletion _ _ _ _ _ _)).trans (ih _))

theorem completeTask (s : State) (h : PktHdr) (a b c : Nat) : s.Below (s.completeTask h a b c) :=
  ((writeCompletion s _ _ _ _ _).trans (modQueue _ _ _)).trans (runFences _ _ _)
theorem complete (s : State) (h : PktHdr) (a b : Nat) : s.Below (s.complete h a b) := completeTask s h a b 0

theorem answerSwitch (s : State) (x : Ctx) (st : Nat) : s.Below (s.answerSwitch x st) := by
  unfold State.answerSwitch
  split
  · exact foldl (fun t h => complete t h _ _) _ s
  · exact refl s

theorem postFault (s : State) (c : Nat) (w : List Word) : s.Below (s.postFault c w) := ite (writeRecord s w) (modFe s _)

end State.Below

theorem State.issueQ_freeze (s : State) (c also : Nat) (p : PendCause) : (s.freeze c p also).issueQ = s.issueQ := by
  unfold State.freeze
  dsimp only
  split
  · exact (State.Below.postFault s _ _).issueQ
  · exact ((State.Below.answerSwitch _ _ _).trans (.postFault _ _ _)).issueQ

theorem State.issueQ_startMiss (s : State) (c n : Nat) : (s.startMiss c n).issueQ = s.issueQ := by
  unfold State.startMiss
  dsimp only
  split
  · rfl
  · split
    · rfl
    · split <;> rfl

theorem State.issueQ_idleTurn (s : State) (c : Nat) (t : Turn) : (s.idleTurn c t).issueQ = s.issueQ := by
  unfold State.idleTurn
  split
  · rfl
  · exact State.issueQ_startMiss _ _ _
  · exact State.issueQ_freeze _ _ _ _
  · rfl

theorem State.issueQ_idleTurns (s : State) (l : List (Nat × Turn)) : (l.foldl (fun t e => t.idleTurn e.1 e.2) s).issueQ = s.issueQ := by
  induction l generalizing s with
  | nil => rfl
  | cons e l ih => exact (ih _).trans (s.issueQ_idleTurn _ _)

/-! ## The order of R248 -/

/-- Nothing comes before what comes before it. -/
theorem State.before_asymm {s : State} {rp a b : Nat} (h : s.before rp a b = true) : s.before rp b a = false := by
  unfold State.before at h ⊢
  dsimp only at h ⊢
  by_cases hs : s.starved a = s.starved b
  · rw [if_neg (by simpa using hs)] at h
    rw [if_neg (by simpa using hs.symm), ← hs]
    split at h
    · next ha =>
      rw [if_pos ha]
      split at h
      · next hxy =>
        rw [if_pos (Ne.symm hxy)]
        simp only [decide_eq_true_eq] at h
        exact decide_eq_false (by omega)
      · next hxy =>
        rw [if_neg (by rw [Classical.not_not] at hxy ⊢; exact hxy.symm)]
        simp only [decide_eq_true_eq] at h
        exact decide_eq_false (by omega)
    · next ha =>
      rw [if_neg ha]
      split at h
      · next hxy =>
        rw [if_pos (Ne.symm hxy)]
        simp only [decide_eq_true_eq] at h
        exact decide_eq_false (by omega)
      · next hxy =>
        rw [if_neg (by rw [Classical.not_not] at hxy ⊢; exact hxy.symm)]
        simp only [decide_eq_true_eq] at h
        exact decide_eq_false (by omega)
  · rw [if_pos (by simpa using hs)] at h
    rw [if_pos (fun e => hs e.symm)]
    cases hb : s.starved b
    · rfl
    · exact absurd (h.trans hb.symm) hs

theorem State.before_irrefl (s : State) (rp a : Nat) : s.before rp a a = false := by
  cases h : s.before rp a a
  · rfl
  · exact h.symm.trans (State.before_asymm h)

/-- A candidate enters a part of an ordered list at its place. -/
theorem State.insertCand_filter {s : State} {rp : Nat} (e : Candidate) (p : Candidate → Bool) (l : List Candidate)
    (hl : l.Pairwise fun x y => s.before rp x.1 y.1 = true) (he : e ∈ l) (hp : p e = false) :
    s.insertCand rp e (l.filter p) = l.filter fun x => decide (x = e) || p x := by
  induction l with
  | nil => cases he
  | cons a l ih =>
    obtain ⟨ha, hrest⟩ := List.pairwise_cons.1 hl
    by_cases hae : a = e
    · subst hae
      have hne : ∀ x ∈ l, x ≠ a := fun x hx hxa => by
        have := ha x hx
        rw [hxa, before_irrefl] at this
        cases this
      have hsame : l.filter (fun x => decide (x = a) || p x) = l.filter p :=
        List.filter_congr fun x hx => by simp [hne x hx]
      rw [List.filter_cons_of_neg (by simp [hp]), List.filter_cons_of_pos (by simp), hsame]
      cases hf : l.filter p with
      | nil => rfl
      | cons d m =>
        have hd : d ∈ l := (List.mem_filter.1 (hf ▸ List.mem_cons_self : d ∈ l.filter p)).1
        exact if_pos (ha d hd)
    · have hel : e ∈ l := by simpa [Ne.symm hae] using he
      cases hpa : p a
      · rw [List.filter_cons_of_neg (by simp [hpa]), List.filter_cons_of_neg (by simp [hpa, hae])]
        exact ih hrest hel
      · rw [List.filter_cons_of_pos hpa, List.filter_cons_of_pos (by simp [hpa])]
        refine (if_neg (by rw [before_asymm (ha e hel)]; decide)).trans ?_
        rw [ih hrest hel]

/-- The candidates of a core, in the order of R248. -/
noncomputable def State.inOrder (s : State) (rp : Nat) (cs : List Nat) : List Candidate :=
  (cs.map fun c => (c, s.turn c)).foldr (fun e l => match e.2 with
    | .ready b => s.insertCand rp (e.1, b) l
    | _ => l) []

/-- The candidates are the ordered list of those who are ready. -/
theorem State.inOrder_eq {s : State} {rp : Nat} {l : List Candidate} (cs all : List Nat) (hcs : cs.Nodup) (hsub : ∀ c ∈ cs, c ∈ all)
    (hl : ∀ c b, (c, b) ∈ l ↔ c ∈ all ∧ s.turn c = .ready b) (hp : l.Pairwise fun x y => s.before rp x.1 y.1 = true) :
    s.inOrder rp cs = l.filter fun x => decide (x.1 ∈ cs) := by
  induction cs with
  | nil => simp [State.inOrder]
  | cons c cs ih =>
    obtain ⟨hc, hnd⟩ := List.nodup_cons.1 hcs
    have hrest := ih hnd fun d hd => hsub d (List.mem_cons_of_mem _ hd)
    have hnot : (∀ b, s.turn c ≠ .ready b) → l.filter (fun x => decide (x.1 ∈ c :: cs)) = l.filter fun x => decide (x.1 ∈ cs) := by
      intro h
      refine List.filter_congr fun x hx => ?_
      have hx := ((hl x.1 x.2).1 hx).2
      have : x.1 ≠ c := fun e => h x.2 (e ▸ hx)
      simp [this]
    unfold State.inOrder at hrest ⊢
    rw [List.map_cons, List.foldr_cons, hrest]
    cases ht : s.turn c with
    | ready b =>
      have hmem : (c, b) ∈ l := (hl c b).2 ⟨hsub c List.mem_cons_self, ht⟩
      refine (State.insertCand_filter (c, b) _ l hp hmem (by simpa using hc)).trans (List.filter_congr fun x hx => ?_)
      have hx := ((hl x.1 x.2).1 hx).2
      have : x = (c, b) ↔ x.1 = c := by
        refine ⟨fun e => by rw [e], fun e => ?_⟩
        rw [e, ht] at hx
        cases hx
        exact Prod.ext e rfl
      simp [this]
    | _ => exact (hnot fun b => by rw [ht]; exact Turn.noConfusion).symm

/-! ## The cycle of a junction -/

/-- The rotation pointer of a core passes the first of those chosen (R249). -/
def State.passPointer (t : State) (k : Nat) : List Nat → State
  | p :: _ => t.modCore k fun x => { x with rp := (p + 1) % 4 }
  | [] => t

theorem State.passPointer_rest (t : State) (k : Nat) (m : List Nat) : (t.passPointer k m).ctxs = t.ctxs ∧ (t.passPointer k m).issueQ = t.issueQ := by
  cases m <;> exact ⟨rfl, rfl⟩

theorem State.rp_passPointer (t : State) (k : Nat) (m : List Nat) : ((t.passPointer k m).core k).rp = match m with
    | p :: _ => (p + 1) % 4
    | [] => (t.core k).rp := by
  cases m with
  | nil => rfl
  | cons p m =>
    unfold State.passPointer
    rw [State.core_modCore, if_pos rfl]

/-- A junction's cycle with its candidates in order. -/
noncomputable def State.junctionEnd (s : State) (k : Nat) (l : List Candidate) : State :=
  let t := (((ctxsOf k).map fun c => (c, s.turn c)).foldl (fun t e => t.idleTurn e.1 e.2) s).countStarved k (l.map (·.1)) (s.choose l)
  let t := t.passPointer k (s.choose l)
  { t with
    round := t.round.erase k
    issueQ := t.issueQ ++ s.choose l }

theorem ctxsOf_nodup (k : Nat) : (ctxsOf k).Nodup := by simp [ctxsOf]

theorem exec_junctionCycle {s : State} {k : Nat} {l : List Candidate} (hk : k < 256)
    (hl : ∀ c b, (c, b) ∈ l ↔ c ∈ ctxsOf k ∧ s.turn c = .ready b) (hp : l.Pairwise fun x y => s.before (s.core k).rp x.1 y.1 = true) :
    exec (.junctionCycle k) s = .next (s.junctionEnd k l) := by
  have hall : s.inOrder (s.core k).rp (ctxsOf k) = l := by
    rw [State.inOrder_eq (ctxsOf k) (ctxsOf k) (ctxsOf_nodup k) (fun _ h => h) hl hp, List.filter_eq_self]
    exact fun x hx => decide_eq_true ((hl x.1 x.2).1 hx).1
  rw [← hall]
  exact if_neg (by omega)

/-- The count of one context after a cycle. -/
def State.starveOne (cands issued : List Nat) (t : State) (c : Nat) : State :=
  let n := if cands.contains c && !issued.contains c then (t.ctx c).starve + 1 else 0
  if n = (t.ctx c).starve then t else t.modCtx c fun x => { x with starve := n }

theorem State.countStarved_eq (s : State) (k : Nat) (cands issued : List Nat) :
    s.countStarved k cands issued = (ctxsOf k).foldl (State.starveOne cands issued) s := rfl

theorem State.ctx_starveOne (cands issued : List Nat) (s : State) (a c : Nat) : (State.starveOne cands issued s a).ctx c =
    if c = a then { s.ctx a with starve := if cands.contains a && !issued.contains a then (s.ctx a).starve + 1 else 0 } else s.ctx c := by
  unfold State.starveOne
  dsimp only
  generalize (if (cands.contains a && !issued.contains a) = true then (s.ctx a).starve + 1 else 0) = n
  split
  · next h =>
    split
    · next hca => subst h hca; rfl
    · rfl
  · rw [State.ctx_modCtx]

theorem State.starveOne_rest (cands issued : List Nat) (s : State) (a : Nat) :
    (State.starveOne cands issued s a).cores = s.cores ∧ (State.starveOne cands issued s a).issueQ = s.issueQ := by
  unfold State.starveOne
  dsimp only
  generalize (if (cands.contains a && !issued.contains a) = true then (s.ctx a).starve + 1 else 0) = n
  split <;> exact ⟨rfl, rfl⟩

/-- The counts of a list of contexts after a cycle; nothing else of a context changes. -/
theorem State.ctx_starveOnes (cands issued l : List Nat) (s : State) (hl : l.Nodup) (c : Nat) :
    (l.foldl (State.starveOne cands issued) s).ctx c = if c ∈ l then { s.ctx c with
      starve := if cands.contains c && !issued.contains c then (s.ctx c).starve + 1 else 0 } else s.ctx c := by
  induction l generalizing s with
  | nil => rfl
  | cons a l ih =>
    obtain ⟨ha, hl⟩ := List.nodup_cons.1 hl
    rw [List.foldl_cons, ih _ hl, State.ctx_starveOne]
    by_cases hca : c = a
    · subst hca
      rw [if_neg ha, if_pos rfl, if_pos List.mem_cons_self]
    · rw [if_neg hca]
      simp only [List.mem_cons, hca, false_or]

theorem State.starveOnes_rest (cands issued l : List Nat) (s : State) :
    (l.foldl (State.starveOne cands issued) s).cores = s.cores ∧ (l.foldl (State.starveOne cands issued) s).issueQ = s.issueQ := by
  induction l generalizing s with
  | nil => exact ⟨rfl, rfl⟩
  | cons a l ih => exact ⟨(ih _).1.trans (s.starveOne_rest cands issued a).1, (ih _).2.trans (s.starveOne_rest cands issued a).2⟩

theorem State.issueQ_junctionEnd (s : State) (k : Nat) (l : List Candidate) : (s.junctionEnd k l).issueQ = s.issueQ ++ s.choose l := by
  have h := (State.starveOnes_rest (l.map (·.1)) (s.choose l) (ctxsOf k)
    (((ctxsOf k).map fun c => (c, s.turn c)).foldl (fun t e => t.idleTurn e.1 e.2) s)).2.trans (s.issueQ_idleTurns _)
  unfold State.junctionEnd
  rw [State.countStarved_eq]
  dsimp only
  exact congrArg (· ++ s.choose l) ((State.passPointer_rest _ _ _).2.trans h)

/-- Contexts that are out or ready do nothing of their own. -/
theorem State.idleTurns_ready {s : State} (l : List Nat) (t : State) (h : ∀ c ∈ l, s.turn c = .out ∨ ∃ b, s.turn c = .ready b) :
    (l.map fun c => (c, s.turn c)).foldl (fun t e => t.idleTurn e.1 e.2) t = t := by
  induction l with
  | nil => rfl
  | cons a l ih =>
    obtain ⟨ha, hl⟩ := List.forall_mem_cons.1 h
    have hone : t.idleTurn a (s.turn a) = t := by
      obtain ha | ⟨b, ha⟩ := ha <;> rw [ha] <;> rfl
    rw [List.map_cons, List.foldl_cons, hone]
    exact ih hl

/-- Where every context of the core is out or ready, a cycle acts through its choice alone. -/
theorem State.junctionEnd_ready {s : State} {k : Nat} {l : List Candidate} (h : ∀ c ∈ ctxsOf k, s.turn c = .out ∨ ∃ b, s.turn c = .ready b) :
    (∀ c ∈ ctxsOf k, (s.junctionEnd k l).ctx c = { s.ctx c with
      starve := if (l.map (·.1)).contains c && !(s.choose l).contains c then (s.ctx c).starve + 1 else 0 }) ∧
    ((s.junctionEnd k l).core k).rp = match s.choose l with
      | p :: _ => (p + 1) % 4
      | [] => (s.core k).rp := by
  have hctx := State.ctx_starveOnes (l.map (·.1)) (s.choose l) (ctxsOf k) s (ctxsOf_nodup k)
  have hcore : ((ctxsOf k).foldl (State.starveOne (l.map (·.1)) (s.choose l)) s).core k = s.core k :=
    congrArg (Store.get Core.reset · k) (State.starveOnes_rest _ _ _ _).1
  unfold State.junctionEnd
  rw [State.idleTurns_ready _ _ h, State.countStarved_eq]
  dsimp only
  generalize (ctxsOf k).foldl (State.starveOne (l.map (·.1)) (s.choose l)) s = t at hctx hcore ⊢
  refine ⟨fun c hc => ?_, ?_⟩
  · exact (congrArg (Store.get Ctx.reset · c) (t.passPointer_rest k _).1).trans ((hctx c).trans (if_pos hc))
  · rw [← hcore]
    exact t.rp_passPointer k _

end Sys2Proof.Machine

/-! The statement of the issue events: the junction's choice by its primary and secondary, and the events of one context (R28, R53, R110, R247 to R252,
R271 to R273). -/
namespace Sys2Proof.Machine
set_option Elab.async false

/-! ## The choice (R248, R252) -/

/-- A context may issue beside another that could: it has starved, or has not yielded. -/
def State.may (s : State) (c : Nat) : Prop := 1020 ≤ (s.ctx c).starve ∨ (s.ctx c).yieldUntil < s.cycles.toNat

theorem State.may_iff (s : State) (c : Nat) : (s.starved c || !s.yielded c) = true ↔ s.may c := by
  simp [State.starved, State.yielded, State.may]

theorem State.choose_none {s : State} {l : List Candidate} (h2 : 2 ≤ l.length) (h : ∀ e ∈ l, ¬ s.may e.1) : s.choose l = [] := by
  have hf : l.find? (fun e => s.starved e.1 || !s.yielded e.1) = none :=
    List.find?_eq_none.2 fun e he => by rw [State.may_iff]; exact h e he
  unfold State.choose
  dsimp only
  rw [if_neg (by omega), hf]

theorem State.choose_single (s : State) (e : Candidate) : s.choose [e] = [e.1] := by
  unfold State.choose
  simp

/-- The primary is the first that may issue; the secondary is looked for among the others. -/
theorem State.choose_first {s : State} {l before after : List Candidate} {p : Candidate} (h2 : 2 ≤ l.length) (hn : (l.map (·.1)).Nodup)
    (hl : l = before ++ p :: after) (hb : ∀ e ∈ before, ¬ s.may e.1) (hp : s.may p.1) :
    s.choose l = p.1 :: (((before ++ after).find? fun e => (s.starved e.1 || !s.yielded e.1) && mergeable p.2 e.2).map (·.1)).toList := by
  have hf : l.find? (fun e => s.starved e.1 || !s.yielded e.1) = some p := by
    rw [hl, List.find?_append, List.find?_eq_none.2 fun e he => by rw [State.may_iff]; exact hb e he]
    simp [(s.may_iff p.1).2 hp]
  have hrest : l.filter (fun e => !(e.1 == p.1)) = before ++ after := by
    subst hl
    rw [List.map_append, List.map_cons, List.nodup_append, List.nodup_cons] at hn
    obtain ⟨-, ⟨ha, -⟩, hd⟩ := hn
    rw [List.filter_append, List.filter_cons_of_neg (by simp)]
    congr 1
    · exact List.filter_eq_self.2 fun e he => by
        simpa using hd e.1 (List.mem_map_of_mem he) p.1 List.mem_cons_self
    · exact List.filter_eq_self.2 fun e he => by
        simpa using fun h : e.1 = p.1 => ha (h ▸ List.mem_map_of_mem he)
  unfold State.choose
  dsimp only
  rw [if_neg (by omega), hf]
  dsimp only
  rw [hrest]

theorem State.fits_iff (s : State) (p e : Candidate) :
    ((s.starved e.1 || !s.yielded e.1) && mergeable p.2 e.2) = true ↔ s.may e.1 ∧ mergeable p.2 e.2 = true := by
  rw [Bool.and_eq_true, State.may_iff]

theorem State.choose_alone {s : State} {l before after : List Candidate} {p : Candidate} (h2 : 2 ≤ l.length) (hn : (l.map (·.1)).Nodup)
    (hl : l = before ++ p :: after) (hb : ∀ e ∈ before, ¬ s.may e.1) (hp : s.may p.1)
    (h : ∀ e ∈ before ++ after, ¬ (s.may e.1 ∧ mergeable p.2 e.2 = true)) : s.choose l = [p.1] := by
  rw [choose_first h2 hn hl hb hp, List.find?_eq_none.2 fun e he => by rw [State.fits_iff]; exact h e he]
  rfl

theorem State.choose_pair {s : State} {l before after m n : List Candidate} {p q : Candidate} (h2 : 2 ≤ l.length) (hn : (l.map (·.1)).Nodup)
    (hl : l = before ++ p :: after) (hb : ∀ e ∈ before, ¬ s.may e.1) (hp : s.may p.1) (hr : before ++ after = m ++ q :: n)
    (hm : ∀ e ∈ m, ¬ (s.may e.1 ∧ mergeable p.2 e.2 = true)) (hq : s.may q.1 ∧ mergeable p.2 q.2 = true) : s.choose l = [p.1, q.1] := by
  have hf : (m ++ q :: n).find? (fun e => (s.starved e.1 || !s.yielded e.1) && mergeable p.2 e.2) = some q := by
    rw [List.find?_append, List.find?_eq_none.2 fun e he => by rw [State.fits_iff]; exact hm e he]
    exact List.find?_cons_of_pos (p := fun e : Candidate => (s.starved e.1 || !s.yielded e.1) && mergeable p.2 e.2) ((s.fits_iff p q).2 hq)
  rw [choose_first h2 hn hl hb hp, hr, hf]
  rfl

/-! ## One candidate and two -/

/-- Only the contexts listed are candidates where the others are out. -/
theorem State.ready_only {s : State} {k : Nat} {l : List Candidate} (hl : ∀ e ∈ l, e.1 ∈ ctxsOf k ∧ s.turn e.1 = .ready e.2)
    (ho : ∀ x ∈ ctxsOf k, x ∉ l.map (·.1) → s.turn x = .out) : (∀ c b, (c, b) ∈ l ↔ c ∈ ctxsOf k ∧ s.turn c = .ready b) ∧
    ∀ x ∈ ctxsOf k, s.turn x = .out ∨ ∃ b, s.turn x = .ready b := by
  refine ⟨fun c b => ⟨fun h => hl _ h, fun ⟨hc, hb⟩ => ?_⟩, fun x hx => ?_⟩
  · by_cases hin : c ∈ l.map (·.1)
    · obtain ⟨e, he, rfl⟩ := List.mem_map.1 hin
      have := (hl e he).2.symm.trans hb
      cases this
      exact he
    · rw [ho c hc hin] at hb
      cases hb
  · by_cases hin : x ∈ l.map (·.1)
    · obtain ⟨e, he, rfl⟩ := List.mem_map.1 hin
      exact .inr ⟨_, (hl e he).2⟩
    · exact .inl (ho x hx hin)

theorem State.junction_single {s : State} {k c : Nat} {b : Bundle} (hk : k < 256) (hc : c ∈ ctxsOf k) (hb : s.turn c = .ready b)
    (ho : ∀ d ∈ ctxsOf k, d ≠ c → s.turn d = .out) :
    ∃ t, exec (.junctionCycle k) s = .next t ∧ t.issueQ = s.issueQ ++ [c] ∧ (t.core k).rp = (c + 1) % 4 ∧ (t.ctx c).starve = 0 ∧
      (t.ctx c).pc = (s.ctx c).pc := by
  obtain ⟨hl, hr⟩ := State.ready_only (l := [(c, b)]) (k := k) (s := s) (by simpa using ⟨hc, hb⟩)
    fun x hx hn => ho x hx (by simpa using hn)
  obtain ⟨hctx, hrp⟩ := State.junctionEnd_ready (l := [(c, b)]) hr
  refine ⟨_, exec_junctionCycle hk hl (List.pairwise_singleton _ _), ?_, ?_, ?_, ?_⟩
  · rw [State.issueQ_junctionEnd, State.choose_single]
  · rw [hrp, State.choose_single]
  · rw [hctx c hc, State.choose_single]
    simp
  · rw [hctx c hc]

theorem State.junction_pair {s : State} {k c d : Nat} {b e : Bundle} (hk : k < 256) (hc : c ∈ ctxsOf k) (hd : d ∈ ctxsOf k) (hcd : c ≠ d)
    (hb : s.turn c = .ready b) (he : s.turn d = .ready e) (ho : ∀ x ∈ ctxsOf k, x ≠ c → x ≠ d → s.turn x = .out)
    (hbefore : s.before (s.core k).rp c d = true) :
    ∃ t, exec (.junctionCycle k) s = .next t ∧
      (s.may c → s.may d → mergeable b e = true → t.issueQ = s.issueQ ++ [c, d] ∧ (t.core k).rp = (c + 1) % 4 ∧ (t.ctx c).starve = 0 ∧
        (t.ctx d).starve = 0) ∧
      (s.may c → ¬ s.may d ∨ mergeable b e = false → t.issueQ = s.issueQ ++ [c] ∧ (t.core k).rp = (c + 1) % 4 ∧ (t.ctx c).starve = 0 ∧
        (t.ctx d).starve = (s.ctx d).starve + 1) ∧
      (¬ s.may c → s.may d → t.issueQ = s.issueQ ++ [d] ∧ (t.core k).rp = (d + 1) % 4 ∧ (t.ctx d).starve = 0 ∧
        (t.ctx c).starve = (s.ctx c).starve + 1) ∧
      (¬ s.may c → ¬ s.may d → t.issueQ = s.issueQ ∧ (t.core k).rp = (s.core k).rp ∧ (t.ctx c).starve = (s.ctx c).starve + 1 ∧
        (t.ctx d).starve = (s.ctx d).starve + 1) := by
  obtain ⟨hl, hr⟩ := State.ready_only (l := [(c, b), (d, e)]) (k := k) (s := s) (by simpa using ⟨⟨hc, hb⟩, hd, he⟩)
    fun x hx hn => ho x hx (by simp_all) (by simp_all)
  obtain ⟨hctx, hrp⟩ := State.junctionEnd_ready (l := [(c, b), (d, e)]) hr
  have h2 : 2 ≤ [(c, b), (d, e)].length := Nat.le_refl 2
  have hn : ([(c, b), (d, e)].map (·.1)).Nodup := by simpa using hcd
  refine ⟨_, exec_junctionCycle hk hl (by simpa using hbefore), ?_⟩
  rw [State.issueQ_junctionEnd, hrp, hctx c hc, hctx d hd]
  refine ⟨fun mc md hm => ?_, fun mc h => ?_, fun mc md => ?_, fun mc md => ?_⟩
  · have hch : s.choose [(c, b), (d, e)] = [c, d] :=
      State.choose_pair (before := []) (m := []) (n := []) h2 hn rfl (by simp) mc rfl (by simp) ⟨md, hm⟩
    rw [hch]
    simp
  · have hch : s.choose [(c, b), (d, e)] = [c] :=
      State.choose_alone (before := []) h2 hn rfl (by simp) mc (by
        rintro x hx ⟨hx1, hx2⟩
        obtain rfl : x = (d, e) := by simpa using hx
        exact h.elim (· hx1) fun h => by rw [h] at hx2; cases hx2)
    rw [hch]
    simp [hcd.symm]
  · have hch : s.choose [(c, b), (d, e)] = [d] :=
      State.choose_alone (before := [(c, b)]) (after := []) h2 hn rfl (by simpa using mc) md (by simpa using fun h => absurd h mc)
    rw [hch]
    simp [hcd]
  · have hch : s.choose [(c, b), (d, e)] = [] := State.choose_none h2 (by simpa using ⟨mc, md⟩)
    rw [hch]
    simp

/-! ## The order and the merge in the statement's words (R248, R250, R251) -/

theorem State.before_late {s : State} {rp c d : Nat} :
    (1020 ≤ (s.ctx c).starve → ¬ 1020 ≤ (s.ctx d).starve → s.before rp c d = true ∧ s.before rp d c = false) ∧
    (1020 ≤ (s.ctx c).starve → 1020 ≤ (s.ctx d).starve → (s.before rp c d = true ↔ (s.ctx d).starve < (s.ctx c).starve ∨
      ((s.ctx c).starve = (s.ctx d).starve ∧ c < d))) ∧
    (¬ 1020 ≤ (s.ctx c).starve → ¬ 1020 ≤ (s.ctx d).starve → (s.before rp c d = true ↔
      (s.ctx d).csr.prio.toNat % 8 < (s.ctx c).csr.prio.toNat % 8 ∨
      ((s.ctx c).csr.prio.toNat % 8 = (s.ctx d).csr.prio.toNat % 8 ∧ (c % 4 + 4 - rp) % 4 < (d % 4 + 4 - rp) % 4))) := by
  unfold State.before State.starved
  refine ⟨fun hc hd => ?_, fun hc hd => ?_, fun hc hd => ?_⟩
  · simp [hc, hd]
  · simp only [hc, hd, decide_true, ne_eq, not_true_eq_false, if_false, if_true]
    split
    · rw [decide_eq_true_eq]; omega
    · rw [decide_eq_true_eq]; omega
  · simp only [hc, hd, decide_false, ne_eq, not_true_eq_false, if_false, Bool.false_eq_true]
    split
    · rw [decide_eq_true_eq]; omega
    · rw [decide_eq_true_eq]; omega

theorem mergeable_iff (a b : Bundle) : mergeable a b = true ↔
    ((∀ k ∈ a.ops.map fun i => (infoOf i).slot, k ∉ b.ops.map fun i => (infoOf i).slot) ∧
      ¬ (12 ∈ (a.ops.map fun i => (infoOf i).slot) ∧ ∃ k ∈ b.ops.map fun i => (infoOf i).slot, k ∈ [2, 3, 4, 10, 11]) ∧
      ¬ (12 ∈ (b.ops.map fun i => (infoOf i).slot) ∧ ∃ k ∈ a.ops.map fun i => (infoOf i).slot, k ∈ [2, 3, 4, 10, 11])) := by
  have hmem : ∀ l : List Nat, (l.any fun k => k == 2 || k == 3 || k == 4 || k == 10 || k == 11) = true ↔ ∃ k ∈ l, k ∈ [2, 3, 4, 10, 11] := by
    intro l
    simp [or_assoc]
  unfold mergeable
  dsimp only
  generalize (a.ops.map fun i => (infoOf i).slot) = la
  generalize (b.ops.map fun i => (infoOf i).slot) = lb
  rw [Bool.and_eq_true, Bool.and_eq_true, Bool.not_eq_true', Bool.not_eq_true', Bool.not_eq_true', ← Bool.not_eq_true, ← Bool.not_eq_true,
    ← Bool.not_eq_true, Bool.and_eq_true, Bool.and_eq_true, hmem, hmem, List.contains_iff_mem, List.contains_iff_mem, List.any_eq_true, and_assoc]
  simp

/-- Settles O47: the candidates of a core stand in the order of R248 whatever order its contexts are looked at in, so a cycle is its choice. -/
theorem issueEvents : Obligations.IssueEvents := by
  unfold Obligations.IssueEvents
  refine ⟨fun s => ⟨?_, ?_, ?_, ?_, ?_, ?_, ?_, ?_, ?_⟩, mergeable_iff⟩
  · exact fun c hc => ⟨onCtx_of_lt hc, onCtx_of_lt hc, onCtx_of_lt hc⟩
  · intro c a n hc hf
    refine (onCtx_of_lt hc).trans ?_
    rw [hf]
  · intro k f code n hk hf hseg hcop t
    have hrun : exec (.segmentCopyComplete k f) s = .next
        (if ((t.core k).resident code n).isSome || !((s.core k).frame f).needed then t else t.missFails k code n) := by
      refine (if_neg (by omega)).trans ?_
      rw [hseg]
      exact if_neg (by rw [hcop]; decide)
    exact ⟨fun h => hrun.trans (congrArg _ (if_pos (by simpa using h))),
      fun hres hneed => hrun.trans (congrArg _ (if_neg (by rw [hres, hneed]; decide)))⟩
  · exact fun k c b hk hc hb ho => State.junction_single hk hc hb ho
  · exact fun k c d b e hk hc hd hcd hb he ho hbe => State.junction_pair hk hc hd hcd hb he ho hbe
  · exact fun k l hk hl hp => ⟨_, exec_junctionCycle hk hl hp, s.issueQ_junctionEnd k l⟩
  · exact fun l h2 hn => ⟨State.choose_none h2, fun before p after hl hb hp =>
      ⟨State.choose_alone h2 hn hl hb hp, fun m q n hr hm hq => State.choose_pair h2 hn hl hb hp hr hm hq⟩⟩
  · exact fun rp c d _ => State.before_late
  · exact fun k hk h => (if_neg (by omega)).trans (if_pos h)

end Sys2Proof.Machine

/-! Proofs about what completes after issue: accesses, engine operations and jobs, and the messages of what acts at the pool (R32, R168, R169, R194,
R202, R213, R230, R236, R242, R245, R276, R421, R480). -/
namespace Sys2Proof.Machine
set_option Elab.async false

/-! ## Accesses that are due -/

theorem State.unitDue_id {s : State} {c id : Nat} {u : MemUnit} (h : s.unitDue c id = some u) : u.id = id := by
  have := List.find?_some h
  simp only [Bool.and_eq_true] at this
  exact eq_of_beq this.1.1.1

/-- An access with no message, or whose message is done, acts. -/
theorem State.unitMessage_due {s : State} {c id : Nat} {u : MemUnit} {act : State → State} (hc : c < 1024) (hu : s.unitDue c id = some u)
    (h : s.unitClass c u = none ∨ s.messageDone (c, id) = true) : s.unitMessage c u act = act s :=
  State.unitMessage_done hc (h.imp_right fun h => by rw [unitDue_id hu]; exact h)

/-- An access of a pool object with a message goes through it. -/
theorem State.unitMessage_via {s : State} {c id cls off : Nat} {u : MemUnit} {k : Word128} {act : State → State} (hu : s.unitDue c id = some u)
    (hcls : s.unitClass c u = some cls) (ht : u.target = .pool k off) : s.unitMessage c u act =
      s.viaMessage (c, id) cls (s.poolNode (capObj k)) (poolBody k off u.stepTag u.data) (if u.isStore then u.size else 0) act := by
  unfold State.unitMessage
  rw [hcls, ht, unitDue_id hu]

theorem exec_poolWriteAcknowledgement {s : State} {c id off : Nat} {u : MemUnit} {k : Word128} (hc : c < 1024) (hu : s.unitDue c id = some u)
    (ht : u.target = .pool k off) (hq : u.inStoreQueue = true) (hf : s.unitFinding c u = 0) :
    exec (.poolWriteAcknowledgement c id) s = .next (s.unitMessage c u fun t => (((t.perform c u).drain c).shrink).checkConfig) := by
  refine (onCtx_of_lt hc).trans (congrArg _ ?_)
  rw [hu]
  dsimp only
  rw [ht]
  exact if_pos (by rw [hq, hf]; rfl)

/-! ## Flits of a message (R480) -/

theorem State.length_placeFlit (s : State) (e : Placed) :
    (s.placeFlit e).fab.placed.length + (s.placeFlit e).fab.owed.length = s.fab.placed.length + s.fab.owed.length + 1 := by
  unfold State.placeFlit
  split
  · simp only [State.modFab, List.length_append, List.length_singleton]
    omega
  · simp only [State.modFab, List.length_append, List.length_singleton]
    omega

theorem State.length_placeFlits (f : Flit → Placed) (l : List Flit) (s : State) :
    let t := l.foldl (fun (t : State) e => t.placeFlit (f e)) s
    t.fab.placed.length + t.fab.owed.length = s.fab.placed.length + s.fab.owed.length + l.length := by
  induction l generalizing s with
  | nil => rfl
  | cons e l ih =>
    have h := ih (s.placeFlit (f e))
    rw [State.length_placeFlit] at h
    rw [List.foldl_cons, List.length_cons]
    dsimp only at h ⊢
    omega

/-- Every flit of a message is placed, or waits for its slot. -/
theorem State.length_sendOpen (s : State) (job : Option (Nat × Nat)) (cls dst b n : Nat) :
    (s.sendOpen job cls dst b n).fab.placed.length + (s.sendOpen job cls dst b n).fab.owed.length =
      s.fab.placed.length + s.fab.owed.length + max 1 (ceilDiv n 208) := by
  have h := State.length_placeFlits (fun f => { slot := 0, port := 0, flit := f, job := job, via := none }) (s.openFlits cls dst b n) s
  have hl : (s.openFlits cls dst b n).length = max 1 (ceilDiv n 208) := by simp [State.openFlits]
  rw [hl] at h
  exact h

/-! ## Operations of the engines that are due -/

/-- An operation in flight that may begin, that nothing holds and whose messages are done. -/
structure State.OpDue (s : State) (c id : Nat) (o : EngOp) : Prop where
  lt : c < 1024
  found : (s.ctx c).engOp id = some o
  ready : (s.ctx c).engReady o = true
  free : s.opHeld c o = false
  first : s.opAhead o = false
  sent : o.msgClass = none ∨ s.messageDone (c, id) = true

namespace State.OpDue
variable {s : State} {c id : Nat} {o : EngOp}

theorem completes (h : s.OpDue c id o) {q : Engine} (hq : o.engine = q) {f : EngOp → State} {t : State} (hf : f o = t) :
    completing c id q s f = .next t :=
  (completing_due h.lt h.found hq h.ready h.free h.sent h.first).trans (congrArg _ hf)

theorem matrix_outer (h : s.OpDue c id o) (hq : o.engine = .m) (hsc : ∀ e ∈ o.scales, Store.has (s.ctx c).scaleData e.1 = true) {neg : Bool}
    {f : MxFmt} {m : MX} {fa fb : Fmt} (hform : mxForm o.instr = some (neg, f, m)) (hfa : f.of o.fmtA = some fa) (hfb : f.of o.fmtB = some fb) :
    exec (.matrixOpComplete c id) s = .next ((s.accRows (coreOf c) o.acc 0 128 (s.outer c o m neg fa fb).1).modCtx c fun y =>
      { (y.orFlags (s.outer c o m neg fa fb).2).engDone id with
        scaleData := y.scaleData.filter fun e => !o.scales.any fun n => n.1 == e.1 }) := by
  refine h.completes hq ?_
  dsimp only
  rw [if_pos (List.all_eq_true.2 hsc), hform]
  dsimp only
  rw [hfa, hfb]

theorem matrix_clear (h : s.OpDue c id o) (hq : o.engine = .m) (hsc : ∀ e ∈ o.scales, Store.has (s.ctx c).scaleData e.1 = true)
    (hform : mxForm o.instr = none) :
    exec (.matrixOpComplete c id) s = .next ((s.clearGroups (coreOf c) o.acc o.pos).modCtx c fun y => y.engDone id) := by
  refine h.completes hq ?_
  dsimp only
  rw [if_pos (List.all_eq_true.2 hsc), hform]

theorem drain_zero (h : s.OpDue c id o) (hq : o.engine = .d) {d : DR} (hi : o.instr = .dzero d) :
    exec (.drainOpComplete c id) s = .next ((s.accRows (coreOf c) o.acc (16 * d.row.toNat) 16 []).drDone c o 0) := by
  refine h.completes hq ?_
  rw [hi]

/-- A D operation with a format, other than dzero, by its instruction. -/
theorem drain_form (h : s.OpDue c id o) (hq : o.engine = .d) {f : Fmt} (hf : fmtOf (fun _ => o.fmtA) (dpFmt o.card) = some f) {t : State}
    (hd : ∀ d, o.instr ≠ .dzero d) (ht : (match o.instr with
      | .drain d => s.drainRows c o f d.row.toNat
      | .drainM d => s.drainRows c o f d.row.toNat
      | .drainv d => s.drainPiece c o f d
      | .fill d => s.fillRows c o f d.row.toNat
      | .fillM d => s.fillRows c o f d.row.toNat
      | .fillv d => s.fillPiece c o f d
      | _ => s) = t) : exec (.drainOpComplete c id) s = .next t := by
  refine h.completes hq ?_
  rw [hf]
  split
  · next d hi => exact absurd hi (hd d)
  · exact ht

theorem optimiser_update (h : s.OpDue c id o) (hq : o.engine = .o) {k : OptKind} {bf : Bool} (hform : opForm o.instr = some (k, bf)) :
    exec (.optimiserOpComplete c id) s = .next (s.optDone c o k bf) := by
  refine h.completes hq ?_
  rw [hform]

theorem optimiser_clip (h : s.OpDue c id o) (hq : o.engine = .o) {p : OP} (hi : o.instr = .oclip p) :
    exec (.optimiserOpComplete c id) s = .next (s.accMap c o fun v => (clipElem o.card v, 0)) := by
  refine h.completes hq ?_
  rw [hi]
  rfl

theorem optimiser_scale (h : s.OpDue c id o) (hq : o.engine = .o) {p : OP} (hi : o.instr = .oscale p) :
    exec (.optimiserOpComplete c id) s = .next (s.accMap c o fun v =>
      ((rnd (FVal.mul (decodeVal fp32 v) (opGscale o.card))).bits, (rnd (FVal.mul (decodeVal fp32 v) (opGscale o.card))).flags)) := by
  refine h.completes hq ?_
  rw [hi]
  rfl

end State.OpDue

/-! ## Accesses -/

theorem exec_pageFault {s : State} {c id f a : Nat} {u : MemUnit} (hc : c < 1024) (hu : s.unitDue c id = some u) (hf : s.unitFault c u = some f)
    (ht : u.target = .ia a) : exec (.pageFault c id) s = .next (s.suspendUnit c u cPage 0 f a 0) := by
  refine (onCtx_of_lt hc).trans (congrArg _ ?_)
  rw [hu]
  dsimp only
  rw [hf, ht]

theorem exec_hiddenResultWrite {s : State} {c id : Nat} {u : MemUnit} (hc : c < 1024) (hu : s.unitDue c id = some u)
    (hm : s.unitClass c u = none ∨ s.messageDone (c, id) = true) (hr : u.returns = true) (hb : u.toBarrier = none)
    (hf : s.unitFault c u = none) (hn : s.unitFinding c u = 0) :
    exec (.hiddenResultWrite c id) s = .next ((s.perform c u).drain c).shrink.checkConfig := by
  refine (onCtx_of_lt hc).trans (congrArg _ ?_)
  rw [hu]
  dsimp only
  rw [if_pos (by rw [hr, hb, hf, hn]; rfl), State.unitMessage_due hc hu hm]

theorem exec_poolReject {s : State} {c id off : Nat} {u : MemUnit} {k : Word128} (hc : c < 1024) (hu : s.unitDue c id = some u)
    (hm : s.unitClass c u = none ∨ s.messageDone (c, id) = true) (ht : u.target = .pool k off) (hn : s.unitFinding c u ≠ 0) :
    exec (.poolReject c id) s = .next (s.suspendUnit c u cCap 1 off off (capObj k)) := by
  refine (onCtx_of_lt hc).trans (congrArg _ ?_)
  rw [hu]
  dsimp only
  rw [if_neg hn, State.unitMessage_due hc hu hm]
  unfold State.rejectUnit
  rw [ht]
  exact if_neg hn

theorem exec_handleStorageRelease {s : State} {c h base a : Nat} {ops : List Nat} (hc : c < 1024)
    (hrel : (s.ctx c).releasing[h]? = some (base, a, ops)) (hops : ∀ n ∈ ops, ∀ o ∈ (s.ctx c).eng, o.id ≠ n) :
    exec (.handleStorageRelease c h) s = .next ((s.modCore (coreOf c) fun k => k.release base).modCtx c fun y => { y with
      releasing := y.releasing.eraseIdx h }) := by
  refine (onCtx_of_lt hc).trans (congrArg _ ?_)
  rw [hrel]
  refine if_neg ?_
  rw [List.any_eq_true]
  rintro ⟨n, hn, ho⟩
  obtain ⟨o, ho, hid⟩ := List.any_eq_true.1 ho
  exact hops n hn o ho (eq_of_beq hid)

/-- Settles O48: each event is the completion of what is due (`State.OpDue.completes`, `State.unitMessage_due`), and a message is made once and
waited for. -/
theorem completionEvents : Obligations.CompletionEvents := by
  unfold Obligations.CompletionEvents
  refine ⟨?_, ?_⟩
  · intro s c hc x
    refine ⟨?_, ?_, ?_, ?_, ?_, ?_, ?_⟩
    · exact fun id u hu => ⟨fun f a hf ht => exec_pageFault hc hu hf ht, fun hm =>
        ⟨fun hr hb hf hn => exec_hiddenResultWrite hc hu hm hr hb hf hn, fun k off ht hn => exec_poolReject hc hu hm ht hn,
          fun k off ht hq hn => by rw [exec_poolWriteAcknowledgement hc hu ht hq hn, State.unitMessage_due hc hu hm]⟩⟩
    · intro id hu
      refine (onCtx_of_lt hc).trans (congrArg _ ?_)
      rw [hu]
    · intro h e he
      refine (onCtx_of_lt hc).trans (congrArg _ ?_)
      rw [he]
    · exact fun h base a ops hrel hops => exec_handleStorageRelease hc hrel hops
    · intro id o ho hr hh ha hm
      have hdue : s.OpDue c id o := ⟨hc, ho, hr, hh, ha, hm⟩
      refine ⟨fun hq hsc => ⟨fun neg f m fa fb hform hfa hfb => hdue.matrix_outer hq hsc hform hfa hfb, hdue.matrix_clear hq hsc⟩,
        fun hq => ⟨fun d hi => hdue.drain_zero hq hi, fun f d hf => ?_⟩,
        fun hq => ⟨fun k bf hform => hdue.optimiser_update hq hform, fun p hi => hdue.optimiser_clip hq hi,
          fun p hi => hdue.optimiser_scale hq hi⟩, fun hq => hdue.completes hq rfl⟩
      refine ⟨?_, fun hi => ?_, ?_, fun hi => ?_⟩
      · rintro (hi | hi) <;> exact hdue.drain_form hq hf (by simp [hi]) (by rw [hi])
      · exact hdue.drain_form hq hf (by simp [hi]) (by rw [hi])
      · rintro (hi | hi) <;> exact hdue.drain_form hq hf (by simp [hi]) (by rw [hi])
      · exact hdue.drain_form hq hf (by simp [hi]) (by rw [hi])
    · intro v hv hs hp hsw
      refine (onCtx_of_lt hc).trans (congrArg _ ?_)
      change (s.ctx c).optTrap = _ at hv
      rw [hv]
      exact if_pos ⟨hs, hp, hsw⟩
    · exact fun k addr bytes st hk => if_pos hk
  · intro s c id cls u k off hc hrem hu hcls ht hq hf
    have hrun := (exec_poolWriteAcknowledgement hc hu ht hq hf).trans (congrArg _ (State.unitMessage_via hu hcls ht))
    exact ⟨fun h => hrun.trans (congrArg _ (State.viaMessage_sends hrem h)),
      fun h ho => hrun.trans (congrArg _ (State.viaMessage_waits hrem h ho)), fun b n job dst => s.length_sendOpen job cls dst b n⟩

end Sys2Proof.Machine

/-! Proofs about the events of the clusters and the memory side: caches, barriers, soft errors, invalidations, migrations, hints, and where records
live (R328 to R337, R359, R368, R383 to R392, R415). -/
namespace Sys2Proof.Machine
set_option Elab.async false

/-! ## Barriers and lines -/

/-- A barrier that one access reaches, which neither releases nor acquires. -/
theorem State.updateBarrier_one {s : State} {cl b c : Nat} {u : MemUnit} (h : s.barrierInputs cl b = [(c, u)]) (hr : u.isRelease = false)
    (ha : u.isAcquire = false) : s.updateBarrier cl b = (s.modBarrier cl b fun x => (x.take u).configure.count).modCtx c fun x =>
      (x.deliver u (s.barrier cl b).phase).endUnit u.id := by
  have hrel : s.releaseInputs [(c, u)] = s := if_neg (by rw [hr]; decide)
  unfold State.updateBarrier
  rw [h]
  dsimp only
  rw [hrel]
  exact if_neg (by rw [ha]; decide)

theorem State.updateBarrier_none {s : State} {cl b : Nat} (h : s.barrierInputs cl b = []) :
    s.updateBarrier cl b = s.modBarrier cl b fun x => x.configure.count := by
  unfold State.updateBarrier
  rw [h]
  rfl

theorem Barrier.take_at {x : Barrier} {u : MemUnit} {b w : Nat} (h : u.toBarrier = some (b, w)) : x.take u =
    if w = 0x18 then { x with config := some u.data }
    else if w = 8 then { x with arrivals := x.arrivals + 1 }
    else if w = 0x10 then { x with dropsNow := x.dropsNow + 1 }
    else x := by
  unfold Barrier.take
  rw [h]

theorem State.llcLine_modLlc (s : State) (line k : Nat) (f : LlcLine → LlcLine) :
    (s.modLlc line f).llcLine k = if k = line then f (s.llcLine line) else s.llcLine k := Store.get_set _ _ _ _ _

theorem State.llcLine_spend (s : State) (k : Nat) : s.spend.llcLine k = s.llcLine k := rfl

/-! ## Invalidations (R388) -/

/-- Slice n forgets the translations of the lines it acknowledges. -/
theorem State.acked_forgotten {s : State} {n level key : Nat} {w : Word} {e : Inval} (he : e ∈ s.invals) (hn : e.waiting.getLsbD n = true)
    (hk : (level, key) ∈ e.lines) (hl : level < 4) (h40 : key < 2 ^ 40) :
    (tlbKey n level key, w) ∉ s.tlb.filter fun x => !(x.1 / 2 ^ 42 == n &&
      ((s.invals.filter fun e => e.waiting.getLsbD n).flatMap fun e => e.lines).any fun k =>
        x.1 / 2 ^ 40 % 4 == k.1 && x.1 % 2 ^ 40 / 16 == k.2 / 16) := by
  intro hmem
  have hdrop := (List.mem_filter.1 hmem).2
  have h1 : tlbKey n level key / 2 ^ 42 = n := by unfold tlbKey; omega
  have h2 : tlbKey n level key / 2 ^ 40 % 4 = level := by unfold tlbKey; omega
  have h3 : tlbKey n level key % 2 ^ 40 = key := by unfold tlbKey; omega
  have hany : (((s.invals.filter fun e => e.waiting.getLsbD n).flatMap fun e => e.lines).any fun k =>
      tlbKey n level key / 2 ^ 40 % 4 == k.1 && tlbKey n level key % 2 ^ 40 / 16 == k.2 / 16) = true := by
    refine List.any_eq_true.2 ⟨(level, key), List.mem_flatMap.2 ⟨e, List.mem_filter.2 ⟨he, hn⟩, hk⟩, ?_⟩
    rw [h2, h3, beq_self_eq_true, beq_self_eq_true]
    rfl
  rw [hany, h1, beq_self_eq_true] at hdrop
  cases hdrop

/-! ## Records (R359) -/

theorem recPlace_inj {n m : Nat} (h : recPlace n = recPlace m) : n = m := by
  unfold recPlace at h
  obtain ⟨h1, h2⟩ := Prod.ext_iff.1 h
  dsimp only at h1 h2
  omega

/-- Settles O49: each event by the branch of its own definition; a slice's place determines a record, as 0x9E37 is odd. -/
theorem memorySideEvents : Obligations.MemorySideEvents := by
  unfold Obligations.MemorySideEvents
  refine ⟨fun s cl line => ⟨?_, ?_, ?_, ?_, ?_, ?_, ?_, ?_, ?_, ?_, ?_, ?_⟩, ?_⟩
  · exact fun hcl => if_neg (by omega)
  · intro k l hcl hk hl
    have hat : ∀ ok t, (match s.line cl line with
        | none => .next s
        | some l =>
          if ok then .next (s.modCluster cl fun x => { x with corrected := x.corrected + 1 })
          else if l.dirty &&& chunkMask k ≠ 0 then .next (s.setLine cl line { l with poison := l.poison ||| (l.dirty &&& chunkMask k) })
          else if l.dirty = 0 then .next (s.dropLine cl line)
          else .next (s.setLine cl line { l with valid := l.dirty }) : Out) = t → exec (.clusterCacheEccError cl line k ok) s = t := by
      intro ok t h
      exact (if_neg (by omega)).trans h
    rw [hl] at hat
    refine ⟨hat true _ rfl, fun hd => hat false _ (if_pos hd), fun hd => hat false _ ?_⟩
    exact (if_neg (by decide)).trans ((if_neg (by rw [hd]; simp)).trans (if_pos hd))
  · exact fun b hcl hb => ⟨if_neg (by omega), State.updateBarrier_none, fun c u => State.updateBarrier_one⟩
  · exact fun x u b => ⟨fun h => x.take_at h, fun h => x.take_at h, fun h => x.take_at h⟩
  · intro l hcl hw ht hmode hrun h8
    refine (if_neg (by omega)).trans ?_
    rw [hw]
    exact if_pos ⟨by simpa using ht, by rw [hmode]; rfl, hrun, h8⟩
  · rfl
  · intro k hk
    have hat : ∀ ok, exec (.llcEccError line k ok) s = .next
        (if ok || !(s.llcLine line).present || (s.llcLine line).dirty &&& chunkMask k == 0 then s
          else s.modLlc line fun y => { y with poison := y.poison ||| (y.dirty &&& chunkMask k) }) := fun ok => if_neg (by omega)
    refine ⟨hat true, fun hp hd => (hat false).trans (congrArg _ (if_neg ?_)), fun h => (hat false).trans (congrArg _ (if_pos ?_))⟩
    · rw [hp, beq_false_of_ne hd]
      decide
    · obtain h | h := h
      · simp [h]
      · simp [h]
  · intro ia l hw
    have hat : ∀ ok, exec (.carrierMemoryEccError ia ok) s = .next (if ok || l.tier != 2 then s
        else (s.modLlc (ia / 128) fun x => { x with poison := x.poison |||
          (BitVec.ofNat 128 (s.free % 2 ^ 16 * 2 ^ (16 * (ia % 128 / 16))) &&& chunkMask (ia % 128 / 16)) }).spend) := by
      intro ok
      show execCarrierMemoryEccError ia ok s = _
      unfold execCarrierMemoryEccError
      rw [hw]
    refine ⟨hat true, fun ht => ⟨_, BitVec.ofNat 128 (s.free % 2 ^ 16 * 2 ^ (16 * (ia % 128 / 16))),
      (hat false).trans (congrArg _ (if_neg (by simp [ht]))), ?_, rfl⟩⟩
    rw [State.llcLine_spend, State.llcLine_modLlc, if_pos rfl]
  · intro n hn
    refine ⟨_, if_neg (by omega), rfl, fun x hx => (List.mem_filter.1 hx).1, fun e he hwait k hk w => ?_⟩
    by_cases h40 : k.2 < 2 ^ 40
    · by_cases h4 : k.1 < 4
      · exact .inl (State.acked_forgotten he hwait hk h4 h40)
      · exact .inr (.inr (by omega))
    · exact .inr (.inl (by omega))
  · intro ia m hm hno
    have hany : (s.invals.any fun e => e.hdr.isNone && e.ia == ia) = false :=
      List.any_eq_false.2 fun e he h => by
        rw [Bool.and_eq_true] at h
        exact hno e he (Option.isNone_iff_eq_none.1 h.1) (eq_of_beq h.2)
    have hat : exec (.migrationCopyComplete ia) s = .next (if m.copied then s.endMigration m
        else (s.copyPage m).invalidate (leafKeys m.size ia) (s.dirKeys (leafKeys m.size ia)) none 0 ia) := by
      show execMigrationCopyComplete ia s = _
      unfold execMigrationCopyComplete
      rw [hm]
      dsimp only
      rw [hany]
      rfl
    exact ⟨fun h => hat.trans (by rw [h]; rfl), fun h => hat.trans (by rw [h]; rfl)⟩
  · intro n task t i base len reuse misses hn ht hh hcond hnot
    refine (if_neg (by omega)).trans ?_
    have hnot' : ({ s with closed := s.closed.erase (n, task, i, misses) } : State).fe.hinted.contains (task, i) = false := by
      simpa using hnot
    show (match State.taskOf { s with closed := s.closed.erase (n, task, i, misses) } task with | none => _ | some t => _) = _
    rw [show State.taskOf { s with closed := s.closed.erase (n, task, i, misses) } task = some t from ht]
    dsimp only
    rw [hh]
    dsimp only
    rw [if_pos hcond, if_neg (by rw [hnot']; decide)]
  · intro n d hd
    show execDeltaMerge n s = _
    unfold execDeltaMerge
    rw [hd]
  · intro n m hn hm
    refine ⟨rfl, rfl, ?_, ?_, recPlace_inj⟩
    · exact Nat.mod_lt _ (by decide)
    · show 256 * (n / 128) + 256 ≤ 131072
      omega

end Sys2Proof.Machine

/-! Proofs about the events of tiles, spill areas, walkers and tasks (R122, R256 to R260, R319 to R323, R340, R345 to R352, R443, R445). -/
namespace Sys2Proof.Machine
set_option Elab.async false

theorem State.taskOf_modFe (s : State) (f : FrontEnd → FrontEnd) (hf : ∀ x, (f x).tasks = x.tasks) (id : Nat) :
    (s.modFe f).taskOf id = s.taskOf id := by
  unfold State.taskOf
  rw [State.fe_modFe, hf]

theorem State.modTask_some {s : State} {id : Nat} {t : Machine.Task} {f : Machine.Task → Machine.Task} (h : s.taskOf id = some t) :
    s.modTask id f = s.setTask id (f t) := by
  unfold State.modTask
  rw [h]

/-- The end of a task waits for its closed windows, and, with successors, for writes that a migration holds. -/
theorem State.doneWaits_iff (s : State) (id : Nat) (l : List Nat) :
    s.doneWaits id l = true ↔ (∃ e ∈ s.closed, e.2.1 = id) ∨ (l ≠ [] ∧ ∃ cl < 32, s.stuckAny cl = true) := by
  unfold State.doneWaits
  simp

/-! ## Tiles and spill areas -/

theorem exec_tileRetired {s : State} {c : Nat} (hc : c < 1024) (hst : (s.ctx c).state = .retiring) (hq : (s.ctx c).quiet = true) :
    exec (.tileRetired c) s = .next ((s.freeCtx c).tileEnds (s.ctx c).task false) :=
  (if_neg (by omega)).trans (if_pos ⟨hst, hq⟩)

theorem exec_contextSwitchStart {s : State} {w k c : Nat} {x : Walker} (hw : w < 64) (hk : k < 256) (hx : s.walkerOf w = some x)
    (hdie : k / 64 = w / 16) (hleft : x.cur < x.end_) (hno : s.switchUnderway w x = false)
    (hfull : ∀ d ∈ ctxsOf k, s.partitionFree d = false) (harea : s.areaFree = true) (hv : s.switchVictim k (s.walkerPrio x) = some c) :
    exec (.contextSwitchStart w k) s = .next (s.modCtx c fun y => { y with switching := some ([], some w) }) := by
  have hany : (ctxsOf k).any s.partitionFree = false := List.any_eq_false.2 fun d hd => by rw [hfull d hd]; decide
  refine (if_neg (by omega)).trans ?_
  rw [hx]
  dsimp only
  rw [hno, hany, harea, hv]
  exact if_neg (by simp [hdie, hleft])

/-- A switch that no walker asked for frees the context once its image is written. -/
theorem exec_spillSave {s : State} {c area : Nat} {l : List PktHdr} {rest : List Nat} (hc : c < 1024)
    (hsw : (s.ctx c).switching = some (l, none)) (hfree : s.freeAreas = area :: rest) (hst : (s.ctx c).state = .running)
    (hq : (s.ctx c).quiet = true) (hb : (s.ctx c).busy = []) (hp : (s.ctx c).pending = []) :
    exec (.spillSave c) s = .next ((((((s.writeImage area c).modFe fun f => { f with
      images := Store.put f.images area (c, { s.ctx c with switching := none }) }).freeCtx c).setCtx c Ctx.spilledOut)).answerSwitch (s.ctx c) 0) := by
  refine (onCtx_of_lt hc).trans (congrArg _ ?_)
  rw [hsw, hfree]
  exact if_pos ⟨hst, hq, hb, hp⟩

theorem exec_refill {s : State} {c area : Nat} {old : Ctx} (hc : c < 1024) (hi : s.settleFe.refillImage c = some (area, old))
    (hw : s.settleFe.refillWaits c old = false) (h0 : (s.settleFe.recallRange area areaSize).imageBytes area 0 4 = 0x50534C46)
    (h4 : (s.settleFe.recallRange area areaSize).imageBytes area 4 2 = 1) (h8 : (s.settleFe.recallRange area areaSize).imageBytes area 8 8 = c) :
    exec (.refill c) s = .next (((((s.settleFe.recallRange area areaSize).imageStorage area c
      ((s.settleFe.recallRange area areaSize).imageCtx area old)).setCtx c
      ((s.settleFe.recallRange area areaSize).imageCtx area old)).freeArea area).boundary c) := by
  refine (onCtx_of_lt hc).trans (congrArg _ ?_)
  dsimp only
  rw [hi]
  dsimp only
  rw [hw, if_neg Bool.false_ne_true, if_pos ⟨h0, h4, h8⟩]

/-! ## Tasks -/

theorem exec_walkerAssign {s : State} {id : Nat} {t : Machine.Task} (ht : s.taskOf id = some t) (hst : t.state = .active)
    (hck : t.checked = false) : exec (.walkerAssign id) s =
      (match (s.settleFe.launchReads t).prepare id t with
       | .error e => .next ((s.settleFe.launchReads t).refuseTask id e)
       | .ok u =>
         let u := u.checkHints id t
         match u.taskOf id, u.freeWalkers u.widestDie with
         | some t, w :: _ =>
           if t.tiles = 0 then .next (u.refuseTask id 0)
           else .next (u.setWalker w { task := id, cur := 0, end_ := t.tiles, forks := 0, asked := none, offer := none, issued := none })
         | _, _ => .next (s.settleFe.launchReads t)) := by
  show execWalkerAssign id s = _
  unfold execWalkerAssign
  rw [ht]
  exact if_neg (by simp [hst, hck])

theorem exec_walkerRestore {s : State} {id : Nat} {t : Machine.Task} (ht : s.taskOf id = some t) (hst : t.state = .active) (hs : t.saved ≠ [])
    (hall : (s.restoreAll id t.saved).2 = []) :
    exec (.walkerRestore id) s = .next ((s.restoreAll id t.saved).1.modTask id fun t => { t with saved := [] }) := by
  show execWalkerRestore id s = _
  unfold execWalkerRestore
  rw [ht]
  refine (if_neg (by simp [hst, hs])).trans ?_
  dsimp only
  rw [hall]
  rfl

theorem exec_taskDone_waits {s : State} {id : Nat} {t : Machine.Task} (ht : s.taskOf id = some t) (hst : t.state = .done)
    (hw : s.settleFe.doneWaits id ((s.settleFe.successors (lrSucc t.record)).getD []) = true) : exec (.taskDone id) s = .next s.settleFe := by
  show execTaskDone id s = _
  unfold execTaskDone
  rw [ht]
  exact (if_neg (by simp [hst])).trans (if_pos hw)

theorem exec_taskDone {s : State} {id : Nat} {t : Machine.Task} {l : List Nat} (ht : s.taskOf id = some t) (hst : t.state = .done)
    (h0 : t.status = 0) (ha : t.aborted = 0) (hl : s.settleFe.successors (lrSucc t.record) = some l) (hw : s.settleFe.doneWaits id l = false) :
    exec (.taskDone id) s =
      let v := if lrSucc t.record = 0 then s.settleFe else s.settleFe.feRead (lrSucc t.record) (16 + 8 * l.length)
      let w := if l = [] then v else v.clusters.foldl (fun (u : State) e => u.writebackAll e.1) v
      .next ((State.modFe (State.reportTask (l.foldl (fun (u : State) e => (u.decTask e 1).1) w) id t 0) fun f => { f with
        tasks := Store.del f.tasks id }).lastTask) := by
  show execTaskDone id s = _
  unfold execTaskDone
  rw [ht]
  refine (if_neg (by simp [hst])).trans ?_
  dsimp only
  rw [hl, h0, ha]
  exact if_neg (by rw [show (some l).getD [] = l from rfl, hw]; decide)

/-! ## Walkers -/

/-- The context in which a walker issues: the one that was freed for it, where it is eligible, or else the first eligible one of its die. -/
def State.nextContext (s : State) (w : Nat) (x : Walker) (t : Machine.Task) : Option Nat :=
  ((x.offer.filter fun c => s.eligible c t x.task (some w)).or (s.firstEligible (w / 16) t x.task (some w)))

theorem exec_walkerUpdate {s : State} {w c : Nat} {x : Walker} {t : Machine.Task} (hw : w < 64) (hx : s.walkerOf w = some x)
    (ht : s.taskOf x.task = some t) (hleft : x.cur < x.end_) (hc : s.nextContext w x t = some c) :
    exec (.walkerUpdate w) s = .next (s.issueTile w c x t) := by
  refine (if_neg (by omega)).trans ?_
  rw [hx]
  dsimp only
  rw [ht]
  dsimp only
  rw [if_neg (by omega)]
  unfold State.nextContext at hc
  cases ho : x.offer with
  | none =>
    rw [ho] at hc
    dsimp only
    rw [show s.firstEligible (w / 16) t x.task (some w) = some c from hc]
  | some d =>
    rw [ho, Option.filter_some] at hc
    dsimp only
    by_cases he : s.eligible d t x.task (some w) = true
    · rw [if_pos he] at hc ⊢
      cases hc
      rfl
    · rw [if_neg he] at hc ⊢
      dsimp only
      rw [show s.firstEligible (w / 16) t x.task (some w) = some c from hc]

theorem Store.has_put {α : Type} (m : Store α) (i : Nat) (v : α) (j : Nat) : Store.has (Store.put m i v) j = (i == j || Store.has m j) := by
  induction m with
  | nil => rfl
  | cons e l ih =>
    obtain ⟨k, u⟩ := e
    unfold Store.put
    split
    · rfl
    · split
      · next h =>
        subst h
        unfold Store.has
        rw [List.any_cons, List.any_cons]
        cases i == j <;> rfl
      · show (k == j || Store.has (Store.put l i v) j) = (i == j || (k == j || Store.has l j))
        rw [ih, Bool.or_left_comm]

/-- A walker that is busy stays so when its entry changes: the free walkers are the same. -/
theorem State.freeWalkers_setWalker {s : State} {w : Nat} {x : Walker} (h : s.walkerOf w = some x) (y : Walker) (die : Nat) :
    (s.setWalker w y).freeWalkers die = s.freeWalkers die := by
  have hw : Store.has s.walkers w = true := by
    obtain ⟨e, he, _⟩ := Option.map_eq_some_iff.1 h
    exact List.any_eq_true.2 ⟨e, List.mem_of_find?_eq_some he, by simpa using List.find?_some he⟩
  refine List.filter_congr fun v _ => ?_
  show (s.dieServes die && !Store.has (Store.put s.walkers w y) v) = _
  rw [Store.has_put]
  by_cases hv : w = v
  · subst hv
    rw [hw, Bool.or_true]
  · rw [beq_false_of_ne hv, Bool.false_or]

/-- The first request of a cycle that an inner split can serve takes half of the numbers. -/
theorem exec_forkRequest {s : State} {die c w v : Nat} {x : Walker} {t : Machine.Task} {l : List Nat} (hd : die < 4)
    (hwalker : s.walkerOf w = some x) (hr : s.forkRequest die = some (c, w, x, t)) (hx : x.asked = none) (h0 : lrSplit t.record = 0)
    (hmin : 2 * lrMinsplit t.record ≤ x.end_ - x.cur) (hf : s.freeWalkers die = v :: l) :
    let mid := x.cur + ceilDiv (x.end_ - x.cur) 2
    ∃ u, exec (.forkRequest die) s = .next (State.issueTile u v c
        { task := x.task, cur := mid, end_ := x.end_, forks := 0, asked := some (s.cycles.toNat, mid), offer := none, issued := none } t) ∧
      u.walkerOf w = some { x with
        end_ := mid
        forks := min (x.forks + 1) 65535
        asked := some (s.cycles.toNat, x.end_) } := by
  have hfree : (s.setWalker w { x with asked := some (s.cycles.toNat, x.end_) }).freeWalkers die = v :: l :=
    (State.freeWalkers_setWalker hwalker _ die).trans hf
  intro mid
  refine ⟨_, (if_neg (by omega)).trans ?_, State.walkerOf_setWalker (s.setWalker w { x with asked := some (s.cycles.toNat, x.end_) }) w _⟩
  rw [hr]
  dsimp only
  rw [hx]
  dsimp only
  rw [if_neg (by decide), if_neg (by omega), hfree, h0]
  rfl

theorem exec_walkerSave {s : State} {w : Nat} (hw : w < 64) (hd : s.saveDue w = true) (hno : ∀ e ∈ s.fe.saves, e.1 ≠ w) :
    exec (.walkerSave w) s = .next ((s.saveWalker w).modFe fun f => { f with saves := f.saves.filter fun e => !(e.1 == w) }) := by
  have hnone : (s.fe.saves.filter fun e => e.1 == w) = [] :=
    List.filter_eq_nil_iff.2 fun e he => by rw [beq_false_of_ne (hno e he)]; decide
  refine (if_neg (by omega)).trans ((if_neg (by rw [hd]; decide)).trans ?_)
  dsimp only
  rw [hnone]
  rfl

/-- The head of a level leaves the ready queue; the lower levels that are not empty age. -/
def State.leaveReady (s : State) (p id : Nat) : State := s.modFe fun f => { f with
  ready := Store.put f.ready p ((Store.get [] f.ready p).erase id)
  aged := (List.range 8).foldl (fun m l =>
    if l = p then Store.set 0 m l 0
    else if l < p ∧ !(Store.get [] f.ready l).isEmpty then Store.set 0 m l (Store.get 0 f.aged l + 1)
    else Store.set 0 m l (Store.get 0 f.aged l)) [] }

/-- What a dispatch of the head of a level leaves. -/
noncomputable def State.dispatched (s : State) (p id : Nat) : State :=
  { (s.leaveReady p id).modTask id fun t => { t with state := .active } with
    agenda := (if (match (s.leaveReady p id).taskOf id with
      | some t => t.checked
      | none => false) then Instr.walkerRestore id else Instr.walkerAssign id) ::
      ((s.leaveReady p id).modTask id fun t => { t with state := .active }).agenda }

/-- The head of the level dispatched next is ACTIVE, and its walkers come next. -/
theorem exec_dispatch {s : State} {p id : Nat} {l : List Nat} {t : Machine.Task} (hf : s.anyFreeWalker = true) (hp : s.nextLevel = some p)
    (hl : s.readyAt p = id :: l) (ht : s.taskOf id = some t) : ∃ u, exec .dispatch s = .next u ∧
      u.taskOf id = some { t with state := .active } ∧ u.agenda = (if t.checked then .walkerRestore id else .walkerAssign id) :: s.agenda := by
  have hready : exec .dispatch s = .next (s.dispatched p id) := by
    show execDispatch s = _
    unfold execDispatch
    rw [if_pos hf, hp]
    dsimp only
    rw [hl]
    rfl
  have ht' : (s.leaveReady p id).taskOf id = some t := ht
  refine ⟨_, hready, ?_, ?_⟩
  · show ((s.leaveReady p id).modTask id fun t => { t with state := .active }).taskOf id = _
    rw [State.modTask_some ht', State.taskOf_setTask]
  · unfold State.dispatched
    rw [State.modTask_some ht', ht']
    rfl

/-- Settles O50: each event by the branch of its own definition that the premises select. -/
theorem taskEvents : Obligations.TaskEvents := by
  unfold Obligations.TaskEvents
  intro s
  refine ⟨fun c hc => exec_tileRetired hc, fun w x k c hw hk => exec_contextSwitchStart hw hk, ?_, ?_, ?_, ?_, ?_,
    fun w hw => exec_walkerSave hw, fun p id l t => exec_dispatch⟩
  · intro c l area rest hc hsw hfree hst hq hb hp
    exact exec_spillSave hc hsw hfree hst hq hb hp
  · intro c area old hc hi hw r h0 h4 h8
    exact exec_refill hc hi hw h0 h4 h8
  · intro id t ht
    refine ⟨fun hst hck => ⟨?_, ?_⟩, exec_walkerRestore ht, exec_taskDone_waits ht, s.doneWaits_iff id,
      fun hst h0 ha l hl hw => exec_taskDone ht hst h0 ha hl hw⟩
    · intro e he
      rw [exec_walkerAssign ht hst hck, he]
    · intro u t' w l hu ht' h0 hw
      rw [exec_walkerAssign ht hst hck, hu]
      dsimp only
      rw [ht', hw]
      exact if_neg h0
  · intro w x t c hw hx ht hleft
    refine ⟨fun ho he => exec_walkerUpdate hw hx ht hleft ?_, fun hno hfirst => exec_walkerUpdate hw hx ht hleft ?_⟩
    · unfold State.nextContext
      rw [ho, Option.filter_some, if_pos he]
      rfl
    · unfold State.nextContext
      rw [Option.filter_eq_none_iff.2 fun d ho => by rw [hno d ho]; decide, hfirst]
      rfl
  · intro die c w x t v l hd hr hwalker hx h0 hmin hf
    exact exec_forkRequest hd hwalker hr hx h0 hmin hf

end Sys2Proof.Machine

/-! Proofs about leases, route sheets, milestones and groups, and what the pool discards (R288 to R290, R422 to R428, R475, R480, R501 to R503). -/
namespace Sys2Proof.Machine
set_option Elab.async false

/-! ## What an eviction of frames leaves (R420) -/

/-- Two states that differ at most in the LLC, the use that the quota classes count and the frames. -/
def State.FrameSide (s t : State) : Prop := ∃ llc classes frames, t = { s with
  llc := llc
  fe := { s.fe with
    classes := classes
    frames := frames } }

namespace State.FrameSide
variable {s t u : State}

theorem refl (s : State) : s.FrameSide s := ⟨_, _, _, rfl⟩

theorem trans (h : s.FrameSide t) (h' : t.FrameSide u) : s.FrameSide u := by
  obtain ⟨_, _, _, rfl⟩ := h
  obtain ⟨_, _, _, rfl⟩ := h'
  exact ⟨_, _, _, rfl⟩

theorem foldl {α : Type} {f : State → α → State} (hf : ∀ (t : State) a, t.FrameSide (f t a)) (l : List α) (s : State) :
    s.FrameSide (l.foldl f s) := by
  induction l generalizing s with
  | nil => exact refl s
  | cons a l ih => exact (hf s a).trans (ih _)

theorem modLlc (s : State) (line : Nat) (f : LlcLine → LlcLine) : s.FrameSide (s.modLlc line f) := ⟨_, _, _, rfl⟩
theorem modQuota (s : State) (cls : Nat) (f : QuotaClass → QuotaClass) : s.FrameSide (s.modQuota cls f) := ⟨_, _, _, rfl⟩

theorem llcEvict (s : State) (line : Nat) : s.FrameSide (s.llcEvict line) := by
  unfold State.llcEvict
  dsimp only
  split
  · exact (modQuota s _ _).trans (modLlc _ _ _)
  · exact refl s

theorem llcForget (s : State) (ia n : Nat) : s.FrameSide (s.llcForget ia n) := by
  have hdrop : s.FrameSide (s.llcDrop ia n) := foldl (fun t (e : Nat × LlcLine) => (llcEvict t e.1).trans (modLlc _ _ _)) _ s
  exact hdrop.trans ⟨_, _, _, rfl⟩

theorem evictFrame (s : State) (f : Nat) : s.FrameSide (s.evictFrame f) := by
  unfold State.evictFrame
  dsimp only
  split
  · exact refl s
  · exact ((modQuota s _ _).trans ⟨_, _, _, rfl⟩).trans (llcForget _ _ _)

theorem evictFrames (s : State) (p : Nat × PoolFrame → Bool) : s.FrameSide (s.evictFrames p) :=
  foldl (fun t (e : Nat × PoolFrame) => evictFrame t e.1) _ s

theorem pool (h : s.FrameSide t) : t.pool = s.pool := by obtain ⟨_, _, _, rfl⟩ := h; rfl
theorem leases (h : s.FrameSide t) : t.fe.leases = s.fe.leases := by obtain ⟨_, _, _, rfl⟩ := h; rfl

end State.FrameSide

/-! ## What the pool discards and commits (R499, R501, R502) -/

theorem State.pool_discardParties (s : State) (l : List (Nat × Word)) :
    (s.discardParties l).pool.objs = s.pool.objs.map (fun e => (e.1, e.2.drop l)) ∧
    (s.discardParties l).pool.held = s.pool.held.filter (fun c => !((l.filter fun p => p.1 == s.fab.selfId).map (·.2)).contains c.step) ∧
    (s.discardParties l).pool.lapses = s.pool.lapses := by
  have hp := (State.FrameSide.evictFrames s fun e => (s.poolObj e.2.obj).any fun o => l.any o.writers.contains).pool
  unfold State.discardParties
  dsimp only
  rw [hp]
  exact ⟨rfl, rfl, rfl⟩

theorem State.lease_discardParties (s : State) (l : List (Nat × Word)) (n : Nat) : (s.discardParties l).lease n = s.lease n := by
  have hp := (State.FrameSide.evictFrames s fun e => (s.poolObj e.2.obj).any fun o => l.any o.writers.contains).leases
  show ((s.evictFrames fun e => (s.poolObj e.2.obj).any fun o => l.any o.writers.contains).fe.leases.find? _).map _ = _
  rw [hp]
  rfl

/-- An object after every object was changed. -/
theorem State.poolObj_map {s t : State} (f : PoolObj → PoolObj) (h : t.pool.objs = s.pool.objs.map fun e => (e.1, f e.2)) (obj : Nat) :
    t.poolObj obj = (s.poolObj obj).map f := by
  unfold State.poolObj
  rw [h, List.find?_map, Option.map_map, Option.map_map]
  rfl

theorem State.poolObj_discardParties {s : State} {obj : Nat} {o : PoolObj} (h : s.poolObj obj = some o) (l : List (Nat × Word)) :
    (s.discardParties l).poolObj obj = some (o.drop l) := by
  rw [State.poolObj_map (·.drop l) (s.pool_discardParties l).1, h]
  rfl

theorem PoolObj.drop_written {o : PoolObj} {l : List (Nat × Word)} (h : ∃ p ∈ l, p ∈ o.writers) : o.drop l = { o with
    token := (o.token + 1) % 2 ^ 32
    cur := (o.provs.filter fun p => !l.contains (p.writer, p.step)).foldl (fun m p => Memory.write m p.at_ p.byte) o.com
    provs := o.provs.filter fun p => !l.contains (p.writer, p.step)
    writers := []
    readers := [] } := by
  obtain ⟨p, hp, hw⟩ := h
  exact if_pos (List.any_eq_true.2 ⟨p, hp, List.contains_iff_mem.2 hw⟩)

theorem PoolObj.drop_unwritten {o : PoolObj} {l : List (Nat × Word)} (h : ∀ p ∈ l, p ∉ o.writers) :
    o.drop l = { o with readers := o.readers.filter fun p => !l.contains p } :=
  if_neg fun hany => by
    obtain ⟨p, hp, hw⟩ := List.any_eq_true.1 hany
    exact h p hp (List.contains_iff_mem.1 hw)

theorem State.held_discardParties {s : State} {l : List (Nat × Word)} {c : Contribution} (h : c ∈ (s.discardParties l).pool.held) :
    c ∈ s.pool.held ∧ (s.fab.selfId, c.step) ∉ l := by
  rw [(s.pool_discardParties l).2.1, List.mem_filter] at h
  refine ⟨h.1, fun hl => ?_⟩
  have hmine : c.step ∈ (l.filter fun p => p.1 == s.fab.selfId).map (·.2) :=
    List.mem_map.2 ⟨_, List.mem_filter.2 ⟨hl, beq_self_eq_true _⟩, rfl⟩
  have hno := h.2
  rw [List.contains_iff_mem.2 hmine] at hno
  cases hno

theorem mem_insertStep {x y : Word} {l : List Word} (h : x ∈ insertStep y l) : x = y ∨ x ∈ l := by
  induction l with
  | nil => exact .inl (List.mem_singleton.1 h)
  | cons z l ih =>
    unfold insertStep at h
    split at h
    · exact List.mem_cons.1 h
    · rw [List.mem_cons] at h
      obtain rfl | h := h
      · exact .inr List.mem_cons_self
      · exact (ih h).imp_right (List.mem_cons_of_mem _)

theorem mem_of_mem_inOrder {x : Word} {l : List Word} (h : x ∈ l.foldr insertStep []) : x ∈ l := by
  induction l with
  | nil => exact h
  | cons y l ih =>
    obtain rfl | h := mem_insertStep h
    · exact List.mem_cons_self
    · exact List.mem_cons_of_mem _ (ih h)

/-- A fold that changes nothing. -/
theorem foldl_same {α β : Type} {f : α → β → α} {l : List β} {a : α} (h : ∀ b ∈ l, ∀ a, f a b = a) : l.foldl f a = a := by
  induction l with
  | nil => rfl
  | cons b l ih =>
    rw [List.foldl_cons, h b List.mem_cons_self]
    exact ih fun c hc => h c (List.mem_cons_of_mem _ hc)

/-- Where no held contribution carries one of the steps, a commit is that of each object. -/
theorem State.poolObj_commitSteps {s : State} {l : List Word} {obj : Nat} {o : PoolObj} (h : s.poolObj obj = some o)
    (hheld : ∀ c ∈ s.pool.held, c.step ∉ l) : (s.commitSteps l).poolObj obj = some (o.commit s.fab.selfId l) := by
  have hobjs : (s.commitSteps l).pool.objs = s.pool.objs.map fun e => (e.1, e.2.commit s.fab.selfId l) := by
    unfold State.commitSteps
    dsimp only
    have hnone : ∀ x ∈ l.foldr insertStep [], (s.pool.held.filter fun c => c.step == x).isEmpty = true := fun x hx =>
      List.isEmpty_iff.2 (List.filter_eq_nil_iff.2 fun c hc he => hheld c hc (by rw [eq_of_beq he]; exact mem_of_mem_inOrder hx))
    rw [foldl_same fun x hx a => if_pos (hnone x hx)]
  rw [State.poolObj_map (·.commit s.fab.selfId l) hobjs, h]
  rfl

/-! ## Leases (R422 to R424) -/

theorem State.endingOut_one {s : State} {key k : Nat} (h : s.pool.ending = [(key, k)]) :
    s.endingOut = if s.flitsOut (1029, key) then [(key, k)] else [] := by
  unfold State.endingOut
  rw [h, List.filter_cons]
  rfl

/-- Nothing lapses at the pool: only the releases that came are forgotten. -/
theorem State.poolLapses_not {s : State} (hl : s.pool.lapses = []) (hd : ∀ e ∈ s.endingOut, 2 ^ 31 ≤ s.slotsSince e.2) :
    s.poolLapses = { s with pool := { s.pool with ending := s.endingOut } } := by
  have hany : s.endingOut.any (fun e => decide (s.slotsSince e.2 < 2 ^ 31)) = false :=
    List.any_eq_false.2 fun e he => by simpa using hd e he
  have hall : s.endingOut.filter (fun e => !decide (s.slotsSince e.2 < 2 ^ 31)) = s.endingOut :=
    List.filter_eq_self.2 fun e he => by simpa using hd e he
  unfold State.poolLapses
  dsimp only
  rw [hl, hany, List.any_nil, Bool.false_or, if_neg Bool.false_ne_true, hl, hall, List.filter_nil]

theorem State.poolLapses_none {s : State} (hl : s.pool.lapses = []) (he : s.pool.ending = []) : s.poolLapses = s := by
  have hout : s.endingOut = [] := by rw [State.endingOut, he]; rfl
  rw [State.poolLapses_not hl (by rw [hout]; simp), hout]
  exact congrArg (fun e => { s with pool := { s.pool with ending := e } }) he.symm

/-- Everything that the pool waits for lapses. -/
theorem State.poolLapses_all {s : State} (hl : ∀ k ∈ s.pool.lapses, s.slotsSince k < 2 ^ 31) (he : ∀ e ∈ s.endingOut, s.slotsSince e.2 < 2 ^ 31)
    (hsome : s.pool.lapses ≠ [] ∨ s.endingOut ≠ []) : s.poolLapses = { s.discardAll with pool := { s.discardAll.pool with
      lapses := []
      ending := [] } } := by
  have hany : (s.pool.lapses.any (fun t => decide (s.slotsSince t < 2 ^ 31)) ||
      s.endingOut.any fun e => decide (s.slotsSince e.2 < 2 ^ 31)) = true := by
    rw [Bool.or_eq_true]
    refine hsome.imp (fun h => ?_) fun h => ?_
    · obtain ⟨k, hk⟩ := List.exists_mem_of_ne_nil _ h
      exact List.any_eq_true.2 ⟨k, hk, decide_eq_true (hl k hk)⟩
    · obtain ⟨e, hmem⟩ := List.exists_mem_of_ne_nil _ h
      exact List.any_eq_true.2 ⟨e, hmem, decide_eq_true (he e hmem)⟩
  have hlapses : (s.discardAll.pool.lapses.filter fun k => !decide (s.slotsSince k < 2 ^ 31)) = [] := by
    rw [show s.discardAll.pool.lapses = s.pool.lapses from (s.pool_discardParties _).2.2]
    exact List.filter_eq_nil_iff.2 fun k hk => by simpa using hl k hk
  have hending : (s.endingOut.filter fun e => !decide (s.slotsSince e.2 < 2 ^ 31)) = [] :=
    List.filter_eq_nil_iff.2 fun e hmem => by simpa using he e hmem
  unfold State.poolLapses
  dsimp only
  rw [hany, if_pos rfl, hlapses, hending]

theorem exec_leaseGrant {s : State} {n : Nat} {x : Lease} (h : s.lease n = some x) (hst : x.state = .asked)
    (ho : s.flitsOut (x.asker n) = false) (hup : s.fabricUp = true) (ok : Bool) : exec (.leaseGrant n ok) s =
      let up : State := { s with pow := { s.pow with ps := 0 } }
      .next (up.leaseAnswer n x (if up.poolFinding x.cap ≠ 0 then up.poolFinding x.cap else if ok then 0 else 0x11)) := by
  show execLeaseGrant n ok s = _
  unfold execLeaseGrant
  rw [h]
  refine (if_neg (by rw [ho]; simp [hst])).trans ?_
  rw [State.fabricArrives_up hup]

/-- No access waits for a lease that no job and no sheet asked for: its answer is its entry's alone. -/
theorem State.leaseAnswer_alone {s : State} {n : Nat} {x : Lease} (hj : x.job = none) (hs : x.sheet = none) (st : Nat) :
    s.leaseAnswer n x st = if st = 0 then s.setLease n { x with
      state := .held
      sent := x.out
      granted := s.fab.slot.toNat } else s.modFe fun f => { f with leases := Store.del f.leases n } := by
  unfold State.leaseAnswer
  dsimp only
  rw [hj, hs]

theorem State.renewalDue_held {s : State} {x : Lease} (h : s.renewalDue x = true) : x.state = .held :=
  eq_of_beq (Bool.and_eq_true _ _ ▸ h).1

/-- A held lease that is not over is of a module that is not removed. -/
theorem State.removed_of_leaseOver {s : State} {x : Lease} (hst : x.state = .held) (h : s.leaseOver x = false) : s.fab.removed = false := by
  unfold State.leaseOver at h
  rw [hst] at h
  cases hr : s.fab.removed with
  | false => rfl
  | true =>
    rw [hr] at h
    cases h

/-- The answer to a renewal whose message is out and acknowledged. -/
theorem exec_leaseRenewal {s : State} {n : Nat} {x : Lease} (h : s.lease n = some x) (hd : s.renewalDue x = true) (hv : s.leaseOver x = false)
    (hsent : s.fab.sent = [(1026, n)]) (ho : s.flitsOut (1026, n) = false) (hup : s.fabricUp = true) (ok : Bool) :
    exec (.leaseRenewal n ok) s =
      let t : State := { s.modFab fun f => { f with sent := [] } with pow := { s.pow with ps := 0 } }
      .next (if ok = true ∧ t.poolFinding x.cap = 0 then t.setLease n { x with
        sent := x.out
        granted := s.fab.slot.toNat } else t.dropLease n) := by
  show execLeaseRenewal n ok s = _
  unfold execLeaseRenewal
  rw [h]
  refine (if_neg (by rw [hd, hv]; decide)).trans ?_
  unfold State.viaMessage State.viaMessages
  rw [if_neg (by rw [State.removed_of_leaseOver (State.renewalDue_held hd) hv]; decide), if_neg (by rw [hsent]; simp), ho,
    if_neg Bool.false_ne_true]
  have herase : s.fab.sent.erase (1026, n) = [] := by
    rw [hsent]
    simp
  have hfab : (s.modFab fun f => { f with sent := f.sent.erase (1026, n) }) = s.modFab fun f => { f with sent := [] } :=
    congrArg (fun l => s.modFab fun f => { f with sent := l }) herase
  dsimp only
  rw [if_neg (by decide), hfab]
  exact congrArg Host.Outcome.next (State.fabricArrives_up (s := s.modFab fun f => { f with sent := [] }) hup)

theorem exec_leaseRenewal_over {s : State} {n : Nat} {x : Lease} (h : s.lease n = some x) (hv : s.leaseOver x = true) (ok : Bool) :
    exec (.leaseRenewal n ok) s = .next s := by
  show execLeaseRenewal n ok s = _
  unfold execLeaseRenewal
  rw [h]
  exact if_pos (.inr hv)

/-- With nothing that lapses at the pool, the end of a lease is its own. -/
theorem exec_leaseEnd {s : State} {n : Nat} {x : Lease} (h : s.lease n = some x) (hl : s.pool.lapses = []) (he : s.pool.ending = [])
    (hv : s.leaseOver x = true) : exec (.leaseEnd n) s = .next (if s.fab.removed then s.dropLease n
      else if s.leaseExpired x then s.runOut n x else s.releaseLease n) := by
  show execLeaseEnd n s = _
  unfold execLeaseEnd
  rw [State.poolLapses_none hl he]
  dsimp only
  rw [h]
  exact congrArg _ (if_neg (by rw [hv]; decide))

/-- Of no lease, the end is what lapses at the pool. -/
theorem exec_leaseEnd_none {s : State} {n : Nat} (h : s.poolLapses.lease n = none) : exec (.leaseEnd n) s = .next s.poolLapses := by
  show execLeaseEnd n s = _
  unfold execLeaseEnd
  dsimp only
  rw [h]

theorem State.lease_discardAll (s : State) (n : Nat) : s.discardAll.lease n = s.lease n := State.lease_discardParties s _ n

theorem State.releaseLease_some {s : State} {n : Nat} {x : Lease} (h : s.lease n = some x) : s.releaseLease n =
    let t := (s.dropLease n).leaseMessage (some (1029, 4096 * s.fab.slot.toNat + n)) x.cap x.off ((x.sheet.map (·.1)).getD 0)
    { t with pool := { t.pool with ending := (4096 * s.fab.slot.toNat + n, (x.granted + slotsOf 2000000) % 2 ^ 32) :: t.pool.ending } } := by
  unfold State.releaseLease
  rw [h]
  rfl

/-- A recall of the one lease that is held over the range. -/
theorem exec_leaseRecall {s : State} {n id lo len : Nat} {x : Lease} (hl : s.fe.leases = [(n, x)]) (hst : x.state = .held)
    (hid : capObj x.cap = id) (hlo : x.off < lo + len) (hhi : lo < x.off + x.len) (hup : s.fabricUp = true) :
    exec (.leaseRecall id lo len) s =
      let up : State := { s with pow := { s.pow with ps := 0 } }
      .next (if up.writesOut id x.off x.len none = true then
        (up.evictFrames fun f => f.2.lease == n).setLease n { x with state := .recalled } else up.releaseLease n) := by
  refine (congrArg _ (State.fabricArrives_up hup)).trans (congrArg _ ?_)
  dsimp only
  rw [hl, List.filter_cons_of_pos (by simp [hst, hid, hlo, hhi])]
  rfl

/-! ## Route sheets, milestones and groups -/

theorem exec_routeSheetEntry {s : State} {asid step i : Nat} {x : Sheet} (h : s.sheetOf asid (BitVec.ofNat 64 step) = some x) (hi : i < x.count)
    (h0 : (Store.get (0, 0) x.states i).1 = 0)
    (hdue : s.prefetchable asid (BitVec.ofNat 64 step) = true ∨ (s.oldestStep asid = BitVec.ofNat 64 step ∧ (s.routeEntry x.ia i).kind = 1)) :
    exec (.routeSheetEntry asid step i) s =
      .next (if s.prefetchOk (x.ia + 0x40 + 64 * i) 64 then s.doEntry asid (BitVec.ofNat 64 step) x i else s.dropPrefetch 0) := by
  show execRouteSheetEntry asid step i s = _
  unfold execRouteSheetEntry
  dsimp only
  rw [h]
  exact if_pos ⟨hi, h0, by simpa using hdue⟩

theorem exec_routeRecordRetry {s : State} {asid step : Nat} {x : Sheet} (h : s.sheetOf asid (BitVec.ofNat 64 step) = some x)
    (ho : s.oldestStep asid = BitVec.ofNat 64 step) :
    let again := fun (e : Nat × Nat × Nat) => e.2.1 == 2 && (s.routeEntry x.ia e.1).kind == 1 && !x.retried.contains e.1
    x.states.filter again ≠ [] →
    exec (.routeRecordRetry asid step) s =
      .next ((s.entriesPending x.ia ((x.states.filter again).map (·.1))).setSheet asid (BitVec.ofNat 64 step) { x with
        retried := x.retried ++ (x.states.filter again).map (·.1)
        states := x.states.filter fun e => !again e }) := by
  intro again hne
  show execRouteRecordRetry asid step s = _
  unfold execRouteRecordRetry
  dsimp only
  rw [h]
  refine if_neg (not_or.2 ⟨Classical.not_not.2 ho, fun he => hne (List.isEmpty_iff.1 he)⟩)

theorem exec_commitAnswer {s : State} {asid : Nat} {step : Word} {m : Milestone} (h : s.milestone asid step = some m) (h4 : m.stage = 4)
    (hw : s.fabricWaits = false) (ho : s.flitsOut (1027, milestoneKey asid step) = false) (hup : s.fabricUp = true) (ok : Bool) :
    exec (.commitAnswer asid step ok) s = .next (State.commitTaken { s with pow := { s.pow with ps := 0 } } asid m ok) := by
  show execCommitAnswer asid step ok s = _
  unfold execCommitAnswer
  rw [h]
  refine congrArg _ ((if_neg (Classical.not_not.2 h4)).trans ((if_neg (by rw [hw, ho]; decide)).trans ?_))
  rw [State.fabricArrives_up hup]

theorem State.commitTaken_discarded {s : State} {asid : Nat} {m : Milestone} (h : (asid, m.step) ∈ s.pool.discarded) (ok : Bool) :
    s.commitTaken asid m ok = (s.discardParties (s.partyOf m.step)).endMilestone asid m 3 := if_pos (List.contains_iff_mem.2 h)

theorem State.commitTaken_committed {s : State} {asid : Nat} {m : Milestone} (hd : (asid, m.step) ∉ s.pool.discarded)
    (hc : m.step ∈ s.pool.committed) (ho : s.partyOpen m.step = false) (ok : Bool) : s.commitTaken asid m ok = s.endCommitted asid m :=
  (if_neg (fun h => hd (List.contains_iff_mem.1 h))).trans (if_pos ⟨List.contains_iff_mem.2 hc, by rw [ho]; decide⟩)

/-- The pool commits an open party with those entangled with it, holds it, or has discarded it. -/
theorem State.commitTaken_open {s : State} {asid : Nat} {m : Milestone} (hd : (asid, m.step) ∉ s.pool.discarded)
    (hopen : m.step ∉ s.pool.committed ∨ s.partyOpen m.step = true) (ok : Bool) : s.commitTaken asid m ok =
      if !ok then (s.discardParties (s.partyOf m.step)).endMilestone asid m 3
      else if s.writesOf m.step < m.count ∨ !(s.together m.step).all s.hasAsked then s.commitMessage asid m.step (some m.count)
      else (s.commitSteps (s.together m.step)).endCommitted asid m := by
  refine (if_neg (fun h => hd (List.contains_iff_mem.1 h))).trans (if_neg fun h => ?_)
  obtain ⟨hc, ho⟩ := h
  obtain hopen | hopen := hopen
  · exact hopen (List.contains_iff_mem.1 hc)
  · rw [hopen] at ho
    cases ho

theorem exec_groupPhaseComplete_late {s : State} {asid gid ph q : Nat} {g : Group} (h : s.group (groupKey asid gid) = some g)
    (hq : g.lost = some q) (hlt : q < ph) (lost : Bool) : exec (.groupPhaseComplete asid gid ph lost) s = .next s := by
  show execGroupPhaseComplete asid gid ph lost s = _
  unfold execGroupPhaseComplete
  dsimp only
  rw [h]
  exact if_pos (.inr (.inr (.inr (.inr (by rw [hq]; simpa using hlt)))))

/-- The state after a phase: its free values are taken, its outcome is kept, and its results are at the pool. -/
def State.phaseEnds (s : State) (key ph : Nat) (g : Group) (gone : Option Nat) (n v off : Nat) : State :=
  let t := ({ s with freeCtr := s.freeCtr + g.mlist.length + n * g.mlist.length } : State).setGroup key { g with
    lost := gone
    contribs := Store.del g.contribs ph
    done := Store.put g.done ph (if gone = some ph then 9 else 0)
    results := Store.put g.results ph v }
  match t.poolObj (capObj g.cap) with
  | some p => t.setPoolObj (capObj g.cap) { p with
      cur := Memory.writeLE p.cur off (4 * n) v
      com := Memory.writeLE p.com off (4 * n) v }
  | none => t

theorem State.poolObj_setPoolObj (s : State) (obj : Nat) (o : PoolObj) : (s.setPoolObj obj o).poolObj obj = some o := by
  unfold State.poolObj State.setPoolObj
  dsimp only
  rw [Store.find_put]
  rfl

theorem State.poolObj_phaseEnds {s : State} {g : Group} {p : PoolObj} (h : s.poolObj (capObj g.cap) = some p) (key ph : Nat) (gone : Option Nat)
    (n v off : Nat) : (s.phaseEnds key ph g gone n v off).poolObj (capObj g.cap) = some { p with
      cur := Memory.writeLE p.cur off (4 * n) v
      com := Memory.writeLE p.com off (4 * n) v } := by
  unfold State.phaseEnds
  dsimp only
  split
  · next q hq =>
    cases hq.symm.trans h
    exact State.poolObj_setPoolObj _ _ _
  · next hq => cases hq.symm.trans h

theorem exec_groupPhaseComplete {s : State} {asid gid ph : Nat} {g : Group} (h : s.group (groupKey asid gid) = some g) (harmed : g.armed = true)
    (hdone : Store.has g.done ph = false) (hown : Store.has g.contribs ph = true) (hhas : geHas (s.groupOf (groupKey asid gid)) = true)
    (hlost : ∀ q, g.lost = some q → ph ≤ q) (lost : Bool) :
    let e := s.groupOf (groupKey asid gid)
    let members := s.phaseMembers { g with lost := if lost && g.lost.isNone then some ph else g.lost } ph
    let u : State := { s with freeCtr := s.freeCtr + g.mlist.length }
    ∃ (t : State) (n v : Nat), exec (.groupPhaseComplete asid gid ph lost) s = .next (t.frameWrite g.cap (geOff e) (4 * n) v).reFrame ∧
      n = geLen e / rfmtBytes (geFmt e) ∧
      v = packCodes 32 ((List.range n).map fun i => foldElem (geRop e) (u.phaseElem g members e (Store.get 0 g.contribs ph) i)) ∧
      ∀ p, s.poolObj (capObj g.cap) = some p → t.poolObj (capObj g.cap) = some { p with
        cur := Memory.writeLE p.cur (geOff e) (4 * n) v
        com := Memory.writeLE p.com (geOff e) (4 * n) v } := by
  intro e members u
  have hany : g.lost.any (· < ph) = false := by
    cases hq : g.lost with
    | none => rfl
    | some q => simpa using hlost q hq
  refine ⟨s.phaseEnds (groupKey asid gid) ph g (if lost && g.lost.isNone then some ph else g.lost) (geLen e / rfmtBytes (geFmt e)) _ (geOff e),
    _, _, ?_, rfl, rfl, fun p hp => State.poolObj_phaseEnds hp _ _ _ _ _ _⟩
  show execGroupPhaseComplete asid gid ph lost s = _
  unfold execGroupPhaseComplete
  dsimp only
  rw [h]
  refine (if_neg (by rw [harmed, hdone, hown, hhas, hany]; decide)).trans ?_
  rfl

/-- Settles O51: each event by the branch of its own definition; what the pool discards and commits is the change of each object. -/
theorem leaseAndGroupEvents : Obligations.LeaseAndGroupEvents := by
  unfold Obligations.LeaseAndGroupEvents
  intro s up
  refine ⟨?_, ?_, ?_, ?_, ?_, ?_, ?_, ?_, ?_⟩
  · intro n x hx
    refine ⟨fun hst ho hup => exec_leaseGrant hx hst ho hup, fun hj hs => ⟨?_, fun st hst => ?_⟩, ?_, exec_leaseRenewal_over hx, ?_, ?_, ?_⟩
    · exact State.leaseAnswer_alone hj hs 0
    · exact (State.leaseAnswer_alone hj hs st).trans (if_neg hst)
    · intro hd hv hsent ho hup t
      have hat := exec_leaseRenewal hx hd hv hsent ho hup
      refine ⟨fun h0 => (hat true).trans (congrArg _ (if_pos ⟨rfl, h0⟩)), fun h0 => (hat true).trans (congrArg _ (if_neg fun h => h0 h.2)),
        (hat false).trans (congrArg _ (if_neg fun h => Bool.false_ne_true h.1))⟩
    · intro hst
      unfold State.leaseOver State.recallReady State.leaseExpired
      rw [hst]
      exact Bool.or_false _
    · intro hst
      unfold State.leaseOver State.recallReady State.leaseExpired
      rw [hst]
      rfl
    · intro hl he hv
      have hat := exec_leaseEnd hx hl he hv
      refine ⟨fun hr => ?_, fun hr hexp => ?_, fun hr hexp => ?_⟩
      · rw [hat, if_pos hr]
      · rw [hat, hr, if_neg Bool.false_ne_true, if_pos hexp]
      · intro t
        rw [hat, hr, if_neg Bool.false_ne_true, hexp, if_neg Bool.false_ne_true, State.releaseLease_some hx]
  · intro n k hn gone
    refine ⟨fun hl he hk => ?_, fun key hl he => ⟨fun ho hk => ?_, fun ho hk => ?_, fun ho => ?_⟩⟩
    · have hp : s.poolLapses = gone := State.poolLapses_all (by rw [hl]; simpa using hk) (by rw [State.endingOut, he]; simp) (.inl (by rw [hl]; simp))
      refine (exec_leaseEnd_none ?_).trans (congrArg _ hp)
      rw [hp]
      exact (s.lease_discardAll n).trans hn
    · have hout : s.endingOut = [(key, k)] := by rw [State.endingOut_one he, if_pos ho]
      have hp : s.poolLapses = gone := State.poolLapses_all (by rw [hl]; simp) (by rw [hout]; simpa using hk) (.inr (by rw [hout]; simp))
      refine (exec_leaseEnd_none ?_).trans (congrArg _ hp)
      rw [hp]
      exact (s.lease_discardAll n).trans hn
    · have hout : s.endingOut = [(key, k)] := by rw [State.endingOut_one he, if_pos ho]
      have hp : s.poolLapses = s := (State.poolLapses_not hl (by rw [hout]; simpa using hk)).trans
        (congrArg (fun e => { s with pool := { s.pool with ending := e } }) (hout.trans he.symm))
      exact (exec_leaseEnd_none (by rw [hp]; exact hn)).trans (congrArg _ hp)
    · have hout : s.endingOut = [] := by rw [State.endingOut_one he, ho, if_neg Bool.false_ne_true]
      have hp : s.poolLapses = { s with pool := { s.pool with ending := [] } } := by
        rw [State.poolLapses_not hl (by rw [hout]; simp), hout]
      exact (exec_leaseEnd_none (by rw [hp]; exact hn)).trans (congrArg _ hp)
  · intro l obj o ho
    refine ⟨fun h => ?_, fun h => ?_, fun c => State.held_discardParties⟩
    · rw [State.poolObj_discardParties ho, PoolObj.drop_written h]
    · rw [State.poolObj_discardParties ho, PoolObj.drop_unwritten h]
  · exact fun n x id lo len hl hst hid hlo hhi hup => exec_leaseRecall hl hst hid hlo hhi hup
  · intro asid step i x hx
    refine ⟨fun hi h0 hdue => ⟨fun hok => ?_, fun hok => ?_⟩, fun ho => exec_routeRecordRetry hx ho⟩
    · rw [exec_routeSheetEntry hx hi h0 hdue, if_pos hok]
    · rw [exec_routeSheetEntry hx hi h0 hdue, hok, if_neg Bool.false_ne_true]
  · exact fun asid step m hm h4 hw ho hup => exec_commitAnswer hm h4 hw ho hup
  · intro asid m
    refine ⟨State.commitTaken_discarded, fun hd => ⟨fun hc ho => State.commitTaken_committed hd hc ho, fun hopen => ⟨?_, ?_, ?_⟩⟩, ?_⟩
    · exact State.commitTaken_open hd hopen false
    · intro hwait
      refine (State.commitTaken_open hd hopen true).trans ((if_neg (by decide)).trans (if_pos (hwait.imp_right fun hx => ?_)))
      obtain ⟨x, hx, hno⟩ := hx
      rw [List.all_eq_false.2 ⟨x, hx, by rw [hno]; decide⟩]
      rfl
    · intro hcount hall
      refine (State.commitTaken_open hd hopen true).trans ((if_neg (by decide)).trans (if_neg fun h => ?_))
      obtain h | h := h
      · omega
      · rw [List.all_eq_true.2 hall] at h
        cases h
    · exact ⟨_, rfl, rfl⟩
  · intro l obj o ho hheld
    exact State.poolObj_commitSteps ho hheld
  · intro asid gid ph g lost hg
    refine ⟨fun q hq hlt => exec_groupPhaseComplete_late hg hq hlt lost, fun harmed hdone hown hhas hlost => ?_⟩
    exact exec_groupPhaseComplete hg harmed hdone hown hhas hlost lost

end Sys2Proof.Machine

/-! Proofs about the front end's visits, the writes of its registers and the circuits that halt (R435 to R438, R448, R450, R453, R454, R459, R473,
R475, R519). -/
namespace Sys2Proof.Machine
set_option Elab.async false

/-- In service a write to BAR0 acts and wakes the module. -/
theorem State.bar0_served {s : State} {act : State → State} (h : s.serving = true) : s.bar0 act = act s.wake := if_pos h

/-- Without service it does nothing. -/
theorem State.bar0_unserved {s : State} {act : State → State} (h : s.serving = false) : s.bar0 act = s := if_neg (by rw [h]; decide)

theorem State.served_not {s : State} {act : State → State} (h : s.serving = false) : s.served act = s := if_neg (by rw [h]; decide)

/-- An event of a queue's stop that writes BAR0. -/
theorem queueWrite_of_lt {q : Nat} {s t : State} (hq : q < 128) (h : t = s) : (if 128 ≤ q then .fault .noSuchUnit else .next t : Out) = .next s := by
  rw [if_neg (by omega), h]

theorem exec_queueFetch {s : State} {q : Nat} (hq : q < 128) : exec (.queueFetch q) s =
    if s.fe.stopped ∨ !s.serving then .next s else .next { (s.visit q false 4).2 with
      agenda := (s.visit q false 4).1 ++ (s.visit q false 4).2.agenda } := if_neg (by omega)

theorem exec_registerWrite {s : State} {f off : Nat} (v : Word) (hf : f < 17) (hoff : off < 2 ^ 20) :
    exec (.registerWrite f off v) s = .next (s.bar0 fun (s : State) => s.windowWrite f off v.toNat) :=
  (if_neg (by omega)).trans (if_neg (by omega))

/-- The two halves of the pushed image's address are written apart. -/
theorem State.dvsecWrite_image (s : State) {n : Nat} (hn : n < 2 ^ 32) :
    (s.dvsecWrite 0x14 n).pow.img.toNat = s.pow.img.toNat / 2 ^ 32 * 2 ^ 32 + n ∧
    (s.dvsecWrite 0x18 n).pow.img.toNat = s.pow.img.toNat % 2 ^ 32 + 2 ^ 32 * n ∧ (s.dvsecWrite 0x1C n).pow.imgLen.toNat = n := by
  have himg := s.pow.img.isLt
  refine ⟨?_, ?_, ?_⟩
  · show (BitVec.ofNat 64 (s.pow.img.toNat / 2 ^ 32 * 2 ^ 32 + n % 2 ^ 32)).toNat = _
    rw [BitVec.toNat_ofNat]
    omega
  · show (BitVec.ofNat 64 (s.pow.img.toNat % 2 ^ 32 + 2 ^ 32 * (n % 2 ^ 32))).toNat = _
    rw [BitVec.toNat_ofNat]
    omega
  · show (BitVec.ofNat 32 n).toNat = _
    rw [BitVec.toNat_ofNat]
    omega

/-- Settles O52: a write acts where the window answers; each register by its own write. -/
theorem frontEndEvents : Obligations.FrontEndEvents := by
  unfold Obligations.FrontEndEvents
  intro s
  refine ⟨fun q hq => ⟨?_, ?_, fun hs => ⟨?_, ?_, ?_, ?_⟩, fun hs v w en => ⟨?_, ?_, ?_, ?_⟩⟩, ?_, ?_, rfl, ?_, ?_, fun n => s.dvsecWrite_image, ?_, ?_, rfl⟩
  · intro hst hs
    rw [exec_queueFetch hq]
    exact if_neg (by rw [hst, hs]; decide)
  · intro h
    rw [exec_queueFetch hq]
    exact if_pos (by simpa using h)
  · exact fun v => queueWrite_of_lt hq (State.bar0_served hs)
  · exact queueWrite_of_lt hq (State.bar0_served hs)
  · exact fun en => queueWrite_of_lt hq (State.bar0_served hs)
  · exact fun v => queueWrite_of_lt hq (State.bar0_served hs)
  · exact queueWrite_of_lt hq (State.bar0_unserved hs)
  · exact queueWrite_of_lt hq (State.bar0_unserved hs)
  · exact queueWrite_of_lt hq (State.bar0_unserved hs)
  · exact queueWrite_of_lt hq (State.bar0_unserved hs)
  · exact fun hs b v => congrArg _ (State.bar0_served hs)
  · exact fun hs => ⟨fun b v => congrArg _ (State.bar0_unserved hs),
      fun f off v hf hoff => (exec_registerWrite v hf hoff).trans (congrArg _ (State.bar0_unserved hs))⟩
  · exact fun f off v hf hoff hs => (exec_registerWrite v hf hoff).trans (congrArg _ (State.bar0_served hs))
  · intro off v
    show (if 17 ≤ 0 then .fault .noSuchUnit else if 0 = 0 ∧ 2 ^ 20 ≤ 2 ^ 20 + off then .next (s.dvsecWrite (2 ^ 20 + off - 2 ^ 20) v.toNat) else _ : Out) = _
    rw [if_neg (by omega), if_pos ⟨rfl, Nat.le_add_right _ _⟩, Nat.add_sub_cancel_left]
  · refine fun n => ⟨rfl, rfl, State.served_not, fun hs => ?_⟩
    have hat : s.firmwareStops n = State.modPow ((s.modFe fun f => { f with stopped := true }).postError 0xFFFF 0 n) fun p => { p with
        warmAsked := true } := State.served_of hs
    rw [hat]
    exact ⟨rfl, rfl⟩
  · exact fun v hv => ⟨onVf_served hv, onVf_unserved hv⟩

end Sys2Proof.Machine

/-! Proofs about the packets that any queue may carry: FENCE, NOP, LAUNCH, READY, DEC, TEMPLATE, record packets and ROUTE (R363, R364, R426, R440 to
R443). -/
namespace Sys2Proof.Machine
set_option Elab.async false

theorem exec_fencePacket_last {h : PktHdr} {s : State} (hall : ∀ e ∈ (s.fe.queue h.queue).open_, h.entry ≤ e) :
    exec (.fencePacket h) s = .next (s.complete h 0 0) :=
  if_neg fun hany => by
    obtain ⟨e, he, hlt⟩ := List.any_eq_true.1 hany
    have := hall e he
    have := of_decide_eq_true hlt
    omega

theorem exec_fencePacket_waits {h : PktHdr} {s : State} (hany : ∃ e ∈ (s.fe.queue h.queue).open_, e < h.entry) :
    exec (.fencePacket h) s = .next (s.modQueue h.queue fun x => { x with fences := x.fences ++ [(h.entry, h)] }) := by
  obtain ⟨e, he, hlt⟩ := hany
  exact if_pos (List.any_eq_true.2 ⟨e, he, decide_eq_true hlt⟩)

/-- The state with a launched task at an id, from the record as the front end read it. -/
def State.launchedAt (u : State) (h : PktHdr) (lrec : Nat) (step : Word) (r : VWord) (i : Nat) : State :=
  ((u.feRead lrec 128).createAt i (freshTask r h.asid step (lrDepcnt r) (.packet h))).modFe fun f => { f with
    aspaces := f.aspaces.map fun e => if e.1 = h.asid ∧ e.2.curStep.toNat < step.toNat then (e.1, { e.2 with curStep := step }) else e }

/-- A launch of a record that is there and can be read. -/
theorem exec_launch {h : PktHdr} {s : State} {lrec id : Nat} {r : VWord} (hl : lrec % 128 = 0) (hid : id < 2 ^ 14)
    (hr : s.settleFe.read128 lrec = some r) (any : Bool) (step : Word) : exec (.launch h lrec id any step) s =
      if any then
        (match s.settleFe.freeTask with
         | some i => .next (s.settleFe.launchedAt h lrec step r i)
         | none => .next (s.settleFe.complete h 0x0F 0))
      else if Store.has s.settleFe.fe.tasks id then .next (s.settleFe.complete h 0x17 0)
      else .next (s.settleFe.launchedAt h lrec step r id) := by
  show execLaunch h lrec id any step s = _
  unfold execLaunch
  dsimp only
  rw [if_pos ⟨hl, hid⟩, hr]
  rfl

theorem exec_dec {h : PktHdr} {s : State} {n : Nat} (hn : 0 < n) (id : Nat) :
    exec (.dec h id n) s = .next ((s.decTask id n).1.complete h (s.decTask id n).2 0) := if_neg (by omega)

theorem exec_recAlloc {h : PktHdr} {s : State} {p : BitVec 8} (hp : policyBad p = false) (n : Nat) (any : Bool) :
    exec (.recAlloc h n any p) s =
      if any then
        (match s.freeRecId h.asid with
         | some id => .next ((s.allocRec h.asid id p .packet).complete h 0 id)
         | none => .next ((s.postError 0x0012 (pktWord h) (if any then 2 ^ 64 - 1 else n)).complete h 0x0D 0))
      else if Store.has s.records n then .next ((s.postError 0x0012 (pktWord h) (if any then 2 ^ 64 - 1 else n)).complete h 0x17 0)
      else if s.recQuotaOk h.asid then .next ((s.allocRec h.asid n p .packet).complete h 0 n)
      else .next ((s.postError 0x0012 (pktWord h) (if any then 2 ^ 64 - 1 else n)).complete h 0x0D 0) :=
  if_neg (by rw [hp]; decide)

theorem exec_recFree {h : PktHdr} {s : State} {n : Nat} {r : Rec} (hr : s.recOf h.asid n = some r) (ho : r.origin = .packet) :
    exec (.recFree h n) s = .next ((s.freeRec n).complete h 0 0) := by
  show execRecFree h n s = _
  unfold execRecFree
  rw [hr]
  exact if_pos ho

/-- A sheet whose header keeps its rules: every entry is pending but for those that fail their own. -/
theorem exec_route {h : PktHdr} {s : State} {a : Nat} (hf : s.settleFe.homeFault a 64 false = none) :
    let u := s.settleFe.feRead a 64
    let v := u.homeRead a 64
    let n := min (bitsN v 32 16) 4096
    let step := BitVec.ofNat 64 (v / 2 ^ 64)
    let p := (u.setSheet h.asid step { ia := a, count := n, states := [], retried := [], bad := false, blocked := false }).entriesPending a
      (List.range n)
    bitsN v 0 32 = 0x53485452 → bitsN v 61 3 = 0 → bitsN v 32 16 ≤ 4096 → bitsN v 128 384 = 0 → bitsN v 48 13 = h.asid →
    exec (.route h a) s = .next ((((List.range n).filter fun i => !(p.routeEntry a i).ok).foldl (fun (t : State) i =>
      t.failEntry h.asid step i (t.routeEntry a i) 0x0100) p).complete h 0 0) := by
  intro u v n step p h1 h2 h3 h4 h5
  have hok : (bitsN v 0 32 == 0x53485452 && bitsN v 61 3 == 0 && decide (bitsN v 32 16 ≤ 4096) && bitsN v 128 384 == 0 &&
      bitsN v 48 13 == h.asid) = true := by
    simp [h1, h2, h3, h4, h5]
  show execRoute h a s = _
  unfold execRoute
  dsimp only
  rw [hf]
  refine (if_neg (by decide)).trans ?_
  change (bitsN ((s.settleFe.feRead a 64).homeRead a 64) 0 32 == _ && _ && _ && _ && _) = true at hok
  rw [hok]
  rfl

/-- Settles O53: each packet by the branch of its own definition. -/
theorem taskPackets : Obligations.TaskPackets := by
  unfold Obligations.TaskPackets
  intro h s
  refine ⟨rfl, exec_fencePacket_last, exec_fencePacket_waits, ?_, fun id => rfl, fun id n hn => exec_dec hn id, ?_, ?_, ?_, ?_, ?_⟩
  · intro lrec id step r hl hid hr u t made
    have hat := exec_launch (h := h) hl hid hr
    refine ⟨fun hno => ?_, fun i hi => ?_, fun hhas => ?_, fun hi => ?_⟩
    · rw [hat false step, if_neg Bool.false_ne_true, show Store.has s.settleFe.fe.tasks id = false from hno]
      rfl
    · rw [hat true step, if_pos rfl, show s.settleFe.freeTask = some i from hi]
      rfl
    · rw [hat false step, if_neg Bool.false_ne_true]
      exact if_pos hhas
    · rw [hat true step, if_pos rfl, show s.settleFe.freeTask = none from hi]
  · exact fun tid lrec tcmpl h1 h2 h3 h4 h5 h6 => if_pos ⟨h1, h2, h3, h4, h5, h6⟩
  · intro p n hp
    refine ⟨fun id hid => ?_, fun hno hq => ?_, fun hhas => ?_⟩
    · rw [exec_recAlloc hp, if_pos rfl, hid]
    · rw [exec_recAlloc hp, if_neg Bool.false_ne_true, hno, if_neg Bool.false_ne_true, if_pos hq]
    · rw [exec_recAlloc hp, if_neg Bool.false_ne_true, if_pos hhas, if_neg Bool.false_ne_true]
  · exact fun n r => exec_recFree
  · exact fun a => exec_route
  · exact fun a hf => if_pos (Option.isSome_iff_ne_none.2 hf)

end Sys2Proof.Machine

/-! Proofs about the packets of a supervisor's queue and their refusal elsewhere (R317, R318, R351, R381, R388, R390, R414, R416, R439, R440, R444,
R446, R447, R451, R516). -/
namespace Sys2Proof.Machine
set_option Elab.async false

theorem State.mayAct_notSuper {s : State} {h : PktHdr} (hq : (s.fe.queue h.queue).super = false) (l : List Nat) : s.mayAct h l = false := by
  unfold State.mayAct
  rw [hq]
  rfl

theorem filterMap_id_map_some {α : Type} (l : List α) : (l.map some).filterMap id = l := by
  rw [List.filterMap_map]
  exact List.filterMap_some

/-! ## Address spaces and segment tables (R381, R444, R446) -/

/-- A teardown whose last task has ended does not look at its rights again. -/
theorem exec_aspace_due {h : PktHdr} {s : State} {asid : Nat} (hd : (asid, h) ∈ s.fe.teardownsDue) (cls tq d : Nat) (x : Bool) :
    exec (.aspace h asid cls x tq d) s =
      .next (((s.modFe fun f => { f with teardownsDue := f.teardownsDue.erase (asid, h) }).tearDown asid).complete h 0 0) :=
  if_pos (List.contains_iff_mem.2 hd)

theorem not_contains {α : Type} [BEq α] [LawfulBEq α] {a : α} {l : List α} (h : a ∉ l) : ¬ l.contains a = true :=
  fun hc => h (List.contains_iff_mem.1 hc)

theorem exec_aspace_refused {h : PktHdr} {s : State} {asid : Nat} (hd : (asid, h) ∉ s.fe.teardownsDue) (hm : s.mayAct h [asid] = false)
    (cls tq d : Nat) (x : Bool) : exec (.aspace h asid cls x tq d) s = .next (s.complete h 0x16 0) :=
  (if_neg (not_contains hd)).trans (supervisorFor_refused hm)

theorem exec_aspace_may {h : PktHdr} {s : State} {asid cls : Nat} (hd : (asid, h) ∉ s.fe.teardownsDue) (hm : s.mayAct h [asid] = true)
    (ha : asid < 8192) (hc : cls < 256) (tq d : Nat) (x : Bool) : exec (.aspace h asid cls x tq d) s =
      if x then
        (if s.asidLive asid then .next (s.modFe fun f => { f with teardowns := f.teardowns ++ [(asid, h)] })
         else .next ((s.tearDown asid).complete h 0 0))
      else if !s.pagesOk d 256 then .next (s.complete h 0x15 0)
      else if ((s.feRead d 256).rangesAt asid d).any Option.isNone ||
          !rangesOk ((((s.feRead d 256).rangesAt asid d).filterMap id).filter fun r => r.len != 0) then
        .next (((s.feRead d 256).postError 0x0010 (pktWord h) asid).complete h 0x15 0)
      else .next (((s.feRead d 256).install asid cls tq (((s.feRead d 256).rangesAt asid d).filterMap id)).complete h 0 0) :=
  (if_neg (not_contains hd)).trans ((supervisorFor_may hm).trans (if_neg (by omega)))

theorem any_isNone_map_some {α : Type} (l : List α) : (l.map some).any Option.isNone = false := by
  simp

theorem exec_segtab {h : PktHdr} {s : State} {code t n : Nat} {l : List SegEntry} (hm : s.mayAct h [] = true) (h0 : 0 < n) (hn : n ≤ 4096)
    (hc : code < 2 ^ 52) (hp : s.pagesOk t (16 * n) = true)
    (hl : ((List.range n).map fun i => segEntryOf ((s.feRead t (16 * n)).homeRead (t + 16 * i) 16)) = l.map some) :
    exec (.segtab h code t n) s =
      .next (((s.feRead t (16 * n)).modFe fun f => { f with segtabs := Store.put f.segtabs code l }).complete h 0 0) := by
  refine (supervisorFor_may hm).trans ((if_neg ?_).trans ?_)
  · rw [hp]
    simp only [Bool.not_true, Bool.false_eq_true, or_false]
    omega
  · dsimp only
    rw [hl, any_isNone_map_some, filterMap_id_map_some]
    rfl

/-! ## Pages (R390, R516) -/

theorem exec_unmap {h : PktHdr} {s : State} {ia size : Nat} (hm : s.mayAct h [h.named] = true) (hs : size < 4) (hia : ia + pageBytes size ≤ 2 ^ 52)
    (hin : allInside ((s.settle ia (pageBytes size)).pagesIn ia (pageBytes size)) ia (pageBytes size) = true) :
    let t := s.settle ia (pageBytes size)
    let l := t.pagesIn ia (pageBytes size)
    exec (.unmap h ia size) s =
      .next ((l.foldl State.dropPage t).invalidate (linesOfPages l) (t.dirKeys (linesOfPages l)) (some h) (linesOfPages l).length ia) :=
  (supervisorFor_may hm).trans ((if_neg (by omega)).trans (if_neg (by rw [hin]; decide)))

theorem exec_protect {h : PktHdr} {s : State} {ia size : Nat} (hm : s.mayAct h [h.named] = true) (hs : size < 4)
    (hia : ia + pageBytes size ≤ 2 ^ 52) (hin : allInside ((s.settle ia (pageBytes size)).pagesIn ia (pageBytes size)) ia (pageBytes size) = true)
    (r w : Bool) :
    let t := s.settle ia (pageBytes size)
    let m := (t.pagesIn ia (pageBytes size)).filter fun e => t.rightsChange r w e
    exec (.protect h ia size r w) s = .next ((m.foldl (fun u e => u.protectPage r w e) t).invalidate (linesOfPages m)
      (t.dirKeys (linesOfPages m)) (some h) (linesOfPages m).length ia) :=
  (supervisorFor_may hm).trans ((if_neg (by omega)).trans (if_neg (by rw [hin]; decide)))

theorem exec_map {h : PktHdr} {s : State} {asid ia pa size tier : Nat} (hm : s.mayAct h [asid] = true) (hs : size < 4)
    (hia : ia % pageBytes size = 0) (hpa : pa % pageBytes size = 0) (hia' : ia + pageBytes size ≤ 2 ^ 52) (hpa' : pa + pageBytes size ≤ 2 ^ 52)
    (ha : asid < 8192) (ht : tier < 4) (hout : s.stackOut pa tier = false)
    (hin : allInside ((s.settle ia (pageBytes size)).pagesIn ia (pageBytes size)) ia (pageBytes size) = true)
    (hfit : (((s.settle ia (pageBytes size)).pagesIn ia (pageBytes size)).foldl State.dropPage (s.settle ia (pageBytes size))).pageFits
      asid tier size = true) (r w : Bool) :
    let t := s.settle ia (pageBytes size)
    let u := (t.pagesIn ia (pageBytes size)).foldl State.dropPage t
    let v := (u.setLeaves size ia fun i => leafWord size pa tier i r w).chargePage ia asid tier size
    let gone := linesOfPages (t.pagesIn ia (pageBytes size))
    let new := leafKeys size ia ++ t.nodesMade v size ia
    exec (.map h ia pa size tier r w asid) s = .next (v.invalidate (gone ++ new) (t.dirKeys gone ++ v.dirKeys new) (some h) 0 ia) := by
  refine (supervisorFor_may hm).trans ((if_neg ?_).trans ((if_neg ?_).trans (if_neg ?_)))
  · rw [hia, hpa, hout]
    simp only [Bool.false_eq_true, or_false, ne_eq, not_true_eq_false, false_or]
    omega
  · rw [hin]
    decide
  · rw [hfit]
    decide

theorem State.migrations_setPte (s : State) (level key : Nat) (w : Word) : (s.setPte level key w).migrations = s.migrations := by
  unfold State.setPte
  split <;> rfl

theorem State.migrations_makeTable (s : State) (level key : Nat) : (s.makeTable level key).migrations = s.migrations := by
  unfold State.makeTable
  split
  · rfl
  · exact State.migrations_setPte _ _ _ _

theorem State.migrations_setLeaf (s : State) (level key : Nat) (w : Word) : (s.setLeaf level key w).migrations = s.migrations := by
  unfold State.setLeaf
  refine (State.migrations_setPte _ _ _ _).trans ?_
  split
  · rfl
  · split
    · exact State.migrations_makeTable _ _ _
    · rw [State.migrations_makeTable, State.migrations_makeTable]
    · rw [State.migrations_makeTable, State.migrations_makeTable, State.migrations_makeTable]

theorem State.migrations_uncharge (s : State) (ia : Nat) : (s.uncharge ia).migrations = s.migrations := by
  unfold State.uncharge
  split <;> rfl

/-- The place of a table entry rests on the root and the memory. -/
theorem State.pteAt_congr {s t : State} (hb : t.ptbase = s.ptbase) (hm : t.mem = s.mem) (level key : Nat) : t.pteAt level key = s.pteAt level key := by
  induction level generalizing key with
  | zero =>
    unfold State.pteAt
    rw [hb]
  | succ n ih =>
    unfold State.pteAt
    rw [ih]
    unfold State.entry
    rw [hm]

theorem State.dirKeys_congr {s t : State} (hb : t.ptbase = s.ptbase) (hm : t.mem = s.mem) (l : List (Nat × Nat)) : t.dirKeys l = s.dirKeys l := by
  unfold State.dirKeys State.dirKey
  rw [List.map_congr_left fun e _ => by rw [State.pteAt_congr hb hm]]

/-- The state in which a migration of a page waits for the slices: MIG is set in its leaf, and it is charged to its new tier. -/
def State.migrating (s : State) (l : Leaf) (asid : Nat) (m : Migration) : State :=
  let u := ((s.setLeaf l.level l.key (l.word ||| 0x800#64)).uncharge m.ia).chargePage m.ia asid m.tier m.size
  { u with migrations := u.migrations ++ [m] }

theorem State.dirKeys_migrating (s : State) (l : Leaf) (asid : Nat) (m : Migration) (k : List (Nat × Nat)) :
    (s.migrating l asid m).dirKeys k = (((s.setLeaf l.level l.key (l.word ||| 0x800#64)).uncharge m.ia).chargePage m.ia asid m.tier m.size).dirKeys k := by
  refine State.dirKeys_congr ?_ ?_ k
  · rfl
  · rfl

theorem State.migrations_migrating (s : State) (l : Leaf) (asid : Nat) (m : Migration) :
    (s.migrating l asid m).migrations = s.migrations ++ [m] := by
  show (State.uncharge _ m.ia).migrations ++ [m] = _
  rw [State.migrations_uncharge, State.migrations_setLeaf]

/-- MIG is set in the leaf, and the page is charged to its new tier; the copy follows once every slice knows it. -/
theorem exec_migrate {h : PktHdr} {s : State} {asid ia pa size tier : Nat} {l : Leaf} (hm : s.mayAct h [asid] = true) (hs : size < 4)
    (hia : ia % pageBytes size = 0) (hpa : pa % pageBytes size = 0) (hia' : ia + pageBytes size ≤ 2 ^ 52) (hpa' : pa + pageBytes size ≤ 2 ^ 52)
    (ha : asid < 8192) (ht : tier < 3) (hl : (s.settle ia (pageBytes size)).tableWalk ia = some l) (hv : l.valid = true)
    (hsize : l.size = pageBytes size) (h3 : l.tier ≠ 3) :
    ∃ u : State, exec (.migrate h ia pa size tier asid) s = .next (u.invalidate (leafKeys size ia) (u.dirKeys (leafKeys size ia)) none 0 ia) ∧
      u.migrations = (s.settle ia (pageBytes size)).migrations ++
        [{ ia := ia, pa := pa, size := size, tier := tier, held := [], copied := false, hdr := h }] := by
  refine ⟨(s.settle ia (pageBytes size)).migrating l asid
    { ia := ia, pa := pa, size := size, tier := tier, held := [], copied := false, hdr := h }, ?_, State.migrations_migrating _ _ _ _⟩
  refine (supervisorFor_may hm).trans ((if_neg (by omega)).trans ?_)
  dsimp only
  rw [hl]
  dsimp only
  rw [hv, if_neg (by simp [hsize, h3]), State.dirKeys_migrating]
  rfl

/-! ## Contexts (R256, R317, R318) -/

theorem exec_abandon {h : PktHdr} {s : State} {c : Nat} (hc : c < 1024) (hm : s.mayAct h (s.asidsOf c) = true) :
    exec (.abandon h c) s = if (s.ctx c).state ≠ .frozen then .next (s.notFrozen h c) else .next ((s.abandon c).complete h 0 0) :=
  (supervisorFor_may hm).trans (if_neg (by omega))

/-- A resumption that sets no register. -/
theorem exec_resume {h : PktHdr} {s : State} {c pc : Nat} {setPc : Bool} (hc : c < 1024) (hm : s.mayAct h (s.asidsOf c) = true)
    (hst : (s.ctx c).state = .frozen) (hpc : pc % 16 = 0) (hno : setPc = false → pc = 0) (hset : setPc = true → mayReplace (s.ctx c) = true) :
    exec (.resume h c setPc pc []) s = .next (((s.setCtx c (if setPc then { s.ctx c with
      csr := { (s.ctx c).csr with trapPc := BitVec.ofNat 64 pc }
      frozen := (s.ctx c).frozen.map fun n => { n with reps := 0 } } else s.ctx c)).resume c).complete h 0 0) := by
  refine (supervisorFor_may hm).trans ((if_neg ?_).trans ((if_neg (Classical.not_not.2 hst)).trans (if_neg ?_)))
  · cases setPc
    · simp [hno rfl]
      omega
    · simp [hpc]
      omega
  · cases setPc
    · simp
    · simp [hset rfl]

theorem exec_switch {h : PktHdr} {s : State} {c : Nat} (hc : c < 1024) (hm : s.mayAct h (s.asidsOf c) = true) (hst : (s.ctx c).state = .running)
    (hsw : (s.ctx c).switching = none) : exec (.switch h c) s =
      if s.areaFree then .next (s.setCtx c { s.ctx c with switching := some ([h], none) }) else .next (s.complete h 0x1B 0) := by
  refine (supervisorFor_may hm).trans ((if_neg (by omega)).trans ((if_neg (Classical.not_not.2 hst)).trans ?_))
  rw [hsw]

/-- Settles O54: a packet acts where it may, by the branch of its own definition, and completes with PRIVILEGE elsewhere. -/
theorem supervisorPackets : Obligations.SupervisorPackets := by
  unfold Obligations.SupervisorPackets
  intro h s
  refine ⟨?_, fun asid cls tq d x hd => exec_aspace_due hd cls tq d x, ?_, ?_, ?_, rfl, ?_, ?_, ?_, ?_⟩
  · intro hq hd a b c d e w1 w2 x y u v l
    have hm := State.mayAct_notSuper hq
    simp only [List.forall_mem_cons]
    refine ⟨exec_aspace_refused (hd a) (hm _) b c d x, supervisorFor_refused (hm _), supervisorFor_refused (hm _), supervisorFor_refused (hm _),
      supervisorFor_refused (hm _), supervisorFor_refused (hm _), supervisorFor_refused (hm _), supervisorFor_refused (hm _),
      supervisorFor_refused (hm _), supervisorFor_refused (hm _), supervisorFor_refused (hm _), supervisorFor_refused (hm _),
      supervisorFor_refused (hm _), by simp⟩
  · intro asid cls tq d l hm hd ha hc
    have hat := exec_aspace_may hd hm ha hc tq d
    refine ⟨fun hlive => ?_, fun hlive => ?_, fun hp => ⟨fun hl hok => ?_, fun hbad => ?_⟩⟩
    · rw [hat, if_pos rfl, if_pos hlive]
    · rw [hat, if_pos rfl, hlive, if_neg Bool.false_ne_true]
    · have hl' : (s.feRead d 256).rangesAt asid d = l.map some := hl
      rw [hat, if_neg Bool.false_ne_true, hp, if_neg (by decide), hl', any_isNone_map_some, filterMap_id_map_some, hok]
      rfl
    · have hany : ((s.feRead d 256).rangesAt asid d).any Option.isNone = true := by
        obtain ⟨r, hr, hnone⟩ := hbad
        exact List.any_eq_true.2 ⟨r, hr, by rw [hnone]; rfl⟩
      rw [hat, if_neg Bool.false_ne_true, hp, if_neg (by decide), hany]
      rfl
  · intro code t n l hm h0 hn hc hp u hl
    exact exec_segtab hm h0 hn hc hp hl
  · intro hm
    refine ⟨fun cls w0 w1 hcls hw => ?_, fun size base n hs hn hb => ?_, fun w hw => ?_, fun a n hno h0 hn hp => ?_⟩
    · exact (supervisorFor_may hm).trans ((if_neg (by omega)).trans (if_neg (by omega)))
    · exact (supervisorFor_may hm).trans (if_neg (by omega))
    · exact (supervisorFor_may hm).trans (if_neg (by omega))
    · refine (supervisorFor_may hm).trans ((if_neg (by rw [hno]; decide)).trans ((if_neg (by rw [hp]; simp; omega)).trans ?_))
      exact (apply_ite Host.Outcome.next _ _ _).symm
  · intro hm ia size hs hia t l hin
    exact ⟨exec_unmap hm hs hia hin, exec_protect hm hs hia hin⟩
  · exact fun hm ia size r w => ⟨supervisorFor_refused hm, supervisorFor_refused hm⟩
  · intro asid ia pa size tier hm hs hia hpa hia' hpa' ha t
    refine ⟨fun ht hout hin => ?_, fun ht l hl hv hsize h3 => exec_migrate hm hs hia hpa hia' hpa' ha ht hl hv hsize h3⟩
    intro u hfit r w
    exact exec_map hm hs hia hpa hia' hpa' ha ht hout hin hfit r w
  · intro c hc hm
    refine ⟨fun hst => ⟨?_, ?_, fun pc hpc hmay => ?_⟩, fun hst hsw hf => ?_, fun hst hsw hf => ?_, fun hst => ?_⟩
    · rw [exec_abandon hc hm, if_neg (Classical.not_not.2 hst)]
    · exact exec_resume hc hm hst rfl (fun _ => rfl) (fun h => by cases h)
    · exact exec_resume hc hm hst hpc (fun h => by cases h) fun _ => hmay
    · rw [exec_switch hc hm hst hsw, if_pos hf]
    · rw [exec_switch hc hm hst hsw, hf, if_neg Bool.false_ne_true]
    · rw [exec_abandon hc hm, if_pos hst]

end Sys2Proof.Machine

/-! Proofs about device interfaces and the host's coherent agent (R456 to R463). -/
namespace Sys2Proof.Machine
set_option Elab.async false

theorem exec_lockInterface {s : State} {v : Nat} (hv : v ≤ 16) (hs : s.serving = true) (h0 : 0 < v) (hst : (s.vf v).state = 0)
    (hide : (s.vf v).ide = true) : exec (.lockInterfaceRequest v) s = .next ((State.spend (s.setVf v { s.vf v with
      state := 1
      nonce := some (BitVec.ofNat 64 s.free) })).answerHost 1 (leBytes 8 s.free)) :=
  (onVf_served hv hs).trans (if_pos ⟨by omega, hst, hide⟩)

theorem exec_startInterface {s : State} {v : Nat} {n : Word} (hv : v ≤ 16) (hs : s.serving = true) (h0 : 0 < v) (hst : (s.vf v).state = 1)
    (hstop : (s.vf v).stopping = false) (hn : (s.vf v).nonce = some n) : exec (.startInterfaceRequest v n) s = .next ((s.setVf v { s.vf v with
      state := 2
      nonce := none }).answerHost 1 []) :=
  (onVf_served hv hs).trans (if_pos ⟨by omega, hst, by rw [hstop]; decide, hn⟩)

/-- Nonce 0 starts no interface that another nonce locked. -/
theorem exec_startInterface_refused {s : State} {v : Nat} (hv : v ≤ 16) (hs : s.serving = true)
    (h : (s.vf v).state ≠ 1 ∨ ∃ n, (s.vf v).nonce = some n ∧ n ≠ 0) : exec (.startInterfaceRequest v 0) s = .next (s.answerHost 2 []) := by
  refine (onVf_served hv hs).trans (if_neg fun ⟨_, h1, _, h0⟩ => ?_)
  obtain h | ⟨n, hn, hne⟩ := h
  · exact h h1
  · exact hne (Option.some.inj (hn.symm.trans h0))

/-- An interface that is not in ERROR, with no live task, is scrubbed as it stops. -/
theorem exec_stopInterface {s : State} {v : Nat} (hv : v ≤ 16) (hs : s.serving = true) (h0 : 0 < v) (hst : (s.vf v).state ≠ 0)
    (h3 : (s.vf v).state ≠ 3) (hno : ((s.queuesOf v).foldl (fun t q => t.modQueue q Queue.resetQueue) s).tasksOfVf v = []) :
    exec (.stopInterfaceRequest v) s = .next (((((s.queuesOf v).foldl (fun t q => t.modQueue q Queue.resetQueue) s).scrub v).setVf v { s.vf v with
      state := 0
      nonce := none
      stopping := false }).answerHost 1 []) := by
  refine (onVf_served hv hs).trans ((if_neg (by omega)).trans ?_)
  dsimp only
  rw [if_neg h3, hno]
  rfl

theorem exec_deviceReport {s : State} {v : Nat} (hv : v ≤ 16) (hs : s.serving = true) : exec (.getDeviceInterfaceReport v) s =
    .next (if s.vfFrozen v then s.answerHost 1 (s.deviceReport v) else s.answerHost 2 []) := onVf_served hv hs

theorem exec_negotiation {s : State} (hs : s.serving = true) (a b c d : Nat) : exec (.spdmAlgorithmNegotiation a b c d) s =
    if a = 1 ∧ b = 1 ∧ c = 1 ∧ d = 1 then .next ((s.keyStreams.spend).answerHost 1 []) else .next (s.answerHost 2 []) :=
  if_neg (by rw [hs]; decide)

theorem exec_snpdata {s : State} {g : Nat} {e : Granule} (h : s.granule g = some e) :
    exec (.snpdata g) s = .next ((s.returnData g).modHost fun h => { h with agent := Store.put h.agent g { e with mesi := .s } }) := by
  show execSnpdata g s = _
  unfold execSnpdata
  rw [h]

/-- A host access that the HDM decoder maps goes to its intermediate address. -/
theorem exec_hostHdmAccess {s : State} {hpa n : Nat} (hs : s.serving = true) (hlo : s.host.hdm.1 ≤ hpa)
    (hhi : hpa + n ≤ s.host.hdm.1 + s.host.hdm.2.2) (h0 : 0 < n) (hn : n ≤ 128) (w : Bool) (data : VWord) :
    exec (.hostHdmAccess w hpa n data) s = s.hostAccess w (s.host.hdm.2.1 + (hpa - s.host.hdm.1)) n data := by
  have hia : s.hdmIa hpa n = some (s.host.hdm.2.1 + (hpa - s.host.hdm.1)) := if_neg (by omega)
  show execHostHdmAccess w hpa n data s = _
  unfold execHostHdmAccess
  rw [if_neg (by rw [hs]; decide), hia]

theorem State.mapped_all {s : State} {ia n : Nat} {w : Bool} (h : ∀ i < n, (s.leafFor (ia + i) w).isSome = true) :
    ((List.range n).any fun i => (s.leafFor (ia + i) w).isNone) = false :=
  List.any_eq_false.2 fun i hi => by
    rw [Option.isNone_eq_false_iff.2 (h i (List.mem_range.1 hi))]
    decide

theorem State.hostAccess_write {s : State} {ia n : Nat} (h : ∀ i < n, (s.leafFor (ia + i) true).isSome = true) (data : VWord) :
    s.hostAccess true ia n data = .next (((linesOf ia n).foldl (fun t l => t.recallLine l) s).homeWriteN ia n data.toNat) :=
  (if_neg (by rw [State.mapped_all h]; decide)).trans rfl

theorem State.hostAccess_read {s : State} {ia n : Nat} (h : ∀ i < n, (s.leafFor (ia + i) false).isSome = true)
    (hheld : s.heldBy agentFe ia n = false) (data : VWord)
    (hf : (((linesOf ia n).foldl (fun t l => t.recallLine l) s).homeTouch ia n false).homeFault ia n false = none) :
    s.hostAccess false ia n data =
      let t := ((linesOf ia n).foldl (fun t l => t.recallLine l) s).homeTouch ia n false
      .next (((linesOf ia n).foldl (fun u l => u.trackLine l) t).answerHost 1 (leBytes n (t.homeRead ia n))) := by
  refine (if_neg (by rw [State.mapped_all h]; decide)).trans ((if_neg (by rw [hheld]; decide)).trans ((if_neg Bool.false_ne_true).trans (if_neg ?_)))
  rw [hf]
  decide

/-- Settles O55: each request by the branch of its own definition; none is served before step 4 of a start. -/
theorem interfaceEvents : Obligations.InterfaceEvents := by
  unfold Obligations.InterfaceEvents
  intro s v hv x
  refine ⟨fun hs n a b c d => ⟨onVf_unserved hv hs, onVf_unserved hv hs, onVf_unserved hv hs, onVf_unserved hv hs, onVf_unserved hv hs,
    onVf_unserved hv hs, if_pos (by rw [hs]; rfl), fun w hpa k data => if_pos (by rw [hs]; rfl)⟩, fun hs => ?_, ?_, ?_, ?_⟩
  · refine ⟨exec_lockInterface hv hs, fun h0 hst hstop n => exec_startInterface hv hs h0 hst hstop, exec_startInterface_refused hv hs, ?_, ?_, ?_,
      onVf_served hv hs, ?_, ?_⟩
    · intro h0 hst h3 t hno
      exact exec_stopInterface hv hs h0 hst h3 hno
    · intro hf
      refine ⟨(exec_deviceReport hv hs).trans (congrArg _ (if_pos hf)), (onVf_served hv hs).trans (congrArg _ (if_pos hf))⟩
    · exact fun hf => (exec_deviceReport hv hs).trans (congrArg _ (if_neg (by rw [hf]; decide)))
    · exact (exec_negotiation hs 1 1 1 1).trans (if_pos ⟨rfl, rfl, rfl, rfl⟩)
    · exact fun a b c d hno => (exec_negotiation hs a b c d).trans (if_neg hno)
  · exact fun g => ⟨rfl, rfl, fun e => exec_snpdata⟩
  · intro hs hpa n data hlo hhi h0 hn ia hmap
    exact (exec_hostHdmAccess hs hlo hhi h0 hn true data).trans (State.hostAccess_write hmap data)
  · intro hs hpa n data hlo hhi h0 hn ia hmap hheld t hf
    exact (exec_hostHdmAccess hs hlo hhi h0 hn false data).trans (State.hostAccess_read hmap hheld data hf)

end Sys2Proof.Machine

/-! Proofs about starts, power states, the throttle and the thermal trip (R469 to R476). -/
namespace Sys2Proof.Machine
set_option Elab.async false

theorem exec_coldStart_asked {s : State} (h : s.pow.coldAsked = true) (ok : Bool) :
    exec (.coldStart ok) s = .next (if ok then s.restart false else s.failCold) := if_pos (.inl h)

theorem exec_coldStart_step {s : State} (h : s.pow.coldAsked = false) (hon : s.pow.on = true) (hst : s.pow.start = some false) (ok : Bool) :
    exec (.coldStart ok) s = .next (if ok then s.nextStage else s.failCold) :=
  (if_neg (by rw [h, hon]; decide)).trans (if_pos hst)

theorem exec_warmStart_asked {s : State} (h : s.pow.warmAsked = true) (hon : s.pow.on = true) (ok : Bool) :
    exec (.warmStart ok) s = .next (if ok then s.restart true else (s.restart true).modPow fun p => { p with
      start := none
      coldAsked := true }) := if_pos ⟨h, hon⟩

/-- A step of a warm start after its second does not look at the stored digest. -/
theorem exec_warmStart_step {s : State} (h : s.pow.warmAsked = false) (hst : s.pow.start = some true) (h1 : s.pow.stage ≠ 1) (ok : Bool) :
    exec (.warmStart ok) s = .next (if ok then s.nextStage else s.modPow fun p => { p with
      start := none
      coldAsked := true }) := by
  refine (if_neg (by rw [h]; simp)).trans ((if_pos hst).trans (congrArg _ ?_))
  refine ite_congr (propext (and_iff_left ?_)) (fun _ => rfl) fun _ => rfl
  simp [h1]

theorem State.nextStage_loader {s : State} (h1 : s.pow.stage = 1) (hb : s.fe.imageBad = true) : s.nextStage = s.modPow fun p => { p with
    recovery := true
    start := none } := if_pos ⟨by rw [h1], hb⟩

/-- At step 2 the store's image becomes the running one, and its alias key is derived. -/
theorem State.nextStage_image {s : State} (h1 : s.pow.stage = 1) (hb : s.fe.imageBad = false) : s.nextStage.pow.stage = 2 ∧
    s.nextStage.host.alias_ = s.nextStage.fe.image ∧ s.nextStage.fe.image = s.fe.pendingImage.getD s.fe.image := by
  unfold State.nextStage
  dsimp only
  rw [if_neg (by rw [hb]; simp), if_pos (by rw [h1])]
  exact ⟨rfl, rfl, rfl⟩

theorem State.nextStage_timing {s : State} (h4 : s.pow.stage = 4) :
    s.nextStage = if s.fab.timing ≠ .locked then s else s.modPow fun p => { p with stage := 5 } := by
  unfold State.nextStage
  dsimp only
  rw [h4, if_neg (by omega), if_neg (by omega)]
  by_cases ht : s.fab.timing = .locked
  · rw [if_neg (fun h => h.2 ht), if_neg (by omega), if_neg (Classical.not_not.2 ht)]
  · rw [if_pos ⟨rfl, ht⟩, if_pos ht]

theorem exec_tolWrite_deep {s : State} (h : s.pow.ps = 4) (v : Word32) : exec (.tolWrite v) s =
    .next (if decide (v.toNat < exitLatency 4) then (s.modPow fun p => { p with tol := v }).wakeUp else s.modPow fun p => { p with tol := v }) := by
  show execTolWrite v s = _
  unfold execTolWrite
  dsimp only
  rw [if_pos h]

/-- What the power state answers to a BAR0 write and to a fabric message. -/
theorem exec_powerStateWake {s : State} {n : Nat} (h : s.pow.ps = n) (bar0 fabric : Bool) : exec (.powerStateWake bar0 fabric) s =
    .next (if (match n with
      | 0 => false
      | 3 => bar0
      | 4 => !bar0 && !fabric
      | _ => bar0 || fabric) then s.wakeUp else s) := by
  subst h
  rfl

theorem exec_thermalTrip {s : State} {t : BitVec 8} (h : 110 ≤ t.toNat) : ∃ u, exec (.thermalTrip t) s = .next u ∧ u.pow.on = false ∧
    u.pow.start = none ∧ u.pow.stage = 1 ∧ u.pow.coldAsked = false ∧ u.pow.warmAsked = false ∧ u.agenda = [] ∧ u.late = [] ∧ u.round = [] ∧
    u.issueQ = [] ∧ u.host.agent = [] :=
  ⟨_, if_neg (by omega), rfl, rfl, rfl, rfl, rfl, rfl, rfl, rfl, rfl, rfl⟩

/-- Settles O56: each event by the branch of its own definition. -/
theorem powerEvents : Obligations.PowerEvents := by
  unfold Obligations.PowerEvents
  intro s
  refine ⟨fun h => ⟨exec_coldStart_asked h true, exec_coldStart_asked h false⟩,
    fun h hon hst => ⟨exec_coldStart_step h hon hst true, exec_coldStart_step h hon hst false⟩,
    fun h hon => ⟨exec_warmStart_asked h hon true, exec_warmStart_asked h hon false⟩, fun warm => rfl, State.nextStage_loader, State.nextStage_image,
    ⟨fun ht h4 => (State.nextStage_timing h4).trans (if_pos ht), fun ht h4 => (State.nextStage_timing h4).trans (if_neg (Classical.not_not.2 ht))⟩,
    fun h hst h1 => ⟨exec_warmStart_step h hst h1 true, exec_warmStart_step h hst h1 false⟩, ?_, fun h => if_pos (.inl h),
    fun h => if_pos h, ?_, ?_, ?_, ?_, ?_, ?_, ?_, ?_, fun t => exec_thermalTrip⟩
  · exact fun hr hf => if_neg (by rw [hr, hf]; decide)
  · exact fun ht hs hps => if_neg (not_or.2 ⟨ht, not_or.2 ⟨by rw [hs]; decide, hps⟩⟩)
  · exact fun v h hv => (exec_tolWrite_deep h v).trans (congrArg _ (if_pos (decide_eq_true hv)))
  · exact fun v h hv => (exec_tolWrite_deep h v).trans (congrArg _ (if_neg (by simpa using hv)))
  · intro h b
    refine ⟨(exec_powerStateWake h true b).trans rfl, (exec_powerStateWake h b true).trans (congrArg _ (if_pos (Bool.or_true b)))⟩
  · exact fun h => ⟨exec_powerStateWake h true false, exec_powerStateWake h false true⟩
  · intro t ht
    refine ⟨_, rfl, if_pos ht, ?_⟩
    show (decide (100 ≤ t.toNat) || _) = true
    rw [decide_eq_true ht, Bool.true_or]
  · intro t ht
    have hclock : (if 100 ≤ t.toNat then max 500 (s.pow.clock - 250) else if t.toNat < 95 then min 2000 (s.pow.clock + 250) else s.pow.clock) =
      min 2000 (s.pow.clock + 250) := (if_neg (by omega)).trans (if_pos ht)
    refine ⟨_, rfl, hclock, ?_⟩
    show (decide (100 ≤ t.toNat) || (s.pow.throttle && (if 100 ≤ t.toNat then max 500 (s.pow.clock - 250)
      else if t.toNat < 95 then min 2000 (s.pow.clock + 250) else s.pow.clock) != 2000)) = _
    rw [hclock, decide_eq_false (by omega), Bool.false_or]
  · intro t hlo hhi
    exact ⟨_, rfl, (if_neg (by omega)).trans (if_neg (by omega))⟩

end Sys2Proof.Machine

/-! Proofs about the fabric: slots, timing, ports, flits, streams and membership (R475, R477 to R496, R505, R506). -/
namespace Sys2Proof.Machine
set_option Elab.async false

/-! ## A slot (R477, R479, R481, R482) -/

/-- A fold each step of which gives its state back. -/
theorem foldl_fixed {α β : Type} {f : α → β → α} {a : α} {l : List β} (h : ∀ b ∈ l, f a b = a) : l.foldl f a = a := by
  induction l with
  | nil => rfl
  | cons b l ih =>
    rw [List.foldl_cons, h b List.mem_cons_self]
    exact ih fun c hc => h c (List.mem_cons_of_mem _ hc)

theorem State.takeSamples_alone {s : State} (h : ∀ p, s.partner p = none) (j : Nat × Nat) (mask n : Nat) : s.takeSamples j mask n = s :=
  foldl_fixed fun p _ => by rw [h p]

/-- With no partner on any port no sample is taken. -/
theorem State.exchanges_alone {s : State} (h : ∀ p, s.partner p = none) : s.exchanges = s := by
  refine Eq.trans (congrArg (fun t : State => if t.fab.exchange then t.takeSamples exchangeJob 0xFFFF 1 else t) (foldl_fixed ?_)) ?_
  · refine fun e _ => foldl_fixed fun o _ => ?_
    split
    · rw [State.takeSamples_alone h, ite_self]
    · rfl
  · rw [State.takeSamples_alone h, ite_self]

/-- Nothing is placed, nothing is owed, and slot and timing are those of another state. -/
structure State.Idle (s t : State) : Prop where
  placed : t.fab.placed = []
  owed : t.fab.owed = []
  slot : t.fab.slot = s.fab.slot
  timing : t.fab.timing = s.fab.timing

theorem State.idle_sendPlaced {s : State} (hp : s.fab.placed = []) (ho : s.fab.owed = []) : s.Idle s.sendPlaced := by
  have hnone : s.sendPlaced = s.modFab fun f => { f with placed := f.placed.filter fun e => !(e.slot == s.fab.slot.toNat) } := by
    unfold State.sendPlaced
    dsimp only
    rw [hp]
    rfl
  rw [hnone]
  exact ⟨by rw [State.fab_modFab, hp]; rfl, ho, rfl, rfl⟩

theorem State.idle_displace {s : State} (hp : s.fab.placed = []) (ho : s.fab.owed = []) (p : Placed → Bool) (fail : Nat) :
    s.Idle (s.displace p fail) := by
  have hnone : s.displace p fail = s.modFab fun f => { f with placed := f.placed.filter fun e => !p e } := by
    unfold State.displace
    dsimp only
    rw [hp]
    rfl
  rw [hnone]
  exact ⟨by rw [State.fab_modFab, hp]; rfl, ho, rfl, rfl⟩

theorem State.idle_acknowledge {s t : State} (h : s.Idle t) : s.Idle t.acknowledge := by
  obtain ⟨hp, ho, hs, ht⟩ := h
  unfold State.acknowledge
  split
  · exact ⟨hp, ho, hs, ht⟩
  · exact ⟨hp, ho, hs, ht⟩

theorem State.fab_endExchange (s : State) : s.endExchange.fab = s.fab := by
  unfold State.endExchange
  split <;> rfl

/-- The counter and the time move on by a slot. -/
def State.slotMoved (s : State) : State := s.modFab fun f => { f with
  slot := f.slot + 1
  phase := f.phase - slotLength
  elapsed := f.elapsed + 1
  holdover := if f.timing == .locked then 0 else f.holdover + 1 }

/-- The next slot begins: what waits for a place looks for one. -/
noncomputable def State.nextSlot (s : State) : State := s.placeOwed.endExchange

/-- A slot has begun: what is to be forwarded goes next, and the leases that ran out end first. -/
noncomputable def State.slotBegun (s : State) : State :=
  (if s.fab.forward.isEmpty then s else { s with agenda := .flitForward :: s.agenda }).endExpired

/-- At a boundary within a frame. -/
theorem exec_slotBoundary {s e u : State} (he : s.exchanges = e)
    (hu : (if e.fab.timing.sends e.fab.slot.toNat then e.sendPlaced else e.displace (fun x => x.slot == e.fab.slot.toNat) 4).acknowledge = u)
    (hn : (u.fab.slot + 1).toNat % 64 ≠ 0) : exec .slotBoundary s = .next u.slotMoved.nextSlot.slotBegun := by
  have hmove : (if u.slotMoved.fab.slot.toNat % 64 = 0 then u.slotMoved.frameStart else u.slotMoved) = u.slotMoved := if_neg hn
  subst hu he
  exact congrArg (fun t : State => Host.Outcome.next t.nextSlot.slotBegun) hmove

theorem State.placeOwed_none {s : State} (h : s.fab.owed = []) : s.placeOwed = s.modFab fun f => { f with owed := [] } := by
  unfold State.placeOwed
  rw [h]
  rfl

theorem State.fab_slotBegun (s : State) : s.slotBegun.fab = s.fab := by
  unfold State.slotBegun
  split <;> rfl

theorem exec_slotBoundary_idle {s : State} (hp : s.fab.placed = []) (ho : s.fab.owed = []) (hno : ∀ p, s.partner p = none)
    (hn : (s.fab.slot + 1).toNat % 64 ≠ 0) : ∃ t, exec .slotBoundary s = .next t ∧ t.fab.slot = s.fab.slot + 1 ∧ t.fab.placed = [] ∧
      t.fab.timing = s.fab.timing := by
  have hidle : s.Idle (if s.fab.timing.sends s.fab.slot.toNat then s.sendPlaced
      else s.displace (fun x => x.slot == s.fab.slot.toNat) 4).acknowledge := by
    refine State.idle_acknowledge ?_
    split
    · exact State.idle_sendPlaced hp ho
    · exact State.idle_displace hp ho _ _
  generalize hu : (if s.fab.timing.sends s.fab.slot.toNat then s.sendPlaced
    else s.displace (fun x => x.slot == s.fab.slot.toNat) 4).acknowledge = u at hidle
  obtain ⟨hp', ho', hs', ht'⟩ := hidle
  refine ⟨_, exec_slotBoundary (State.exchanges_alone hno) hu (by rw [hs']; exact hn), ?_⟩
  rw [State.fab_slotBegun]
  unfold State.nextSlot
  rw [State.fab_endExchange, State.placeOwed_none (s := u.slotMoved) ho', ← hs', ← ht']
  exact ⟨rfl, hp', rfl⟩

/-- A flit that the present slot joins goes out of its port. -/
theorem exec_flitForward {s : State} {x : Flit} {p : Nat} (hf : s.fab.forward = [x])
    (hp : planeFor s.fab.slot.toNat (distance s.fab.selfId x.dst) = some p) (hu : s.portUsable p = true)
    (hs : s.fab.timing.sends s.fab.slot.toNat = true) (hsh : (s.toSend p false).length < s.shares.1) (hr : (s.port p).retry.length < 768) :
    exec .flitForward s = .next ((s.modFab fun f => { f with forward := [] }).modPort p fun y => { y with retry := y.retry ++
      [{ slot := s.fab.slot.toNat, port := p, flit := { x with stamp := s.fab.slot.toNat, fwd := false }, job := none, via := none }] }) := by
  show execFlitForward s = _
  unfold execFlitForward
  dsimp only
  rw [hf, List.foldl_cons, List.foldl_nil, hp]
  dsimp only
  rw [hu, hs, Bool.true_and, if_pos rfl]
  dsimp only
  rw [if_pos ⟨by simpa using hsh, by simpa using hr⟩]
  rfl

/-! ## Time (R485, R486) -/

theorem exec_relock {s : State} {p : Nat} (hp : p < 16) (hh : (s.port p).healthy = true) (ht : s.fab.timing ≠ .locked) (hset : s.fab.timeSet = true)
    {d : Option Int} (hr : s.fab.relock = some (p, d)) {g : Bool} (hd : d.isSome = g) (fr : Nat)
    (hslot : g = true → s.fab.slot.toNat = 64 * (fr % 2 ^ 26)) :
    exec (.relock p fr g) s =
      let t := s.modFab fun f => { f with
        timing := .locked
        holdover := 0
        lockPort := some p
        relock := none
        exchange := false
        phase := match d with
          | some d => f.phase - d
          | none => 0
        trimNext := 0 }
      .next ((if g then t else t.setCounter (64 * (fr % 2 ^ 26))).fabricError 0x0342).endExpired := by
  show execRelock p fr g s = _
  unfold execRelock
  rw [if_neg (by omega), if_neg (by rw [hh, hset]; simp [ht]), hr]
  refine if_neg ?_
  rw [hd]
  simpa using hslot

/-- A relock does nothing where the one that is to come says another. -/
theorem exec_relock_other {s : State} {p : Nat} (hp : p < 16) (hh : (s.port p).healthy = true) (ht : s.fab.timing ≠ .locked)
    (hset : s.fab.timeSet = true) (fr : Nat) (g : Bool)
    (h : s.fab.relock = none ∨ (∃ q d, s.fab.relock = some (q, d) ∧ (q ≠ p ∨ d.isSome ≠ g)) ∨ (g = true ∧ s.fab.slot.toNat ≠ 64 * (fr % 2 ^ 26))) :
    exec (.relock p fr g) s = .next s := by
  show execRelock p fr g s = _
  unfold execRelock
  rw [if_neg (by omega), if_neg (by rw [hh, hset]; simp [ht])]
  cases hr : s.fab.relock with
  | none => rfl
  | some r =>
    obtain ⟨q, d⟩ := r
    refine if_pos ?_
    obtain h | ⟨q', d', h, hne⟩ | h := h
    · cases hr.symm.trans h
    · cases hr.symm.trans h
      exact hne.imp_right .inl
    · exact .inr (.inr h)

/-! ## Ports (R493, R494) -/

theorem exec_portPause {s : State} {p : Nat} (hp : p < 16) (h : (s.port p).pausedAt = none) : exec (.portPause p) s =
    .next (s.modPort p fun x => { x with
      pausedAt := if (s.port p).fenced then none else some s.fab.elapsed
      retrained := false
      cleanSince := none }) := by
  refine (onPort_of_lt hp).trans (congrArg _ ?_)
  unfold State.modPort
  dsimp only
  rw [if_neg (by rw [h]; decide)]

theorem exec_portRetrain {s : State} {p : Nat} (hp : p < 16) (h : (s.port p).pausedAt.isSome = true) : exec (.portRetrain p) s =
    .next (s.modPort p fun x => { x with
      pausedAt := none
      retrained := true
      cleanSince := some s.fab.elapsed }) := by
  refine (onPort_of_lt hp).trans (congrArg _ ?_)
  unfold State.modPort
  dsimp only
  rw [if_pos (by rw [h, Bool.or_true])]

/-- The flits of the module that a fenced port had sent are sent again. -/
theorem exec_portFence {s : State} {p : Nat} (hp : p < 16) (hd : s.fenceDue p = true) (hown : ∀ e ∈ (s.port p).retry, e.flit.src = s.fab.selfId) :
    let t := State.displace (State.replace (s.modPort p fun x => { x with
      fenced := true
      retrained := false
      retry := [] }) (s.port p).retry 6) (fun e => e.port == p) 6
    exec (.portFence p) s = .next ((if t.allFenced = true then t.failWindowed 6 else t).fabricError (0x0300 + p)) := by
  have hall : ((s.port p).retry.filter fun e => e.flit.src == s.fab.selfId) = (s.port p).retry :=
    List.filter_eq_self.2 fun e he => by rw [hown e he]; exact beq_self_eq_true _
  have hnone : ((s.port p).retry.filter fun e => !(e.flit.src == s.fab.selfId)) = [] :=
    List.filter_eq_nil_iff.2 fun e he => by rw [hown e he, beq_self_eq_true]; decide
  have hkeep : ∀ t : State, (t.modFab fun f => { f with forward := f.forward ++ [] }) = t := by
    intro t
    exact congrArg (fun l => t.modFab fun f => { f with forward := l }) (List.append_nil t.fab.forward)
  intro t
  refine (onPort_of_lt hp).trans (congrArg _ ((if_neg (by rw [hd]; decide)).trans ?_))
  dsimp only
  rw [show (s.modPort p fun x => { x with fenced := true, retrained := false, retry := [] }).fab.selfId = s.fab.selfId from rfl, hall, hnone,
    List.map_nil, hkeep]

theorem exec_portRejoin {s : State} {p : Nat} (hp : p < 16) (hd : s.rejoinDue p = true) : exec (.portRejoin p) s =
    .next ((s.modPort p fun x => { x with
      fenced := false
      pausedAt := none }).fabricError (0x0320 + p)) := (onPort_of_lt hp).trans (congrArg _ (if_pos hd))

/-! ## Flits (R482, R487, R489) -/

/-- A flit that is accepted here goes on by its class. -/
theorem exec_flitReceive {s : State} {p : Nat} {f : Flit} (hp : p < 16) (hup : s.fabricUp = true) (hport : s.portUp p = true)
    (hst : s.stampOk f = true) (hh : flitHeaderOk f = true) (hfwd : f.fwd = false) {i : Instr}
    (hi : (f.cls = 4 ∧ i = .dataReceive f) ∨ (f.cls = 5 ∧ i = .enqReceive f) ∨ (f.cls = 6 ∧ i = .arriveReceive f)) :
    ∃ t, exec (.flitReceive p f) s = .next t ∧ t.agenda = i :: s.agenda := by
  have hat : exec (.flitReceive p f) s =
      let u := ({ s with pow := { s.pow with ps := 0 } } : State).modFab fun b => { b with tstates := Store.put b.tstates f.src (f.tstate % 4) }
      let go := fun (i : Instr) => (.next { u with agenda := i :: u.agenda } : Out)
      match f.cls with
      | 4 => go (.dataReceive f)
      | 5 => go (.enqReceive f)
      | 6 => go (.arriveReceive f)
      | _ => .next u :=
    (if_neg (by omega)).trans ((if_neg (by rw [hup, hport]; decide)).trans ((if_pos ⟨hst, hh⟩).trans (if_neg (by rw [hfwd]; simp))))
  obtain ⟨hc, rfl⟩ | ⟨hc, rfl⟩ | ⟨hc, rfl⟩ := hi
  · rw [hc] at hat
    exact ⟨_, hat, rfl⟩
  · rw [hc] at hat
    exact ⟨_, hat, rfl⟩
  · rw [hc] at hat
    exact ⟨_, hat, rfl⟩

theorem exec_flitReceive_refused {s : State} {p : Nat} {f : Flit} (hp : p < 16) (hup : s.fabricUp = true) (hport : s.portUp p = true)
    (hbad : s.stampOk f = false ∨ flitHeaderOk f = false) (hlast : (s.port p).lastRefusal ≠ some (s.fab.slot.toNat / 64)) :
    exec (.flitReceive p f) s =
      .next ((s.modPort p fun x => { x with lastRefusal := some (s.fab.slot.toNat / 64) }).fabricError (0x0360 + p)) := by
  refine (if_neg (by omega)).trans ((if_neg (by rw [hup, hport]; decide)).trans ((if_neg fun ⟨h1, h2⟩ => ?_).trans (if_neg hlast)))
  obtain h | h := hbad
  · rw [h] at h1
    cases h1
  · rw [h] at h2
    cases h2

theorem exec_flitReceive_down {s : State} {p : Nat} (hp : p < 16) (h : s.fabricUp = false ∨ s.portUp p = false) (f : Flit) :
    exec (.flitReceive p f) s = .next s := by
  refine (if_neg (by omega)).trans (if_pos (h.imp (fun h => ?_) fun h => ?_))
  · rw [h]
    rfl
  · rw [h]
    rfl

end Sys2Proof.Machine

/-! Proofs about the streams and the membership that the module receives (R489 to R491, R505 to R507). -/
namespace Sys2Proof.Machine
set_option Elab.async false

/-! ## What the fabric interface alone takes (R489, R491) -/

/-- Two states that differ at most in the fabric interface and in what comes next. -/
def State.FabSide (s t : State) : Prop := ∃ fab agenda, t = { s with
  fab := fab
  agenda := agenda }

namespace State.FabSide
variable {s t u : State}

theorem refl (s : State) : s.FabSide s := ⟨_, _, rfl⟩

theorem trans (h : s.FabSide t) (h' : t.FabSide u) : s.FabSide u := by
  obtain ⟨_, _, rfl⟩ := h
  obtain ⟨_, _, rfl⟩ := h'
  exact ⟨_, _, rfl⟩

theorem foldl {α : Type} {f : State → α → State} (hf : ∀ (t : State) a, t.FabSide (f t a)) (l : List α) (s : State) : s.FabSide (l.foldl f s) := by
  induction l generalizing s with
  | nil => exact refl s
  | cons a l ih => exact (hf s a).trans (ih _)

theorem modFab (s : State) (f : Fabric → Fabric) : s.FabSide (s.modFab f) := ⟨_, _, rfl⟩
theorem ack (s : State) (src num st : Nat) : s.FabSide (s.ack src num st) := modFab s _
theorem countBytes (s : State) (k first len : Nat) : s.FabSide (s.countBytes k first len) := by
  unfold State.countBytes
  exact modFab s _

theorem answerMessage (s : State) (m : HeldMsg) (st : Nat) : s.FabSide (s.answerMessage m st) :=
  (modFab s _).trans (foldl (fun t _ => ack t _ _ _) _ _)
theorem rejectHeld (s : State) (src stream : Nat) (p : HeldMsg → Bool) : s.FabSide (s.rejectHeld src stream p) :=
  (modFab s _).trans (foldl (fun t m => answerMessage t m 8) _ _)

theorem askRelease (s : State) (src stream : Nat) : s.FabSide (s.askRelease src stream) := by
  unfold State.askRelease
  split
  · exact ⟨_, _, rfl⟩
  · exact refl s

theorem noteMessage (s : State) (k first n : Nat) : s.FabSide (s.noteMessage k first n) := by
  unfold State.noteMessage
  dsimp only
  split
  · exact refl s
  · exact modFab s _

theorem mem (h : s.FabSide t) : t.mem = s.mem := by obtain ⟨_, _, rfl⟩ := h; rfl
theorem hostMem (h : s.FabSide t) : t.hostMem = s.hostMem := by obtain ⟨_, _, rfl⟩ := h; rfl

end State.FabSide

theorem State.fab_askRelease (s : State) (src stream : Nat) : (s.askRelease src stream).fab = s.fab := by
  unfold State.askRelease
  split <;> rfl

theorem State.windows_noteMessage (s : State) (k first n : Nat) : (s.noteMessage k first n).fab.windows = s.fab.windows := by
  unfold State.noteMessage
  dsimp only
  split <;> rfl

theorem State.held_noteMessage (s : State) (k first n : Nat) : (s.noteMessage k first n).fab.held = s.fab.held := by
  unfold State.noteMessage
  dsimp only
  split <;> rfl

theorem State.arrived_noteMessage (s : State) (k first n : Nat) : (s.noteMessage k first n).fab.arrived = s.fab.arrived := by
  unfold State.noteMessage
  dsimp only
  split <;> rfl

theorem State.migOver_noteMessage (s : State) (k first n ia len : Nat) : (s.noteMessage k first n).migOver ia len = s.migOver ia len := by
  unfold State.noteMessage
  dsimp only
  split <;> rfl

/-! ## A DATA flit (R489) -/

/-- Its first stream offset. -/
def State.firstOf (s : State) (f : Flit) : Nat := nearest (s.prefixOf (streamKey f.src (flitStream f))) f.ofs

/-- The state that knows its message. -/
def State.noted (s : State) (f : Flit) : State := s.noteMessage (streamKey f.src (flitStream f)) (s.firstOf f) (f.len + 1 - 8)

/-- Where its message may not stand, it counts as written and is answered as refused. -/
noncomputable def State.refusedData (s : State) (f : Flit) : State :=
  let k := streamKey f.src (flitStream f)
  let n := f.len + 1 - 8
  let m := (s.noted f).messageOf k (s.firstOf f) n
  ((((if s.fab.messages.contains (k, s.messageOf k (s.firstOf f) n) then s.noted f
    else (s.noted f).rejectHeld f.src (flitStream f) fun h => decide (m.1 < h.count)).ack f.src (m.2 % 2 ^ 16) 8).countBytes k
      (s.firstOf f) n).askRelease f.src (flitStream f))

theorem State.fabSide_refusedData (s : State) (f : Flit) : s.FabSide (s.refusedData f) := by
  unfold State.refusedData
  dsimp only
  refine State.FabSide.trans ?_ (((State.FabSide.ack _ _ _ _).trans (State.FabSide.countBytes _ _ _ _)).trans (State.FabSide.askRelease _ _ _))
  split
  · exact State.FabSide.noteMessage _ _ _ _
  · exact (State.FabSide.noteMessage _ _ _ _).trans (State.FabSide.rejectHeld _ _ _ _)

theorem State.acks_refusedData (s : State) (f : Flit) :
    (f.src, ((s.noted f).messageOf (streamKey f.src (flitStream f)) (s.firstOf f) (f.len + 1 - 8)).2 % 2 ^ 16, 8) ∈ (s.refusedData f).fab.acks := by
  unfold State.refusedData
  dsimp only
  rw [State.fab_askRelease]
  exact List.mem_cons_self

/-- Of a message that was known before, the held ones were rejected then. -/
theorem State.held_refusedData {s : State} {f : Flit}
    (h : (streamKey f.src (flitStream f), s.messageOf (streamKey f.src (flitStream f)) (s.firstOf f) (f.len + 1 - 8)) ∈ s.fab.messages) :
    (s.refusedData f).fab.held = s.fab.held := by
  unfold State.refusedData
  dsimp only
  rw [State.fab_askRelease, if_pos (List.contains_iff_mem.2 h)]
  exact s.held_noteMessage _ _ _

/-- A flit that waits nowhere goes where its window puts it. -/
theorem exec_dataReceive {s : State} {f : Flit} (ha : s.fab.arrived = []) :
    exec (.dataReceive f) s = match (s.noted f).dataPlace f (s.firstOf f) with
      | some ia =>
        if (s.noted f).migOver ia (f.len + 1 - 8) then .next ((s.noted f).modFab fun b => { b with arrived := b.arrived ++ [f] })
        else .next (((((s.noted f).writeData (streamKey f.src (flitStream f)) (s.firstOf f) ia f).countBytes (streamKey f.src (flitStream f))
          (s.firstOf f) (f.len + 1 - 8)).ackData f (s.firstOf f)).askRelease f.src (flitStream f))
      | none => .next (s.refusedData f) := by
  have hsame : (s.modFab fun b => { b with arrived := b.arrived.filter fun g => !(g == f) }) = s := by
    refine congrArg (fun l => s.modFab fun b => { b with arrived := l }) (a₂ := s.fab.arrived) ?_
    rw [ha]
    rfl
  show execDataReceive f s = _
  unfold execDataReceive
  dsimp only
  rw [hsame]
  rfl

theorem State.dataPlace_noted {s : State} {f : Flit} {ia len b : Nat}
    (hw : s.fab.windows.find? (fun e => e.1 == flitStream f) = some (flitStream f, ia, len, b)) :
    (s.noted f).dataPlace f (s.firstOf f) =
      let m := (s.noted f).messageOf (streamKey f.src (flitStream f)) (s.firstOf f) (f.len + 1 - 8)
      if (bitsN f.payload.toNat 0 64 + 2 ^ 64 - (s.firstOf f - m.1) % 2 ^ 64) % 2 ^ 64 + (m.2 - m.1) ≤ len then
        some (ia + bitsN f.payload.toNat 0 64) else none := by
  unfold State.dataPlace
  dsimp only
  rw [show (s.noted f).fab.windows = s.fab.windows from State.windows_noteMessage _ _ _ _, hw]

/-! ## Held messages and membership (R489, R505) -/

/-- Of a list's entries those that a filter leaves out are those that are not in what it gives. -/
theorem not_eq_decide_notMem_filter {α : Type} {p : α → Bool} {l : List α} {a : α} [Decidable (a ∉ l.filter p)] (h : a ∈ l) :
    (!p a) = decide (a ∉ l.filter p) := by
  by_cases hp : p a = true
  · rw [hp, decide_eq_false fun hno => hno (List.mem_filter.2 ⟨h, hp⟩)]
    rfl
  · rw [Bool.eq_false_iff.2 hp]
    exact (decide_eq_true fun hmem => hp (List.mem_filter.1 hmem).2).symm

theorem exec_heldMessageRelease (s : State) (src n : Nat) : ∃ t l, exec (.heldMessageRelease src n) s = .next t ∧
    t = l.foldl (fun t m => t.actMessage m) (s.modFab fun f => { f with held := f.held.filter fun m => decide (m ∉ l) }) ∧
    l = s.fab.held.filter fun m => m.flit.src == src && flitStream m.flit == n && decide (m.count ≤ s.prefixOf (streamKey src n)) := by
  refine ⟨_, _, rfl, ?_, rfl⟩
  refine congrArg (fun l => List.foldl _ (s.modFab fun f => { f with held := l }) _) (List.filter_congr fun m hm => ?_)
  exact not_eq_decide_notMem_filter (p := fun m : HeldMsg =>
    m.flit.src == src && flitStream m.flit == n && decide (m.count ≤ s.prefixOf (streamKey src n))) hm

theorem exec_membershipAdd {s : State} (hup : s.fabricUp = true) (e id : Nat) :
    exec (.membershipAdd e id) s = .next (State.applyAdd { s with pow := { s.pow with ps := 0 } } e id) :=
  congrArg _ (State.fabricArrives_up hup)

theorem exec_membershipRemove {s : State} (hup : s.fabricUp = true) (e id : Nat) :
    exec (.membershipRemove e id) s = .next (State.applyRemove { s with pow := { s.pow with ps := 0 } } e id) :=
  congrArg _ (State.fabricArrives_up hup)

theorem State.fabricArrives_down {s : State} {act : State → State} (h : s.fabricUp = false) : s.fabricArrives act = s :=
  if_neg (by rw [h]; decide)

theorem State.epochNext_not {s : State} {e : Nat} (h : s.epochNext e = false) (id : Nat) : s.applyAdd e id = s ∧ s.applyRemove e id = s :=
  ⟨if_pos (by rw [h]; rfl), if_pos (by rw [h]; rfl)⟩

theorem State.applyAdd_peer {s : State} {e id : Nat} (h : s.epochNext e = true) (hid : id ≠ s.fab.selfId) :
    s.applyAdd e id = State.memberRecord ((s.modFab fun f => { f with epoch := e }).modFab fun f =>
      { f.clearPeers (fun p => p == id) with members := insertNat id f.members }) 0x0402 e := by
  refine (if_neg (by rw [h]; decide)).trans ?_
  exact congrArg (fun t : State => t.memberRecord 0x0402 e) (if_neg hid)

theorem State.applyRemove_next {s : State} {e : Nat} (h : s.epochNext e = true) (id : Nat) :
    s.applyRemove e id = if id = s.fab.selfId then ((s.modFab fun f => { f with epoch := e }).removeSelf).memberRecord 0x0400 e
      else ((s.modFab fun f => { f with epoch := e }).removePeer id).memberRecord 0x0401 e :=
  if_neg (by rw [h]; decide)

/-- Settles O58: each event by the branch of its own definition; a refused DATA message changes the fabric interface alone. -/
theorem fabricEvents : Obligations.FabricEvents := by
  unfold Obligations.FabricEvents
  intro s
  refine ⟨?_, rfl, exec_slotBoundary_idle, ?_, ?_, ?_, ?_, ?_, ?_, fun p f hp h => exec_flitReceive_down hp h f, ?_, ?_, ?_, fun f => ⟨rfl, rfl⟩,
    exec_heldMessageRelease s, ?_, ?_⟩
  · intro e u v hsend hn hforward
    have hat := exec_slotBoundary (u := u) rfl (by rw [if_pos hsend]) hn
    have hno : u.slotMoved.nextSlot.fab.forward = [] := hforward
    exact hat.trans (congrArg Host.Outcome.next (congrArg State.endExpired (if_pos (by rw [hno]; rfl))))
  · intro x p hf hp hu hs hsh hr
    exact ⟨_, exec_flitForward hf hp hu hs hsh hr, rfl, by rw [State.port_modPort, if_pos rfl]; rfl⟩
  · intro p fr hp hh ht hset frame lock
    refine ⟨fun d hr hslot => ?_, fun hr => ?_, fun g => exec_relock_other hp hh ht hset fr g⟩
    · exact exec_relock hp hh ht hset hr (g := true) rfl fr fun _ => hslot
    · exact exec_relock hp hh ht hset hr (g := false) rfl fr fun h => by cases h
  · exact fun ht hr hh => congrArg _ (if_pos ⟨ht, by rw [hr]; rfl, hh⟩)
  · exact fun ht hr hh => congrArg _ (if_pos ⟨ht, by rw [hr]; rfl, hh⟩)
  · intro l ht hx hd hl hne
    refine congrArg _ ((if_pos ⟨ht, hx, hd, hl⟩).trans ?_)
    exact congrArg (fun n => s.modFab fun f => { f with trimNext := n, exchange := false }) (if_neg hne)
  · intro p hp
    refine ⟨fun hf hpa => ?_, fun hf hpa => ?_, exec_portRetrain hp, fun hd hown => exec_portFence hp hd hown, exec_portRejoin hp⟩
    · rw [exec_portPause hp hpa, hf, if_neg Bool.false_ne_true]
    · rw [exec_portPause hp hpa, hf, if_pos rfl, ← hpa]
      rfl
  · intro p f hp hup hport hst hh hfwd
    exact ⟨fun hc => exec_flitReceive hp hup hport hst hh hfwd (.inl ⟨hc, rfl⟩), fun hc => exec_flitReceive hp hup hport hst hh hfwd (.inr (.inl ⟨hc, rfl⟩)),
      fun hc => exec_flitReceive hp hup hport hst hh hfwd (.inr (.inr ⟨hc, rfl⟩))⟩
  · exact fun p f hp hup hport hbad hlast => exec_flitReceive_refused hp hup hport hbad hlast
  · intro f ia len b hw k n first at_ u m start fits ha
    have hplace := State.dataPlace_noted hw
    have hat := exec_dataReceive (f := f) ha
    have hover : ∀ x, (s.noted f).migOver x (f.len + 1 - 8) = s.migOver x (f.len + 1 - 8) := fun x => State.migOver_noteMessage _ _ _ _ _ _
    refine ⟨fun hfit hmig => ?_, fun hfit hmig => ?_, fun hfit => ?_⟩
    · rw [hplace.trans (if_pos hfit)] at hat
      refine hat.trans ((if_neg ?_).trans rfl)
      rw [hover, show s.migOver (ia + bitsN f.payload.toNat 0 64) (f.len + 1 - 8) = false from hmig]
      decide
    · rw [hplace.trans (if_pos hfit)] at hat
      refine hat.trans ((if_pos ?_).trans ?_)
      · rw [hover]
        exact hmig
      · have harr : (s.noted f).fab.arrived = [] := (State.arrived_noteMessage _ _ _ _).trans ha
        exact congrArg (fun l => Host.Outcome.next ((s.noted f).modFab fun b => { b with arrived := l ++ [f] })) harr
    · rw [hplace.trans (if_neg hfit)] at hat
      exact ⟨_, hat, (s.fabSide_refusedData f).mem, (s.fabSide_refusedData f).hostMem, s.acks_refusedData f, State.held_refusedData⟩
  · exact fun h src n c e id => ⟨congrArg Host.Outcome.next (State.fabricArrives_down h),
      congrArg Host.Outcome.next (State.fabricArrives_down h), congrArg Host.Outcome.next (State.fabricArrives_down h)⟩
  · intro hup u
    refine ⟨fun src n c => congrArg Host.Outcome.next (State.fabricArrives_up hup), fun e id he hid => ⟨?_, ?_⟩, fun e he => ?_, fun e id he => ⟨?_, ?_⟩⟩
    · exact (exec_membershipAdd hup e id).trans (congrArg Host.Outcome.next (State.applyAdd_peer (s := u) he hid))
    · exact (exec_membershipRemove hup e id).trans (congrArg Host.Outcome.next ((State.applyRemove_next (s := u) he id).trans (if_neg hid)))
    · exact (exec_membershipRemove hup e s.fab.selfId).trans (congrArg Host.Outcome.next ((State.applyRemove_next (s := u) he _).trans (if_pos rfl)))
    · exact (exec_membershipAdd hup e id).trans (congrArg Host.Outcome.next (State.epochNext_not (s := u) he id).1)
    · exact (exec_membershipRemove hup e id).trans (congrArg Host.Outcome.next (State.epochNext_not (s := u) he id).2)

end Sys2Proof.Machine

/-! Proofs about the frame pulse: its port, the timing, and the record of a wrong one (R470, R484, R486). -/
namespace Sys2Proof.Machine
set_option Elab.async false

/-! ## What placing flits again leaves (R480, R494) -/

/-- The front end, host memory and, but for their retry buffers, the ports of another state. -/
structure State.TimeSide (s t : State) : Prop where
  fe : t.fe = s.fe
  hostMem : t.hostMem = s.hostMem
  ports : ∀ q, ({ t.port q with retry := [] } : Port) = { s.port q with retry := [] }

/-- Those of another state, with its time and its lock. -/
structure State.PlaceSide (s t : State) : Prop extends s.TimeSide t where
  slot : t.fab.slot = s.fab.slot
  phase : t.fab.phase = s.fab.phase
  lockPort : t.fab.lockPort = s.fab.lockPort

namespace State.TimeSide
variable {s t u : State}

theorem refl (s : State) : s.TimeSide s := ⟨rfl, rfl, fun _ => rfl⟩
theorem trans (h : s.TimeSide t) (h' : t.TimeSide u) : s.TimeSide u :=
  ⟨h'.fe.trans h.fe, h'.hostMem.trans h.hostMem, fun q => (h'.ports q).trans (h.ports q)⟩
theorem healthy (h : s.TimeSide t) (q : Nat) : (t.port q).healthy = (s.port q).healthy := by
  have hq := congrArg Port.healthy (h.ports q)
  exact hq
theorem frame (h : s.TimeSide t) (q : Nat) : (t.port q).frame = (s.port q).frame := by
  have hq := congrArg Port.frame (h.ports q)
  exact hq

theorem healthyPort (h : s.TimeSide t) : t.healthyPort = s.healthyPort := by
  unfold State.healthyPort
  exact congrArg (fun p : Nat → Bool => (List.range 16).find? p) (funext h.healthy)

end State.TimeSide

/-- A change of every port's retry buffer alone. -/
theorem port_map_retry (m : Store Port) (f : List Placed → List Placed) (q : Nat) :
    ({ Store.get Port.reset (m.map fun p => (p.1, { p.2 with retry := f p.2.retry })) q with retry := [] } : Port) =
      { Store.get Port.reset m q with retry := [] } := by
  induction m with
  | nil => rfl
  | cons e m ih =>
    obtain ⟨k, x⟩ := e
    rw [List.map_cons]
    unfold Store.get
    by_cases h : q = k
    · rw [if_pos h, if_pos h]
    · rw [if_neg h, if_neg h, ih]

namespace State.PlaceSide
variable {s t u : State}

theorem refl (s : State) : s.PlaceSide s := ⟨.refl s, rfl, rfl, rfl⟩
theorem trans (h : s.PlaceSide t) (h' : t.PlaceSide u) : s.PlaceSide u :=
  ⟨h.toTimeSide.trans h'.toTimeSide, h'.slot.trans h.slot, h'.phase.trans h.phase, h'.lockPort.trans h.lockPort⟩

theorem foldl {α : Type} {f : State → α → State} (hf : ∀ (t : State) a, t.PlaceSide (f t a)) (l : List α) (s : State) : s.PlaceSide (l.foldl f s) := by
  induction l generalizing s with
  | nil => exact refl s
  | cons a l ih => exact (hf s a).trans (ih _)

theorem setPlaced (s : State) (l : List Placed) : s.PlaceSide (s.modFab fun f => { f with placed := l }) := ⟨⟨rfl, rfl, fun _ => rfl⟩, rfl, rfl, rfl⟩
theorem reserve (s : State) (j : Option (Nat × Nat)) (l : List (Nat × Nat × Option Nat)) (fl : List Flit) : s.PlaceSide (s.reserve j l fl) :=
  ⟨⟨rfl, rfl, fun _ => rfl⟩, rfl, rfl, rfl⟩
theorem answer (s : State) (c id st : Nat) : s.PlaceSide (s.answer c id st) := ⟨⟨rfl, rfl, fun _ => rfl⟩, rfl, rfl, rfl⟩

theorem dropFlits (s : State) (j : Nat × Nat) : s.PlaceSide (s.dropFlits j) :=
  ⟨⟨rfl, rfl, fun q => port_map_retry s.fab.ports (fun l => l.filter fun e => !e.serves j) q⟩, rfl, rfl, rfl⟩

theorem placeFlit (s : State) (e : Placed) : s.PlaceSide (s.placeFlit e) := by
  unfold State.placeFlit
  split
  · exact setPlaced s _
  · exact ⟨⟨rfl, rfl, fun _ => rfl⟩, rfl, rfl, rfl⟩

theorem placeAgain (s : State) (j : Nat × Nat) (l : List Flit) (fail : Nat) : s.PlaceSide (s.placeAgain j l fail) := by
  unfold State.placeAgain
  split
  · exact refl s
  · split
    · exact reserve s _ _ _
    · exact (dropFlits s j).trans (answer _ _ _ _)

theorem replace (s : State) (l : List Placed) (fail : Nat) : s.PlaceSide (s.replace l fail) :=
  (foldl (fun t j => placeAgain t j _ fail) _ s).trans (foldl (fun t _ => placeFlit t _) _ _)

theorem displace (s : State) (p : Placed → Bool) (fail : Nat) : s.PlaceSide (s.displace p fail) := (setPlaced s _).trans (replace _ _ _)

end State.PlaceSide

theorem State.displace_none {s : State} (h : s.fab.placed = []) (p : Placed → Bool) (fail : Nat) :
    s.displace p fail = s.modFab fun f => { f with placed := f.placed.filter fun e => !p e } := by
  unfold State.displace
  dsimp only
  rw [h]
  rfl

/-- The counter set to a slot, with nothing placed again yet. -/
def State.countFrom (s : State) (new : Nat) : State := s.modFab fun f => { f with slot := BitVec.ofNat 32 new }

/-- Beside the slot itself, setting the counter leaves time, lock and ports. -/
theorem State.placeSide_setCounter (s : State) (new : Nat) : (s.countFrom new).PlaceSide (s.setCounter new) := State.PlaceSide.displace _ _ _

/-- With nothing placed, setting the counter leaves the retry buffers too. -/
theorem State.port_setCounter {s : State} (h : s.fab.placed = []) (new q : Nat) : (s.setCounter new).port q = s.port q := by
  unfold State.setCounter
  rw [State.displace_none (s := s.modFab fun f => { f with slot := BitVec.ofNat 32 new }) h]
  rfl

/-! ## The port's own part (R484) -/

/-- The port after its pulse. -/
def State.pulsedPort (s : State) (p : Nat) (valid : Bool) (frame : Nat) : Port :=
  let x := s.port p
  let good := if x.good ≠ 0 ∧ frame ≠ (x.frame + 1) % 2 ^ 26 then 1 else x.good + 1
  if valid then { x with
    good := good
    bad := 0
    frame := frame
    healthy := !s.pulseWrong frame && (x.healthy || decide (4 ≤ good)) }
  else { x with
    good := 0
    bad := x.bad + 1
    healthy := x.healthy && decide (x.bad + 1 < 2) }

theorem State.notePulse_eq (s : State) (p : Nat) (valid : Bool) (frame : Nat) : s.notePulse p valid frame =
    if valid = true ∧ s.pulseWrong frame = true then (s.modPort p fun _ => s.pulsedPort p valid frame).postError 0x0343 0 s.fab.slot.toNat
    else s.modPort p fun _ => s.pulsedPort p valid frame := by
  unfold State.notePulse State.pulsedPort State.modPort
  cases valid
  · rfl
  · cases hw : s.pulseWrong frame
    · simp
    · simp
      rfl

theorem State.leases_postError (s : State) (code w8 detail : Nat) : (s.postError code w8 detail).fe.leases = s.fe.leases := by
  unfold State.postError State.postRecord State.writeRecord
  split
  · obtain ⟨_, _, _, _, _, _, _, _, h⟩ := State.MemSide.writeWords s (64 * s.fe.ring.base + 64 * (s.fe.ring.tail % s.fe.ring.size))
      ([BitVec.ofNat 64 (0x01000000 + code), BitVec.ofNat 64 w8, BitVec.ofNat 64 detail, 0, 0, 0, 0] ++ [BitVec.ofNat 64 (s.fe.ring.seq + 1)])
    dsimp only
    rw [h]
    rfl
  · rfl

/-- Of the fabric interface the pulse's own part changes its port alone, of what comes next nothing. -/
theorem State.notePulse_fab (s : State) (p : Nat) (valid : Bool) (frame : Nat) :
    (s.notePulse p valid frame).fab = (s.modPort p fun _ => s.pulsedPort p valid frame).fab ∧
    (s.notePulse p valid frame).agenda = s.agenda ∧ (s.notePulse p valid frame).fe.leases = s.fe.leases := by
  rw [State.notePulse_eq]
  split
  · refine ⟨?_, ?_, State.leases_postError _ _ _ _⟩
    · obtain ⟨_, _, _, _, _, _, _, _, _, _, _, _, _, _, h⟩ :=
        State.Below.postError (s.modPort p fun _ => s.pulsedPort p valid frame) 0x0343 0 s.fab.slot.toNat
      rw [h]
    · obtain ⟨_, _, _, _, _, _, _, _, _, _, _, _, _, _, h⟩ :=
        State.Below.postError (s.modPort p fun _ => s.pulsedPort p valid frame) 0x0343 0 s.fab.slot.toNat
      rw [h]
      rfl
  · exact ⟨rfl, rfl, rfl⟩

/-! ## What the pulse does to the timing (R484 to R486) -/

/-- Where the locked counter follows a pulse, of the time. -/
structure State.Follows (s t : State) (frame : Nat) : Prop extends s.TimeSide t where
  lockPort : t.fab.lockPort = s.fab.lockPort
  slews : s.inGuard frame = true → t.fab.slot = s.fab.slot ∧ t.fab.phase = s.fab.phase - s.aheadOf
  jumps : s.inGuard frame = false → frame = s.fab.slot.toNat / 64 → t.fab.slot.toNat = 64 * frame ∧ t.fab.phase = 0
  stays : s.inGuard frame = false → frame ≠ s.fab.slot.toNat / 64 → t.fab.slot = s.fab.slot ∧ t.fab.phase = s.fab.phase
  kept : s.fab.placed = [] → ∀ q, t.port q = s.port q

theorem State.follows_followPulse (s : State) {frame : Nat} (hf : frame < 2 ^ 26) : s.Follows (s.followPulse frame) frame := by
  unfold State.followPulse
  split
  · next h =>
    exact ⟨⟨rfl, rfl, fun _ => rfl⟩, rfl, fun _ => ⟨rfl, rfl⟩, fun hno => (by rw [h] at hno; cases hno), fun hno => (by rw [h] at hno; cases hno),
      fun _ _ => rfl⟩
  · next h =>
    split
    · next hfr =>
      have hp := State.placeSide_setCounter (s.modFab fun f => { f with phase := 0 }) (64 * frame)
      exact ⟨⟨hp.fe, hp.hostMem, hp.ports⟩, hp.lockPort, fun hyes => absurd hyes h,
        fun _ _ => ⟨(congrArg BitVec.toNat hp.slot).trans (Nat.mod_eq_of_lt (by omega)), hp.phase⟩, fun _ hne => absurd hfr hne,
        fun hpl q => State.port_setCounter (s := s.modFab fun f => { f with phase := 0 }) hpl _ q⟩
    · next hfr =>
      exact ⟨.refl s, rfl, fun hyes => absurd hyes h, fun _ he => absurd he hfr, fun _ _ => ⟨rfl, rfl⟩, fun _ _ => rfl⟩

/-- The module locked to the lowest healthy port where that is due. -/
def State.lockOn (s : State) (p q : Nat) (valid good : Bool) : State :=
  if (p = q ∧ valid = true ∧ good = true) ∨ (s.fab.lockPort.map fun l => (s.port l).healthy) ≠ some true then
    s.modFab fun f => { f with lockPort := some q } else s

section
variable {s : State} {p q frame : Nat} {valid good : Bool}

theorem State.timePulse_lost (hq : s.healthyPort = none) : s.timePulse p valid good frame =
    if s.fab.timing = .locked then s.modFab fun f => { f with
      timing := .phase1
      holdover := 0
      lockPort := none } else s.modFab fun f => { f with relock := none } := by
  unfold State.timePulse; rw [hq]

theorem State.timePulse_first (hq : s.healthyPort = some q) (hs : s.fab.timeSet = false) : s.timePulse p valid good frame =
    s.modFab fun f => { f with
      slot := BitVec.ofNat 32 (64 * (s.port q).frame)
      phase := 0
      timeSet := true
      timing := .locked
      lockPort := some q } := by
  unfold State.timePulse; rw [hq]; dsimp only; rw [hs]; rfl

theorem State.timePulse_locked (hq : s.healthyPort = some q) (hs : s.fab.timeSet = true) (hl : s.fab.timing = .locked) :
    s.timePulse p valid good frame =
      if valid = true ∧ (s.lockOn p q valid good).fab.lockPort = some p then (s.lockOn p q valid good).followPulse frame
      else s.lockOn p q valid good := by
  unfold State.timePulse; rw [hq]; dsimp only; rw [hs, hl]; rfl

theorem State.timePulse_free (hq : s.healthyPort = some q) (hs : s.fab.timeSet = true) (hl : s.fab.timing ≠ .locked) :
    s.timePulse p valid good frame = s.relockPulse p valid frame := by
  unfold State.timePulse; rw [hq]; dsimp only; rw [hs, Bool.not_true, if_neg Bool.false_ne_true, if_neg hl]

theorem State.port_lockOn (r : Nat) : (s.lockOn p q valid good).port r = s.port r := by
  unfold State.lockOn; split <;> rfl

/-- The lock changes the port it names alone. -/
theorem State.lockOn_eq : ∃ l, s.lockOn p q valid good = s.modFab fun f => { f with lockPort := l } := by
  unfold State.lockOn
  split
  · exact ⟨_, rfl⟩
  · exact ⟨s.fab.lockPort, rfl⟩

/-- A healthy port that is locked keeps the lock but for the lowest healthy one, at its own valid pulse. -/
theorem State.lockPort_lockOn {l : Nat} (hl : s.fab.lockPort = some l) (hh : (s.port l).healthy = true) :
    (s.lockOn p q valid good).fab.lockPort = some (if p = q ∧ valid = true ∧ good = true then q else l) := by
  unfold State.lockOn
  rw [hl, Option.map_some, hh]
  by_cases hc : p = q ∧ valid = true ∧ good = true
  · rw [if_pos hc, if_pos (Or.inl hc)]
    rfl
  · rw [if_neg hc, if_neg (not_or.2 ⟨hc, Classical.not_not.2 rfl⟩), hl]

/-- A relock that is to come changes itself or what comes next alone. -/
theorem State.relockPulse_eq : ∃ (l : Option (Nat × Option Int)) (a : List Instr),
    s.relockPulse p valid frame = { s.modFab fun f => { f with relock := l } with agenda := a } := by
  unfold State.relockPulse
  split
  · split
    · exact ⟨none, s.agenda, rfl⟩
    · split
      · exact ⟨s.fab.relock, _, rfl⟩
      · exact ⟨s.fab.relock, s.agenda, rfl⟩
  · split
    · exact ⟨some (p, if s.inGuard frame then some s.aheadOf else none), s.agenda, rfl⟩
    · exact ⟨s.fab.relock, s.agenda, rfl⟩

theorem State.relockPulse_sets (hr : s.fab.relock = none) (hh : (s.port p).healthy = true) :
    s.relockPulse p true frame = s.modFab fun f => { f with relock := some (p, if s.inGuard frame then some s.aheadOf else none) } := by
  unfold State.relockPulse; rw [hr]; dsimp only; rw [if_pos ⟨rfl, hh⟩]

theorem State.relockPulse_due (hr : s.fab.relock = some (p, none)) (hh : (s.port p).healthy = true) :
    s.relockPulse p true frame = { s with agenda := .relock p frame false :: s.agenda } := by
  unfold State.relockPulse; rw [hr]; dsimp only; rw [hh, Bool.not_true, if_neg Bool.false_ne_true, if_pos ⟨rfl, rfl, rfl⟩]

/-- The front end, host memory and the ports but for retry buffers, which change where the locked counter jumps alone. -/
theorem State.timePulse_ports (hf : frame < 2 ^ 26) : s.TimeSide (s.timePulse p valid good frame) ∧
    (s.fab.timing ≠ .locked ∨ s.fab.placed = [] → ∀ r, (s.timePulse p valid good frame).port r = s.port r) := by
  cases hq : s.healthyPort with
  | none =>
    rw [State.timePulse_lost hq]
    split <;> exact ⟨⟨rfl, rfl, fun _ => rfl⟩, fun _ _ => rfl⟩
  | some q =>
    cases hs : s.fab.timeSet with
    | false =>
      rw [State.timePulse_first hq hs]
      exact ⟨⟨rfl, rfl, fun _ => rfl⟩, fun _ _ => rfl⟩
    | true =>
      by_cases hl : s.fab.timing = .locked
      · rw [State.timePulse_locked hq hs hl]
        obtain ⟨l, hm⟩ := State.lockOn_eq (s := s) (p := p) (q := q) (valid := valid) (good := good)
        rw [hm]
        split
        · have h := State.follows_followPulse (s.modFab fun f => { f with lockPort := l }) hf
          exact ⟨⟨h.fe, h.hostMem, h.ports⟩, fun hn => h.kept (hn.resolve_left (Classical.not_not.2 hl))⟩
        · exact ⟨⟨rfl, rfl, fun _ => rfl⟩, fun _ _ => rfl⟩
      · rw [State.timePulse_free hq hs hl]
        obtain ⟨l, a, hm⟩ := State.relockPulse_eq (s := s) (p := p) (valid := valid) (frame := frame)
        rw [hm]
        exact ⟨⟨rfl, rfl, fun _ => rfl⟩, fun _ _ => rfl⟩

/-- The lock after a pulse of a locked module that has a healthy port. -/
theorem State.lockPort_timePulse (hf : frame < 2 ^ 26) (hq : s.healthyPort = some q) (hs : s.fab.timeSet = true) (hl : s.fab.timing = .locked) :
    (s.timePulse p valid good frame).fab.lockPort = (s.lockOn p q valid good).fab.lockPort := by
  rw [State.timePulse_locked hq hs hl]
  split
  · exact (State.follows_followPulse _ hf).lockPort
  · rfl

/-- The slot's time of a locked module follows a valid pulse of the port it is locked to. -/
theorem State.timePulse_follows (hf : frame < 2 ^ 26) (hq : s.healthyPort = some q) (hs : s.fab.timeSet = true) (hl : s.fab.timing = .locked)
    (hp : (s.timePulse p true good frame).fab.lockPort = some p) : ∃ l, (s.modFab fun f => { f with lockPort := l }).Follows
      (s.timePulse p true good frame) frame := by
  rw [State.lockPort_timePulse hf hq hs hl] at hp
  rw [State.timePulse_locked hq hs hl, if_pos ⟨rfl, hp⟩]
  obtain ⟨l, hm⟩ := State.lockOn_eq (s := s) (p := p) (q := q) (valid := true) (good := good)
  rw [hm]
  exact ⟨l, State.follows_followPulse _ hf⟩

/-- And no other pulse. -/
theorem State.timePulse_keeps (hf : frame < 2 ^ 26) (hq : s.healthyPort = some q) (hs : s.fab.timeSet = true) (hl : s.fab.timing = .locked)
    (hp : valid = false ∨ (s.timePulse p valid good frame).fab.lockPort ≠ some p) :
    (s.timePulse p valid good frame).fab.slot = s.fab.slot ∧ (s.timePulse p valid good frame).fab.phase = s.fab.phase := by
  rw [State.lockPort_timePulse hf hq hs hl] at hp
  have hno : ¬(valid = true ∧ (s.lockOn p q valid good).fab.lockPort = some p) := fun ⟨hv, hk⟩ =>
    hp.elim (fun h => by rw [hv] at h; cases h) fun h => h hk
  obtain ⟨l, hm⟩ := State.lockOn_eq (s := s) (p := p) (q := q) (valid := valid) (good := good)
  rw [State.timePulse_locked hq hs hl, if_neg hno, hm]
  exact ⟨rfl, rfl⟩

end

/-! ## A pulse on a port in service (R484, R486) -/

section
variable {s : State} {p frame : Nat} {valid : Bool}

theorem State.port_notePulse (q : Nat) :
    (s.notePulse p valid frame).port q = if q = p then s.pulsedPort p valid frame else s.port q := by
  obtain ⟨hfab, -, -⟩ := s.notePulse_fab p valid frame
  refine (congrArg (fun f : Fabric => Store.get Port.reset f.ports q) hfab).trans ?_
  exact State.port_modPort s p q _

theorem State.slot_notePulse : (s.notePulse p valid frame).fab.slot = s.fab.slot := by
  rw [(s.notePulse_fab p valid frame).1]; rfl
theorem State.phase_notePulse : (s.notePulse p valid frame).fab.phase = s.fab.phase := by
  rw [(s.notePulse_fab p valid frame).1]; rfl
theorem State.timing_notePulse : (s.notePulse p valid frame).fab.timing = s.fab.timing := by
  rw [(s.notePulse_fab p valid frame).1]; rfl
theorem State.timeSet_notePulse : (s.notePulse p valid frame).fab.timeSet = s.fab.timeSet := by
  rw [(s.notePulse_fab p valid frame).1]; rfl
theorem State.lockPort_notePulse : (s.notePulse p valid frame).fab.lockPort = s.fab.lockPort := by
  rw [(s.notePulse_fab p valid frame).1]; rfl
theorem State.relock_notePulse : (s.notePulse p valid frame).fab.relock = s.fab.relock := by
  rw [(s.notePulse_fab p valid frame).1]; rfl
theorem State.placed_notePulse : (s.notePulse p valid frame).fab.placed = s.fab.placed := by
  rw [(s.notePulse_fab p valid frame).1]; rfl

theorem State.inGuard_notePulse (fr : Nat) : (s.notePulse p valid frame).inGuard fr = s.inGuard fr := by
  unfold State.inGuard
  rw [State.slot_notePulse, State.phase_notePulse, State.timing_notePulse]

theorem State.aheadOf_notePulse : (s.notePulse p valid frame).aheadOf = s.aheadOf := by
  unfold State.aheadOf
  rw [State.slot_notePulse, State.phase_notePulse]

/-- Where a port is healthy, some port is the lowest healthy one. -/
theorem State.healthyPort_of_healthy (hp : p < 16) (hh : (s.port p).healthy = true) : ∃ q, s.healthyPort = some q := by
  unfold State.healthyPort
  exact Option.isSome_iff_exists.1 (List.find?_isSome.2 ⟨p, List.mem_range.2 hp, hh⟩)

end

/-- Settles O59: the pulse changes its own port and posts its record; what it does to the timing follows by the cases of the lock. -/
theorem framePulses : Obligations.FramePulses := by
  unfold Obligations.FramePulses
  intro s p fr valid hp
  refine ⟨fun hup => ?_, ?_⟩
  · show execFramePulse p valid fr s = _
    unfold execFramePulse
    rw [if_neg (by omega), hup]
    rfl
  intro hup x frame wrong good y r u
  have hf : frame < 2 ^ 26 := Nat.mod_lt _ (by decide)
  have hx : x = s.port p := rfl
  have hy : y = s.pulsedPort p valid frame := rfl
  have hu : u = s.notePulse p valid frame := (s.notePulse_eq p valid frame).symm
  clear_value u
  subst hu
  obtain ⟨-, hag, hle⟩ := s.notePulse_fab p valid frame
  have hn := State.port_notePulse (s := s) (p := p) (frame := frame) (valid := valid)
  have hnp := (hn p).trans (if_pos rfl)
  have ht := State.timePulse_ports (s := s.notePulse p valid frame) (p := p) (valid := valid) (good := x.healthy) hf
  obtain ⟨hside, hsame⟩ := ht
  have hhp := hside.healthyPort
  refine ⟨((s.notePulse p valid frame).timePulse p valid x.healthy frame).endExpired, ?_, hside.fe, hside.hostMem, fun q => ?_, fun hno => ?_,
    fun hq hl => ?_, fun q hq hs => ?_, fun q hq hs hl => ⟨fun hv hk => ?_, fun hk => ?_⟩, fun q l hq hs hl hk hh => ?_, fun hs hl hv hh => ?_⟩
  · show execFramePulse p valid fr s = _
    unfold execFramePulse
    rw [if_neg (by omega), hup, Bool.not_true, if_neg Bool.false_ne_true]
  · exact (hside.ports q).trans (congrArg (fun z : Port => { z with retry := [] }) (hn q))
  · rw [← State.timing_notePulse (p := p) (valid := valid) (frame := frame), ← State.placed_notePulse (p := p) (valid := valid) (frame := frame)] at hno
    exact ⟨(hsame hno p).trans hnp, fun q hq => (hsame hno q).trans ((hn q).trans (if_neg hq))⟩
  · rw [← State.timing_notePulse (p := p) (valid := valid) (frame := frame)] at hl
    have h := State.timePulse_lost (p := p) (valid := valid) (good := x.healthy) (frame := frame) (hhp.symm.trans hq)
    rw [if_pos hl] at h
    rw [h]
    exact ⟨rfl, rfl⟩
  · rw [← State.timeSet_notePulse (p := p) (valid := valid) (frame := frame)] at hs
    have h := State.timePulse_first (p := p) (valid := valid) (good := x.healthy) (frame := frame) (hhp.symm.trans hq) hs
    rw [h]
    exact ⟨rfl, rfl, rfl, rfl⟩
  · rw [← State.timeSet_notePulse (p := p) (valid := valid) (frame := frame)] at hs
    rw [← State.timing_notePulse (p := p) (valid := valid) (frame := frame)] at hl
    subst hv
    obtain ⟨_, h⟩ := State.timePulse_follows hf (hhp.symm.trans hq) hs hl hk
    rw [← State.inGuard_notePulse (s := s) (p := p) (valid := true) (frame := frame), ← State.slot_notePulse (s := s) (p := p) (valid := true) (frame := frame),
      ← State.phase_notePulse (s := s) (p := p) (valid := true) (frame := frame)]
    exact ⟨h.slews, h.jumps, h.stays⟩
  · rw [← State.timeSet_notePulse (p := p) (valid := valid) (frame := frame)] at hs
    rw [← State.timing_notePulse (p := p) (valid := valid) (frame := frame)] at hl
    have h := State.timePulse_keeps hf (hhp.symm.trans hq) hs hl hk
    rw [State.slot_notePulse, State.phase_notePulse] at h
    exact h
  · rw [← State.timeSet_notePulse (p := p) (valid := valid) (frame := frame)] at hs
    rw [← State.timing_notePulse (p := p) (valid := valid) (frame := frame)] at hl
    rw [← State.lockPort_notePulse (p := p) (valid := valid) (frame := frame)] at hk
    exact (State.lockPort_timePulse hf (hhp.symm.trans hq) hs hl).trans (State.lockPort_lockOn hk ((hside.healthy l).symm.trans hh))
  subst hv
  have hh' : ((s.notePulse p true frame).port p).healthy = true := (congrArg Port.healthy hnp).trans hh
  obtain ⟨q, hq⟩ := State.healthyPort_of_healthy hp hh'
  have hfree := State.timePulse_free (p := p) (valid := true) (good := x.healthy) (frame := frame) hq (State.timeSet_notePulse.trans hs)
    fun h => hl (State.timing_notePulse.symm.trans h)
  refine ⟨fun hr => ?_, fun hr => ?_⟩
  · have h := hfree.trans (State.relockPulse_sets (State.relock_notePulse.trans hr) hh')
    rw [State.inGuard_notePulse, State.aheadOf_notePulse] at h
    rw [h]
    rfl
  · have h := hfree.trans (State.relockPulse_due (State.relock_notePulse.trans hr) hh')
    rw [h]
    unfold State.endExpired State.leaseExpired State.slotsSince
    dsimp only
    rw [hag, hle, State.slot_notePulse]

end Sys2Proof.Machine
